-- ==== Sys2Proof/Word.lean ====
section
/-! DEFINITION. The word types and their plainest arithmetic: bytes, 64-bit register words, bit fields of numbers. -/

namespace Sys2Proof

/-- A byte of memory. -/
abbrev Byte := BitVec 8

/-- A 64-bit register or entry word (R10). -/
abbrev Word := BitVec 64

/-- Bits [lo + len − 1 : lo] of a number. -/
def bitsOf (x lo len : Nat) : Nat := x / 2 ^ lo % 2 ^ len

end Sys2Proof
end

