-- ==== Sys2Proof/Syntax.lean ====
section
/-! DEFINITION. The commands the block takes: one constructor per row of the table. -/

namespace Sys2Proof


/-- The commands of the block, one per row of the table. -/
inductive Instr where
  /-- REGISTER_WRITE (R6): A write to a register field that has no row of its own takes effect according to the field's access code. -/
  | registerWrite (f : Nat) (off : Nat) (v : Word) (size : Nat) (out : List Nat)
  /-- RC_REGISTER_READ (R17): A read of a register with RC fields returns the current value and clears those fields; a count that falls on the read is kept for the next read. -/
  | rcRegisterRead (f : Nat) (off : Nat) (size : Nat) (tag : Nat)
  /-- IDENT_NODE_WRITE (R31): A write to IDENT_NODE sets NODE_ID and NODE_VALID, or is refused with NODE_REFUSED while NODE_LOCKED is 1. -/
  | identNodeWrite (v : Word)
  /-- FLIT_RECEIVE (R67): A receiving strand half takes a burst pair and does one of three things: discards it as a lone burst and requests replay, applies link control, or delivers the next sequenced flit to the strand merge. -/
  | flitReceive (link : Nat) (dir : Nat) (strand : Nat) (actl : Nat) (bctl : Nat) (data : List Byte)
  /-- REPLAY_TIMEOUT (R71): When 200 ns pass without the expected SEQ, the receiver re-requests replay; on the eighth consecutive failure it sends SWAP. -/
  | replayTimeout (link : Nat) (dir : Nat) (strand : Nat)
  /-- ALARM_PULSE_TOGGLE (R75): Every 1 µs the Ferryman toggles the PULSE line on the alarm ring. -/
  | alarmPulseToggle
  /-- ALARM_BREAK_DETECTED (R77): A ring stop that misses two consecutive PULSE toggles reports the break; the Ferryman sets the BREAK bit and BRAKE_HELD, or declares an uncontained error if both directions are broken. -/
  | alarmBreakDetected (ccw : Bool)
  /-- IDENT_HBM_MAP_WRITE (R79): A write that changes QUAD_HOME is checked against moorings, the vault region, the Toll region and ring arrays, then accepted or refused with MAP_REFUSED. -/
  | identHbmMapWrite (v : Word)
  /-- IDENT_CISTERN_WRITE (R81): A write of scratch-unit counts is refused with CIS_REFUSED, or accepted, which sets BUSY. -/
  | identCisternWrite (v : Word)
  /-- CISTERN_CHANGE_DONE (R82): The Cistern finishes write-back or discard of the changed units, the new scratch units take effect, and BUSY clears. -/
  | cisternChangeDone
  /-- REF_LOST (R100): A tile monitor declares a reference lost; islands on that reference fail over to the safe clock and then to the other reference. -/
  | refLost (r : Nat)
  /-- REF_VALID_AGAIN (R100): After 1 ms of windows within frequency, a lost reference is declared valid again; no island moves back to it on its own. -/
  | refValidAgain (r : Nat)
  /-- CLK_COMMIT (R120): A write to CLK_ISL_TARGET_n with COMMIT = 1 is checked, then refused with REFUSED or started as a glide or a hop. -/
  | clkCommit (n : Nat) (v : Word)
  /-- PLL_LOCKED (R102): An island PLL reaches lock, so a hop or relock can move the mux back to the PLL path. -/
  | pllLocked (n : Nat)
  /-- MUX_MOVE_DONE (R106): An island clock mux completes a move between its sources; at a new setting, EPOCH advances and BUSY clears. -/
  | muxMoveDone (n : Nat)
  /-- GLIDE_DONE (R110): A glide's VCO ramp reaches its target; EPOCH advances and BUSY clears. -/
  | glideDone (n : Nat)
  /-- PLL_LOCK_LOST (R128): A PLL loses lock with its reference present; the island moves to the safe clock and starts relocking. -/
  | pllLockLost (n : Nat)
  /-- RELOCK_FAIL (R128): A relock attempt times out; after three failures LOCK_FAIL is set and the error is classified as contained or uncontained. -/
  | relockFail (n : Nat)
  /-- DLL_UNLOCK (R115): A master DLL loses lock; a Gleda receiver treats bursts as lone, and an HBM channel holds its accesses. -/
  | dllUnlock (hbm : Bool) (unit : Nat) (ch : Nat)
  /-- DLL_RELOCK (R116): A master DLL relocks, and normal reception or HBM access resumes. -/
  | dllRelock (hbm : Bool) (unit : Nat) (ch : Nat)
  /-- HBM_DLL_HOLD_EXPIRY (R116): An HBM DLL has not relocked after 2 µs; held and later accesses complete poisoned and the error is uncontained. -/
  | hbmDllHoldExpiry (unit : Nat) (ch : Nat)
  /-- DLL_TRACK (R113): Every 1,024 UI, tracking moves a slave tap by at most one tap toward the eye centre. -/
  | dllTrack (hbm : Bool) (unit : Nat) (lane : Nat) (up : Bool) (down : Bool)
  /-- TOLL_WALK (R150): On a translation-cache miss, the Landing walker walks a context's table for one piece and fills the cache, or faults. -/
  | tollWalk (ctx : Nat) (va : Nat) (kind : Nat) (len : Nat) (source : Nat) (unit : Nat)
  /-- TOLL_INV_GO (R158): A write to TOLL_INV with GO = 1 queues one invalidation and advances ISSUED, or sets INV_REFUSED. -/
  | tollInvGo (v : Word)
  /-- INVALIDATION_DONE (R160): The head invalidation's discard finishes and covered accesses reach their completion points; DONE advances. -/
  | invalidationDone
  /-- TOLL_REGION_WRITE (R168): A write to TOLL_REGION or to TOLL_CTRL.ENABLE is checked and takes effect, or is refused with CTRL_REFUSED. -/
  | tollRegionWrite (ctrl : Bool) (v : Word)
  /-- TOLL_FAULT_PTR_READ (R164): The manager reads TOLL_FAULT_PTR, which re-arms the posting of the next TOLL_FAULT signal. -/
  | tollFaultPtrRead
  /-- DOORBELL (R188): A doorbell write of a tail value moves TAIL_SEQ, or is discarded and counted as stale or bad. -/
  | doorbell (b : Nat) (r : Nat) (v : Nat) (whole : Bool)
  /-- RING_REAPED_WRITE (R190): A write to RING_REAPED advances REAPED_SEQ, or is discarded and counted in BAD_REAP. -/
  | ringReapedWrite (b : Nat) (r : Nat) (v : Nat)
  /-- TICKET_TAKE (R183): The device reads the next ticket of a ring once R183 allows it, stamps it with generation and Tide time, advances CONSUMED_SEQ, checks it and dispatches it. -/
  | ticketTake (b : Nat) (r : Nat)
  /-- MSIX_COALESCE_TIMER (R194): The oldest unannounced arrival has waited COAL_US µs, so the ring's MSI-X vector is sent. -/
  | msixCoalesceTimer (b : Nat) (r : Nat)
  /-- RING_ENABLE (R206): Setting ENABLE from 0 to 1 checks the descriptor and enables the ring at INIT_SEQ, or is refused with CFG_REFUSED. -/
  | ringEnable (b : Nat) (r : Nat) (v : Word)
  /-- RING_DISABLE (R207): Setting ENABLE from 1 to 0 disables the ring at once and advances the generation of every slot in flight. -/
  | ringDisable (b : Nat) (r : Nat) (v : Word)
  /-- RING_HALT (R210): The HALT operation stops the ring taking tickets; the ring becomes HALTED when INFLIGHT reaches 0. -/
  | ringHalt (b : Nat) (r : Nat)
  /-- RING_ABANDON (R211): The ABANDON operation ends every in-flight ticket with ABANDONED and sets TAIL_SEQ to CONSUMED_SEQ. -/
  | ringAbandon (b : Nat) (r : Nat)
  /-- RING_RESUME (R209): The RESUME operation returns a halted or errored ring to RUNNING and retries held arrival writes. -/
  | ringResume (b : Nat) (r : Nat)
  /-- DEADLINE_EXPIRY (R199): A ticket's deadline expires before it completes; the arrival reports DEADLINE, and the slot generation advances if work below is still live. -/
  | deadlineExpiry (b : Nat) (r : Nat) (slot : Nat)
  /-- RING_NOP (R200): A RING NOP ticket completes OK with RESULT 0. -/
  | ringNop (b : Nat) (r : Nat) (slot : Nat)
  /-- BPLAN_COMMIT (R241): COMMIT checks the staged berth plan and either refuses it or makes it effective, advancing EPOCH and posting BERTH_CHANGE. -/
  | bplanCommit (b : Nat) (v : Word)
  /-- BPLAN_CLEAR (R246): CLEAR puts the berth in CLEARING and tears down its rings, moorings, crossings, Pans and keys. -/
  | bplanClear (b : Nat) (v : Word)
  /-- BERTH_CLEAR_DONE (R246): The teardown of a clearing berth finishes and STATE becomes EMPTY. -/
  | berthClearDone (b : Nat)
  /-- BPLAN_EXPEL (R233): EXPEL ends every old-epoch ticket with ABANDONED while the berth is CHANGING. -/
  | bplanExpel (b : Nat) (v : Word)
  /-- QUARANTINE_LIFT (R256): Writing 1 to QUARANTINED lifts the quarantine so that RESUME acts again. -/
  | quarantineLift (b : Nat)
  /-- BERTH0_SRC_WRITE (R940): A write to the berth-0 source table takes effect at once and may close crossings whose copied source entries changed. -/
  | berth0SrcWrite (o : Nat) (v : Word)
  /-- RATE_RELEASE (R240): A piece held by a berth's rate ceiling is released at its release time, and T advances. -/
  | rateRelease (b : Nat) (which : Nat) (n : Nat)
  /-- REGISTER (R264): A REGISTER ticket walks the range, counts pages, checks quotas, and issues a new mooring key. -/
  | registerT (b : Nat) (r : Nat) (slot : Nat)
  /-- REVOKE (R267): A REVOKE ticket clears VALID and advances the index's generation. -/
  | revoke (b : Nat) (r : Nat) (slot : Nat)
  /-- REGEN (R268): A REGEN ticket advances a mooring's generation and returns the new key. -/
  | regen (b : Nat) (r : Nat) (slot : Nat)
  /-- MOORING_KEY_QUIESCED (R267): Every piece checked under the old key has completed, so the REVOKE or REGEN arrival is written and a revoked index becomes free. -/
  | mooringKeyQuiesced (i : Nat) (gen : Nat)
  /-- COPY (R279): A COPY ticket copies between two moorings, piece by piece, with an optional proving read. -/
  | copyT (b : Nat) (r : Nat) (slot : Nat)
  /-- PLACE_FLUSH (R280): A PLACE FLUSH ticket waits for earlier tickets, then proves placements on the destination's link. -/
  | placeFlush (b : Nat) (r : Nat) (slot : Nat)
  /-- PROVING_READ_COMPLETE (R271): The completion of a zero-length proving read arrives and proves, or fails to prove, placement on its link. -/
  | provingReadComplete (tag : Nat) (status : Nat) (ep : Bool)
  /-- TOLL_MOOR_ENABLE (R276): Setting TOLL_MOOR.ENABLE from 0 to 1 starts zeroing the mooring table with BUSY set, or the write is refused. -/
  | tollMoorEnable (v : Word)
  /-- MOOR_TABLE_CLEARED (R276): Zeroing of the mooring table finishes and BUSY clears. -/
  | moorTableCleared
  /-- HOST_CONFIG_REQUEST (R293): A configuration request to PF0 or a VF is completed, or answered with Request Retry Status or Unsupported Request. -/
  | hostConfigRequest (f : Nat) (dw : Nat) (write : Bool) (be : Nat) (v : BitVec 32) (tag : Nat) (sec : Bool)
  /-- HOST_BAR0_ACCESS (R294): A memory request to BAR0 reaches its register, or is completed as UR or discarded for a bad size or alignment. -/
  | hostBar0Access (f : Nat) (off : Nat) (write : Bool) (size : Nat) (v : Word) (tag : Nat) (ep : Bool) (sec : Bool) (out : List Nat)
  /-- HOST_BAR2_REQUEST (R297): A memory request to BAR2 is split into pieces, translated and performed, and a read completes in address order. -/
  | hostBar2Request (f : Nat) (off : Nat) (write : Bool) (len : Nat) (tag : Nat) (ep : Bool) (sec : Bool) (data : List Byte)
  /-- HOST_UNSUPPORTED_REQUEST (R298): An AtomicOp, an I/O request, or a memory request outside every BAR completes as UR or is discarded. -/
  | hostUnsupportedRequest (kind : Nat) (f : Nat) (tag : Nat) (sec : Bool)
  /-- HOST_MALFORMED_TLP (R332): A malformed or flow-control-violating TLP from the host is discarded and reported, and the link stays up. -/
  | hostMalformedTlp (kind : Nat) (f : Nat)
  /-- HOST_COMPLETION_RECEIVED (R305): A completion for a device read on the host link arrives and is delivered, or ends the read as Table 8.7 states. -/
  | hostCompletionReceived (tag : Nat) (status : Nat) (ep : Bool) (sec : Bool) (data : List Byte)
  /-- HOST_CPL_TIMEOUT (R305): A device read on the host link reaches its completion timeout and ends as Table 8.7 states. -/
  | hostCplTimeout (tag : Nat)
  /-- UNEXPECTED_COMPLETION (R315): A completion that matches no outstanding request is discarded, and UNEXPECTED_CPL is set. -/
  | unexpectedCompletion (tag : Nat)
  /-- MSIX_UNMASK (R300): Unmasking an MSI-X vector sends one message if its pending bit is set. -/
  | msixUnmask (f : Nat) (v : Nat)
  /-- MSIX_ENABLE_SET (R301): MSI-X Enable changing from 0 to 1 sends one message for each pending vector that is not masked. -/
  | msixEnableSet (f : Nat)
  /-- BUS_MASTER_ENABLE_CHANGE (R330): A change of Bus Master Enable makes host accesses TARGET faults, or sends the pending MSI-X messages. -/
  | busMasterEnableChange (f : Nat) (on : Bool)
  /-- D3HOT_ENTRY (R307): PF0 enters D3hot; requests on the host link stop and PME is raised when work is held. -/
  | d3hotEntry
  /-- D0_RETURN (R307): PF0 returns to D0, and held arrivals, signals and MSI-X messages are sent in order. -/
  | d0Return
  /-- L1_IDLE_TIMER (R310): The port requests ASPM L1 after L1_IDLE_US with no TLP to send and none outstanding. -/
  | l1IdleTimer (ack : Bool)
  /-- LTR_IDLE_TIMER (R311): After IDLE_AFTER_US without host work, the port sends the idle LTR values. -/
  | ltrIdleTimer
  /-- IDE_CHECK_FAIL (R314): An IDE integrity failure moves the stream to Insecure, discards the TLP, and reports IDE Check Failed. -/
  | ideCheckFail (stream : Nat)
  /-- PERST_ASSERT (R319): PERST_N held low for at least 1 µs starts a fundamental reset, except during a cold start before station 11. -/
  | perstAssert (ns : Nat)
  /-- PERST_DEASSERT (R320): PERST_N rises, and the host port enters Detect within 20 ms once the conditions of R791 hold. -/
  | perstDeassert
  /-- HOT_RESET (R321): A hot reset is received in training sets, or the link is directed to Disabled, and the PF and every VF are reset. -/
  | hotReset
  /-- PF_FLR (R321): Initiate FLR written in PF0 resets PF0 and every VF and clears every berth. -/
  | pfFlr
  /-- VF_FLR (R323): Initiate FLR written in VF b resets berth b: its rings, moorings, crossings, Pans and keys. -/
  | vfFlr (b : Nat)
  /-- FLR_SILENCE_POINT (R321): The reset functions' work has ended, and no further request or memory write is made for them. -/
  | flrSilencePoint (f : Nat)
  /-- FLR_COMPLETION_POINT (R321): The reset functions accept configuration requests normally again. -/
  | flrCompletionPoint (f : Nat)
  /-- HOST_LINK_DOWN (R319): The host link leaves L0, L1 and Recovery, which starts the 2 ms slack-water timer. -/
  | hostLinkDown
  /-- SHORT_DROP_RETURN (R328): The link returns within 2 ms; unacknowledged TLPs are resent in order and SHORT_DROP is set. -/
  | shortDropReturn (n : Nat) (speed : Nat) (width : Nat) (flit : Bool)
  /-- VF_ENABLE_CLEAR (R253): Clearing VF Enable, or lowering NumVFs below b, clears the affected berths. -/
  | vfEnableClear (enable : Bool) (n : Nat)
  /-- PORT_LINK_UP (R340): A downstream port's link comes up, and the 100 ms wait before enumeration starts. -/
  | portLinkUp (p : Nat) (speed : Nat) (width : Nat)
  /-- PORT_TRAIN_TIMEOUT (R340): A port's link does not come up within 100 ms, and the port becomes ABSENT or ENUM_FAILED. -/
  | portTrainTimeout (p : Nat) (detected : Bool)
  /-- PORT_ENUMERATE (R341): The port discovers functions, assigns BARs and configures owned fields, and STATE becomes LIVE. -/
  | portEnumerate (p : Nat) (cls : Nat) (funcs : Nat) (bars : List Nat) (others : Bool) (msix : Bool) (mps : Nat) (owned : List Nat)
  /-- ENUM_RRS_TIMEOUT (R340): A partner stays in RRS for 1.0 s after link up, and the port becomes ENUM_FAILED. -/
  | enumRrsTimeout (p : Nat)
  /-- PORT_SBR (R360): A write of SBR, or of HOT_RESET on a drive port, resets the partner and re-enumerates the port. -/
  | portSbr (p : Nat)
  /-- DPC_RELEASE (R358): A write of DPC_RELEASE to a contained port retrains and re-enumerates it. -/
  | dpcRelease (p : Nat)
  /-- PORT_EN_WRITE (R363): Clearing PORT_EN holds the link in Disabled and ends the port's in-flight work. -/
  | portEnWrite (p : Nat) (en : Bool)
  /-- AP_CFG_GO (R343): A write of GO to LND_AP_CFG_ADDR sends an indirect configuration request, or refuses it. -/
  | apCfgGo (n : Nat) (v : Word)
  /-- AP_CFG_COMPLETE (R355): The indirect configuration request completes with a RESULT, and BUSY clears. -/
  | apCfgComplete (n : Nat) (status : Nat) (data : List Byte)
  /-- ACCEL_UPSTREAM_REQUEST (R346): An accelerator's upstream request is checked and translated in context 129 + n, then routed. -/
  | accelUpstreamRequest (n : Nat) (rid : Nat) (kind : Nat) (addr : Nat) (len : Nat) (tag : Nat) (attr : Nat) (data : List Byte)
  /-- DOWNSTREAM_COMPLETION (R345): A completion from a partner is checked against the port's outstanding requests and delivered. -/
  | downstreamCompletion (p : Nat) (tag : Nat) (status : Nat) (ep : Bool) (data : List Byte)
  /-- DOWNSTREAM_CPL_TIMEOUT (R355): A request sent on a port reaches CPL_TO_US and ends as R355 states. -/
  | downstreamCplTimeout (p : Nat) (tag : Nat)
  /-- PARTNER_ERROR_MESSAGE (R359): An ERR_COR, ERR_NONFATAL or ERR_FATAL from a partner is recorded, reported, and may trigger containment. -/
  | partnerErrorMessage (p : Nat) (sev : Nat) (src : Nat)
  /-- SURPRISE_DOWN (R356): A downstream link goes down without being ordered, and the port contains with cause 3. -/
  | surpriseDown (p : Nat)
  /-- CREDIT_STALL_TIMEOUT (R356): No posted credit arrives for STALL_US while posted TLPs wait, and the port contains with cause 5. -/
  | creditStallTimeout (p : Nat)
  /-- AP_PG_FALL (R356): APn_PG falls while APn_PWREN is high, and the port contains with cause 6. -/
  | apPgFall (n : Nat)
  /-- DRIVE_UPSTREAM_REQUEST (R351): A drive's upstream request is served when it addresses an outstanding buffer, or dropped and counted in DMA_STRAY. -/
  | driveUpstreamRequest (k : Nat) (cid : Nat) (off : Nat) (len : Nat) (tag : Nat) (write : Bool) (ep : Bool) (data : List Byte)
  /-- FRAME_RECEIVE (R368): A MAC receives a frame, checks it, pools it, parses it, looks it up in the Manifest, and runs its action. -/
  | frameReceive (m : Nat) (j : Nat) (data : List Byte) (fcsOk : Bool) (fecOk : Bool) (target : Nat)
  /-- PFC_XOFF_REFRESH (R371): While a pool stays above XOFF_KIB, the MACs refresh pause for that priority before its quanta expire. -/
  | pfcXoffRefresh (m : Nat) (p : Nat)
  /-- PFC_PAUSE_RECEIVED (R372): A received PFC pause frame holds the MAC's transmit queue of that priority. -/
  | pfcPauseReceived (m : Nat) (j : Nat) (p : Nat) (zero : Bool)
  /-- PFC_WATCHDOG_EXPIRY (R372): A priority stays paused for PFC_WD_MS; STORM is set, pause is ignored, and queued frames are discarded. -/
  | pfcWatchdogExpiry (m : Nat) (j : Nat) (p : Nat)
  /-- PFC_WATCHDOG_END (R372): No pause for p has arrived for PFC_WD_MS, and STORM bit p clears. -/
  | pfcWatchdogEnd (m : Nat) (j : Nat) (p : Nat)
  /-- FRAME_RESIDENCE_TIMEOUT (R379): A frame not placed within 100 µs is dropped and counted in RESIDENCE. -/
  | frameResidenceTimeout (n : Nat)
  /-- DECKHAND_RUN (R384): A Deckhand runs a slot's program on a queued frame, and its verdict action runs. -/
  | deckhandRun (m : Nat)
  /-- DECKHAND_BUDGET_EXPIRY (R385): A Deckhand run exceeds its BUDGET; the frame is dropped and counted in DH_FAIL. -/
  | deckhandBudgetExpiry (m : Nat)
  /-- FRAME_PLACE (R381): A frame reaches placement at its action's destination, or is dropped as STALE_TARGET. -/
  | framePlace (n : Nat)
  /-- MNF_EDIT_WRITE (R386): An exact or ternary WRITE edit is staged into the pending set, and RESULT is set. -/
  | mnfEditWrite (m : Nat) (table : Nat) (index : Nat)
  /-- MNF_EDIT_REMOVE (R386): A REMOVE edit is staged into the pending set, and RESULT is set. -/
  | mnfEditRemove (m : Nat) (table : Nat) (index : Nat)
  /-- MNF_DH_SLOT_WRITE (R399): A Deckhand slot edit copies an image from a berth-0 mooring into the pending set. -/
  | mnfDhSlotWrite (m : Nat) (index : Nat) (out : List Nat)
  /-- MNF_COMMIT (R388): COMMIT makes every staged edit effective, advances EPOCH, and starts draining, or is refused. -/
  | mnfCommit (m : Nat) (discard : Bool)
  /-- MNF_DISCARD (R386): DISCARD empties the pending set. -/
  | mnfDiscard (m : Nat)
  /-- MNF_EM_MASK_WRITE (R397): A write to MNF_EM_MASKw changes the mask, or is refused with MASK_REFUSED while exact entries exist. -/
  | mnfEmMaskWrite (m : Nat) (w : Nat) (v : Word)
  /-- WHF_PORT_CTRL_WRITE (R396): A write to WHF_PORT_CTRL changes PORT_EN or MODE; a MODE change while the port is enabled is refused. -/
  | whfPortCtrlWrite (m : Nat) (v : Word)
  /-- MAC_LINK_DOWN (R402): A MAC loses link; queued transmit frames are discarded, and their FRAME_TX tickets end REMOTE_ERROR. -/
  | macLinkDown (m : Nat) (j : Nat)
  /-- FRAME_TRANSMIT (R374): A MAC takes the next frame from its transmit queues in priority order and sends it; a FRAME_TX completes when its last byte leaves. -/
  | frameTransmit (m : Nat) (j : Nat)
  /-- FRAME_TX (R391): A FRAME_TX ticket reads a frame, applies the source checks, and queues it on a MAC. -/
  | frameTx (b : Nat) (r : Nat) (slot : Nat)
  /-- FRAME_RX (R392): A FRAME_RX ticket waits to receive the next frame that a RING action delivers to its ring. -/
  | frameRx (b : Nat) (r : Nat) (slot : Nat)
  /-- XCT_OPEN (R405): OPEN allocates the next free crossing ID for the berth. -/
  | xctOpen (b : Nat) (r : Nat) (slot : Nat)
  /-- XCT_BIND (R409): BIND reads and checks a crossing record, copies it and the source entries, and makes the crossing READY. -/
  | xctBind (b : Nat) (r : Nat) (slot : Nat)
  /-- XCT_KEY (R429): KEY copies a Tollhouse key into the crossing slot that is not the TX slot. -/
  | xctKey (b : Nat) (r : Nat) (slot : Nat)
  /-- XCT_SWITCH (R430): SWITCH makes the other key slot the TX slot. -/
  | xctSwitch (b : Nat) (r : Nat) (slot : Nat)
  /-- XCT_RETIRE (R431): RETIRE empties and zeroizes the slot holding an epoch. -/
  | xctRetire (b : Nat) (r : Nat) (slot : Nat)
  /-- RETIRE_QUIESCED (R431): No packet under the retired slot remains in the device, so the RETIRE arrival is written. -/
  | retireQuiesced (x : Nat)
  /-- XCT_CLOSE (R411): CLOSE moves a READY crossing to DRAINING and waits for its in-flight tickets, or abandons them. -/
  | xctClose (b : Nat) (r : Nat) (slot : Nat)
  /-- CLOSE_DRAINED (R411): In-flight tickets of a closing crossing have arrived; CLOSING 0x01 is sent and the crossing enters ERROR. -/
  | closeDrained (x : Nat)
  /-- XCT_RELEASE (R412): RELEASE zeroizes both key slots and frees an OPENED or ERROR crossing. -/
  | xctRelease (b : Nat) (r : Nat) (slot : Nat)
  /-- XCT_QUERY (R415): QUERY returns word 0 of the crossing's XCT_XING register. -/
  | xctQuery (b : Nat) (r : Nat) (slot : Nat)
  /-- CLOSING_COPY_TIMER (R438): The next of the three CLOSING copies is sent 10 µs after the previous one. -/
  | closingCopyTimer (x : Nat)
  /-- PACED_PACKET_SEND (R434): A crossing's next paced packet leaves once pacing and its window allow: it is headed, sealed, encapsulated and queued. -/
  | pacedPacketSend (x : Nat)
  /-- RATE_INCREASE_TIMER (R435): After each AI_US µs without a decrease, the crossing's RATE rises by AI. -/
  | rateIncreaseTimer (x : Nat)
  /-- XCT_PUT_PACKET (R453): A PUT packet passes the receive checks and screening, and is placed under RKEY or NAKed. -/
  | xctPutPacket (n : Nat)
  /-- XCT_POST_PACKET (R457): A POST packet is gathered into its assembly and written under the bound RECV. -/
  | xctPostPacket (n : Nat)
  /-- XCT_GET_REQ_PACKET (R453): A GET_REQ packet is screened and executed once fenced. -/
  | xctGetReqPacket (n : Nat)
  /-- XCT_GET_RESP_PACKET (R460): A GET_RESP packet is matched to its outstanding request and placed locally. -/
  | xctGetRespPacket (n : Nat)
  /-- XCT_FADD_PACKET (R453): An FADD packet is screened, then executed once fenced or answered from the response cache. -/
  | xctFaddPacket (n : Nat)
  /-- XCT_CSWAP_PACKET (R453): A CSWAP packet is screened, then executed once fenced or answered from the response cache. -/
  | xctCswapPacket (n : Nat)
  /-- XCT_ATOMIC_RESP_PACKET (R460): An ATOMIC_RESP packet completes its FADD or CSWAP ticket with OLD. -/
  | xctAtomicRespPacket (n : Nat)
  /-- XCT_FLUSH_REQ_PACKET (R454): A FLUSH_REQ packet is screened, then executed once fenced by issuing proving reads. -/
  | xctFlushReqPacket (n : Nat)
  /-- XCT_FLUSH_RESP_PACKET (R460): A FLUSH_RESP packet completes its FLUSH ticket OK. -/
  | xctFlushRespPacket (n : Nat)
  /-- XCT_ACK_PACKET (R463): An ACK packet covers PSNs, gives an SRTT sample, and may lower RATE from its CE count. -/
  | xctAckPacket (n : Nat)
  /-- XCT_SACK_PACKET (R463): A SACK packet covers PSNs and may cause one fast retransmission. -/
  | xctSackPacket (n : Nat)
  /-- XCT_NAK_PACKET (R461): A NAK packet ends its in-flight ticket with the NAK's CODE. -/
  | xctNakPacket (n : Nat)
  /-- XCT_CLOSING_PACKET (R439): A CLOSING packet moves the crossing to ERROR and ends its tickets with CROSSING_DOWN. -/
  | xctClosingPacket (n : Nat)
  /-- FENCED_EXECUTE (R453): A fenced request starts once E is after its PSN and earlier writes have completed. -/
  | fencedExecute (x : Nat)
  /-- XCT_CTRL_WRITE (R441): A write to XCT_CTRL changes ENABLE or UDP_PORT, or is refused while crossings are allocated. -/
  | xctCtrlWrite (v : Word)
  /-- XCT_PUT (R450): A PUT ticket is checked and formed into packets on its crossing. -/
  | xctPut (b : Nat) (r : Nat) (slot : Nat)
  /-- XCT_GET (R450): A GET ticket is checked and formed into GET_REQ packets. -/
  | xctGet (b : Nat) (r : Nat) (slot : Nat)
  /-- XCT_POST (R450): A POST ticket is checked and formed into POST packets. -/
  | xctPost (b : Nat) (r : Nat) (slot : Nat)
  /-- XCT_FADD (R447): An FADD ticket sends a remote fetch-and-add. -/
  | xctFadd (b : Nat) (r : Nat) (slot : Nat)
  /-- XCT_CSWAP (R447): A CSWAP ticket sends a remote compare-and-swap. -/
  | xctCswap (b : Nat) (r : Nat) (slot : Nat)
  /-- XCT_FLUSH (R454): An XCT FLUSH ticket sends a FLUSH_REQ of kind VISIBLE or PERSISTENT. -/
  | xctFlush (b : Nat) (r : Nat) (slot : Nat)
  /-- RECV (R457): A RECV ticket waits to receive one POST message on its ring. -/
  | recv (b : Nat) (r : Nat) (slot : Nat)
  /-- ACK_DELAY_TIMER (R462): When 4 µs have passed since the oldest unacknowledged arrival, the target sends an ACK or SACK. -/
  | ackDelayTimer (x : Nat)
  /-- RETRANSMIT_TIMEOUT (R464): A sequenced packet's timer expires; the packet is retransmitted with ACK_NOW and RATE is halved. -/
  | retransmitTimeout (x : Nat) (psn : Nat)
  /-- RETRY_GIVE_UP (R466): After the eighth expiry, once F has elapsed, the crossing enters ERROR with RETRY_EXHAUSTED and its tickets end CROSSING_DOWN. -/
  | retryGiveUp (x : Nat) (psn : Nat)
  /-- STORAGE_READ (R485): A READ ticket is checked, split into NVMe reads, decrypted and placed at its destination. -/
  | storageRead (b : Nat) (r : Nat) (slot : Nat)
  /-- STORAGE_WRITE (R485): A WRITE ticket reads its source, encrypts it, and issues NVMe writes. -/
  | storageWrite (b : Nat) (r : Nat) (slot : Nat)
  /-- SYNC (R485): A SYNC ticket makes earlier writes to the volume non-volatile. -/
  | sync (b : Nat) (r : Nat) (slot : Nat)
  /-- DEALLOCATE (R485): A DEALLOCATE ticket deallocates a range of the volume. -/
  | deallocate (b : Nat) (r : Nat) (slot : Nat)
  /-- READ_EXPAND (R491): A READ_EXPAND ticket reads blocks into the staging mooring, and an Evaporator decodes them to the destination. -/
  | readExpand (b : Nat) (r : Nat) (slot : Nat)
  /-- WRITE_PACK (R492): A WRITE_PACK ticket encodes its source into one frame in staging and writes the frame's blocks. -/
  | writePack (b : Nat) (r : Nat) (slot : Nat)
  /-- EVAPORATOR_DONE (R491): An Evaporator finishes decoding or encoding a frame, and the ticket proceeds or ends. -/
  | evaporatorDone (b : Nat) (r : Nat) (slot : Nat)
  /-- DRIVE_COMPLETION (R485): An NVMe completion arrives from a drive or target and ends its command. -/
  | driveCompletion (u : Nat) (cid : Nat) (sct : Nat) (sc : Nat)
  /-- DRIVE_CMD_TIMEOUT (R508): A drive command reaches CMD_TO_MS; the device sends Abort, and a second timeout ends the ticket MEDIA_ERROR. -/
  | driveCmdTimeout (u : Nat) (cid : Nat)
  /-- ABORT_TIMEOUT (R508): A drive does not answer Abort within 1 s; the controller is reset and its commands are resubmitted. -/
  | abortTimeout (k : Nat) (cid : Nat)
  /-- STO_CTRL_ENABLE (R503): Setting STO_CTRL.ENABLE initializes LIVE drives and starts serving storage tickets. -/
  | stoCtrlEnable (v : Word)
  /-- VOLUME_CREATE (R481): CREATE checks a volume's fields and creates it, or refuses it with a cause. -/
  | volumeCreate (v : Nat) (w : Word)
  /-- VOLUME_DESTROY (R481): DESTROY removes a volume, or is refused while a plan names it or tickets are in flight. -/
  | volumeDestroy (v : Nat)
  /-- TARGET_ENABLE (R498): Setting STO_TGT_t ENABLE reads the target record and connects, or sets TGT_REFUSED. -/
  | targetEnable (t : Nat) (v : Word) (out : List Nat)
  /-- TARGET_DISABLE (R498): Clearing STO_TGT_t ENABLE disconnects the target and ends its commands. -/
  | targetDisable (t : Nat) (v : Word)
  /-- NVME_TCP_SEGMENT (R497): A TCP segment of an open NVMe/TCP connection reaches the storage service ahead of the Manifest. -/
  | nvmeTcpSegment (t : Nat) (acked : Nat) (kind : Nat) (cid : Nat) (off : Nat) (n : Nat) (data : List Byte) (digestOk : Bool)
  /-- TARGET_CONNECTION_RESET (R499): A target connection that closes, fails a digest, or misses Keep Alive is reset, and its commands end REMOTE_ERROR. -/
  | targetConnectionReset (t : Nat)
  /-- TARGET_RECONNECT_TIMER (R499): Once per second the device tries to reconnect a target that is enabled and not LIVE. -/
  | targetReconnectTimer (t : Nat)
  /-- KEEP_ALIVE_TIMER (R496): The NVMe/TCP Keep Alive timer of a target connection expires. -/
  | keepAliveTimer (t : Nat)
  /-- DRIVE_IDLE_TIMER (R505): A drive idle for IDLE_MS is set to power state NOPS. -/
  | driveIdleTimer (k : Nat)
  /-- PTP_SYNC (R521): A Sync from the selected master is timestamped as t2. -/
  | ptpSync (src : Nat) (seq : Nat) (twoStep : Bool) (t1 : Nat) (corr : Int)
  /-- PTP_FOLLOW_UP (R521): A Follow_Up supplies t1 for a two-step master. -/
  | ptpFollowUp (src : Nat) (seq : Nat) (t1 : Nat) (corr : Int)
  /-- PTP_DELAY_RESP (R524): A matching Delay_Resp completes a sample, which is handled by the servo or step rules. -/
  | ptpDelayResp (src : Nat) (mine : Bool) (seq : Nat) (t4 : Nat) (corr : Int)
  /-- PTP_ANNOUNCE (R530): An Announce feeds the best master clock algorithm, which may select a new master. -/
  | ptpAnnounce (src : Nat) (p1 : Nat) (cls : Nat) (acc : Nat) (var : Nat) (p2 : Nat) (gm : Nat) (steps : Nat)
  /-- DELAY_REQ_TIMER (R522): The Tide clock sends a Delay_Req at its randomized interval. -/
  | delayReqTimer
  /-- PTP_MASTER_LOST (R529): The master's Announce or Sync times out, or PTP_MAC loses link, and SERVO enters HOLDOVER. -/
  | ptpMasterLost
  /-- REANCHOR (R518): A write of REANCHOR sets TW_OFFSET so that the gap is 0, and posts TIME_STEP. -/
  | reanchor
  /-- WALL_SET (R528): A write of GO with TID_WALL_SET_NS sets Wall time while PTP_EN is 0. -/
  | wallSet (v : Word)
  /-- TID_FREQ_WRITE (R538): A write to FREQ_PPB sets the time-base correction, or is refused while PTP_EN is 1. -/
  | tidFreqWrite (v : Word)
  /-- TID_TIDE_READ (R537): A read of TID_TIDE returns Tide time and captures Wall time into TID_SNAP. -/
  | tidTideRead
  /-- TIME_READ (R532): A TIME READ ticket captures both time scales and writes a 32-byte time record. -/
  | timeRead (b : Nat) (r : Nat) (slot : Nat)
  /-- AT_TIDE (R533): An AT_TIDE ticket waits for a target Tide time. -/
  | atTide (b : Nat) (r : Nat) (slot : Nat)
  /-- AT_WALL (R534): An AT_WALL ticket waits for a target Wall time, optionally strict about the wall epoch. -/
  | atWall (b : Nat) (r : Nat) (slot : Nat)
  /-- TIMED_OPERATION_FIRE (R533): A timed operation reaches its target and its arrival is written. -/
  | timedOperationFire (b : Nat) (r : Nat) (slot : Nat)
  /-- PAN_LOAD (R549): A LOAD ticket checks the Pan and the image, zeroes Pan SRAM, and copies the sections. -/
  | panLoad (b : Nat) (r : Nat) (slot : Nat)
  /-- PAN_LOAD_STARTED (R551): The image copy ends, the named Rakers start at ENTRY, and the LOAD arrival is written. -/
  | panLoadStarted (p : Nat)
  /-- PAN_STOP (R573): A STOP ticket requests a graceful or forced stop of a Pan's run. -/
  | panStop (b : Nat) (r : Nat) (slot : Nat)
  /-- WATCH (R556): A WATCH ticket waits for a run to end and completes with its end record. -/
  | watch (b : Nat) (r : Nat) (slot : Nat)
  /-- DELIVER (R553): A DELIVER ticket places a message in a Raker's inbox, optionally waiting for an answer. -/
  | deliver (b : Nat) (r : Nat) (slot : Nat)
  /-- RAKER_EXIT (R555): A write to RAKER_EXIT stops the Raker after its stores complete; the run ends when all Rakers exit. -/
  | rakerExit (p : Nat) (i : Nat) (v : Word)
  /-- INBOX_NEXT (R547): A write to INBOX_NEXT removes the head inbox entry. -/
  | inboxNext (p : Nat) (i : Nat)
  /-- ANSWER_GO (R554): A write of GO to ANSWER_GO sends an answer that completes the matching DELIVER, or is counted in BAD_ANSWER. -/
  | answerGo (p : Nat) (i : Nat) (v : Word)
  /-- TALLY_WRITE (R564): A Raker writes a tally's DONE and FAILED counts. -/
  | tallyWrite (p : Nat) (i : Nat) (t : Nat) (v : Word)
  /-- BARROW_GO (R574): A write to BARROW_GO queues the staged Barrow descriptor, or raises CONTROL. -/
  | barrowGo (p : Nat) (i : Nat)
  /-- BARROW_DESCRIPTOR_DONE (R575): The Barrow finishes or fails a descriptor and counts its tally. -/
  | barrowDescriptorDone (p : Nat) (out : List Nat)
  /-- CRY_GO (R672): A write to CRY_GO checks the staged command and pushes it with a CSEQ, or raises CONTROL. -/
  | cryGo (p : Nat) (i : Nat)
  /-- PAN_STOP_AT_EXPIRY (R570): At PAN_STOP_AT, every running Raker is force-stopped and the run ends ABANDONED. -/
  | panStopAtExpiry (p : Nat)
  /-- PAN_SCRUB_DONE (R235): A Pan's scrub ends, and the Pan becomes IDLE or is released. -/
  | panScrubDone (p : Nat)
  /-- ADD (R592): Integer add. -/
  | addI (p : Nat) (i : Nat)
  /-- SUB (R592): Integer subtract. -/
  | subI (p : Nat) (i : Nat)
  /-- MUL (R592): Low 64 bits of a product. -/
  | mulI (p : Nat) (i : Nat)
  /-- MULH (R592): High 64 bits of a signed product. -/
  | mulh (p : Nat) (i : Nat)
  /-- MULHU (R592): High 64 bits of an unsigned product. -/
  | mulhu (p : Nat) (i : Nat)
  /-- DIV (R593): Signed division, raising DIVZ on a zero divisor. -/
  | divI (p : Nat) (i : Nat)
  /-- DIVU (R593): Unsigned division. -/
  | divu (p : Nat) (i : Nat)
  /-- REM (R593): Signed remainder. -/
  | rem (p : Nat) (i : Nat)
  /-- REMU (R593): Unsigned remainder. -/
  | remu (p : Nat) (i : Nat)
  /-- AND (R592): Bitwise AND. -/
  | andI (p : Nat) (i : Nat)
  /-- OR (R592): Bitwise OR. -/
  | orI (p : Nat) (i : Nat)
  /-- XOR (R592): Bitwise XOR. -/
  | xorI (p : Nat) (i : Nat)
  /-- ANDN (R592): ra AND NOT rb. -/
  | andn (p : Nat) (i : Nat)
  /-- SHL (R592): Shift left. -/
  | shl (p : Nat) (i : Nat)
  /-- SHR (R592): Logical shift right. -/
  | shr (p : Nat) (i : Nat)
  /-- SAR (R592): Arithmetic shift right. -/
  | sar (p : Nat) (i : Nat)
  /-- ROR (R592): Rotate right. -/
  | ror (p : Nat) (i : Nat)
  /-- MIN (R592): Signed minimum. -/
  | minI (p : Nat) (i : Nat)
  /-- MAX (R592): Signed maximum. -/
  | maxI (p : Nat) (i : Nat)
  /-- MINU (R592): Unsigned minimum. -/
  | minu (p : Nat) (i : Nat)
  /-- MAXU (R592): Unsigned maximum. -/
  | maxu (p : Nat) (i : Nat)
  /-- CLZ (R592): Count leading zeros. -/
  | clz (p : Nat) (i : Nat)
  /-- CTZ (R592): Count trailing zeros. -/
  | ctz (p : Nat) (i : Nat)
  /-- POPC (R592): Count ones. -/
  | popc (p : Nat) (i : Nat)
  /-- BSWAP (R592): Byte reversal. -/
  | bswap (p : Nat) (i : Nat)
  /-- SEXT8 (R592): Sign-extend 8 bits. -/
  | sext8 (p : Nat) (i : Nat)
  /-- SEXT16 (R592): Sign-extend 16 bits. -/
  | sext16 (p : Nat) (i : Nat)
  /-- SEXT32 (R592): Sign-extend 32 bits. -/
  | sext32 (p : Nat) (i : Nat)
  /-- ZEXT8 (R592): Zero-extend 8 bits. -/
  | zext8 (p : Nat) (i : Nat)
  /-- ZEXT16 (R592): Zero-extend 16 bits. -/
  | zext16 (p : Nat) (i : Nat)
  /-- ZEXT32 (R592): Zero-extend 32 bits. -/
  | zext32 (p : Nat) (i : Nat)
  /-- ADDI (R594): Add an immediate. -/
  | addi (p : Nat) (i : Nat)
  /-- ANDI (R594): AND with an immediate. -/
  | andi (p : Nat) (i : Nat)
  /-- ORI (R594): OR with an immediate. -/
  | ori (p : Nat) (i : Nat)
  /-- XORI (R594): XOR with an immediate. -/
  | xori (p : Nat) (i : Nat)
  /-- LIH (R594): Load a 32-bit immediate into the high half of rd. -/
  | lih (p : Nat) (i : Nat)
  /-- SHLI (R594): Shift left by an immediate. -/
  | shli (p : Nat) (i : Nat)
  /-- SHRI (R594): Logical shift right by an immediate. -/
  | shri (p : Nat) (i : Nat)
  /-- SARI (R594): Arithmetic shift right by an immediate. -/
  | sari (p : Nat) (i : Nat)
  /-- RORI (R594): Rotate right by an immediate. -/
  | rori (p : Nat) (i : Nat)
  /-- CSEQ (R595): Set rd to 1 if equal. -/
  | cseq (p : Nat) (i : Nat)
  /-- CSNE (R595): Set rd to 1 if not equal. -/
  | csne (p : Nat) (i : Nat)
  /-- CSLT (R595): Set rd to 1 if less than, signed. -/
  | cslt (p : Nat) (i : Nat)
  /-- CSLTU (R595): Set rd to 1 if less than, unsigned. -/
  | csltu (p : Nat) (i : Nat)
  /-- CSLE (R595): Set rd to 1 if less or equal, signed. -/
  | csle (p : Nat) (i : Nat)
  /-- CSLEU (R595): Set rd to 1 if less or equal, unsigned. -/
  | csleu (p : Nat) (i : Nat)
  /-- CSEQ_IMM (R595): Set rd to 1 if ra equals an immediate. -/
  | cseqImm (p : Nat) (i : Nat)
  /-- CSNE_IMM (R595): Set rd to 1 if ra differs from an immediate. -/
  | csneImm (p : Nat) (i : Nat)
  /-- CSLT_IMM (R595): Signed less-than against an immediate. -/
  | csltImm (p : Nat) (i : Nat)
  /-- CSLTU_IMM (R595): Unsigned less-than against an immediate. -/
  | csltuImm (p : Nat) (i : Nat)
  /-- CSLE_IMM (R595): Signed less-or-equal against an immediate. -/
  | csleImm (p : Nat) (i : Nat)
  /-- CSLEU_IMM (R595): Unsigned less-or-equal against an immediate. -/
  | csleuImm (p : Nat) (i : Nat)
  /-- LD (R596): Scalar load of width W. -/
  | ld (p : Nat) (i : Nat) (out : List Nat)
  /-- ST (R596): Scalar store of width W. -/
  | st (p : Nat) (i : Nat) (out : List Nat)
  /-- AADD (R598): Atomic add returning the old value. -/
  | aadd (p : Nat) (i : Nat) (out : List Nat)
  /-- ASWAP (R598): Atomic swap returning the old value. -/
  | aswap (p : Nat) (i : Nat) (out : List Nat)
  /-- ACAS (R598): Atomic compare-and-swap returning the old value. -/
  | acas (p : Nat) (i : Nat) (out : List Nat)
  /-- FADD (R599): Floating-point add. -/
  | fadd (p : Nat) (i : Nat)
  /-- FSUB (R599): Floating-point subtract. -/
  | fsub (p : Nat) (i : Nat)
  /-- FMUL (R599): Floating-point multiply. -/
  | fmul (p : Nat) (i : Nat)
  /-- FDIV (R599): Floating-point divide. -/
  | fdiv (p : Nat) (i : Nat)
  /-- FSQRT (R599): Floating-point square root. -/
  | fsqrt (p : Nat) (i : Nat)
  /-- FMIN (R599): minimumNumber. -/
  | fmin (p : Nat) (i : Nat)
  /-- FMAX (R599): maximumNumber. -/
  | fmax (p : Nat) (i : Nat)
  /-- FMA (R599): Fused multiply-add. -/
  | fma (p : Nat) (i : Nat)
  /-- FCEQ (R599): Quiet floating-point equality compare. -/
  | fceq (p : Nat) (i : Nat)
  /-- FCLT (R599): Signalling less-than compare. -/
  | fclt (p : Nat) (i : Nat)
  /-- FCLE (R599): Signalling less-or-equal compare. -/
  | fcle (p : Nat) (i : Nat)
  /-- FCVT (R599): Convert between scalar floating-point formats. -/
  | fcvt (p : Nat) (i : Nat)
  /-- FTOI (R600): Convert a float to a signed 64-bit integer. -/
  | ftoi (p : Nat) (i : Nat)
  /-- ITOF (R599): Convert a signed 64-bit integer to a float. -/
  | itof (p : Nat) (i : Nat)
  /-- FCLASS (R599): Classify a floating-point value. -/
  | fclass (p : Nat) (i : Nat)
  /-- BZ (R602): Branch if the register is zero. -/
  | bz (p : Nat) (i : Nat)
  /-- BNZ (R602): Branch if the register is non-zero. -/
  | bnz (p : Nat) (i : Nat)
  /-- JAL (R602): Jump and link, PC-relative. -/
  | jal (p : Nat) (i : Nat)
  /-- JALR (R602): Jump and link to a register target. -/
  | jalr (p : Nat) (i : Nat)
  /-- NOP (R604): No operation. -/
  | nop (p : Nat) (i : Nat)
  /-- YIELD (R569): Stop point; stops the Raker while STOP_PEND is 1. -/
  | yield (p : Nat) (i : Nat)
  /-- FENCE_S (R562): Wait for the Raker's earlier stores to complete. -/
  | fenceS (p : Nat) (i : Nat)
  /-- FENCE_L (R562): Discard the Raker's data cache. -/
  | fenceL (p : Nat) (i : Nat)
  /-- FENCE_SL (R562): FENCE.S followed by FENCE.L. -/
  | fenceSl (p : Nat) (i : Nat)
  /-- SRD (R588): Read a special register. -/
  | srd (p : Nat) (i : Nat)
  /-- SWR (R588): Write a special register. -/
  | swr (p : Nat) (i : Nat)
  /-- PMOVG (R604): Move a g register into a p register. -/
  | pmovg (p : Nat) (i : Nat)
  /-- GMOVP (R604): Move a p register into a g register. -/
  | gmovp (p : Nat) (i : Nat)
  /-- DADD (R607): P15 decimal add. -/
  | dadd (p : Nat) (i : Nat)
  /-- DSUB (R607): P15 decimal subtract. -/
  | dsub (p : Nat) (i : Nat)
  /-- DMULD (R607): P15 decimal multiply into a register pair. -/
  | dmuld (p : Nat) (i : Nat)
  /-- DCMP (R607): Decimal compare. -/
  | dcmp (p : Nat) (i : Nat)
  /-- DSHL (R607): Decimal shift left by n digits. -/
  | dshl (p : Nat) (i : Nat)
  /-- DSHR (R609): Decimal truncating shift right. -/
  | dshr (p : Nat) (i : Nat)
  /-- DRND (R609): Decimal rounding shift right. -/
  | drnd (p : Nat) (i : Nat)
  /-- DADJ (R607): Decimal sign adjustment. -/
  | dadj (p : Nat) (i : Nat)
  /-- DVAL (R607): Test whether a value is a valid P15. -/
  | dval (p : Nat) (i : Nat)
  /-- DTOB (R607): Convert decimal to binary. -/
  | dtob (p : Nat) (i : Nat)
  /-- BTOD (R607): Convert binary to decimal. -/
  | btod (p : Nat) (i : Nat)
  /-- VADD (R622): Vector add. -/
  | vadd (p : Nat) (i : Nat)
  /-- VSUB (R622): Vector subtract. -/
  | vsub (p : Nat) (i : Nat)
  /-- VMUL (R622): Vector multiply, low bits. -/
  | vmul (p : Nat) (i : Nat)
  /-- VMULH (R622): Vector multiply, high bits, signed. -/
  | vmulh (p : Nat) (i : Nat)
  /-- VMULHU (R622): Vector multiply, high bits, unsigned. -/
  | vmulhu (p : Nat) (i : Nat)
  /-- VADDS (R622): Saturating signed add. -/
  | vadds (p : Nat) (i : Nat)
  /-- VADDSU (R622): Saturating unsigned add. -/
  | vaddsu (p : Nat) (i : Nat)
  /-- VSUBS (R622): Saturating signed subtract. -/
  | vsubs (p : Nat) (i : Nat)
  /-- VSUBSU (R622): Saturating unsigned subtract. -/
  | vsubsu (p : Nat) (i : Nat)
  /-- VMIN (R622): Vector signed minimum. -/
  | vmin (p : Nat) (i : Nat)
  /-- VMAX (R622): Vector signed maximum. -/
  | vmax (p : Nat) (i : Nat)
  /-- VMINU (R622): Vector unsigned minimum. -/
  | vminu (p : Nat) (i : Nat)
  /-- VMAXU (R622): Vector unsigned maximum. -/
  | vmaxu (p : Nat) (i : Nat)
  /-- VAND (R622): Vector AND. -/
  | vand (p : Nat) (i : Nat)
  /-- VOR (R622): Vector OR. -/
  | vor (p : Nat) (i : Nat)
  /-- VXOR (R622): Vector XOR. -/
  | vxor (p : Nat) (i : Nat)
  /-- VANDN (R622): Vector AND-NOT. -/
  | vandn (p : Nat) (i : Nat)
  /-- VSHL (R622): Vector shift left. -/
  | vshl (p : Nat) (i : Nat)
  /-- VSHR (R622): Vector logical shift right. -/
  | vshr (p : Nat) (i : Nat)
  /-- VSAR (R622): Vector arithmetic shift right. -/
  | vsar (p : Nat) (i : Nat)
  /-- VPOPC (R622): Vector population count. -/
  | vpopc (p : Nat) (i : Nat)
  /-- VABS (R622): Vector absolute value. -/
  | vabs (p : Nat) (i : Nat)
  /-- VBSWAP (R622): Vector byte reversal within elements. -/
  | vbswap (p : Nat) (i : Nat)
  /-- VFADD (R623): Vector floating-point add. -/
  | vfadd (p : Nat) (i : Nat)
  /-- VFSUB (R623): Vector floating-point subtract. -/
  | vfsub (p : Nat) (i : Nat)
  /-- VFMUL (R623): Vector floating-point multiply. -/
  | vfmul (p : Nat) (i : Nat)
  /-- VFDIV (R623): Vector floating-point divide. -/
  | vfdiv (p : Nat) (i : Nat)
  /-- VFSQRT (R623): Vector floating-point square root. -/
  | vfsqrt (p : Nat) (i : Nat)
  /-- VFMIN (R623): Vector minimumNumber. -/
  | vfmin (p : Nat) (i : Nat)
  /-- VFMAX (R623): Vector maximumNumber. -/
  | vfmax (p : Nat) (i : Nat)
  /-- VFMA (R623): Vector fused multiply-add. -/
  | vfma (p : Nat) (i : Nat)
  /-- VFABS (R623): Clear the sign of each element. -/
  | vfabs (p : Nat) (i : Nat)
  /-- VFNEG (R623): Invert the sign of each element. -/
  | vfneg (p : Nat) (i : Nat)
  /-- VFRMAXA (R623): Largest magnitude over the active elements, into a g register. -/
  | vfrmaxa (p : Nat) (i : Nat)
  /-- VCMP_PREDICATE (R624): Vector compare into a predicate register. -/
  | vcmpPredicate (p : Nat) (i : Nat)
  /-- VCMP_GREG (R624): Vector compare into a g register. -/
  | vcmpGreg (p : Nat) (i : Nat)
  /-- VDADD (R631): P31 decimal add on lane pairs. -/
  | vdadd (p : Nat) (i : Nat)
  /-- VDSUB (R631): P31 decimal subtract on lane pairs. -/
  | vdsub (p : Nat) (i : Nat)
  /-- VDCMP (R631): P31 decimal compare into a predicate. -/
  | vdcmp (p : Nat) (i : Nat)
  /-- VDREV (R631): Reverse the bytes of each 16-byte element. -/
  | vdrev (p : Nat) (i : Nat)
  /-- VDBSR (R631): Shift each element right by whole bytes. -/
  | vdbsr (p : Nat) (i : Nat)
  /-- VCVT_E4M3_TO_FP32 (R628): Widen FP8-E4M3 to FP32 with scaling. -/
  | vcvtE4m3ToFp32 (p : Nat) (i : Nat)
  /-- VCVT_E5M2_TO_FP32 (R628): Widen FP8-E5M2 to FP32 with scaling. -/
  | vcvtE5m2ToFp32 (p : Nat) (i : Nat)
  /-- VCVT_E3M2_TO_FP32 (R628): Widen FP6-E3M2 to FP32 with scaling. -/
  | vcvtE3m2ToFp32 (p : Nat) (i : Nat)
  /-- VCVT_E2M3_TO_FP32 (R628): Widen FP6-E2M3 to FP32 with scaling. -/
  | vcvtE2m3ToFp32 (p : Nat) (i : Nat)
  /-- VCVT_E2M1_TO_FP32 (R628): Widen FP4-E2M1 to FP32 with scaling. -/
  | vcvtE2m1ToFp32 (p : Nat) (i : Nat)
  /-- VCVT_INT8_TO_FP32 (R628): Widen INT8 to FP32 with scaling. -/
  | vcvtInt8ToFp32 (p : Nat) (i : Nat)
  /-- VCVT_E8M0_TO_FP32 (R628): Widen E8M0 to FP32. -/
  | vcvtE8m0ToFp32 (p : Nat) (i : Nat)
  /-- VCVT_BF16_TO_FP32 (R628): Widen BF16 to FP32. -/
  | vcvtBf16ToFp32 (p : Nat) (i : Nat)
  /-- VCVT_FP16_TO_FP32 (R628): Widen FP16 to FP32. -/
  | vcvtFp16ToFp32 (p : Nat) (i : Nat)
  /-- VCVT_INT4_TO_INT8 (R628): Sign-extend INT4 to INT8. -/
  | vcvtInt4ToInt8 (p : Nat) (i : Nat)
  /-- VCVT_INT8_TO_INT32 (R628): Sign-extend INT8 to INT32. -/
  | vcvtInt8ToInt32 (p : Nat) (i : Nat)
  /-- VCVT_UINT8_TO_INT32 (R628): Zero-extend UINT8 to INT32. -/
  | vcvtUint8ToInt32 (p : Nat) (i : Nat)
  /-- VCVT_INT16_TO_INT32 (R628): Sign-extend INT16 to INT32. -/
  | vcvtInt16ToInt32 (p : Nat) (i : Nat)
  /-- VCVT_BIN1_TO_INT8 (R628): Expand BIN1 bits to INT8 values of ±1. -/
  | vcvtBin1ToInt8 (p : Nat) (i : Nat)
  /-- VCVT_INT32_TO_FP32 (R628): Convert INT32 to FP32. -/
  | vcvtInt32ToFp32 (p : Nat) (i : Nat)
  /-- VCVT_FP32_TO_E4M3 (R628): Narrow FP32 to FP8-E4M3 with scaling. -/
  | vcvtFp32ToE4m3 (p : Nat) (i : Nat)
  /-- VCVT_FP32_TO_E5M2 (R628): Narrow FP32 to FP8-E5M2 with scaling. -/
  | vcvtFp32ToE5m2 (p : Nat) (i : Nat)
  /-- VCVT_FP32_TO_INT8 (R628): Narrow FP32 to INT8 with scaling. -/
  | vcvtFp32ToInt8 (p : Nat) (i : Nat)
  /-- VCVT_FP32_TO_E8M0 (R628): Narrow FP32 to E8M0. -/
  | vcvtFp32ToE8m0 (p : Nat) (i : Nat)
  /-- VCVT_FP32_TO_BF16 (R628): Narrow FP32 to BF16. -/
  | vcvtFp32ToBf16 (p : Nat) (i : Nat)
  /-- VCVT_FP32_TO_FP16 (R628): Narrow FP32 to FP16. -/
  | vcvtFp32ToFp16 (p : Nat) (i : Nat)
  /-- VCVT_INT32_TO_INT16 (R628): Saturate INT32 to INT16. -/
  | vcvtInt32ToInt16 (p : Nat) (i : Nat)
  /-- VCVT_INT32_TO_INT8 (R628): Saturate INT32 to INT8. -/
  | vcvtInt32ToInt8 (p : Nat) (i : Nat)
  /-- VCVT_INT32_TO_UINT8 (R628): Saturate INT32 to UINT8. -/
  | vcvtInt32ToUint8 (p : Nat) (i : Nat)
  /-- VCVT_INT16_TO_INT8 (R628): Saturate INT16 to INT8. -/
  | vcvtInt16ToInt8 (p : Nat) (i : Nat)
  /-- VCVT_INT8_TO_BIN1 (R628): Pack each INT8 element into a BIN1 bit (1 when greater than 0). -/
  | vcvtInt8ToBin1 (p : Nat) (i : Nat)
  /-- VCVT_FP32_TO_INT32 (R628): Convert FP32 to INT32. -/
  | vcvtFp32ToInt32 (p : Nat) (i : Nat)
  /-- VMOV (R625): Vector move. -/
  | vmov (p : Nat) (i : Nat)
  /-- VSPLAT (R625): Broadcast a g register into the active elements. -/
  | vsplat (p : Nat) (i : Nat)
  /-- VEXT (R626): Extract one element into a g register. -/
  | vext (p : Nat) (i : Nat)
  /-- VINS (R626): Insert a g register into one element. -/
  | vins (p : Nat) (i : Nat)
  /-- VPERM (R625): Permute elements. -/
  | vperm (p : Nat) (i : Nat)
  /-- VRADD (R625): Add reduction. -/
  | vradd (p : Nat) (i : Nat)
  /-- VRMIN (R625): Signed minimum reduction. -/
  | vrmin (p : Nat) (i : Nat)
  /-- VRMAX (R625): Signed maximum reduction. -/
  | vrmax (p : Nat) (i : Nat)
  /-- VRMINU (R625): Unsigned minimum reduction. -/
  | vrminu (p : Nat) (i : Nat)
  /-- VRMAXU (R625): Unsigned maximum reduction. -/
  | vrmaxu (p : Nat) (i : Nat)
  /-- VRAND (R625): AND reduction. -/
  | vrand (p : Nat) (i : Nat)
  /-- VROR (R625): OR reduction. -/
  | vror (p : Nat) (i : Nat)
  /-- VRXOR (R625): XOR reduction. -/
  | vrxor (p : Nat) (i : Nat)
  /-- PAND (R627): Predicate AND. -/
  | pand (p : Nat) (i : Nat)
  /-- POR (R627): Predicate OR. -/
  | por (p : Nat) (i : Nat)
  /-- PXOR (R627): Predicate XOR. -/
  | pxor (p : Nat) (i : Nat)
  /-- PANDN (R627): Predicate AND-NOT. -/
  | pandn (p : Nat) (i : Nat)
  /-- PNOT (R627): Predicate NOT. -/
  | pnot (p : Nat) (i : Nat)
  /-- PBELOW (R627): Bits below the lowest set bit. -/
  | pbelow (p : Nat) (i : Nat)
  /-- PTHRU (R627): Bits up to and including the lowest set bit. -/
  | pthru (p : Nat) (i : Nat)
  /-- PSPAN (R627): Set the r lowest bits, from the difference of two g registers. -/
  | pspan (p : Nat) (i : Nat)
  /-- VLD (R633): Contiguous 64-byte vector load. -/
  | vld (p : Nat) (i : Nat) (out : List Nat)
  /-- VST (R633): Contiguous 64-byte vector store. -/
  | vst (p : Nat) (i : Nat) (out : List Nat)
  /-- VLDG (R636): Gather that traps precisely at the first faulting element. -/
  | vldg (p : Nat) (i : Nat) (out : List Nat)
  /-- VSTS (R636): Scatter that traps precisely at the first faulting element. -/
  | vsts (p : Nat) (i : Nat) (out : List Nat)
  /-- VLDG_FF (R638): First-fault gather that reports progress in a predicate. -/
  | vldgFf (p : Nat) (i : Nat) (out : List Nat)
  /-- CLOAD (R681): Copy rows from memory into the feed store. -/
  | cload (p : Nat) (out : List Nat)
  /-- CSTORE (R681): Copy rows from the feed store to memory. -/
  | cstore (p : Nat) (out : List Nat)
  /-- CMMA (R683): Block-scaled matrix multiply-accumulate. -/
  | cmma (p : Nat)
  /-- CRANK (R686): Top-k ranking of score rows, optionally merged. -/
  | crank (p : Nat)
  /-- CQUANT_QUANTIZE (R688): CQUANT with DIR 0 quantizes wide elements to an MX format with E8M0 scales. -/
  | cquantQuantize (p : Nat) (out : List Nat)
  /-- CQUANT_DEQUANTIZE (R689): CQUANT with DIR 1 dequantizes MX elements to a wide format. -/
  | cquantDequantize (p : Nat) (out : List Nat)
  /-- CCONV (R690): Convert elements between two formats. -/
  | cconv (p : Nat) (out : List Nat)
  /-- CWAIT (R693): Hold the Pan's later commands until a tally reaches a count. -/
  | cwait (p : Nat)
  /-- CWAIT_TIMEOUT (R693): A CWAIT's TIMEOUT_US passes and it fails with WAIT_TIMEOUT. -/
  | cwaitTimeout (p : Nat)
  /-- CFENCE (R694): Wait for earlier commands, write the stream status record, clear the status, and end skipping. -/
  | cfence (p : Nat) (out : List Nat)
  /-- CRY_STEP_BOUNDARY (R675): An engine step ends; the engine picks the ready Pan with the smallest virtual time, and completes or fails commands. -/
  | cryStepBoundary (c : Nat) (n : Nat)
  /-- TASK_GO (R704): A GO write to a task set counts as speech, then is refused, answered from the cache, or starts the staged task. -/
  | taskGo (m : Nat)
  /-- HEARTBEAT (R709): HEARTBEAT task returning Tide time. -/
  | heartbeat (m : Nat)
  /-- POWER_CAP (R774): Set the issuing master's power cap and brake hold. -/
  | powerCap (m : Nat)
  /-- THERMAL_POLICY (R774): Replace the thermal curve and THERM_BRAKE_C. -/
  | thermalPolicy (m : Nat)
  /-- AUTONOMY_POLICY (R714): Set the silence time, RESTART_EN, TEMP_CH and the autonomous cap table. -/
  | autonomyPolicy (m : Nat)
  /-- ACCEL_POWER_ON (R712): Power on the named accelerator ports in staggered order. -/
  | accelPowerOn (m : Nat)
  /-- ACCEL_POWER_OFF (R712): Assert PERST and lower the power enable of the named ports. -/
  | accelPowerOff (m : Nat)
  /-- ACCEL_RESET_PERST (R713): Hold APn_PERST_N asserted for 100 ms. -/
  | accelResetPerst (m : Nat)
  /-- ACCEL_RESET_SBR (R713): Perform a secondary bus reset of the named ports. -/
  | accelResetSbr (m : Nat)
  /-- DRIVE_POWER_ON (R713): Raise DPn_PWREN for the named drives in pairs, 100 ms apart. -/
  | drivePowerOn (m : Nat)
  /-- DRIVE_POWER_OFF (R713): Lower DPn_PWREN for the named drives at once. -/
  | drivePowerOff (m : Nat)
  /-- FW_STAGE_BEGIN (R723): Erase the staging slot and take staging ownership. -/
  | fwStageBegin (m : Nat)
  /-- FW_STAGE_DATA (R723): Append image bytes at OFFSET. -/
  | fwStageData (m : Nat)
  /-- FW_STAGE_END (R723): Verify the staged image and mark it STAGED_VALID. -/
  | fwStageEnd (m : Nat)
  /-- FW_STAGE_CANCEL (R723): Invalidate the staging slot and release ownership. -/
  | fwStageCancel (m : Nat)
  /-- FW_ACTIVATE_NEXT_RESET (R725): Make the staged slot the boot slot in TRIAL at the next reset. -/
  | fwActivateNextReset (m : Nat)
  /-- FW_ACTIVATE_HELM_NOW (R725): Make the staged slot the boot slot and restart the helm on it now. -/
  | fwActivateHelmNow (m : Nat)
  /-- FW_ACTIVATE_CONFIRM (R725): Clear TRIAL, possibly advancing MIN_SVN. -/
  | fwActivateConfirm (m : Nat)
  /-- FW_ACTIVATE_REVERT (R725): Make the other valid slot the boot slot. -/
  | fwActivateRevert (m : Nat)
  /-- FW_STATUS (R709): Return slot, trial and staging status. -/
  | fwStatus (m : Nat)
  /-- LOG_READ (R709): Return up to two log records from START_SEQ. -/
  | logRead (m : Nat)
  /-- LOG_CLEAR (R720): Move the issuing master's log cursor forward. -/
  | logClear (m : Nat)
  /-- VAULT_SET (R845): VAULT_CONFIG SET records the vault set, area and limit. -/
  | vaultSet (m : Nat)
  /-- VAULT_ARM (R827): VAULT_CONFIG ARM reads the headers, chooses the next slot and SEQ, and opens the vault queues. -/
  | vaultArm (m : Nat) (heads : List (List Byte))
  /-- VAULT_DISARM (R824): VAULT_CONFIG DISARM withdraws arming. -/
  | vaultDisarm (m : Nat)
  /-- VAULT_RESTORE (R839): VAULT_CONFIG RESTORE writes the sealed image back to HBM and verifies it. -/
  | vaultRestore (m : Nat) (heads : List (List Byte))
  /-- VAULT_DISCARD (R841): VAULT_CONFIG DISCARD clears PENDING. -/
  | vaultDiscard (m : Nat)
  /-- VAULT_STATUS (R845): Return the VLT_ status registers. -/
  | vaultStatus (m : Nat)
  /-- CAN_SEND (R731): Queue a CAN FD frame for transmission. -/
  | canSend (m : Nat)
  /-- CAN_FILTER_SET (R730): Set an acceptance filter. -/
  | canFilterSet (m : Nat)
  /-- CAN_FILTER_CLEAR (R730): Clear an acceptance filter. -/
  | canFilterClear (m : Nat)
  /-- CAN_FILTER_READ (R730): Pop a frame from the receive FIFO. -/
  | canFilterRead (m : Nat)
  /-- CAN_FILTER_CONFIG (R730): Enable the CAN controller and set its bit rates. -/
  | canFilterConfig (m : Nat)
  /-- GAUGE_CONFIG_CHANNEL (R753): Set a channel's enable, gain, OSR and dwell. -/
  | gaugeConfigChannel (m : Nat)
  /-- GAUGE_CONFIG_THRESHOLD (R753): Set a channel's thresholds and persistence. -/
  | gaugeConfigThreshold (m : Nat)
  /-- GAUGE_READ_FIFO (R753): Drain up to 14 words from the Gauge FIFO. -/
  | gaugeReadFifo (m : Nat)
  /-- GAUGE_CLEAR (R759): Clear a channel's statistics and/or ALERT. -/
  | gaugeClear (m : Nat)
  /-- GAUGE_READ_STATS (R753): Return a channel's latest word and statistics. -/
  | gaugeReadStats (m : Nat)
  /-- STAGGER_PLAN (R801): Set the staggered-start gaps and the automatic start masks. -/
  | staggerPlan (m : Nat)
  /-- TASK_MESSAGE_READ (R729): A Gledrex task message READ over I3C0 returns an 8-byte register of the BMC set. -/
  | taskMessageRead (binding : Nat) (inst : Nat) (off : Nat)
  /-- TASK_MESSAGE_WRITE (R729): A Gledrex task message WRITE over I3C0 acts as an 8-byte write to the BMC set. -/
  | taskMessageWrite (binding : Nat) (inst : Nat) (off : Nat) (v : Word)
  /-- MCTP_CONTROL_MESSAGE (R727): An MCTP control message, such as EID assignment, is handled on either binding. -/
  | mctpControlMessage (binding : Nat) (cmd : Nat) (eid : Nat)
  /-- PLDM_SENSOR_READ (R757): A PLDM monitoring request polls a numeric or state sensor. -/
  | pldmSensorRead (binding : Nat) (id : Nat) (state : Bool)
  /-- PLDM_REQUEST_FIRMWARE_DATA (R724): A PLDM firmware-update transfer stages bytes as a DATA step. -/
  | pldmRequestFirmwareData (off : Nat) (total : Nat) (data : List Byte)
  /-- PLDM_ACTIVATE_FIRMWARE (R724): PLDM ActivateFirmware acts as FW_ACTIVATE NEXT_RESET or HELM_NOW. -/
  | pldmActivateFirmware (selfContained : Bool)
  /-- AUTONOMY_ENTER (R714): Both silence timers reach SILENCE_S, and the Ferryman enters autonomous helm. -/
  | autonomyEnter
  /-- AUTO_RESTART (R715): In autonomy with RESTART_EN, 10 s after a cause-6 containment, the port is powered on again. -/
  | autoRestart (p : Nat)
  /-- HELM_LOCKSTEP_MISMATCH (R701): The helm cores mismatch; the helm restarts and a CRITICAL record is written. -/
  | helmLockstepMismatch
  /-- HELM_RESTART_DONE (R708): The helm is back; an interrupted task ends HELM_RESTART. -/
  | helmRestartDone (ok : Bool)
  /-- HELM_WATCHDOG (R726): The helm watchdog fires; under TRIAL the Slipway rolls back to the previous slot. -/
  | helmWatchdog
  /-- AP_PG_RISE (R712): APn_PG rises during a power-on; PERST is held 100 ms and the next port's gap timer starts. -/
  | apPgRise (n : Nat)
  /-- AP_PG_TIMEOUT (R712): APn_PG does not come within 1 s; APn_PWREN is lowered again. -/
  | apPgTimeout (n : Nat)
  /-- AP_PERST_RELEASE_TIMER (R338): 100 ms after power-good, APn_PERST_N is released and the port trains. -/
  | apPerstReleaseTimer (n : Nat)
  /-- STAGGER_GAP_TIMER (R798): A staggered-start gap expires, and the next accelerator or drive pair is enabled. -/
  | staggerGapTimer (who : Nat)
  /-- CAN_TX_ATTEMPT_DONE (R732): A CAN transmission attempt ends, either acknowledged or in error; TEC and the ACK count move, and LONE may be entered. -/
  | canTxAttemptDone (outcome : Nat)
  /-- CAN_LONE_PROBE_TIMER (R733): In LONE, after the 100 ms back-off and then once per second, the head frame is probed once. -/
  | canLoneProbeTimer (outcome : Nat)
  /-- CAN_FRAME_RECEIVED (R730): A received CAN frame is stored when it matches a filter. -/
  | canFrameReceived (word : Nat) (data : List Byte) (good : Bool)
  /-- CAN_BUS_OFF_RECOVERED (R734): After 128 occurrences of 11 recessive bits, the controller leaves bus-off. -/
  | canBusOffRecovered
  /-- GAUGE_WORD (R749): The ADC delivers a filter output word, which updates the FIFO, the latest value, the statistics and the thresholds. -/
  | gaugeWord (v : Nat) (clip : Bool)
  /-- CAP_LOOP_TICK (R770): Every 1 ms the Ferryman computes device power, the caps and temperature, and moves the cap level L. -/
  | capLoopTick
  /-- GROUP_ROTATE (R771): Every 100 ms the group offset advances, and the group divides are reassigned. -/
  | groupRotate
  /-- NEAP_ENTRY_TIMER (R765): An island idle for NEAP_NS enters Neap. -/
  | neapEntryTimer (n : Nat)
  /-- SLACK_ENTRY_TIMER (R765): An island in Neap for SLACK_US enters Slack. -/
  | slackEntryTimer (n : Nat)
  /-- ISLAND_WAKE (R766): An access or command to an island in Neap or Slack wakes it, after any entry in progress completes. -/
  | islandWake (n : Nat)
  /-- ISLAND_EXIT_DONE (R767): An island finishes leaving Neap or Slack and runs on its selected path. -/
  | islandExitDone (n : Nat)
  /-- BRAKE_N_ASSERT (R777): BRAKE_N falls; every compute island moves to ÷4 within 120 ns. -/
  | brakeNAssert (ns : Nat)
  /-- BRAKE_N_RELEASE (R778): All brake sources become inactive; islands return to the path the cap level allows. -/
  | brakeNRelease (ns : Nat)
  /-- THERMAL_TRIP (R780): A trip comparator reads 115 °C or a stack signals catastrophic temperature; THERMTRIP_N latches, KILL is driven, and partner power is lowered. -/
  | thermalTrip (index : Nat)
  /-- PWR_CTRL_WRITE (R783): A write to PWR_CTRL takes effect, or is refused with PWR_REFUSED. -/
  | pwrCtrlWrite (v : Word)
  /-- STANDBY_POWER_RISE (R789): Standby power rises from absent, and a cold start begins. -/
  | standbyPowerRise
  /-- STANDBY_POWER_FALL (R916): The standby rails fall; the main tiles are held in reset. -/
  | standbyPowerFall
  /-- SLIPWAY_IMAGE_VERIFIED (R790): The boot image read completes and is verified, or the other slot is tried, or recovery is entered. -/
  | slipwayImageVerified (readA : Bool) (a : List Byte) (readB : Bool) (b : List Byte)
  /-- MAIN_POWER_BELIEVED (R825): MAIN_PG has been high for 20 ms, so main power is believed; the Slipway continues, or the vault resumes or re-arms. -/
  | mainPowerBelieved
  /-- MAIN_PG_FALL (R825): MAIN_PG falls, and main power stops being believed. -/
  | mainPgFall (short : Bool)
  /-- MAIN_PG_LOW_TIMER (R827): MAIN_PG stays low for more than 50 µs; a drain begins if armed, hard off occurs in SEALED, or the Slipway restarts before station 11. -/
  | mainPgLowTimer
  /-- SLIPWAY_STATION_COMPLETE (R789): A Slipway station finishes (lock, training, zero-fill, firmware start), and the next one begins or the Slipway halts. -/
  | slipwayStationComplete (ok : Bool) (index : Nat)
  /-- CRYSTALLIZER_GROUP_EXIT (R797): At each CRY_GAP_MS, the next Crystallizer group leaves Slack. -/
  | crystallizerGroupExit
  /-- SLACK_WATER_RESET (R807): The host link has been lost for 2 ms; every berth is cleared and the device waits for the link. -/
  | slackWaterReset
  /-- SLACK_WATER_COMPLETE (R807): The slack-water teardown finishes; DEVICE_READY is set once the link is up. -/
  | slackWaterComplete
  /-- VAULT_WRITE_COMPLETE (R830): A vault copy write completes on a drive, and the copy proceeds. -/
  | vaultWriteComplete (k : Nat) (ok : Bool)
  /-- VAULT_FLUSH_COMPLETE (R827): The NVMe Flush completes on every vault drive, and the header copies are written. -/
  | vaultFlushComplete (k : Nat) (ok : Bool)
  /-- VAULT_SEAL_COMPLETE (R833): Every header copy is written; the slot is sealed, PENDING is set, and the drain ends in hard off or resume. -/
  | vaultSealComplete (k : Nat) (ok : Bool)
  /-- CELL_LOW_FALL (R833): CELL_LOW_N falls; the drain aborts into hard off or full cold reset, or the vault just becomes UNARMED. -/
  | cellLowFall (pgHigh : Bool)
  /-- RESTORE_READ_COMPLETE (R840): A restore read from a vault drive completes and its chunk is verified and written back. -/
  | restoreReadComplete (k : Nat) (ok : Bool) (data : List Byte)
  /-- TLH_SLOT_LOAD (R857): A register-path LOAD puts a key into a slot, or is refused. -/
  | tlhSlotLoad (v : Word)
  /-- TLH_SLOT_ZEROIZE (R859): A register-path ZEROIZE zeroes a slot and reads it back. -/
  | tlhSlotZeroize (v : Word) (clean : Bool)
  /-- TLH_SLOT_QUERY (R860): A register-path QUERY returns a slot's state, owner, kind and KEY_ID. -/
  | tlhSlotQuery (v : Word)
  /-- SESSION_ONLY_SET (R863): Writing 1 to SESSION_ONLY restricts key loads to secured sessions until cold start. -/
  | sessionOnlySet
  /-- KEY_MSG_LOAD (R864): A LOAD key command in a secured session loads a slot. -/
  | keyMsgLoad (binding : Nat) (sess : Nat) (handle : Nat) (owner : Nat) (kind : Nat) (key : List Byte)
  /-- KEY_MSG_ZEROIZE (R864): A ZEROIZE key command in a secured session zeroizes a slot. -/
  | keyMsgZeroize (binding : Nat) (sess : Nat) (handle : Nat) (clean : Bool)
  /-- KEY_MSG_QUERY (R864): A QUERY key command returns a slot's state. -/
  | keyMsgQuery (binding : Nat) (sess : Nat) (handle : Nat)
  /-- GET_VERSION (R865): SPDM GET_VERSION. -/
  | getVersion (binding : Nat)
  /-- GET_CAPABILITIES (R865): SPDM GET_CAPABILITIES. -/
  | getCapabilities (binding : Nat)
  /-- NEGOTIATE_ALGORITHMS (R865): SPDM NEGOTIATE_ALGORITHMS. -/
  | negotiateAlgorithms (binding : Nat) (asym : Nat) (hash : Nat) (dhe : Nat) (aead : Nat)
  /-- GET_DIGESTS (R865): SPDM GET_DIGESTS. -/
  | getDigests (binding : Nat) (sess : Nat)
  /-- GET_CERTIFICATE (R865): SPDM GET_CERTIFICATE returns the slot-0 chain. -/
  | getCertificate (binding : Nat) (sess : Nat) (slot : Nat) (off : Nat) (len : Nat)
  /-- CHALLENGE (R865): SPDM CHALLENGE, signed by the alias key. -/
  | challenge (binding : Nat) (slot : Nat) (nonce : List Byte)
  /-- GET_MEASUREMENTS (R867): SPDM GET_MEASUREMENTS returns the measurement blocks. -/
  | getMeasurements (binding : Nat) (sess : Nat) (op : Nat) (sign : Bool) (nonce : List Byte)
  /-- KEY_EXCHANGE (R866): SPDM KEY_EXCHANGE opens a secured session, or answers Busy. -/
  | keyExchange (binding : Nat)
  /-- FINISH (R865): SPDM FINISH completes session establishment. -/
  | finish (binding : Nat) (sess : Nat) (good : Bool)
  /-- SPDM_HEARTBEAT (R865): SPDM HEARTBEAT within a session. -/
  | spdmHeartbeat (binding : Nat) (sess : Nat)
  /-- KEY_UPDATE (R865): SPDM KEY_UPDATE of session keys. -/
  | keyUpdate (binding : Nat) (sess : Nat) (op : Nat)
  /-- END_SESSION (R865): SPDM END_SESSION closes a secured session. -/
  | endSession (binding : Nat) (sess : Nat)
  /-- IDE_KM_QUERY (R869): IDE_KM QUERY on the host port. -/
  | ideKmQuery (binding : Nat) (sess : Nat)
  /-- KEY_PROG (R869): IDE_KM KEY_PROG programs a stream key. -/
  | keyProg (binding : Nat) (sess : Nat) (stream : Nat) (set : Nat) (dir : Nat) (sub : Nat) (key : List Byte)
  /-- K_SET_GO (R869): IDE_KM K_SET_GO activates a key set. -/
  | kSetGo (binding : Nat) (sess : Nat) (stream : Nat) (set : Nat)
  /-- K_SET_STOP (R869): IDE_KM K_SET_STOP stops a key set. -/
  | kSetStop (binding : Nat) (sess : Nat) (stream : Nat) (set : Nat)
  /-- AP_IDE_SETUP (R870): When an accelerator port with EN becomes LIVE, the Tollhouse opens a session, generates keys and sets a stream Secure. -/
  | apIdeSetup (n : Nat) (cert : List Byte)
  /-- AP_IDE_SETUP_TIMEOUT (R870): Accelerator stream setup fails or exceeds 2 s; STATE becomes FAILED. -/
  | apIdeSetupTimeout (n : Nat) (step : Nat)
  /-- AP_IDE_INTEGRITY_FAIL (R871): An integrity failure on an accelerator stream makes it INSECURE and stops the port's traffic. -/
  | apIdeIntegrityFail (n : Nat)
  /-- DRBG_HEALTH_FAIL (R853): An entropy health test fails; DRBG_FAIL is set until cold start. -/
  | drbgHealthFail (test : Nat)
  /-- ERR_LAST_READ (R890): An 8-byte read of ERR_LAST re-arms ERROR_REPORT posting. -/
  | errLastRead (whole : Bool)
  /-- TAP_BYPASS (R923): JTAG BYPASS instruction. -/
  | tapBypass (tdi : List Bool)
  /-- TAP_IDCODE (R923): JTAG IDCODE instruction, reading 0x0502_0E3D. -/
  | tapIdcode
  /-- SAMPLE_PRELOAD (R923): JTAG SAMPLE/PRELOAD instruction. -/
  | samplePreload (levels : List Bool) (preload : List Bool)
  /-- EXTEST (R923): JTAG EXTEST instruction, which acts as BYPASS while any partner is powered. -/
  | extest (levels : List Bool) (preload : List Bool)
  /-- HOST_LINK_UP (R808): The host link trains and LINK_UP becomes 1; after a slack-water reset, DEVICE_READY becomes 1 at that instant. -/
  | hostLinkUp (speed : Nat) (width : Nat) (flit : Bool)
  /-- MAC_LINK_UP (R33): An Ethernet MAC gains link, which sets its LINK_UP and the ETH_UP bit of IDENT_TRAY. -/
  | macLinkUp (m : Nat) (j : Nat)
  /-- CELL_LOW_RISE (R824): CELL_LOW_N rises once the backup cell is recharged, which sets CELL_OK and lets an armed configuration return from UNARMED to ARMED. -/
  | cellLowRise
  /-- ISLAND_ENTRY_DONE (R766): An island finishes entering Neap or Slack (within 100 ns or 20 µs), and exits at once if a wake arrived during the entry. -/
  | islandEntryDone (n : Nat)
  /-- SPI_FLASH_OPERATION_DONE (R738): An SPI NOR erase, program or persistent-store write finishes or fails, which completes the waiting task or writes PERSIST_FAIL. -/
  | spiFlashOperationDone (m : Nat) (ok : Bool) (cs : Nat)
  /-- ILLEGAL_INSTRUCTION (R590): A Raker decodes an undefined or malformed instruction word and raises ILLEGAL, whether or not the guard passes. -/
  | illegalInstruction (p : Nat) (i : Nat)
  /-- FETCH_FAULT (R603): A Raker fetches at a PC outside every EXEC section and raises FETCH with s.epc set to that PC. -/
  | fetchFault (p : Nat) (i : Nat)
  /-- PORT_RECEIVER_DETECT (R365): A receiver appears on, or leaves, the lanes of a contained or absent port, which changes PRESENT_DETECT. -/
  | portReceiverDetect (p : Nat) (present : Bool)
  /-- TCP_RETRANSMIT_TIMEOUT (R497): The RTO of an NVMe/TCP connection expires, and the device retransmits under RFC 9293 with a minimum RTO of 1 ms. -/
  | tcpRetransmitTimeout (t : Nat)
  /-- MAC_PAUSE_QUANTA_EXPIRY (R372): The quanta of a received PFC pause run out, so the MAC releases that priority's transmit queue and PAUSED clears. -/
  | macPauseQuantaExpiry (m : Nat) (j : Nat) (p : Nat)
  deriving DecidableEq, Repr

end Sys2Proof
end

