-- ==== Sys2Proof/Config.lean ====
section
/-! DEFINITION. What the spec leaves open: the FREE VALUES (opaque: nothing can evaluate them) and the functions of
standards outside spec/ that the block uses but the spec does not define (ciphers, hashes, codecs, servo gains). -/

namespace Sys2Proof

/-- A byte the spec leaves open: unspecified memory contents, or what a memory outside the device holds.  The first
argument is the free-value counter of State at the moment of the read, the second the address. -/
opaque Config.freeByte : Nat → Nat → Byte

/-- A choice the spec leaves open ("unspecified which"): the argument is the free-value counter. -/
opaque Config.freeBool : Nat → Bool

/-- A number the spec leaves open: the argument is the free-value counter. -/
opaque Config.freeNat : Nat → Nat

/-- What a byte of a range whose contents the spec calls unspecified reads as: range tag, address (R79, R495). -/
opaque Config.staleByte : Nat → Nat → Byte

/-- The channel of a stack that an in-stack offset lies on; the spec gives no map (R116). -/
opaque Config.hbmChannel : Nat → Nat

/-- Whether ∞ × 0 plus a quiet NaN raises NV: IEEE 754-2019, which R599 names, leaves it to the implementation. -/
opaque Config.fmaNan : Bool

/-- AES-256-GCM sealing: key, IV, additional data, plaintext; ciphertext with its 16-byte tag (R424). -/
opaque Config.gcmSeal : List Byte → List Byte → List Byte → List Byte → List Byte

/-- AES-256-GCM opening: key, IV, additional data, ciphertext with tag; none where the tag does not verify (R425). -/
opaque Config.gcmOpen : List Byte → List Byte → List Byte → List Byte → Option (List Byte)

/-- AES-256-XTS encryption of one block: key pair, tweak number, plaintext (R482). -/
opaque Config.xtsEncrypt : List Byte → Nat → List Byte → List Byte

/-- AES-256-XTS decryption of one block: key pair, tweak number, ciphertext (R482). -/
opaque Config.xtsDecrypt : List Byte → Nat → List Byte → List Byte

/-- SHA-384 (R852, R860, R867). -/
opaque Config.sha384 : List Byte → List Byte

/-- HMAC-SHA-384: key, message (R860). -/
opaque Config.hmac384 : List Byte → List Byte → List Byte

/-- ECDSA P-384 signature of the alias key over a message (R850). -/
opaque Config.ecdsaSign : List Byte → List Byte

/-- Whether a firmware image's Gledrex signature verifies under key n (R872). -/
opaque Config.imageSigned : Nat → List Byte → Bool

/-- Decoding of the first compressed frame in bytes: format (0 Zstandard, 1 LZ4), bytes; 0 good, 1 malformed or a checksum
that fails, 2 an option outside Table 13.2, with the content decoded up to there (R491, R494). -/
opaque Config.decompress : Nat → List Byte → Nat × List Byte

/-- Encoding into one compressed frame: format, bytes (R492). -/
opaque Config.compress : Nat → List Byte → List Byte

/-- The servo's frequency correction in ppb: free-value counter, measured offset (the spec gives no gains, R525). -/
opaque Config.servoPpb : Nat → Int → Int

/-- The bytes of a certificate chain, an attestation report or another record whose contents the spec gives to a
standard outside it: the kind of record, the free-value counter. -/
opaque Config.record : Nat → Nat → List Byte

/-- What the header of a firmware image says, its format not being given (R874): version, FW_ABI (MINOR, MAJOR as IDENT_FW_ABI
lays them out), SVN, HELM_LIVE; none where there is no header. -/
opaque Config.imageHeader : List Byte → Option (Nat × Nat × Nat × Bool)

/-- A key the Tollhouse derives from the device's secret (R849, R850): 0 identity, 1 vault, 2 seal, 3 fingerprint; whether the
debug fuse is open (R854). -/
opaque Config.derivedKey : Nat → Bool → List Byte

/-- A byte of the encoding of a poisoned granule in a vault image (R829). -/
opaque Config.poisonByte : Nat → Byte

/-- The calibrated value of Gauge channel 30, normalized (R752): the spec gives no number. -/
opaque Config.refCheck : Nat

end Sys2Proof
end

