-- ==== Sys2Proof/Machine/Regs.lean ====
section
/-! DEFINITION. The register map: where every register of the spec's tables lies, which bits each field takes, its
access code (Table 0.4) and its Reset value.  A register is named by its KEY: function × 2^26 + BAR0 offset, function 0
the PF and 1 to 128 the VFs (R138, R140); the BMC's task set, which lies in no BAR, has function 129 (R735).
The map is written from the register tables of spec/, chapter by chapter; a field not listed is reserved (RSV). -/

namespace Sys2Proof.Machine

/-- Table 0.4: what a read and a write of a field do. -/
inductive Access where
  | ro | rw | wo | w1c | w1s | rc
  deriving DecidableEq, Repr

/-- One field of a register: its lowest bit, its width, its access code, its Reset value, and the encodings that are
not reserved as closed ranges (empty: every encoding is allowed). -/
structure RegField where
  lo : Nat
  len : Nat
  acc : Access
  reset : Nat
  legal : List (Nat × Nat) := []
  deriving DecidableEq, Repr

/-- One row of the map: n1 × n2 registers at base + i × s1 + j × s2. -/
structure RegSpec where
  name : String
  base : Nat
  n1 : Nat
  s1 : Nat
  n2 : Nat
  s2 : Nat
  fields : List RegField
  deriving DecidableEq, Repr

/-- A field of one register, by the register's key. -/
structure Fld where
  key : Nat
  lo : Nat
  len : Nat
  deriving DecidableEq, Repr

/-- R205, R237: where berth b's descriptor of ring r lies. -/
def ringDesc (b r : Nat) : Nat := if b = 0 then 0x210000 + 64 * r else 0x100000 + 0x2000 * (b - 1) + 0x1000 + 64 * r

/-- R208, R140: where berth b's sequence page of ring r lies. -/
def ringPage (b r : Nat) : Nat := if b = 0 then 0x200000 + 1024 * r else b * 0x4000000 + 0x20000 + 1024 * r

/-- The key of a register of function f at a BAR0 offset. -/
def regKey (f off : Nat) : Nat := f * 0x4000000 + off

/-- R882. -/
def Reg.IDENT_PART : Nat := 0x0
def Fld.IDENT_PART_VENDOR : Fld := ⟨Reg.IDENT_PART, 0, 16⟩
def Fld.IDENT_PART_DEVICE : Fld := ⟨Reg.IDENT_PART, 16, 16⟩
def Fld.IDENT_PART_STEPPING : Fld := ⟨Reg.IDENT_PART, 32, 8⟩

/-- R882. -/
def Reg.IDENT_FW_ABI : Nat := 0x8
def Fld.IDENT_FW_ABI_MINOR : Fld := ⟨Reg.IDENT_FW_ABI, 0, 16⟩
def Fld.IDENT_FW_ABI_MAJOR : Fld := ⟨Reg.IDENT_FW_ABI, 16, 16⟩
def Fld.IDENT_FW_ABI_SVN : Fld := ⟨Reg.IDENT_FW_ABI, 32, 16⟩

/-- R882. -/
def Reg.IDENT_FW_VERSION : Nat := 0x10
def Fld.IDENT_FW_VERSION_VERSION : Fld := ⟨Reg.IDENT_FW_VERSION, 0, 64⟩

/-- R882. -/
def Reg.IDENT_DSN : Nat := 0x18
def Fld.IDENT_DSN_DSN : Fld := ⟨Reg.IDENT_DSN, 0, 64⟩

/-- R30. -/
def Reg.IDENT_NODE : Nat := 0x40
def Fld.IDENT_NODE_NODE_ID : Fld := ⟨Reg.IDENT_NODE, 0, 12⟩
def Fld.IDENT_NODE_NODE_VALID : Fld := ⟨Reg.IDENT_NODE, 16, 1⟩
def Fld.IDENT_NODE_NODE_LOCKED : Fld := ⟨Reg.IDENT_NODE, 17, 1⟩
def Fld.IDENT_NODE_NODE_REFUSED : Fld := ⟨Reg.IDENT_NODE, 18, 1⟩

/-- R33. -/
def Reg.IDENT_TRAY : Nat := 0x48
def Fld.IDENT_TRAY_AP_PRESENT : Fld := ⟨Reg.IDENT_TRAY, 0, 4⟩
def Fld.IDENT_TRAY_DP_PRESENT : Fld := ⟨Reg.IDENT_TRAY, 4, 8⟩
def Fld.IDENT_TRAY_ETH_UP : Fld := ⟨Reg.IDENT_TRAY, 12, 2⟩
def Fld.IDENT_TRAY_HELM_AUTONOMOUS : Fld := ⟨Reg.IDENT_TRAY, 14, 1⟩

/-- R78. -/
def Reg.IDENT_HBM_MAP : Nat := 0x80
def Fld.IDENT_HBM_MAP_QUAD_HOME : Fld := ⟨Reg.IDENT_HBM_MAP, 0, 8⟩
def Fld.IDENT_HBM_MAP_MAP_REFUSED : Fld := ⟨Reg.IDENT_HBM_MAP, 8, 1⟩

/-- R80. -/
def Reg.IDENT_CISTERN : Nat := 0x88
def Fld.IDENT_CISTERN_SCRATCH_C0 : Fld := ⟨Reg.IDENT_CISTERN, 0, 5⟩
def Fld.IDENT_CISTERN_SCRATCH_C1 : Fld := ⟨Reg.IDENT_CISTERN, 5, 5⟩
def Fld.IDENT_CISTERN_SCRATCH_C2 : Fld := ⟨Reg.IDENT_CISTERN, 10, 5⟩
def Fld.IDENT_CISTERN_SCRATCH_C3 : Fld := ⟨Reg.IDENT_CISTERN, 15, 5⟩
def Fld.IDENT_CISTERN_BUSY : Fld := ⟨Reg.IDENT_CISTERN, 20, 1⟩
def Fld.IDENT_CISTERN_CIS_REFUSED : Fld := ⟨Reg.IDENT_CISTERN, 21, 1⟩

/-- R811. -/
def Reg.IDENT_BOOT : Nat := 0x90
def Fld.IDENT_BOOT_STATION : Fld := ⟨Reg.IDENT_BOOT, 0, 4⟩
def Fld.IDENT_BOOT_HALTED : Fld := ⟨Reg.IDENT_BOOT, 4, 1⟩
def Fld.IDENT_BOOT_HALT_CAUSE : Fld := ⟨Reg.IDENT_BOOT, 5, 3⟩
def Fld.IDENT_BOOT_LAST_RESET : Fld := ⟨Reg.IDENT_BOOT, 8, 3⟩
def Fld.IDENT_BOOT_FUNDAMENTALS : Fld := ⟨Reg.IDENT_BOOT, 16, 16⟩
def Fld.IDENT_BOOT_SLACK_WATERS : Fld := ⟨Reg.IDENT_BOOT, 32, 16⟩

/-- R811. -/
def Reg.IDENT_BOOT_READY : Nat := 0x98
def Fld.IDENT_BOOT_READY_TIDE : Fld := ⟨Reg.IDENT_BOOT_READY, 0, 64⟩

/-- R883. -/
def Reg.TLH_CTRL : Nat := 0x2000
def Fld.TLH_CTRL_SESSION_ONLY : Fld := ⟨Reg.TLH_CTRL, 0, 1⟩
def Fld.TLH_CTRL_TLH_REFUSED : Fld := ⟨Reg.TLH_CTRL, 1, 1⟩

/-- R883. -/
def Reg.TLH_STATUS : Nat := 0x2008
def Fld.TLH_STATUS_LOADED : Fld := ⟨Reg.TLH_STATUS, 0, 15⟩
def Fld.TLH_STATUS_DEBUG_OPEN : Fld := ⟨Reg.TLH_STATUS, 16, 1⟩
def Fld.TLH_STATUS_DRBG_FAIL : Fld := ⟨Reg.TLH_STATUS, 17, 1⟩
def Fld.TLH_STATUS_ZERO_FAIL : Fld := ⟨Reg.TLH_STATUS, 18, 1⟩
def Fld.TLH_STATUS_SESSION_ONLY : Fld := ⟨Reg.TLH_STATUS, 19, 1⟩
def Fld.TLH_STATUS_REVOKED : Fld := ⟨Reg.TLH_STATUS, 20, 4⟩
def Fld.TLH_STATUS_SESSIONS : Fld := ⟨Reg.TLH_STATUS, 24, 8⟩
def Fld.TLH_STATUS_MIN_SVN : Fld := ⟨Reg.TLH_STATUS, 32, 16⟩

/-- R883. -/
def Reg.TLH_SLOT_CMD : Nat := 0x2010
def Fld.TLH_SLOT_CMD_HANDLE : Fld := ⟨Reg.TLH_SLOT_CMD, 0, 14⟩
def Fld.TLH_SLOT_CMD_OWNER : Fld := ⟨Reg.TLH_SLOT_CMD, 16, 8⟩
def Fld.TLH_SLOT_CMD_KIND : Fld := ⟨Reg.TLH_SLOT_CMD, 24, 1⟩
def Fld.TLH_SLOT_CMD_OP : Fld := ⟨Reg.TLH_SLOT_CMD, 25, 2⟩
def Fld.TLH_SLOT_CMD_GO : Fld := ⟨Reg.TLH_SLOT_CMD, 63, 1⟩

/-- R883. -/
def Reg.TLH_SLOT_STATUS : Nat := 0x2018
def Fld.TLH_SLOT_STATUS_RESULT : Fld := ⟨Reg.TLH_SLOT_STATUS, 0, 3⟩
def Fld.TLH_SLOT_STATUS_BUSY : Fld := ⟨Reg.TLH_SLOT_STATUS, 3, 1⟩
def Fld.TLH_SLOT_STATUS_Q_LOADED : Fld := ⟨Reg.TLH_SLOT_STATUS, 4, 1⟩
def Fld.TLH_SLOT_STATUS_Q_KIND : Fld := ⟨Reg.TLH_SLOT_STATUS, 5, 1⟩
def Fld.TLH_SLOT_STATUS_Q_OWNER : Fld := ⟨Reg.TLH_SLOT_STATUS, 8, 8⟩

/-- R883. -/
def Reg.TLH_SLOT_KEYID : Nat := 0x2020
def Fld.TLH_SLOT_KEYID_KEY_ID : Fld := ⟨Reg.TLH_SLOT_KEYID, 0, 64⟩

/-- R883. -/
def Reg.TLH_KEY_DATA (w : Nat) : Nat := 0x2040 + 0x8 * w
def Fld.TLH_KEY_DATA_KEY (w : Nat) : Fld := ⟨Reg.TLH_KEY_DATA w, 0, 64⟩

/-- R883. -/
def Reg.TLH_AP_IDE (n : Nat) : Nat := 0x2100 + 0x40 * n
def Fld.TLH_AP_IDE_EN (n : Nat) : Fld := ⟨Reg.TLH_AP_IDE n, 0, 1⟩
def Fld.TLH_AP_IDE_STATE (n : Nat) : Fld := ⟨Reg.TLH_AP_IDE n, 1, 3⟩
def Fld.TLH_AP_IDE_AP_FAIL (n : Nat) : Fld := ⟨Reg.TLH_AP_IDE n, 4, 1⟩

/-- R883. -/
def Reg.TLH_AP_CERT (n w : Nat) : Nat := 0x2108 + 0x40 * n + 0x8 * w
def Fld.TLH_AP_CERT_DIGEST (n w : Nat) : Fld := ⟨Reg.TLH_AP_CERT n w, 0, 64⟩

/-- R735. -/
def Reg.TASK_OP (m : Nat) : Nat := 0x10000 + 0x203FF0000 * m
def Fld.TASK_OP_OP (m : Nat) : Fld := ⟨Reg.TASK_OP m, 0, 16⟩

/-- R735. -/
def Reg.TASK_TAG (m : Nat) : Nat := 0x10008 + 0x203FF0000 * m
def Fld.TASK_TAG_TAG (m : Nat) : Fld := ⟨Reg.TASK_TAG m, 0, 32⟩

/-- R735. -/
def Reg.TASK_GO (m : Nat) : Nat := 0x10010 + 0x203FF0000 * m
def Fld.TASK_GO_GO (m : Nat) : Fld := ⟨Reg.TASK_GO m, 0, 1⟩

/-- R735. -/
def Reg.TASK_STATE (m : Nat) : Nat := 0x10018 + 0x203FF0000 * m
def Fld.TASK_STATE_STATE (m : Nat) : Fld := ⟨Reg.TASK_STATE m, 0, 2⟩
def Fld.TASK_STATE_BUSY_REFUSED (m : Nat) : Fld := ⟨Reg.TASK_STATE m, 2, 1⟩
def Fld.TASK_STATE_REPEATED (m : Nat) : Fld := ⟨Reg.TASK_STATE m, 3, 1⟩
def Fld.TASK_STATE_DONE_NEW (m : Nat) : Fld := ⟨Reg.TASK_STATE m, 4, 1⟩
def Fld.TASK_STATE_HELM_DOWN (m : Nat) : Fld := ⟨Reg.TASK_STATE m, 5, 1⟩
def Fld.TASK_STATE_RESULT (m : Nat) : Fld := ⟨Reg.TASK_STATE m, 8, 8⟩
def Fld.TASK_STATE_DETAIL (m : Nat) : Fld := ⟨Reg.TASK_STATE m, 16, 16⟩
def Fld.TASK_STATE_DONE_TAG (m : Nat) : Fld := ⟨Reg.TASK_STATE m, 32, 32⟩

/-- R735. -/
def Reg.TASK_HELM (m : Nat) : Nat := 0x10020 + 0x203FF0000 * m
def Fld.TASK_HELM_AUTONOMOUS (m : Nat) : Fld := ⟨Reg.TASK_HELM m, 0, 1⟩
def Fld.TASK_HELM_TRIAL (m : Nat) : Fld := ⟨Reg.TASK_HELM m, 1, 1⟩
def Fld.TASK_HELM_BOOT_SLOT (m : Nat) : Fld := ⟨Reg.TASK_HELM m, 2, 1⟩
def Fld.TASK_HELM_SILENCE_S (m : Nat) : Fld := ⟨Reg.TASK_HELM m, 16, 10⟩
def Fld.TASK_HELM_HOST_SILENT_S (m : Nat) : Fld := ⟨Reg.TASK_HELM m, 32, 16⟩
def Fld.TASK_HELM_BMC_SILENT_S (m : Nat) : Fld := ⟨Reg.TASK_HELM m, 48, 16⟩

/-- R735. -/
def Reg.TASK_LOG (m : Nat) : Nat := 0x10028 + 0x203FF0000 * m
def Fld.TASK_LOG_NEWEST_SEQ (m : Nat) : Fld := ⟨Reg.TASK_LOG m, 0, 32⟩
def Fld.TASK_LOG_CURSOR (m : Nat) : Fld := ⟨Reg.TASK_LOG m, 32, 32⟩

/-- R735. -/
def Reg.TASK_CAN (m : Nat) : Nat := 0x10030 + 0x203FF0000 * m
def Fld.TASK_CAN_TEC (m : Nat) : Fld := ⟨Reg.TASK_CAN m, 0, 8⟩
def Fld.TASK_CAN_REC (m : Nat) : Fld := ⟨Reg.TASK_CAN m, 8, 8⟩
def Fld.TASK_CAN_FAULT (m : Nat) : Fld := ⟨Reg.TASK_CAN m, 16, 2⟩
def Fld.TASK_CAN_LONE (m : Nat) : Fld := ⟨Reg.TASK_CAN m, 18, 1⟩
def Fld.TASK_CAN_QUEUED (m : Nat) : Fld := ⟨Reg.TASK_CAN m, 24, 6⟩
def Fld.TASK_CAN_DROPS (m : Nat) : Fld := ⟨Reg.TASK_CAN m, 32, 16⟩
def Fld.TASK_CAN_ABANDONED (m : Nat) : Fld := ⟨Reg.TASK_CAN m, 48, 16⟩

/-- R735. -/
def Reg.TASK_ARG (m i : Nat) : Nat := 0x10040 + 0x203FF0000 * m + 0x8 * i
def Fld.TASK_ARG_ARG (m i : Nat) : Fld := ⟨Reg.TASK_ARG m i, 0, 64⟩

/-- R735. -/
def Reg.TASK_RES (m i : Nat) : Nat := 0x10080 + 0x203FF0000 * m + 0x8 * i
def Fld.TASK_RES_RES (m i : Nat) : Fld := ⟨Reg.TASK_RES m i, 0, 64⟩

/-- R239. -/
def Reg.BERTH0_SRC_MAC (i : Nat) : Nat := 0x20000 + 0x8 * i
def Fld.BERTH0_SRC_MAC_MAC (i : Nat) : Fld := ⟨Reg.BERTH0_SRC_MAC i, 0, 48⟩
def Fld.BERTH0_SRC_MAC_VLAN (i : Nat) : Fld := ⟨Reg.BERTH0_SRC_MAC i, 48, 12⟩
def Fld.BERTH0_SRC_MAC_TAGGED (i : Nat) : Fld := ⟨Reg.BERTH0_SRC_MAC i, 60, 1⟩

/-- R239. -/
def Reg.BERTH0_SRC_IP (i h : Nat) : Nat := 0x20040 + 0x10 * i + 0x8 * h
def Fld.BERTH0_SRC_IP_ADDR (i h : Nat) : Fld := ⟨Reg.BERTH0_SRC_IP i h, 0, 64⟩

/-- R239. -/
def Reg.BERTH0_SRC_VALID : Nat := 0x200C0
def Fld.BERTH0_SRC_VALID_MAC_VALID : Fld := ⟨Reg.BERTH0_SRC_VALID, 0, 8⟩
def Fld.BERTH0_SRC_VALID_IP_VALID : Fld := ⟨Reg.BERTH0_SRC_VALID, 8, 8⟩

/-- R239. -/
def Reg.BPLAN_CTRL (b : Nat) : Nat := 0xFE000 + 0x2000 * b
def Fld.BPLAN_CTRL_STATE (b : Nat) : Fld := ⟨Reg.BPLAN_CTRL b, 0, 2⟩
def Fld.BPLAN_CTRL_COMMIT (b : Nat) : Fld := ⟨Reg.BPLAN_CTRL b, 2, 1⟩
def Fld.BPLAN_CTRL_CLEAR (b : Nat) : Fld := ⟨Reg.BPLAN_CTRL b, 3, 1⟩
def Fld.BPLAN_CTRL_EXPEL (b : Nat) : Fld := ⟨Reg.BPLAN_CTRL b, 4, 1⟩
def Fld.BPLAN_CTRL_CMT_REFUSED (b : Nat) : Fld := ⟨Reg.BPLAN_CTRL b, 5, 1⟩
def Fld.BPLAN_CTRL_QUARANTINED (b : Nat) : Fld := ⟨Reg.BPLAN_CTRL b, 6, 1⟩
def Fld.BPLAN_CTRL_REFUSE_CAUSE (b : Nat) : Fld := ⟨Reg.BPLAN_CTRL b, 8, 4⟩
def Fld.BPLAN_CTRL_EPOCH (b : Nat) : Fld := ⟨Reg.BPLAN_CTRL b, 16, 16⟩
def Fld.BPLAN_CTRL_OLD_INFLIGHT (b : Nat) : Fld := ⟨Reg.BPLAN_CTRL b, 32, 16⟩

/-- R239. -/
def Reg.BPLAN_RIGHTS (b : Nat) : Nat := 0xFE008 + 0x2000 * b
def Fld.BPLAN_RIGHTS_ACCEL (b : Nat) : Fld := ⟨Reg.BPLAN_RIGHTS b, 0, 4⟩
def Fld.BPLAN_RIGHTS_CLASS_MIN (b : Nat) : Fld := ⟨Reg.BPLAN_RIGHTS b, 4, 2⟩
def Fld.BPLAN_RIGHTS_NET (b : Nat) : Fld := ⟨Reg.BPLAN_RIGHTS b, 6, 1⟩
def Fld.BPLAN_RIGHTS_XCT (b : Nat) : Fld := ⟨Reg.BPLAN_RIGHTS b, 7, 1⟩
def Fld.BPLAN_RIGHTS_STORAGE (b : Nat) : Fld := ⟨Reg.BPLAN_RIGHTS b, 8, 1⟩
def Fld.BPLAN_RIGHTS_PROGRAMS (b : Nat) : Fld := ⟨Reg.BPLAN_RIGHTS b, 9, 1⟩
def Fld.BPLAN_RIGHTS_VAULT (b : Nat) : Fld := ⟨Reg.BPLAN_RIGHTS b, 10, 1⟩
def Fld.BPLAN_RIGHTS_TIME (b : Nat) : Fld := ⟨Reg.BPLAN_RIGHTS b, 11, 1⟩
def Fld.BPLAN_RIGHTS_QUAR_ON_SPOOF (b : Nat) : Fld := ⟨Reg.BPLAN_RIGHTS b, 12, 1⟩

/-- R237. -/
def Reg.CPLAN_RIGHTS (b : Nat) : Nat := 0xFE408 + 0x2000 * b
def Fld.CPLAN_RIGHTS_ACCEL (b : Nat) : Fld := ⟨Reg.CPLAN_RIGHTS b, 0, 4⟩
def Fld.CPLAN_RIGHTS_CLASS_MIN (b : Nat) : Fld := ⟨Reg.CPLAN_RIGHTS b, 4, 2⟩
def Fld.CPLAN_RIGHTS_NET (b : Nat) : Fld := ⟨Reg.CPLAN_RIGHTS b, 6, 1⟩
def Fld.CPLAN_RIGHTS_XCT (b : Nat) : Fld := ⟨Reg.CPLAN_RIGHTS b, 7, 1⟩
def Fld.CPLAN_RIGHTS_STORAGE (b : Nat) : Fld := ⟨Reg.CPLAN_RIGHTS b, 8, 1⟩
def Fld.CPLAN_RIGHTS_PROGRAMS (b : Nat) : Fld := ⟨Reg.CPLAN_RIGHTS b, 9, 1⟩
def Fld.CPLAN_RIGHTS_VAULT (b : Nat) : Fld := ⟨Reg.CPLAN_RIGHTS b, 10, 1⟩
def Fld.CPLAN_RIGHTS_TIME (b : Nat) : Fld := ⟨Reg.CPLAN_RIGHTS b, 11, 1⟩
def Fld.CPLAN_RIGHTS_QUAR_ON_SPOOF (b : Nat) : Fld := ⟨Reg.CPLAN_RIGHTS b, 12, 1⟩

/-- R239. -/
def Reg.BPLAN_QUOTA (b : Nat) : Nat := 0xFE010 + 0x2000 * b
def Fld.BPLAN_QUOTA_RINGS (b : Nat) : Fld := ⟨Reg.BPLAN_QUOTA b, 0, 7⟩
def Fld.BPLAN_QUOTA_MOORINGS (b : Nat) : Fld := ⟨Reg.BPLAN_QUOTA b, 8, 21⟩
def Fld.BPLAN_QUOTA_CROSSINGS (b : Nat) : Fld := ⟨Reg.BPLAN_QUOTA b, 32, 17⟩

/-- R237. -/
def Reg.CPLAN_QUOTA (b : Nat) : Nat := 0xFE410 + 0x2000 * b
def Fld.CPLAN_QUOTA_RINGS (b : Nat) : Fld := ⟨Reg.CPLAN_QUOTA b, 0, 7⟩
def Fld.CPLAN_QUOTA_MOORINGS (b : Nat) : Fld := ⟨Reg.CPLAN_QUOTA b, 8, 21⟩
def Fld.CPLAN_QUOTA_CROSSINGS (b : Nat) : Fld := ⟨Reg.CPLAN_QUOTA b, 32, 17⟩

/-- R239. -/
def Reg.BPLAN_MEM (b : Nat) : Nat := 0xFE018 + 0x2000 * b
def Fld.BPLAN_MEM_HBM_MIB (b : Nat) : Fld := ⟨Reg.BPLAN_MEM b, 0, 19⟩
def Fld.BPLAN_MEM_CIS_MIB (b : Nat) : Fld := ⟨Reg.BPLAN_MEM b, 32, 9⟩

/-- R237. -/
def Reg.CPLAN_MEM (b : Nat) : Nat := 0xFE418 + 0x2000 * b
def Fld.CPLAN_MEM_HBM_MIB (b : Nat) : Fld := ⟨Reg.CPLAN_MEM b, 0, 19⟩
def Fld.CPLAN_MEM_CIS_MIB (b : Nat) : Fld := ⟨Reg.CPLAN_MEM b, 32, 9⟩

/-- R239. -/
def Reg.BPLAN_RATE (b : Nat) : Nat := 0xFE020 + 0x2000 * b
def Fld.BPLAN_RATE_NET_TX (b : Nat) : Fld := ⟨Reg.BPLAN_RATE b, 0, 16⟩
def Fld.BPLAN_RATE_STO (b : Nat) : Fld := ⟨Reg.BPLAN_RATE b, 16, 16⟩
def Fld.BPLAN_RATE_ACCEL (b : Nat) : Fld := ⟨Reg.BPLAN_RATE b, 32, 16⟩

/-- R237. -/
def Reg.CPLAN_RATE (b : Nat) : Nat := 0xFE420 + 0x2000 * b
def Fld.CPLAN_RATE_NET_TX (b : Nat) : Fld := ⟨Reg.CPLAN_RATE b, 0, 16⟩
def Fld.CPLAN_RATE_STO (b : Nat) : Fld := ⟨Reg.CPLAN_RATE b, 16, 16⟩
def Fld.CPLAN_RATE_ACCEL (b : Nat) : Fld := ⟨Reg.CPLAN_RATE b, 32, 16⟩

/-- R239. -/
def Reg.BPLAN_SHARE (b : Nat) : Nat := 0xFE028 + 0x2000 * b
def Fld.BPLAN_SHARE_CRY_WEIGHT (b : Nat) : Fld := ⟨Reg.BPLAN_SHARE b, 0, 8⟩
def Fld.BPLAN_SHARE_GRACE_MS (b : Nat) : Fld := ⟨Reg.BPLAN_SHARE b, 16, 10⟩

/-- R237. -/
def Reg.CPLAN_SHARE (b : Nat) : Nat := 0xFE428 + 0x2000 * b
def Fld.CPLAN_SHARE_CRY_WEIGHT (b : Nat) : Fld := ⟨Reg.CPLAN_SHARE b, 0, 8⟩
def Fld.CPLAN_SHARE_GRACE_MS (b : Nat) : Fld := ⟨Reg.CPLAN_SHARE b, 16, 10⟩

/-- R237. -/
def Reg.BPLAN_PANS (b w : Nat) : Nat := 0xFE040 + 0x2000 * b + 0x8 * w
def Fld.BPLAN_PANS_PANS (b w : Nat) : Fld := ⟨Reg.BPLAN_PANS b w, 0, 64⟩

/-- R237. -/
def Reg.CPLAN_PANS (b w : Nat) : Nat := 0xFE440 + 0x2000 * b + 0x8 * w
def Fld.CPLAN_PANS_PANS (b w : Nat) : Fld := ⟨Reg.CPLAN_PANS b w, 0, 64⟩

/-- R239. -/
def Reg.BPLAN_VOL (b v : Nat) : Nat := 0xFE080 + 0x2000 * b + 0x8 * v
def Fld.BPLAN_VOL_VOL_ID (b v : Nat) : Fld := ⟨Reg.BPLAN_VOL b v, 0, 12⟩
def Fld.BPLAN_VOL_VALID (b v : Nat) : Fld := ⟨Reg.BPLAN_VOL b v, 12, 1⟩
def Fld.BPLAN_VOL_WRITE (b v : Nat) : Fld := ⟨Reg.BPLAN_VOL b v, 13, 1⟩

/-- R237. -/
def Reg.CPLAN_VOL (b v : Nat) : Nat := 0xFE480 + 0x2000 * b + 0x8 * v
def Fld.CPLAN_VOL_VOL_ID (b v : Nat) : Fld := ⟨Reg.CPLAN_VOL b v, 0, 12⟩
def Fld.CPLAN_VOL_VALID (b v : Nat) : Fld := ⟨Reg.CPLAN_VOL b v, 12, 1⟩
def Fld.CPLAN_VOL_WRITE (b v : Nat) : Fld := ⟨Reg.CPLAN_VOL b v, 13, 1⟩

/-- R239. -/
def Reg.BPLAN_SRC_MAC (b i : Nat) : Nat := 0xFE100 + 0x2000 * b + 0x8 * i
def Fld.BPLAN_SRC_MAC_MAC (b i : Nat) : Fld := ⟨Reg.BPLAN_SRC_MAC b i, 0, 48⟩
def Fld.BPLAN_SRC_MAC_VLAN (b i : Nat) : Fld := ⟨Reg.BPLAN_SRC_MAC b i, 48, 12⟩
def Fld.BPLAN_SRC_MAC_TAGGED (b i : Nat) : Fld := ⟨Reg.BPLAN_SRC_MAC b i, 60, 1⟩

/-- R237. -/
def Reg.CPLAN_SRC_MAC (b i : Nat) : Nat := 0xFE500 + 0x2000 * b + 0x8 * i
def Fld.CPLAN_SRC_MAC_MAC (b i : Nat) : Fld := ⟨Reg.CPLAN_SRC_MAC b i, 0, 48⟩
def Fld.CPLAN_SRC_MAC_VLAN (b i : Nat) : Fld := ⟨Reg.CPLAN_SRC_MAC b i, 48, 12⟩
def Fld.CPLAN_SRC_MAC_TAGGED (b i : Nat) : Fld := ⟨Reg.CPLAN_SRC_MAC b i, 60, 1⟩

/-- R239. -/
def Reg.BPLAN_SRC_IP (b i h : Nat) : Nat := 0xFE140 + 0x2000 * b + 0x10 * i + 0x8 * h
def Fld.BPLAN_SRC_IP_ADDR (b i h : Nat) : Fld := ⟨Reg.BPLAN_SRC_IP b i h, 0, 64⟩

/-- R237. -/
def Reg.CPLAN_SRC_IP (b i h : Nat) : Nat := 0xFE540 + 0x2000 * b + 0x10 * i + 0x8 * h
def Fld.CPLAN_SRC_IP_ADDR (b i h : Nat) : Fld := ⟨Reg.CPLAN_SRC_IP b i h, 0, 64⟩

/-- R239. -/
def Reg.BPLAN_SRC_VALID (b : Nat) : Nat := 0xFE1C0 + 0x2000 * b
def Fld.BPLAN_SRC_VALID_MAC_VALID (b : Nat) : Fld := ⟨Reg.BPLAN_SRC_VALID b, 0, 8⟩
def Fld.BPLAN_SRC_VALID_IP_VALID (b : Nat) : Fld := ⟨Reg.BPLAN_SRC_VALID b, 8, 8⟩

/-- R237. -/
def Reg.CPLAN_SRC_VALID (b : Nat) : Nat := 0xFE5C0 + 0x2000 * b
def Fld.CPLAN_SRC_VALID_MAC_VALID (b : Nat) : Fld := ⟨Reg.CPLAN_SRC_VALID b, 0, 8⟩
def Fld.CPLAN_SRC_VALID_IP_VALID (b : Nat) : Fld := ⟨Reg.CPLAN_SRC_VALID b, 8, 8⟩

/-- R252. -/
def Reg.CNT_TICKETS (b : Nat) : Nat := 0xFE800 + 0x2000 * b
def Fld.CNT_TICKETS_TICKETS (b : Nat) : Fld := ⟨Reg.CNT_TICKETS b, 0, 64⟩

/-- R252. -/
def Reg.CNT_NET_TX (b : Nat) : Nat := 0xFE808 + 0x2000 * b
def Fld.CNT_NET_TX_BYTES (b : Nat) : Fld := ⟨Reg.CNT_NET_TX b, 0, 64⟩

/-- R252. -/
def Reg.CNT_NET_RX (b : Nat) : Nat := 0xFE810 + 0x2000 * b
def Fld.CNT_NET_RX_BYTES (b : Nat) : Fld := ⟨Reg.CNT_NET_RX b, 0, 64⟩

/-- R252. -/
def Reg.CNT_STO (b : Nat) : Nat := 0xFE818 + 0x2000 * b
def Fld.CNT_STO_BYTES (b : Nat) : Fld := ⟨Reg.CNT_STO b, 0, 64⟩

/-- R252. -/
def Reg.CNT_ACCEL (b : Nat) : Nat := 0xFE820 + 0x2000 * b
def Fld.CNT_ACCEL_BYTES (b : Nat) : Fld := ⟨Reg.CNT_ACCEL b, 0, 64⟩

/-- R252. -/
def Reg.CNT_REFUSED (b : Nat) : Nat := 0xFE828 + 0x2000 * b
def Fld.CNT_REFUSED_SPOOF (b : Nat) : Fld := ⟨Reg.CNT_REFUSED b, 0, 32⟩
def Fld.CNT_REFUSED_RIGHTS (b : Nat) : Fld := ⟨Reg.CNT_REFUSED b, 32, 32⟩

/-- R252. -/
def Reg.CNT_LIMITS (b : Nat) : Nat := 0xFE830 + 0x2000 * b
def Fld.CNT_LIMITS_QUOTA_BUSY (b : Nat) : Fld := ⟨Reg.CNT_LIMITS b, 0, 32⟩
def Fld.CNT_LIMITS_FORCED_STOPS (b : Nat) : Fld := ⟨Reg.CNT_LIMITS b, 32, 32⟩

/-- R252. -/
def Reg.USAGE (b : Nat) : Nat := 0xFE838 + 0x2000 * b
def Fld.USAGE_RINGS_ENABLED (b : Nat) : Fld := ⟨Reg.USAGE b, 0, 7⟩
def Fld.USAGE_MOORINGS_USED (b : Nat) : Fld := ⟨Reg.USAGE b, 8, 21⟩
def Fld.USAGE_CROSSINGS_USED (b : Nat) : Fld := ⟨Reg.USAGE b, 32, 17⟩

/-- R252. -/
def Reg.USAGE_MEM (b : Nat) : Nat := 0xFE840 + 0x2000 * b
def Fld.USAGE_MEM_HBM_MIB_USED (b : Nat) : Fld := ⟨Reg.USAGE_MEM b, 0, 19⟩
def Fld.USAGE_MEM_CIS_MIB_USED (b : Nat) : Fld := ⟨Reg.USAGE_MEM b, 32, 9⟩

/-- R205. -/
def Reg.RING_DESC_CTRL (b r : Nat) : Nat := ringDesc b r + 0x0
def Fld.RING_DESC_CTRL_ENABLE (b r : Nat) : Fld := ⟨Reg.RING_DESC_CTRL b r, 0, 1⟩
def Fld.RING_DESC_CTRL_LOG2_SIZE (b r : Nat) : Fld := ⟨Reg.RING_DESC_CTRL b r, 1, 5⟩
def Fld.RING_DESC_CTRL_CLASS (b r : Nat) : Fld := ⟨Reg.RING_DESC_CTRL b r, 6, 2⟩
def Fld.RING_DESC_CTRL_KIND (b r : Nat) : Fld := ⟨Reg.RING_DESC_CTRL b r, 8, 2⟩
def Fld.RING_DESC_CTRL_INTR_EN (b r : Nat) : Fld := ⟨Reg.RING_DESC_CTRL b r, 10, 1⟩
def Fld.RING_DESC_CTRL_VECTOR (b r : Nat) : Fld := ⟨Reg.RING_DESC_CTRL b r, 11, 11⟩

/-- R205. -/
def Reg.RING_DESC_TBASE (b r : Nat) : Nat := ringDesc b r + 0x8
def Fld.RING_DESC_TBASE_TBASE (b r : Nat) : Fld := ⟨Reg.RING_DESC_TBASE b r, 0, 48⟩

/-- R205. -/
def Reg.RING_DESC_ABASE (b r : Nat) : Nat := ringDesc b r + 0x10
def Fld.RING_DESC_ABASE_ABASE (b r : Nat) : Fld := ⟨Reg.RING_DESC_ABASE b r, 0, 48⟩

/-- R205. -/
def Reg.RING_DESC_INIT (b r : Nat) : Nat := ringDesc b r + 0x18
def Fld.RING_DESC_INIT_INIT_SEQ (b r : Nat) : Fld := ⟨Reg.RING_DESC_INIT b r, 0, 32⟩

/-- R205. -/
def Reg.RING_DESC_MIRROR (b r : Nat) : Nat := ringDesc b r + 0x20
def Fld.RING_DESC_MIRROR_MIRROR_VA (b r : Nat) : Fld := ⟨Reg.RING_DESC_MIRROR b r, 0, 48⟩
def Fld.RING_DESC_MIRROR_MIRROR_EN (b r : Nat) : Fld := ⟨Reg.RING_DESC_MIRROR b r, 48, 1⟩

/-- R205. -/
def Reg.RING_DESC_COAL (b r : Nat) : Nat := ringDesc b r + 0x28
def Fld.RING_DESC_COAL_COAL_COUNT (b r : Nat) : Fld := ⟨Reg.RING_DESC_COAL b r, 0, 16⟩
def Fld.RING_DESC_COAL_COAL_US (b r : Nat) : Fld := ⟨Reg.RING_DESC_COAL b r, 16, 16⟩

/-- R208. -/
def Reg.RING_SEQS (b r : Nat) : Nat := ringPage b r + 0x0
def Fld.RING_SEQS_CONSUMED_SEQ (b r : Nat) : Fld := ⟨Reg.RING_SEQS b r, 0, 32⟩
def Fld.RING_SEQS_PRODUCED_SEQ (b r : Nat) : Fld := ⟨Reg.RING_SEQS b r, 32, 32⟩

/-- R208. -/
def Reg.RING_TAIL (b r : Nat) : Nat := ringPage b r + 0x8
def Fld.RING_TAIL_TAIL_SEQ (b r : Nat) : Fld := ⟨Reg.RING_TAIL b r, 0, 32⟩

/-- R208. -/
def Reg.RING_REAPED (b r : Nat) : Nat := ringPage b r + 0x10
def Fld.RING_REAPED_REAPED_SEQ (b r : Nat) : Fld := ⟨Reg.RING_REAPED b r, 0, 32⟩

/-- R208. -/
def Reg.RING_STATE (b r : Nat) : Nat := ringPage b r + 0x18
def Fld.RING_STATE_STATE (b r : Nat) : Fld := ⟨Reg.RING_STATE b r, 0, 3⟩
def Fld.RING_STATE_CAUSE (b r : Nat) : Fld := ⟨Reg.RING_STATE b r, 8, 4⟩
def Fld.RING_STATE_CFG_REFUSED (b r : Nat) : Fld := ⟨Reg.RING_STATE b r, 16, 1⟩
def Fld.RING_STATE_OP_REFUSED (b r : Nat) : Fld := ⟨Reg.RING_STATE b r, 17, 1⟩
def Fld.RING_STATE_INFLIGHT (b r : Nat) : Fld := ⟨Reg.RING_STATE b r, 32, 17⟩

/-- R208. -/
def Reg.RING_OP (b r : Nat) : Nat := ringPage b r + 0x20
def Fld.RING_OP_OP (b r : Nat) : Fld := ⟨Reg.RING_OP b r, 0, 3⟩

/-- R208. -/
def Reg.RING_COUNTS (b r : Nat) : Nat := ringPage b r + 0x28
def Fld.RING_COUNTS_STALE_DB (b r : Nat) : Fld := ⟨Reg.RING_COUNTS b r, 0, 16⟩
def Fld.RING_COUNTS_BAD_DB (b r : Nat) : Fld := ⟨Reg.RING_COUNTS b r, 16, 16⟩
def Fld.RING_COUNTS_BAD_REAP (b r : Nat) : Fld := ⟨Reg.RING_COUNTS b r, 32, 16⟩
def Fld.RING_COUNTS_LOST_SIG (b r : Nat) : Fld := ⟨Reg.RING_COUNTS b r, 48, 16⟩

/-- R117. -/
def Reg.CLK_REF_STATUS : Nat := 0x300000
def Fld.CLK_REF_STATUS_REF0_VALID : Fld := ⟨Reg.CLK_REF_STATUS, 0, 1⟩
def Fld.CLK_REF_STATUS_REF1_VALID : Fld := ⟨Reg.CLK_REF_STATUS, 1, 1⟩
def Fld.CLK_REF_STATUS_REF0_LOST : Fld := ⟨Reg.CLK_REF_STATUS, 2, 1⟩
def Fld.CLK_REF_STATUS_REF1_LOST : Fld := ⟨Reg.CLK_REF_STATUS, 3, 1⟩
def Fld.CLK_REF_STATUS_BOTH_LOST : Fld := ⟨Reg.CLK_REF_STATUS, 4, 1⟩
def Fld.CLK_REF_STATUS_SBO_SAFE : Fld := ⟨Reg.CLK_REF_STATUS, 5, 1⟩

/-- R118. -/
def Reg.CLK_DLL_FAULT : Nat := 0x300008
def Fld.CLK_DLL_FAULT_LINK_UNLOCK : Fld := ⟨Reg.CLK_DLL_FAULT, 0, 21⟩
def Fld.CLK_DLL_FAULT_HBM_UNLOCK : Fld := ⟨Reg.CLK_DLL_FAULT, 21, 8⟩
def Fld.CLK_DLL_FAULT_LINK_DRIFT : Fld := ⟨Reg.CLK_DLL_FAULT, 29, 21⟩
def Fld.CLK_DLL_FAULT_HBM_DRIFT : Fld := ⟨Reg.CLK_DLL_FAULT, 50, 8⟩

/-- R119. -/
def Reg.CLK_ISL_TARGET (n : Nat) : Nat := 0x301000 + 0x10 * n
def Fld.CLK_ISL_TARGET_FRAC (n : Nat) : Fld := ⟨Reg.CLK_ISL_TARGET n, 0, 24⟩
def Fld.CLK_ISL_TARGET_NINT (n : Nat) : Fld := ⟨Reg.CLK_ISL_TARGET n, 24, 7⟩
def Fld.CLK_ISL_TARGET_DIV (n : Nat) : Fld := ⟨Reg.CLK_ISL_TARGET n, 32, 4⟩
def Fld.CLK_ISL_TARGET_REF_SEL (n : Nat) : Fld := ⟨Reg.CLK_ISL_TARGET n, 36, 1⟩
def Fld.CLK_ISL_TARGET_COMMIT (n : Nat) : Fld := ⟨Reg.CLK_ISL_TARGET n, 63, 1⟩

/-- R121. -/
def Reg.CLK_ISL_STATUS (n : Nat) : Nat := 0x301008 + 0x10 * n
def Fld.CLK_ISL_STATUS_EPOCH (n : Nat) : Fld := ⟨Reg.CLK_ISL_STATUS n, 0, 16⟩
def Fld.CLK_ISL_STATUS_LOCKED (n : Nat) : Fld := ⟨Reg.CLK_ISL_STATUS n, 16, 1⟩
def Fld.CLK_ISL_STATUS_BUSY (n : Nat) : Fld := ⟨Reg.CLK_ISL_STATUS n, 17, 1⟩
def Fld.CLK_ISL_STATUS_PATH (n : Nat) : Fld := ⟨Reg.CLK_ISL_STATUS n, 18, 2⟩
def Fld.CLK_ISL_STATUS_REF_IN_USE (n : Nat) : Fld := ⟨Reg.CLK_ISL_STATUS n, 20, 1⟩
def Fld.CLK_ISL_STATUS_REFUSED (n : Nat) : Fld := ⟨Reg.CLK_ISL_STATUS n, 21, 1⟩
def Fld.CLK_ISL_STATUS_LOCK_LOST (n : Nat) : Fld := ⟨Reg.CLK_ISL_STATUS n, 22, 1⟩
def Fld.CLK_ISL_STATUS_LOCK_FAIL (n : Nat) : Fld := ⟨Reg.CLK_ISL_STATUS n, 23, 1⟩
def Fld.CLK_ISL_STATUS_RELOCKS (n : Nat) : Fld := ⟨Reg.CLK_ISL_STATUS n, 24, 8⟩
def Fld.CLK_ISL_STATUS_FREQ_KHZ (n : Nat) : Fld := ⟨Reg.CLK_ISL_STATUS n, 32, 32⟩

/-- R782. -/
def Reg.PWR_CTRL : Nat := 0x308000
def Fld.PWR_CTRL_IDLE_EN : Fld := ⟨Reg.PWR_CTRL, 0, 1⟩
def Fld.PWR_CTRL_PWR_REFUSED : Fld := ⟨Reg.PWR_CTRL, 1, 1⟩
def Fld.PWR_CTRL_HYST_W : Fld := ⟨Reg.PWR_CTRL, 16, 16⟩
def Fld.PWR_CTRL_OTHER_W : Fld := ⟨Reg.PWR_CTRL, 32, 16⟩

/-- R782. -/
def Reg.PWR_STATUS : Nat := 0x308008
def Fld.PWR_STATUS_CAP_W : Fld := ⟨Reg.PWR_STATUS, 0, 16⟩
def Fld.PWR_STATUS_LEVEL : Fld := ⟨Reg.PWR_STATUS, 16, 6⟩
def Fld.PWR_STATUS_BRAKE : Fld := ⟨Reg.PWR_STATUS, 22, 1⟩
def Fld.PWR_STATUS_THERMAL : Fld := ⟨Reg.PWR_STATUS, 23, 1⟩
def Fld.PWR_STATUS_TRIPPED : Fld := ⟨Reg.PWR_STATUS, 24, 1⟩
def Fld.PWR_STATUS_STALE : Fld := ⟨Reg.PWR_STATUS, 25, 1⟩
def Fld.PWR_STATUS_POWER_W : Fld := ⟨Reg.PWR_STATUS, 32, 16⟩
def Fld.PWR_STATUS_TEMP_C : Fld := ⟨Reg.PWR_STATUS, 48, 16⟩

/-- R782. -/
def Reg.PWR_BRAKE : Nat := 0x308010
def Fld.PWR_BRAKE_SOURCES : Fld := ⟨Reg.PWR_BRAKE, 0, 5⟩
def Fld.PWR_BRAKE_ASSERTS : Fld := ⟨Reg.PWR_BRAKE, 16, 32⟩

/-- R782. -/
def Reg.PWR_BRAKE_TIDE : Nat := 0x308018
def Fld.PWR_BRAKE_TIDE_TIDE : Fld := ⟨Reg.PWR_BRAKE_TIDE, 0, 64⟩

/-- R782. -/
def Reg.PWR_CAPS : Nat := 0x308020
def Fld.PWR_CAPS_HOST_W : Fld := ⟨Reg.PWR_CAPS, 0, 16⟩
def Fld.PWR_CAPS_BMC_W : Fld := ⟨Reg.PWR_CAPS, 16, 16⟩
def Fld.PWR_CAPS_THERM_W : Fld := ⟨Reg.PWR_CAPS, 32, 16⟩
def Fld.PWR_CAPS_AUTO_W : Fld := ⟨Reg.PWR_CAPS, 48, 16⟩

/-- R782. -/
def Reg.PWR_BOUNDS : Nat := 0x308058
def Fld.PWR_BOUNDS_BRAKE_NS : Fld := ⟨Reg.PWR_BOUNDS, 0, 16⟩
def Fld.PWR_BOUNDS_P0_NS : Fld := ⟨Reg.PWR_BOUNDS, 16, 16⟩

/-- R782. -/
def Reg.PWR_COUNTS : Nat := 0x308060
def Fld.PWR_COUNTS_CAP_MS : Fld := ⟨Reg.PWR_COUNTS, 0, 32⟩
def Fld.PWR_COUNTS_BRAKE_US : Fld := ⟨Reg.PWR_COUNTS, 32, 32⟩

/-- R782. -/
def Reg.PWR_IDLE (t : Nat) : Nat := 0x308028 + 0x8 * t
def Fld.PWR_IDLE_NEAP_NS (t : Nat) : Fld := ⟨Reg.PWR_IDLE t, 0, 32⟩
def Fld.PWR_IDLE_SLACK_US (t : Nat) : Fld := ⟨Reg.PWR_IDLE t, 32, 32⟩

/-- R782. -/
def Reg.PWR_LAT (t : Nat) : Nat := 0x308040 + 0x8 * t
def Fld.PWR_LAT_ENTRY_NS (t : Nat) : Fld := ⟨Reg.PWR_LAT t, 0, 32⟩
def Fld.PWR_LAT_EXIT_NS (t : Nat) : Fld := ⟨Reg.PWR_LAT t, 32, 32⟩

/-- R782. -/
def Reg.PWR_ISL (n : Nat) : Nat := 0x308100 + 0x8 * n
def Fld.PWR_ISL_STATE (n : Nat) : Fld := ⟨Reg.PWR_ISL n, 0, 2⟩
def Fld.PWR_ISL_DIV (n : Nat) : Fld := ⟨Reg.PWR_ISL n, 2, 2⟩
def Fld.PWR_ISL_NEAPS (n : Nat) : Fld := ⟨Reg.PWR_ISL n, 16, 16⟩
def Fld.PWR_ISL_SLACKS (n : Nat) : Fld := ⟨Reg.PWR_ISL n, 32, 16⟩

/-- R537. -/
def Reg.TID_CTRL : Nat := 0x310000
def Fld.TID_CTRL_PTP_EN : Fld := ⟨Reg.TID_CTRL, 0, 1⟩
def Fld.TID_CTRL_STEP_EN : Fld := ⟨Reg.TID_CTRL, 1, 1⟩
def Fld.TID_CTRL_REANCHOR : Fld := ⟨Reg.TID_CTRL, 2, 1⟩
def Fld.TID_CTRL_STEP_REANCHOR : Fld := ⟨Reg.TID_CTRL, 3, 1⟩
def Fld.TID_CTRL_TID_REFUSED : Fld := ⟨Reg.TID_CTRL, 4, 1⟩

/-- R537. -/
def Reg.TID_STATUS : Nat := 0x310008
def Fld.TID_STATUS_WALL_EPOCH : Fld := ⟨Reg.TID_STATUS, 0, 16⟩
def Fld.TID_STATUS_WALL_VALID : Fld := ⟨Reg.TID_STATUS, 16, 1⟩
def Fld.TID_STATUS_SERVO : Fld := ⟨Reg.TID_STATUS, 17, 2⟩
def Fld.TID_STATUS_SOURCE : Fld := ⟨Reg.TID_STATUS, 19, 2⟩
def Fld.TID_STATUS_SLEWING : Fld := ⟨Reg.TID_STATUS, 21, 1⟩
def Fld.TID_STATUS_STEP_PENDING : Fld := ⟨Reg.TID_STATUS, 22, 1⟩
def Fld.TID_STATUS_HOLD_S : Fld := ⟨Reg.TID_STATUS, 32, 32⟩

/-- R537. -/
def Reg.TID_TIDE : Nat := 0x310010
def Fld.TID_TIDE_TIDE : Fld := ⟨Reg.TID_TIDE, 0, 64⟩

/-- R537. -/
def Reg.TID_SNAP_SEC : Nat := 0x310018
def Fld.TID_SNAP_SEC_SEC : Fld := ⟨Reg.TID_SNAP_SEC, 0, 48⟩
def Fld.TID_SNAP_SEC_EPOCH : Fld := ⟨Reg.TID_SNAP_SEC, 48, 16⟩

/-- R537. -/
def Reg.TID_SNAP_NS : Nat := 0x310020
def Fld.TID_SNAP_NS_NS : Fld := ⟨Reg.TID_SNAP_NS, 0, 30⟩

/-- R537. -/
def Reg.TID_TW_SEC : Nat := 0x310028
def Fld.TID_TW_SEC_SEC : Fld := ⟨Reg.TID_TW_SEC, 0, 49⟩

/-- R537. -/
def Reg.TID_TW_NS : Nat := 0x310030
def Fld.TID_TW_NS_NS : Fld := ⟨Reg.TID_TW_NS, 0, 30⟩

/-- R537. -/
def Reg.TID_GAP : Nat := 0x310038
def Fld.TID_GAP_G : Fld := ⟨Reg.TID_GAP, 0, 64⟩

/-- R537. -/
def Reg.TID_FREQ : Nat := 0x310040
def Fld.TID_FREQ_FREQ_PPB : Fld := ⟨Reg.TID_FREQ, 0, 32⟩

/-- R537. -/
def Reg.TID_STEP : Nat := 0x310048
def Fld.TID_STEP_THRESH_NS : Fld := ⟨Reg.TID_STEP, 0, 30⟩
def Fld.TID_STEP_SLEW_PPM : Fld := ⟨Reg.TID_STEP, 32, 9⟩
def Fld.TID_STEP_LOCK_NS : Fld := ⟨Reg.TID_STEP, 48, 16⟩

/-- R537. -/
def Reg.TID_WALL_SET_SEC : Nat := 0x310050
def Fld.TID_WALL_SET_SEC_SEC : Fld := ⟨Reg.TID_WALL_SET_SEC, 0, 48⟩

/-- R537. -/
def Reg.TID_WALL_SET_NS : Nat := 0x310058
def Fld.TID_WALL_SET_NS_NS : Fld := ⟨Reg.TID_WALL_SET_NS, 0, 30⟩
def Fld.TID_WALL_SET_NS_GO : Fld := ⟨Reg.TID_WALL_SET_NS, 63, 1⟩

/-- R537. -/
def Reg.TID_PTP_CTRL : Nat := 0x310060
def Fld.TID_PTP_CTRL_DOMAIN : Fld := ⟨Reg.TID_PTP_CTRL, 0, 8⟩
def Fld.TID_PTP_CTRL_PTP_MAC : Fld := ⟨Reg.TID_PTP_CTRL, 8, 3⟩
def Fld.TID_PTP_CTRL_TRANSPORT : Fld := ⟨Reg.TID_PTP_CTRL, 11, 2⟩
def Fld.TID_PTP_CTRL_ANN_TIMEOUT : Fld := ⟨Reg.TID_PTP_CTRL, 13, 4⟩
def Fld.TID_PTP_CTRL_DREQ_LOG : Fld := ⟨Reg.TID_PTP_CTRL, 20, 4⟩

/-- R537. -/
def Reg.TID_PTP_SRC_MAC : Nat := 0x310068
def Fld.TID_PTP_SRC_MAC_MAC : Fld := ⟨Reg.TID_PTP_SRC_MAC, 0, 48⟩
def Fld.TID_PTP_SRC_MAC_VLAN : Fld := ⟨Reg.TID_PTP_SRC_MAC, 48, 12⟩
def Fld.TID_PTP_SRC_MAC_TAGGED : Fld := ⟨Reg.TID_PTP_SRC_MAC, 60, 1⟩

/-- R537. -/
def Reg.TID_PTP_MASTER : Nat := 0x310080
def Fld.TID_PTP_MASTER_GM_ID : Fld := ⟨Reg.TID_PTP_MASTER, 0, 64⟩

/-- R537. -/
def Reg.TID_PTP_OFFSET : Nat := 0x310088
def Fld.TID_PTP_OFFSET_OFFSET : Fld := ⟨Reg.TID_PTP_OFFSET, 0, 64⟩

/-- R537. -/
def Reg.TID_PTP_COUNTS : Nat := 0x310090
def Fld.TID_PTP_COUNTS_SYNC_USED : Fld := ⟨Reg.TID_PTP_COUNTS, 0, 16⟩
def Fld.TID_PTP_COUNTS_DISCARDED : Fld := ⟨Reg.TID_PTP_COUNTS, 16, 16⟩
def Fld.TID_PTP_COUNTS_STEPS : Fld := ⟨Reg.TID_PTP_COUNTS, 32, 16⟩
def Fld.TID_PTP_COUNTS_REJECTED : Fld := ⟨Reg.TID_PTP_COUNTS, 48, 16⟩

/-- R537. -/
def Reg.TID_PTP_SRC_IP (i : Nat) : Nat := 0x310070 + 0x8 * i
def Fld.TID_PTP_SRC_IP_ADDR (i : Nat) : Fld := ⟨Reg.TID_PTP_SRC_IP i, 0, 64⟩

/-- R755. -/
def Reg.GAU_STATUS : Nat := 0x320000
def Fld.GAU_STATUS_ALERT : Fld := ⟨Reg.GAU_STATUS, 0, 32⟩
def Fld.GAU_STATUS_RUNNING : Fld := ⟨Reg.GAU_STATUS, 32, 1⟩
def Fld.GAU_STATUS_REF_FAULT : Fld := ⟨Reg.GAU_STATUS, 33, 1⟩
def Fld.GAU_STATUS_SCANS : Fld := ⟨Reg.GAU_STATUS, 34, 30⟩

/-- R755. -/
def Reg.GAU_FIFO : Nat := 0x320008
def Fld.GAU_FIFO_LEVEL : Fld := ⟨Reg.GAU_FIFO, 0, 11⟩
def Fld.GAU_FIFO_LOST : Fld := ⟨Reg.GAU_FIFO, 16, 16⟩

/-- R755. -/
def Reg.GAU_LAST (ch : Nat) : Nat := 0x320100 + 0x40 * ch
def Fld.GAU_LAST_WORD (ch : Nat) : Fld := ⟨Reg.GAU_LAST ch, 0, 32⟩

/-- R755. -/
def Reg.GAU_LAST_TIDE (ch : Nat) : Nat := 0x320108 + 0x40 * ch
def Fld.GAU_LAST_TIDE_TIDE (ch : Nat) : Fld := ⟨Reg.GAU_LAST_TIDE ch, 0, 64⟩

/-- R755. -/
def Reg.GAU_MINMAX (ch : Nat) : Nat := 0x320110 + 0x40 * ch
def Fld.GAU_MINMAX_MIN (ch : Nat) : Fld := ⟨Reg.GAU_MINMAX ch, 0, 32⟩
def Fld.GAU_MINMAX_MAX (ch : Nat) : Fld := ⟨Reg.GAU_MINMAX ch, 32, 32⟩

/-- R755. -/
def Reg.GAU_MEAN (ch : Nat) : Nat := 0x320118 + 0x40 * ch
def Fld.GAU_MEAN_MEAN (ch : Nat) : Fld := ⟨Reg.GAU_MEAN ch, 0, 32⟩
def Fld.GAU_MEAN_COUNT (ch : Nat) : Fld := ⟨Reg.GAU_MEAN ch, 32, 32⟩

/-- R755. -/
def Reg.GAU_CFG (ch : Nat) : Nat := 0x320120 + 0x40 * ch
def Fld.GAU_CFG_EN (ch : Nat) : Fld := ⟨Reg.GAU_CFG ch, 0, 1⟩
def Fld.GAU_CFG_GAIN (ch : Nat) : Fld := ⟨Reg.GAU_CFG ch, 1, 3⟩
def Fld.GAU_CFG_OSR (ch : Nat) : Fld := ⟨Reg.GAU_CFG ch, 4, 5⟩
def Fld.GAU_CFG_DWELL (ch : Nat) : Fld := ⟨Reg.GAU_CFG ch, 16, 8⟩
def Fld.GAU_CFG_HI_EN (ch : Nat) : Fld := ⟨Reg.GAU_CFG ch, 24, 1⟩
def Fld.GAU_CFG_LO_EN (ch : Nat) : Fld := ⟨Reg.GAU_CFG ch, 25, 1⟩
def Fld.GAU_CFG_PERSIST (ch : Nat) : Fld := ⟨Reg.GAU_CFG ch, 28, 4⟩
def Fld.GAU_CFG_CLIPS (ch : Nat) : Fld := ⟨Reg.GAU_CFG ch, 48, 16⟩

/-- R755. -/
def Reg.GAU_THRESH (ch : Nat) : Nat := 0x320128 + 0x40 * ch
def Fld.GAU_THRESH_HI (ch : Nat) : Fld := ⟨Reg.GAU_THRESH ch, 0, 32⟩
def Fld.GAU_THRESH_LO (ch : Nat) : Fld := ⟨Reg.GAU_THRESH ch, 32, 32⟩

/-- R847. -/
def Reg.VLT_STATUS : Nat := 0x330000
def Fld.VLT_STATUS_STATE : Fld := ⟨Reg.VLT_STATUS, 0, 3⟩
def Fld.VLT_STATUS_CFG_OK : Fld := ⟨Reg.VLT_STATUS, 3, 1⟩
def Fld.VLT_STATUS_DRIVES_OK : Fld := ⟨Reg.VLT_STATUS, 4, 1⟩
def Fld.VLT_STATUS_CELL_OK : Fld := ⟨Reg.VLT_STATUS, 5, 1⟩
def Fld.VLT_STATUS_MAIN_OK : Fld := ⟨Reg.VLT_STATUS, 6, 1⟩
def Fld.VLT_STATUS_PENDING : Fld := ⟨Reg.VLT_STATUS, 7, 1⟩
def Fld.VLT_STATUS_TRIPPED : Fld := ⟨Reg.VLT_STATUS, 8, 1⟩
def Fld.VLT_STATUS_NEXT_SLOT : Fld := ⟨Reg.VLT_STATUS, 9, 1⟩
def Fld.VLT_STATUS_DRIVE_SET : Fld := ⟨Reg.VLT_STATUS, 16, 8⟩

/-- R847. -/
def Reg.VLT_SEQ : Nat := 0x330008
def Fld.VLT_SEQ_SEQ : Fld := ⟨Reg.VLT_SEQ, 0, 64⟩

/-- R847. -/
def Reg.VLT_USED : Nat := 0x330010
def Fld.VLT_USED_USED_MIB : Fld := ⟨Reg.VLT_USED, 0, 14⟩
def Fld.VLT_USED_LIMIT_MIB : Fld := ⟨Reg.VLT_USED, 16, 14⟩
def Fld.VLT_USED_EXTENTS : Fld := ⟨Reg.VLT_USED, 32, 17⟩

/-- R847. -/
def Reg.VLT_LAST : Nat := 0x330018
def Fld.VLT_LAST_DRAIN_US : Fld := ⟨Reg.VLT_LAST, 0, 32⟩
def Fld.VLT_LAST_RESULT : Fld := ⟨Reg.VLT_LAST, 32, 8⟩
def Fld.VLT_LAST_CAUSE : Fld := ⟨Reg.VLT_LAST, 40, 8⟩

/-- R847. -/
def Reg.VLT_AREA : Nat := 0x330020
def Fld.VLT_AREA_VAULT_LBA : Fld := ⟨Reg.VLT_AREA, 0, 36⟩
def Fld.VLT_AREA_SLOT_MIB : Fld := ⟨Reg.VLT_AREA, 48, 16⟩

/-- R847. -/
def Reg.VLT_FREEZE : Nat := 0x330028
def Fld.VLT_FREEZE_TIDE : Fld := ⟨Reg.VLT_FREEZE, 0, 64⟩

/-- R395. -/
def Reg.WHF_PORT_CTRL (m : Nat) : Nat := 0x400000 + 0x100000 * m
def Fld.WHF_PORT_CTRL_PORT_EN (m : Nat) : Fld := ⟨Reg.WHF_PORT_CTRL m, 0, 1⟩
def Fld.WHF_PORT_CTRL_MODE (m : Nat) : Fld := ⟨Reg.WHF_PORT_CTRL m, 1, 2⟩
def Fld.WHF_PORT_CTRL_MODE_REFUSED (m : Nat) : Fld := ⟨Reg.WHF_PORT_CTRL m, 3, 1⟩

/-- R395. -/
def Reg.WHF_PORT_STATUS (m : Nat) : Nat := 0x400008 + 0x100000 * m
def Fld.WHF_PORT_STATUS_LINK_UP (m : Nat) : Fld := ⟨Reg.WHF_PORT_STATUS m, 0, 4⟩
def Fld.WHF_PORT_STATUS_PRESENT (m : Nat) : Fld := ⟨Reg.WHF_PORT_STATUS m, 4, 4⟩

/-- R395. -/
def Reg.WHF_RXPOOL (m : Nat) : Nat := 0x400010 + 0x100000 * m
def Fld.WHF_RXPOOL_XOFF_KIB (m : Nat) : Fld := ⟨Reg.WHF_RXPOOL m, 0, 12⟩
def Fld.WHF_RXPOOL_XON_KIB (m : Nat) : Fld := ⟨Reg.WHF_RXPOOL m, 16, 12⟩
def Fld.WHF_RXPOOL_ECN_KIB (m : Nat) : Fld := ⟨Reg.WHF_RXPOOL m, 32, 12⟩

/-- R395. -/
def Reg.WHF_MAC_CTRL (m j : Nat) : Nat := 0x400100 + 0x100000 * m + 0x40 * j
def Fld.WHF_MAC_CTRL_MAC_EN (m j : Nat) : Fld := ⟨Reg.WHF_MAC_CTRL m j, 0, 1⟩
def Fld.WHF_MAC_CTRL_PFC_EN (m j : Nat) : Fld := ⟨Reg.WHF_MAC_CTRL m j, 2, 8⟩
def Fld.WHF_MAC_CTRL_DEF_PRIO (m j : Nat) : Fld := ⟨Reg.WHF_MAC_CTRL m j, 10, 3⟩
def Fld.WHF_MAC_CTRL_MAX_FRAME (m j : Nat) : Fld := ⟨Reg.WHF_MAC_CTRL m j, 16, 14⟩
def Fld.WHF_MAC_CTRL_PFC_WD_MS (m j : Nat) : Fld := ⟨Reg.WHF_MAC_CTRL m j, 32, 14⟩

/-- R395. -/
def Reg.WHF_MAC_STATUS (m j : Nat) : Nat := 0x400108 + 0x100000 * m + 0x40 * j
def Fld.WHF_MAC_STATUS_LINK_UP (m j : Nat) : Fld := ⟨Reg.WHF_MAC_STATUS m j, 0, 1⟩
def Fld.WHF_MAC_STATUS_PRESENT (m j : Nat) : Fld := ⟨Reg.WHF_MAC_STATUS m j, 1, 1⟩
def Fld.WHF_MAC_STATUS_PAUSED (m j : Nat) : Fld := ⟨Reg.WHF_MAC_STATUS m j, 2, 8⟩
def Fld.WHF_MAC_STATUS_STORM (m j : Nat) : Fld := ⟨Reg.WHF_MAC_STATUS m j, 10, 8⟩
def Fld.WHF_MAC_STATUS_STORM_SEEN (m j : Nat) : Fld := ⟨Reg.WHF_MAC_STATUS m j, 18, 8⟩
def Fld.WHF_MAC_STATUS_LINK_DOWNS (m j : Nat) : Fld := ⟨Reg.WHF_MAC_STATUS m j, 32, 16⟩

/-- R395. -/
def Reg.WHF_MAC_ERRS (m j : Nat) : Nat := 0x400110 + 0x100000 * m + 0x40 * j
def Fld.WHF_MAC_ERRS_FCS_ERR (m j : Nat) : Fld := ⟨Reg.WHF_MAC_ERRS m j, 0, 16⟩
def Fld.WHF_MAC_ERRS_FEC_UNCORR (m j : Nat) : Fld := ⟨Reg.WHF_MAC_ERRS m j, 16, 16⟩
def Fld.WHF_MAC_ERRS_RUNT (m j : Nat) : Fld := ⟨Reg.WHF_MAC_ERRS m j, 32, 16⟩
def Fld.WHF_MAC_ERRS_OVERSIZE (m j : Nat) : Fld := ⟨Reg.WHF_MAC_ERRS m j, 48, 16⟩

/-- R395. -/
def Reg.WHF_MAC_FRAMES (m j : Nat) : Nat := 0x400118 + 0x100000 * m + 0x40 * j
def Fld.WHF_MAC_FRAMES_RX_FRAMES (m j : Nat) : Fld := ⟨Reg.WHF_MAC_FRAMES m j, 0, 32⟩
def Fld.WHF_MAC_FRAMES_TX_FRAMES (m j : Nat) : Fld := ⟨Reg.WHF_MAC_FRAMES m j, 32, 32⟩

/-- R395. -/
def Reg.MNF_CTRL (m : Nat) : Nat := 0x401000 + 0x100000 * m
def Fld.MNF_CTRL_EPOCH (m : Nat) : Fld := ⟨Reg.MNF_CTRL m, 0, 16⟩
def Fld.MNF_CTRL_COMMIT (m : Nat) : Fld := ⟨Reg.MNF_CTRL m, 16, 1⟩
def Fld.MNF_CTRL_DISCARD (m : Nat) : Fld := ⟨Reg.MNF_CTRL m, 17, 1⟩
def Fld.MNF_CTRL_DRAINING (m : Nat) : Fld := ⟨Reg.MNF_CTRL m, 18, 1⟩
def Fld.MNF_CTRL_CMT_REFUSED (m : Nat) : Fld := ⟨Reg.MNF_CTRL m, 19, 1⟩
def Fld.MNF_CTRL_MASK_REFUSED (m : Nat) : Fld := ⟨Reg.MNF_CTRL m, 20, 1⟩
def Fld.MNF_CTRL_OLD_INFLIGHT (m : Nat) : Fld := ⟨Reg.MNF_CTRL m, 32, 32⟩

/-- R395. -/
def Reg.MNF_MISS (m : Nat) : Nat := 0x401008 + 0x100000 * m
def Fld.MNF_MISS_ACTION (m : Nat) : Fld := ⟨Reg.MNF_MISS m, 0, 64⟩

/-- R395. -/
def Reg.MNF_MISS_CUR (m : Nat) : Nat := 0x401010 + 0x100000 * m
def Fld.MNF_MISS_CUR_ACTION (m : Nat) : Fld := ⟨Reg.MNF_MISS_CUR m, 0, 64⟩

/-- R395. -/
def Reg.MNF_USED (m : Nat) : Nat := 0x401020 + 0x100000 * m
def Fld.MNF_USED_EXACT (m : Nat) : Fld := ⟨Reg.MNF_USED m, 0, 17⟩
def Fld.MNF_USED_TERNARY (m : Nat) : Fld := ⟨Reg.MNF_USED m, 32, 13⟩

/-- R395. -/
def Reg.MNF_EM_MASK (m w : Nat) : Nat := 0x401040 + 0x100000 * m + 0x8 * w
def Fld.MNF_EM_MASK_MASK (m w : Nat) : Fld := ⟨Reg.MNF_EM_MASK m w, 0, 64⟩

/-- R395. -/
def Reg.MNF_EDIT_CMD (m : Nat) : Nat := 0x401080 + 0x100000 * m
def Fld.MNF_EDIT_CMD_TABLE (m : Nat) : Fld := ⟨Reg.MNF_EDIT_CMD m, 0, 2⟩
def Fld.MNF_EDIT_CMD_OP (m : Nat) : Fld := ⟨Reg.MNF_EDIT_CMD m, 2, 2⟩
def Fld.MNF_EDIT_CMD_INDEX (m : Nat) : Fld := ⟨Reg.MNF_EDIT_CMD m, 4, 12⟩
def Fld.MNF_EDIT_CMD_GO (m : Nat) : Fld := ⟨Reg.MNF_EDIT_CMD m, 63, 1⟩

/-- R395. -/
def Reg.MNF_EDIT_STATUS (m : Nat) : Nat := 0x401088 + 0x100000 * m
def Fld.MNF_EDIT_STATUS_RESULT (m : Nat) : Fld := ⟨Reg.MNF_EDIT_STATUS m, 0, 3⟩
def Fld.MNF_EDIT_STATUS_PENDING (m : Nat) : Fld := ⟨Reg.MNF_EDIT_STATUS m, 16, 11⟩

/-- R395. -/
def Reg.MNF_EDIT_DATA (m w : Nat) : Nat := 0x401100 + 0x100000 * m + 0x8 * w
def Fld.MNF_EDIT_DATA_DATA (m w : Nat) : Fld := ⟨Reg.MNF_EDIT_DATA m w, 0, 64⟩

/-- R395. -/
def Reg.MNF_DROPS (m w : Nat) : Nat := 0x401200 + 0x100000 * m + 0x8 * w
def Fld.MNF_DROPS_LO (m w : Nat) : Fld := ⟨Reg.MNF_DROPS m w, 0, 32⟩
def Fld.MNF_DROPS_HI (m w : Nat) : Fld := ⟨Reg.MNF_DROPS m w, 32, 32⟩

/-- R395. -/
def Reg.MNF_METER_RATES (m i : Nat) : Nat := 0x402000 + 0x100000 * m + 0x10 * i
def Fld.MNF_METER_RATES_CIR (m i : Nat) : Fld := ⟨Reg.MNF_METER_RATES m i, 0, 16⟩
def Fld.MNF_METER_RATES_PIR (m i : Nat) : Fld := ⟨Reg.MNF_METER_RATES m i, 16, 16⟩
def Fld.MNF_METER_RATES_CBS_KIB (m i : Nat) : Fld := ⟨Reg.MNF_METER_RATES m i, 32, 16⟩
def Fld.MNF_METER_RATES_PBS_KIB (m i : Nat) : Fld := ⟨Reg.MNF_METER_RATES m i, 48, 16⟩

/-- R395. -/
def Reg.MNF_METER_CTRL (m i : Nat) : Nat := 0x402008 + 0x100000 * m + 0x10 * i
def Fld.MNF_METER_CTRL_EN (m i : Nat) : Fld := ⟨Reg.MNF_METER_CTRL m i, 0, 1⟩
def Fld.MNF_METER_CTRL_RED (m i : Nat) : Fld := ⟨Reg.MNF_METER_CTRL m i, 32, 32⟩

/-- R395. -/
def Reg.MNF_DH (m s : Nat) : Nat := 0x420000 + 0x100000 * m + 0x8 * s
def Fld.MNF_DH_LOADED (m s : Nat) : Fld := ⟨Reg.MNF_DH m s, 0, 1⟩
def Fld.MNF_DH_FAILS (m s : Nat) : Fld := ⟨Reg.MNF_DH m s, 16, 16⟩
def Fld.MNF_DH_RUNS (m s : Nat) : Fld := ⟨Reg.MNF_DH m s, 32, 32⟩

/-- R395. -/
def Reg.MNF_COUNTER (m n h : Nat) : Nat := 0x600000 + 0x80000 * m + 0x10 * n + 0x8 * h
def Fld.MNF_COUNTER_COUNT (m n h : Nat) : Fld := ⟨Reg.MNF_COUNTER m n h, 0, 64⟩

/-- R363. -/
def Reg.LND_AP_CTRL (n : Nat) : Nat := 0x3820000 + 0x1000 * n
def Fld.LND_AP_CTRL_PORT_EN (n : Nat) : Fld := ⟨Reg.LND_AP_CTRL n, 0, 1⟩
def Fld.LND_AP_CTRL_SBR (n : Nat) : Fld := ⟨Reg.LND_AP_CTRL n, 1, 1⟩
def Fld.LND_AP_CTRL_DPC_RELEASE (n : Nat) : Fld := ⟨Reg.LND_AP_CTRL n, 2, 1⟩
def Fld.LND_AP_CTRL_DPC_NONFATAL (n : Nat) : Fld := ⟨Reg.LND_AP_CTRL n, 3, 1⟩
def Fld.LND_AP_CTRL_CPL_TO_US (n : Nat) : Fld := ⟨Reg.LND_AP_CTRL n, 16, 16⟩
def Fld.LND_AP_CTRL_STALL_US (n : Nat) : Fld := ⟨Reg.LND_AP_CTRL n, 32, 16⟩
def Fld.LND_AP_CTRL_UP_HOST_RATE (n : Nat) : Fld := ⟨Reg.LND_AP_CTRL n, 48, 16⟩

/-- R363. -/
def Reg.WHF_DP_CTRL (k : Nat) : Nat := 0x700000 + 0x100 * k
def Fld.WHF_DP_CTRL_PORT_EN (k : Nat) : Fld := ⟨Reg.WHF_DP_CTRL k, 0, 1⟩
def Fld.WHF_DP_CTRL_SBR (k : Nat) : Fld := ⟨Reg.WHF_DP_CTRL k, 1, 1⟩
def Fld.WHF_DP_CTRL_DPC_RELEASE (k : Nat) : Fld := ⟨Reg.WHF_DP_CTRL k, 2, 1⟩
def Fld.WHF_DP_CTRL_DPC_NONFATAL (k : Nat) : Fld := ⟨Reg.WHF_DP_CTRL k, 3, 1⟩
def Fld.WHF_DP_CTRL_CPL_TO_US (k : Nat) : Fld := ⟨Reg.WHF_DP_CTRL k, 16, 16⟩
def Fld.WHF_DP_CTRL_STALL_US (k : Nat) : Fld := ⟨Reg.WHF_DP_CTRL k, 32, 16⟩
def Fld.WHF_DP_CTRL_UP_HOST_RATE (k : Nat) : Fld := ⟨Reg.WHF_DP_CTRL k, 48, 16⟩

/-- R363. -/
def Reg.LND_AP_STATUS (n : Nat) : Nat := 0x3820008 + 0x1000 * n
def Fld.LND_AP_STATUS_SPEED (n : Nat) : Fld := ⟨Reg.LND_AP_STATUS n, 0, 3⟩
def Fld.LND_AP_STATUS_WIDTH (n : Nat) : Fld := ⟨Reg.LND_AP_STATUS n, 3, 5⟩
def Fld.LND_AP_STATUS_LINK_UP (n : Nat) : Fld := ⟨Reg.LND_AP_STATUS n, 8, 1⟩
def Fld.LND_AP_STATUS_STATE (n : Nat) : Fld := ⟨Reg.LND_AP_STATUS n, 9, 3⟩
def Fld.LND_AP_STATUS_DPC_CAUSE (n : Nat) : Fld := ⟨Reg.LND_AP_STATUS n, 12, 4⟩
def Fld.LND_AP_STATUS_CLAMPED (n : Nat) : Fld := ⟨Reg.LND_AP_STATUS n, 16, 1⟩
def Fld.LND_AP_STATUS_CFG_OWNED (n : Nat) : Fld := ⟨Reg.LND_AP_STATUS n, 17, 1⟩
def Fld.LND_AP_STATUS_BAR_SHORT (n : Nat) : Fld := ⟨Reg.LND_AP_STATUS n, 18, 1⟩
def Fld.LND_AP_STATUS_PRESENT_DETECT (n : Nat) : Fld := ⟨Reg.LND_AP_STATUS n, 19, 1⟩
def Fld.LND_AP_STATUS_REMOVED (n : Nat) : Fld := ⟨Reg.LND_AP_STATUS n, 20, 1⟩
def Fld.LND_AP_STATUS_FUNCS (n : Nat) : Fld := ⟨Reg.LND_AP_STATUS n, 24, 8⟩

/-- R363. -/
def Reg.WHF_DP_STATUS (k : Nat) : Nat := 0x700008 + 0x100 * k
def Fld.WHF_DP_STATUS_SPEED (k : Nat) : Fld := ⟨Reg.WHF_DP_STATUS k, 0, 3⟩
def Fld.WHF_DP_STATUS_WIDTH (k : Nat) : Fld := ⟨Reg.WHF_DP_STATUS k, 3, 5⟩
def Fld.WHF_DP_STATUS_LINK_UP (k : Nat) : Fld := ⟨Reg.WHF_DP_STATUS k, 8, 1⟩
def Fld.WHF_DP_STATUS_STATE (k : Nat) : Fld := ⟨Reg.WHF_DP_STATUS k, 9, 3⟩
def Fld.WHF_DP_STATUS_DPC_CAUSE (k : Nat) : Fld := ⟨Reg.WHF_DP_STATUS k, 12, 4⟩
def Fld.WHF_DP_STATUS_CLAMPED (k : Nat) : Fld := ⟨Reg.WHF_DP_STATUS k, 16, 1⟩
def Fld.WHF_DP_STATUS_CFG_OWNED (k : Nat) : Fld := ⟨Reg.WHF_DP_STATUS k, 17, 1⟩
def Fld.WHF_DP_STATUS_BAR_SHORT (k : Nat) : Fld := ⟨Reg.WHF_DP_STATUS k, 18, 1⟩
def Fld.WHF_DP_STATUS_PRESENT_DETECT (k : Nat) : Fld := ⟨Reg.WHF_DP_STATUS k, 19, 1⟩
def Fld.WHF_DP_STATUS_REMOVED (k : Nat) : Fld := ⟨Reg.WHF_DP_STATUS k, 20, 1⟩
def Fld.WHF_DP_STATUS_FUNCS (k : Nat) : Fld := ⟨Reg.WHF_DP_STATUS k, 24, 8⟩

/-- R363. -/
def Reg.LND_AP_ERR (n : Nat) : Nat := 0x3820020 + 0x1000 * n
def Fld.LND_AP_ERR_COR_RCVD (n : Nat) : Fld := ⟨Reg.LND_AP_ERR n, 0, 1⟩
def Fld.LND_AP_ERR_NONFATAL_RCVD (n : Nat) : Fld := ⟨Reg.LND_AP_ERR n, 1, 1⟩
def Fld.LND_AP_ERR_FATAL_RCVD (n : Nat) : Fld := ⟨Reg.LND_AP_ERR n, 2, 1⟩
def Fld.LND_AP_ERR_POISON_RCVD (n : Nat) : Fld := ⟨Reg.LND_AP_ERR n, 3, 1⟩
def Fld.LND_AP_ERR_CPL_TIMEOUT (n : Nat) : Fld := ⟨Reg.LND_AP_ERR n, 4, 1⟩
def Fld.LND_AP_ERR_UNEXP_CPL (n : Nat) : Fld := ⟨Reg.LND_AP_ERR n, 5, 1⟩
def Fld.LND_AP_ERR_SV_FAIL (n : Nat) : Fld := ⟨Reg.LND_AP_ERR n, 6, 1⟩
def Fld.LND_AP_ERR_MALFORMED (n : Nat) : Fld := ⟨Reg.LND_AP_ERR n, 7, 1⟩
def Fld.LND_AP_ERR_ERR_SRC_ID (n : Nat) : Fld := ⟨Reg.LND_AP_ERR n, 16, 16⟩

/-- R363. -/
def Reg.WHF_DP_ERR (k : Nat) : Nat := 0x700020 + 0x100 * k
def Fld.WHF_DP_ERR_COR_RCVD (k : Nat) : Fld := ⟨Reg.WHF_DP_ERR k, 0, 1⟩
def Fld.WHF_DP_ERR_NONFATAL_RCVD (k : Nat) : Fld := ⟨Reg.WHF_DP_ERR k, 1, 1⟩
def Fld.WHF_DP_ERR_FATAL_RCVD (k : Nat) : Fld := ⟨Reg.WHF_DP_ERR k, 2, 1⟩
def Fld.WHF_DP_ERR_POISON_RCVD (k : Nat) : Fld := ⟨Reg.WHF_DP_ERR k, 3, 1⟩
def Fld.WHF_DP_ERR_CPL_TIMEOUT (k : Nat) : Fld := ⟨Reg.WHF_DP_ERR k, 4, 1⟩
def Fld.WHF_DP_ERR_UNEXP_CPL (k : Nat) : Fld := ⟨Reg.WHF_DP_ERR k, 5, 1⟩
def Fld.WHF_DP_ERR_SV_FAIL (k : Nat) : Fld := ⟨Reg.WHF_DP_ERR k, 6, 1⟩
def Fld.WHF_DP_ERR_MALFORMED (k : Nat) : Fld := ⟨Reg.WHF_DP_ERR k, 7, 1⟩
def Fld.WHF_DP_ERR_ERR_SRC_ID (k : Nat) : Fld := ⟨Reg.WHF_DP_ERR k, 16, 16⟩

/-- R363. -/
def Reg.LND_AP_COUNTS (n : Nat) : Nat := 0x3820028 + 0x1000 * n
def Fld.LND_AP_COUNTS_CPL_TO (n : Nat) : Fld := ⟨Reg.LND_AP_COUNTS n, 0, 16⟩
def Fld.LND_AP_COUNTS_POISON (n : Nat) : Fld := ⟨Reg.LND_AP_COUNTS n, 16, 16⟩
def Fld.LND_AP_COUNTS_SV_DROP (n : Nat) : Fld := ⟨Reg.LND_AP_COUNTS n, 32, 16⟩
def Fld.LND_AP_COUNTS_CONTAIN (n : Nat) : Fld := ⟨Reg.LND_AP_COUNTS n, 48, 16⟩

/-- R363. -/
def Reg.WHF_DP_COUNTS (k : Nat) : Nat := 0x700028 + 0x100 * k
def Fld.WHF_DP_COUNTS_CPL_TO (k : Nat) : Fld := ⟨Reg.WHF_DP_COUNTS k, 0, 16⟩
def Fld.WHF_DP_COUNTS_POISON (k : Nat) : Fld := ⟨Reg.WHF_DP_COUNTS k, 16, 16⟩
def Fld.WHF_DP_COUNTS_SV_DROP (k : Nat) : Fld := ⟨Reg.WHF_DP_COUNTS k, 32, 16⟩
def Fld.WHF_DP_COUNTS_CONTAIN (k : Nat) : Fld := ⟨Reg.WHF_DP_COUNTS k, 48, 16⟩

/-- R363. -/
def Reg.LND_AP_CFG_ADDR (n : Nat) : Nat := 0x3820010 + 0x1000 * n
def Fld.LND_AP_CFG_ADDR_DWORD (n : Nat) : Fld := ⟨Reg.LND_AP_CFG_ADDR n, 2, 10⟩
def Fld.LND_AP_CFG_ADDR_FUNC (n : Nat) : Fld := ⟨Reg.LND_AP_CFG_ADDR n, 12, 3⟩
def Fld.LND_AP_CFG_ADDR_WRITE (n : Nat) : Fld := ⟨Reg.LND_AP_CFG_ADDR n, 15, 1⟩
def Fld.LND_AP_CFG_ADDR_BE (n : Nat) : Fld := ⟨Reg.LND_AP_CFG_ADDR n, 16, 4⟩
def Fld.LND_AP_CFG_ADDR_GO (n : Nat) : Fld := ⟨Reg.LND_AP_CFG_ADDR n, 63, 1⟩

/-- R363. -/
def Reg.LND_AP_CFG_DATA (n : Nat) : Nat := 0x3820018 + 0x1000 * n
def Fld.LND_AP_CFG_DATA_DATA (n : Nat) : Fld := ⟨Reg.LND_AP_CFG_DATA n, 0, 32⟩
def Fld.LND_AP_CFG_DATA_BUSY (n : Nat) : Fld := ⟨Reg.LND_AP_CFG_DATA n, 32, 1⟩
def Fld.LND_AP_CFG_DATA_RESULT (n : Nat) : Fld := ⟨Reg.LND_AP_CFG_DATA n, 33, 2⟩

/-- R363. -/
def Reg.LND_AP_BAR (n i : Nat) : Nat := 0x3820100 + 0x1000 * n + 0x8 * i
def Fld.LND_AP_BAR_OFFSET (n i : Nat) : Fld := ⟨Reg.LND_AP_BAR n i, 12, 26⟩
def Fld.LND_AP_BAR_LOG2_SIZE (n i : Nat) : Fld := ⟨Reg.LND_AP_BAR n i, 38, 6⟩
def Fld.LND_AP_BAR_FUNC (n i : Nat) : Fld := ⟨Reg.LND_AP_BAR n i, 44, 3⟩
def Fld.LND_AP_BAR_BAR (n i : Nat) : Fld := ⟨Reg.LND_AP_BAR n i, 47, 3⟩
def Fld.LND_AP_BAR_PREF (n i : Nat) : Fld := ⟨Reg.LND_AP_BAR n i, 50, 1⟩
def Fld.LND_AP_BAR_VALID (n i : Nat) : Fld := ⟨Reg.LND_AP_BAR n i, 51, 1⟩

/-- R440. -/
def Reg.XCT_CTRL : Nat := 0x800000
def Fld.XCT_CTRL_ENABLE : Fld := ⟨Reg.XCT_CTRL, 0, 1⟩
def Fld.XCT_CTRL_CTRL_REFUSED : Fld := ⟨Reg.XCT_CTRL, 1, 1⟩
def Fld.XCT_CTRL_UDP_PORT : Fld := ⟨Reg.XCT_CTRL, 16, 16⟩

/-- R440. -/
def Reg.XCT_CC : Nat := 0x800008
def Fld.XCT_CC_R_INIT : Fld := ⟨Reg.XCT_CC, 0, 16⟩
def Fld.XCT_CC_AI : Fld := ⟨Reg.XCT_CC, 16, 16⟩
def Fld.XCT_CC_AI_US : Fld := ⟨Reg.XCT_CC, 32, 8⟩

/-- R440. -/
def Reg.XCT_USED : Nat := 0x800010
def Fld.XCT_USED_ALLOCATED : Fld := ⟨Reg.XCT_USED, 0, 17⟩

/-- R440. -/
def Reg.XCT_RX_DROPS (w : Nat) : Nat := 0x800020 + 0x8 * w
def Fld.XCT_RX_DROPS_LO (w : Nat) : Fld := ⟨Reg.XCT_RX_DROPS w, 0, 32⟩
def Fld.XCT_RX_DROPS_HI (w : Nat) : Fld := ⟨Reg.XCT_RX_DROPS w, 32, 32⟩

/-- R440. -/
def Reg.XCT_XING (x : Nat) : Nat := 0x900000 + 0x10 * x
def Fld.XCT_XING_STATE (x : Nat) : Fld := ⟨Reg.XCT_XING x, 0, 3⟩
def Fld.XCT_XING_SEALED (x : Nat) : Fld := ⟨Reg.XCT_XING x, 3, 1⟩
def Fld.XCT_XING_CAUSE (x : Nat) : Fld := ⟨Reg.XCT_XING x, 4, 4⟩
def Fld.XCT_XING_OWNER (x : Nat) : Fld := ⟨Reg.XCT_XING x, 8, 8⟩
def Fld.XCT_XING_TX_EPOCH (x : Nat) : Fld := ⟨Reg.XCT_XING x, 16, 8⟩
def Fld.XCT_XING_REMOTE_NODE (x : Nat) : Fld := ⟨Reg.XCT_XING x, 24, 12⟩
def Fld.XCT_XING_REMOTE_XING (x : Nat) : Fld := ⟨Reg.XCT_XING x, 36, 16⟩
def Fld.XCT_XING_SLOT0 (x : Nat) : Fld := ⟨Reg.XCT_XING x, 52, 1⟩
def Fld.XCT_XING_SLOT1 (x : Nat) : Fld := ⟨Reg.XCT_XING x, 53, 1⟩
def Fld.XCT_XING_TX_SLOT (x : Nat) : Fld := ⟨Reg.XCT_XING x, 54, 1⟩

/-- R440. -/
def Reg.XCT_XING_CC (x : Nat) : Nat := 0x900008 + 0x10 * x
def Fld.XCT_XING_CC_RATE (x : Nat) : Fld := ⟨Reg.XCT_XING_CC x, 0, 16⟩
def Fld.XCT_XING_CC_AUTH_FAILS (x : Nat) : Fld := ⟨Reg.XCT_XING_CC x, 16, 16⟩
def Fld.XCT_XING_CC_SRTT_NS (x : Nat) : Fld := ⟨Reg.XCT_XING_CC x, 32, 32⟩

/-- R503. -/
def Reg.STO_CTRL : Nat := 0xC00000
def Fld.STO_CTRL_ENABLE : Fld := ⟨Reg.STO_CTRL, 0, 1⟩
def Fld.STO_CTRL_CMD_TO_MS : Fld := ⟨Reg.STO_CTRL, 16, 16⟩

/-- R503. -/
def Reg.STO_DRV_STATE (k : Nat) : Nat := 0xC01000 + 0x40 * k
def Fld.STO_DRV_STATE_STATE (k : Nat) : Fld := ⟨Reg.STO_DRV_STATE k, 0, 3⟩
def Fld.STO_DRV_STATE_VWC (k : Nat) : Fld := ⟨Reg.STO_DRV_STATE k, 3, 1⟩

/-- R503. -/
def Reg.STO_DRV_SIZE (k : Nat) : Nat := 0xC01008 + 0x40 * k
def Fld.STO_DRV_SIZE_BLOCKS (k : Nat) : Fld := ⟨Reg.STO_DRV_SIZE k, 0, 40⟩

/-- R503. -/
def Reg.STO_DRV_PM (k : Nat) : Nat := 0xC01010 + 0x40 * k
def Fld.STO_DRV_PM_IDLE_MS (k : Nat) : Fld := ⟨Reg.STO_DRV_PM k, 0, 32⟩
def Fld.STO_DRV_PM_NOPS (k : Nat) : Fld := ⟨Reg.STO_DRV_PM k, 32, 5⟩
def Fld.STO_DRV_PM_CUR_PS (k : Nat) : Fld := ⟨Reg.STO_DRV_PM k, 40, 5⟩

/-- R503. -/
def Reg.STO_DRV_LAT (k : Nat) : Nat := 0xC01018 + 0x40 * k
def Fld.STO_DRV_LAT_ENTRY_US (k : Nat) : Fld := ⟨Reg.STO_DRV_LAT k, 0, 32⟩
def Fld.STO_DRV_LAT_EXIT_US (k : Nat) : Fld := ⟨Reg.STO_DRV_LAT k, 32, 32⟩

/-- R503. -/
def Reg.STO_DRV_ID (k : Nat) : Nat := 0xC01020 + 0x40 * k
def Fld.STO_DRV_ID_IDHASH (k : Nat) : Fld := ⟨Reg.STO_DRV_ID k, 0, 64⟩

/-- R503. -/
def Reg.STO_DRV_COUNTS (k : Nat) : Nat := 0xC01028 + 0x40 * k
def Fld.STO_DRV_COUNTS_MEDIA_ERR (k : Nat) : Fld := ⟨Reg.STO_DRV_COUNTS k, 0, 16⟩
def Fld.STO_DRV_COUNTS_TIMEOUTS (k : Nat) : Fld := ⟨Reg.STO_DRV_COUNTS k, 16, 16⟩
def Fld.STO_DRV_COUNTS_RESETS (k : Nat) : Fld := ⟨Reg.STO_DRV_COUNTS k, 32, 16⟩
def Fld.STO_DRV_COUNTS_PS_ENTRIES (k : Nat) : Fld := ⟨Reg.STO_DRV_COUNTS k, 48, 16⟩

/-- R503. -/
def Reg.STO_TGT_CTRL (t : Nat) : Nat := 0xC20000 + 0x20 * t
def Fld.STO_TGT_CTRL_ENABLE (t : Nat) : Fld := ⟨Reg.STO_TGT_CTRL t, 0, 1⟩
def Fld.STO_TGT_CTRL_STATE (t : Nat) : Fld := ⟨Reg.STO_TGT_CTRL t, 1, 2⟩
def Fld.STO_TGT_CTRL_TGT_REFUSED (t : Nat) : Fld := ⟨Reg.STO_TGT_CTRL t, 3, 1⟩
def Fld.STO_TGT_CTRL_REC_KEY (t : Nat) : Fld := ⟨Reg.STO_TGT_CTRL t, 32, 32⟩

/-- R503. -/
def Reg.STO_TGT_OFF (t : Nat) : Nat := 0xC20008 + 0x20 * t
def Fld.STO_TGT_OFF_REC_OFF (t : Nat) : Fld := ⟨Reg.STO_TGT_OFF t, 0, 41⟩

/-- R503. -/
def Reg.STO_TGT_COUNTS (t : Nat) : Nat := 0xC20010 + 0x20 * t
def Fld.STO_TGT_COUNTS_RECONNECTS (t : Nat) : Fld := ⟨Reg.STO_TGT_COUNTS t, 0, 16⟩
def Fld.STO_TGT_COUNTS_DIGEST_ERR (t : Nat) : Fld := ⟨Reg.STO_TGT_COUNTS t, 16, 16⟩
def Fld.STO_TGT_COUNTS_TIMEOUTS (t : Nat) : Fld := ⟨Reg.STO_TGT_COUNTS t, 32, 16⟩

/-- R503. -/
def Reg.STO_VOL_CTRL (v : Nat) : Nat := 0xC80000 + 0x20 * v
def Fld.STO_VOL_CTRL_CREATE (v : Nat) : Fld := ⟨Reg.STO_VOL_CTRL v, 0, 1⟩
def Fld.STO_VOL_CTRL_DESTROY (v : Nat) : Fld := ⟨Reg.STO_VOL_CTRL v, 1, 1⟩
def Fld.STO_VOL_CTRL_STATE (v : Nat) : Fld := ⟨Reg.STO_VOL_CTRL v, 2, 2⟩
def Fld.STO_VOL_CTRL_KIND (v : Nat) : Fld := ⟨Reg.STO_VOL_CTRL v, 4, 1⟩
def Fld.STO_VOL_CTRL_ENCRYPT (v : Nat) : Fld := ⟨Reg.STO_VOL_CTRL v, 5, 1⟩
def Fld.STO_VOL_CTRL_VOL_REFUSED (v : Nat) : Fld := ⟨Reg.STO_VOL_CTRL v, 6, 1⟩
def Fld.STO_VOL_CTRL_REFUSE_CAUSE (v : Nat) : Fld := ⟨Reg.STO_VOL_CTRL v, 7, 4⟩
def Fld.STO_VOL_CTRL_DRIVE_SET (v : Nat) : Fld := ⟨Reg.STO_VOL_CTRL v, 16, 8⟩
def Fld.STO_VOL_CTRL_SU_LOG2 (v : Nat) : Fld := ⟨Reg.STO_VOL_CTRL v, 24, 5⟩
def Fld.STO_VOL_CTRL_TARGET (v : Nat) : Fld := ⟨Reg.STO_VOL_CTRL v, 32, 6⟩

/-- R503. -/
def Reg.STO_VOL_SIZE (v : Nat) : Nat := 0xC80008 + 0x20 * v
def Fld.STO_VOL_SIZE_BLOCKS (v : Nat) : Fld := ⟨Reg.STO_VOL_SIZE v, 0, 37⟩

/-- R503. -/
def Reg.STO_VOL_BASE (v : Nat) : Nat := 0xC80010 + 0x20 * v
def Fld.STO_VOL_BASE_START_LBA (v : Nat) : Fld := ⟨Reg.STO_VOL_BASE v, 0, 48⟩

/-- R503. -/
def Reg.STO_VOL_KEY (v : Nat) : Nat := 0xC80018 + 0x20 * v
def Fld.STO_VOL_KEY_KEY_HANDLE (v : Nat) : Fld := ⟨Reg.STO_VOL_KEY v, 0, 24⟩
def Fld.STO_VOL_KEY_NSID (v : Nat) : Fld := ⟨Reg.STO_VOL_KEY v, 32, 32⟩

/-- R580. -/
def Reg.PAN_STATE (p : Nat) : Nat := 0x1000000 + 0x20 * p
def Fld.PAN_STATE_STATE (p : Nat) : Fld := ⟨Reg.PAN_STATE p, 0, 3⟩
def Fld.PAN_STATE_STOP_PEND (p : Nat) : Fld := ⟨Reg.PAN_STATE p, 3, 1⟩
def Fld.PAN_STATE_LIVE (p : Nat) : Fld := ⟨Reg.PAN_STATE p, 4, 4⟩
def Fld.PAN_STATE_HOLDER (p : Nat) : Fld := ⟨Reg.PAN_STATE p, 8, 8⟩
def Fld.PAN_STATE_RUN_ID (p : Nat) : Fld := ⟨Reg.PAN_STATE p, 32, 32⟩

/-- R580. -/
def Reg.PAN_COUNT (p : Nat) : Nat := 0x1000008 + 0x20 * p
def Fld.PAN_COUNT_EXCEPTIONS (p : Nat) : Fld := ⟨Reg.PAN_COUNT p, 0, 16⟩
def Fld.PAN_COUNT_STORE_DROPS (p : Nat) : Fld := ⟨Reg.PAN_COUNT p, 16, 16⟩
def Fld.PAN_COUNT_BAD_ANSWER (p : Nat) : Fld := ⟨Reg.PAN_COUNT p, 32, 16⟩
def Fld.PAN_COUNT_FORCED (p : Nat) : Fld := ⟨Reg.PAN_COUNT p, 48, 16⟩

/-- R580. -/
def Reg.PAN_END (p : Nat) : Nat := 0x1000010 + 0x20 * p
def Fld.PAN_END_STATUS (p : Nat) : Fld := ⟨Reg.PAN_END p, 0, 8⟩
def Fld.PAN_END_DETAIL (p : Nat) : Fld := ⟨Reg.PAN_END p, 8, 16⟩
def Fld.PAN_END_RUN_ID (p : Nat) : Fld := ⟨Reg.PAN_END p, 32, 32⟩

/-- R580. -/
def Reg.PAN_END_RESULT (p : Nat) : Nat := 0x1000018 + 0x20 * p
def Fld.PAN_END_RESULT_RESULT (p : Nat) : Fld := ⟨Reg.PAN_END_RESULT p, 0, 64⟩

/-- R697. -/
def Reg.CRY_STATE (c : Nat) : Nat := 0x1800000 + 0x40 * c
def Fld.CRY_STATE_BUSY (c : Nat) : Fld := ⟨Reg.CRY_STATE c, 0, 1⟩
def Fld.CRY_STATE_CUR_SLOT (c : Nat) : Fld := ⟨Reg.CRY_STATE c, 1, 3⟩
def Fld.CRY_STATE_QUEUED (c : Nat) : Fld := ⟨Reg.CRY_STATE c, 4, 7⟩

/-- R697. -/
def Reg.CRY_COUNTS (c : Nat) : Nat := 0x1800008 + 0x40 * c
def Fld.CRY_COUNTS_DONE (c : Nat) : Fld := ⟨Reg.CRY_COUNTS c, 0, 32⟩
def Fld.CRY_COUNTS_FAILED (c : Nat) : Fld := ⟨Reg.CRY_COUNTS c, 32, 32⟩

/-- R697. -/
def Reg.CRY_BUSY (c : Nat) : Nat := 0x1800010 + 0x40 * c
def Fld.CRY_BUSY_CYCLES (c : Nat) : Fld := ⟨Reg.CRY_BUSY c, 0, 64⟩

/-- R904. -/
def Reg.ERR_STATUS : Nat := 0x3000000
def Fld.ERR_STATUS_UNCONTAINED : Fld := ⟨Reg.ERR_STATUS, 0, 1⟩
def Fld.ERR_STATUS_STOPPED : Fld := ⟨Reg.ERR_STATUS, 1, 1⟩
def Fld.ERR_STATUS_CORR_SEEN : Fld := ⟨Reg.ERR_STATUS, 2, 1⟩
def Fld.ERR_STATUS_CONT_SEEN : Fld := ⟨Reg.ERR_STATUS, 3, 1⟩

/-- R904. -/
def Reg.ERR_COUNTS : Nat := 0x3000008
def Fld.ERR_COUNTS_CORRECTED : Fld := ⟨Reg.ERR_COUNTS, 0, 16⟩
def Fld.ERR_COUNTS_CONTAINED : Fld := ⟨Reg.ERR_COUNTS, 16, 16⟩
def Fld.ERR_COUNTS_UNCONTAINED : Fld := ⟨Reg.ERR_COUNTS, 32, 16⟩
def Fld.ERR_COUNTS_SUPPRESSED : Fld := ⟨Reg.ERR_COUNTS, 48, 16⟩

/-- R904. -/
def Reg.ERR_LAST : Nat := 0x3000010
def Fld.ERR_LAST_CODE : Fld := ⟨Reg.ERR_LAST, 0, 16⟩
def Fld.ERR_LAST_CLASS : Fld := ⟨Reg.ERR_LAST, 16, 2⟩
def Fld.ERR_LAST_BERTH : Fld := ⟨Reg.ERR_LAST, 18, 8⟩
def Fld.ERR_LAST_SOURCE : Fld := ⟨Reg.ERR_LAST, 32, 16⟩

/-- R904. -/
def Reg.ERR_LAST_ARG : Nat := 0x3000018
def Fld.ERR_LAST_ARG_ARG1 : Fld := ⟨Reg.ERR_LAST_ARG, 0, 64⟩

/-- R904. -/
def Reg.ERR_LAST_TIDE : Nat := 0x3000020
def Fld.ERR_LAST_TIDE_TIDE : Fld := ⟨Reg.ERR_LAST_TIDE, 0, 64⟩

/-- R904. -/
def Reg.ERR_FIRST_UNC : Nat := 0x3000028
def Fld.ERR_FIRST_UNC_CODE : Fld := ⟨Reg.ERR_FIRST_UNC, 0, 16⟩
def Fld.ERR_FIRST_UNC_SOURCE : Fld := ⟨Reg.ERR_FIRST_UNC, 32, 16⟩

/-- R904. -/
def Reg.ERR_FIRST_UNC_TIDE : Nat := 0x3000030
def Fld.ERR_FIRST_UNC_TIDE_TIDE : Fld := ⟨Reg.ERR_FIRST_UNC_TIDE, 0, 64⟩

/-- R904. -/
def Reg.ERR_LADDER : Nat := 0x3000038
def Fld.ERR_LADDER_CLAMPS : Fld := ⟨Reg.ERR_LADDER, 0, 32⟩
def Fld.ERR_LADDER_LATE_DISCARDS : Fld := ⟨Reg.ERR_LADDER, 32, 32⟩

/-- R84. -/
def Reg.ERR_GLEDA (n : Nat) : Nat := 0x3000100 + 0x8 * n
def Fld.ERR_GLEDA_REPLAYS (n : Nat) : Fld := ⟨Reg.ERR_GLEDA n, 0, 16⟩
def Fld.ERR_GLEDA_LONE (n : Nat) : Fld := ⟨Reg.ERR_GLEDA n, 16, 16⟩
def Fld.ERR_GLEDA_RETIRED (n : Nat) : Fld := ⟨Reg.ERR_GLEDA n, 32, 4⟩
def Fld.ERR_GLEDA_SPARE_USED (n : Nat) : Fld := ⟨Reg.ERR_GLEDA n, 36, 1⟩
def Fld.ERR_GLEDA_LINK_LOST (n : Nat) : Fld := ⟨Reg.ERR_GLEDA n, 37, 1⟩
def Fld.ERR_GLEDA_TRAINED_ON_SPARE (n : Nat) : Fld := ⟨Reg.ERR_GLEDA n, 38, 1⟩

/-- R85. -/
def Reg.ERR_ALARM : Nat := 0x30001F8
def Fld.ERR_ALARM_BREAK_CW : Fld := ⟨Reg.ERR_ALARM, 0, 1⟩
def Fld.ERR_ALARM_BREAK_CCW : Fld := ⟨Reg.ERR_ALARM, 1, 1⟩
def Fld.ERR_ALARM_BRAKE_HELD : Fld := ⟨Reg.ERR_ALARM, 2, 1⟩

/-- R166. -/
def Reg.LND_AWIN (n : Nat) : Nat := 0x3800000 + 0x8 * n
def Fld.LND_AWIN_ENABLE (n : Nat) : Fld := ⟨Reg.LND_AWIN n, 0, 1⟩
def Fld.LND_AWIN_LIVE (n : Nat) : Fld := ⟨Reg.LND_AWIN n, 1, 1⟩
def Fld.LND_AWIN_WIN_FAULT (n : Nat) : Fld := ⟨Reg.LND_AWIN n, 2, 1⟩

/-- R327. -/
def Reg.LND_HOST_LINK : Nat := 0x3810000
def Fld.LND_HOST_LINK_SPEED : Fld := ⟨Reg.LND_HOST_LINK, 0, 3⟩
def Fld.LND_HOST_LINK_WIDTH : Fld := ⟨Reg.LND_HOST_LINK, 3, 5⟩
def Fld.LND_HOST_LINK_FLIT : Fld := ⟨Reg.LND_HOST_LINK, 8, 1⟩
def Fld.LND_HOST_LINK_LINK_UP : Fld := ⟨Reg.LND_HOST_LINK, 9, 1⟩
def Fld.LND_HOST_LINK_DEVICE_READY : Fld := ⟨Reg.LND_HOST_LINK, 10, 1⟩
def Fld.LND_HOST_LINK_IN_L1 : Fld := ⟨Reg.LND_HOST_LINK, 11, 1⟩
def Fld.LND_HOST_LINK_DOWN_COUNT : Fld := ⟨Reg.LND_HOST_LINK, 16, 16⟩

/-- R327. -/
def Reg.LND_HOST_EVENTS : Nat := 0x3810008
def Fld.LND_HOST_EVENTS_BAD_ACCESS : Fld := ⟨Reg.LND_HOST_EVENTS, 0, 1⟩
def Fld.LND_HOST_EVENTS_POISON_RX : Fld := ⟨Reg.LND_HOST_EVENTS, 1, 1⟩
def Fld.LND_HOST_EVENTS_IDE_INSECURE : Fld := ⟨Reg.LND_HOST_EVENTS, 2, 1⟩
def Fld.LND_HOST_EVENTS_SHORT_DROP : Fld := ⟨Reg.LND_HOST_EVENTS, 3, 1⟩
def Fld.LND_HOST_EVENTS_SLACK_WATER : Fld := ⟨Reg.LND_HOST_EVENTS, 4, 1⟩
def Fld.LND_HOST_EVENTS_HOT_RESET : Fld := ⟨Reg.LND_HOST_EVENTS, 5, 1⟩
def Fld.LND_HOST_EVENTS_PF_FLR : Fld := ⟨Reg.LND_HOST_EVENTS, 6, 1⟩
def Fld.LND_HOST_EVENTS_UNEXPECTED_CPL : Fld := ⟨Reg.LND_HOST_EVENTS, 7, 1⟩

/-- R327. -/
def Reg.LND_HOST_BADADDR : Nat := 0x3810010
def Fld.LND_HOST_BADADDR_OFFSET : Fld := ⟨Reg.LND_HOST_BADADDR, 0, 26⟩
def Fld.LND_HOST_BADADDR_FUNC : Fld := ⟨Reg.LND_HOST_BADADDR, 26, 8⟩
def Fld.LND_HOST_BADADDR_WRITE : Fld := ⟨Reg.LND_HOST_BADADDR, 34, 1⟩

/-- R327. -/
def Reg.LND_HOST_LTR : Nat := 0x3810018
def Fld.LND_HOST_LTR_ACT_VALUE : Fld := ⟨Reg.LND_HOST_LTR, 0, 10⟩
def Fld.LND_HOST_LTR_ACT_SCALE : Fld := ⟨Reg.LND_HOST_LTR, 10, 3⟩
def Fld.LND_HOST_LTR_IDLE_VALUE : Fld := ⟨Reg.LND_HOST_LTR, 16, 10⟩
def Fld.LND_HOST_LTR_IDLE_SCALE : Fld := ⟨Reg.LND_HOST_LTR, 26, 3⟩
def Fld.LND_HOST_LTR_IDLE_AFTER_US : Fld := ⟨Reg.LND_HOST_LTR, 32, 16⟩

/-- R327. -/
def Reg.LND_HOST_ASPM : Nat := 0x3810020
def Fld.LND_HOST_ASPM_L1_IDLE_US : Fld := ⟨Reg.LND_HOST_ASPM, 0, 16⟩

/-- R327. -/
def Reg.LND_HOST_COUNTS : Nat := 0x3810038
def Fld.LND_HOST_COUNTS_UR_SENT : Fld := ⟨Reg.LND_HOST_COUNTS, 0, 16⟩
def Fld.LND_HOST_COUNTS_POISON_RX : Fld := ⟨Reg.LND_HOST_COUNTS, 16, 16⟩
def Fld.LND_HOST_COUNTS_CPL_TIMEOUT : Fld := ⟨Reg.LND_HOST_COUNTS, 32, 16⟩
def Fld.LND_HOST_COUNTS_IDE_FAIL : Fld := ⟨Reg.LND_HOST_COUNTS, 48, 16⟩

/-- R327. -/
def Reg.LND_HOST_FLR (w : Nat) : Nat := 0x3810028 + 0x8 * w
def Fld.LND_HOST_FLR_IN_FLR (w : Nat) : Fld := ⟨Reg.LND_HOST_FLR w, 0, 64⟩

/-- R300. -/
def Reg.MSIX_PF_ADDR (v : Nat) : Nat := 0x3880000 + 0x10 * v
def Fld.MSIX_PF_ADDR_ADDR (v : Nat) : Fld := ⟨Reg.MSIX_PF_ADDR v, 0, 64⟩

/-- R300. -/
def Reg.MSIX_PF_DATA (v : Nat) : Nat := 0x3880008 + 0x10 * v
def Fld.MSIX_PF_DATA_DATA (v : Nat) : Fld := ⟨Reg.MSIX_PF_DATA v, 0, 32⟩
def Fld.MSIX_PF_DATA_MASK (v : Nat) : Fld := ⟨Reg.MSIX_PF_DATA v, 32, 1⟩

/-- R300. -/
def Reg.MSIX_PF_PBA (w : Nat) : Nat := 0x3890000 + 0x8 * w
def Fld.MSIX_PF_PBA_PENDING (w : Nat) : Fld := ⟨Reg.MSIX_PF_PBA w, 0, 64⟩

/-- R140. -/
def Reg.MSIX_VF_ADDR (f v : Nat) : Nat := 0x30000 + 0x4000000 * f + 0x10 * v
def Fld.MSIX_VF_ADDR_ADDR (f v : Nat) : Fld := ⟨Reg.MSIX_VF_ADDR f v, 0, 64⟩

/-- R140. -/
def Reg.MSIX_VF_DATA (f v : Nat) : Nat := 0x30008 + 0x4000000 * f + 0x10 * v
def Fld.MSIX_VF_DATA_DATA (f v : Nat) : Fld := ⟨Reg.MSIX_VF_DATA f v, 0, 32⟩
def Fld.MSIX_VF_DATA_MASK (f v : Nat) : Fld := ⟨Reg.MSIX_VF_DATA f v, 32, 1⟩

/-- R140. -/
def Reg.MSIX_VF_PBA (f : Nat) : Nat := 0x38000 + 0x4000000 * f
def Fld.MSIX_VF_PBA_PENDING (f : Nat) : Fld := ⟨Reg.MSIX_VF_PBA f, 0, 64⟩

/-- R167. -/
def Reg.TOLL_CTRL : Nat := 0x3900000
def Fld.TOLL_CTRL_ENABLE : Fld := ⟨Reg.TOLL_CTRL, 0, 1⟩
def Fld.TOLL_CTRL_CTRL_REFUSED : Fld := ⟨Reg.TOLL_CTRL, 1, 1⟩

/-- R167. -/
def Reg.TOLL_REGION : Nat := 0x3900008
def Fld.TOLL_REGION_BASE : Fld := ⟨Reg.TOLL_REGION, 21, 17⟩
def Fld.TOLL_REGION_SIZE : Fld := ⟨Reg.TOLL_REGION, 48, 13⟩

/-- R167. -/
def Reg.TOLL_INV : Nat := 0x3900010
def Fld.TOLL_INV_SCOPE : Fld := ⟨Reg.TOLL_INV, 0, 2⟩
def Fld.TOLL_INV_CTX : Fld := ⟨Reg.TOLL_INV, 2, 8⟩
def Fld.TOLL_INV_GO : Fld := ⟨Reg.TOLL_INV, 63, 1⟩

/-- R167. -/
def Reg.TOLL_INV_RANGE : Nat := 0x3900018
def Fld.TOLL_INV_RANGE_BASE : Fld := ⟨Reg.TOLL_INV_RANGE, 12, 36⟩
def Fld.TOLL_INV_RANGE_LOG2 : Fld := ⟨Reg.TOLL_INV_RANGE, 48, 6⟩

/-- R167. -/
def Reg.TOLL_INV_STATUS : Nat := 0x3900020
def Fld.TOLL_INV_STATUS_ISSUED : Fld := ⟨Reg.TOLL_INV_STATUS, 0, 32⟩
def Fld.TOLL_INV_STATUS_DONE : Fld := ⟨Reg.TOLL_INV_STATUS, 32, 32⟩

/-- R167. -/
def Reg.TOLL_INV_FLAGS : Nat := 0x3900028
def Fld.TOLL_INV_FLAGS_PENDING : Fld := ⟨Reg.TOLL_INV_FLAGS, 0, 5⟩
def Fld.TOLL_INV_FLAGS_INV_REFUSED : Fld := ⟨Reg.TOLL_INV_FLAGS, 5, 1⟩

/-- R167. -/
def Reg.TOLL_FAULT_PTR : Nat := 0x3900030
def Fld.TOLL_FAULT_PTR_NEXT : Fld := ⟨Reg.TOLL_FAULT_PTR, 0, 8⟩
def Fld.TOLL_FAULT_PTR_TOTAL : Fld := ⟨Reg.TOLL_FAULT_PTR, 8, 32⟩

/-- R274. -/
def Reg.TOLL_MOOR : Nat := 0x3900038
def Fld.TOLL_MOOR_ENABLE : Fld := ⟨Reg.TOLL_MOOR, 0, 1⟩
def Fld.TOLL_MOOR_BUSY : Fld := ⟨Reg.TOLL_MOOR, 1, 1⟩
def Fld.TOLL_MOOR_MOOR_REFUSED : Fld := ⟨Reg.TOLL_MOOR, 2, 1⟩
def Fld.TOLL_MOOR_LOG2_ENTRIES : Fld := ⟨Reg.TOLL_MOOR, 3, 5⟩
def Fld.TOLL_MOOR_BASE : Fld := ⟨Reg.TOLL_MOOR, 12, 26⟩

/-- R274. -/
def Reg.TOLL_MOOR_USED : Nat := 0x3900040
def Fld.TOLL_MOOR_USED_USED : Fld := ⟨Reg.TOLL_MOOR_USED, 0, 21⟩
def Fld.TOLL_MOOR_USED_KEY_FAULTS : Fld := ⟨Reg.TOLL_MOOR_USED, 32, 32⟩

/-- R167. -/
def Reg.TOLL_ROOT (c : Nat) : Nat := 0x3901000 + 0x8 * c
def Fld.TOLL_ROOT_VALID (c : Nat) : Fld := ⟨Reg.TOLL_ROOT c, 0, 1⟩
def Fld.TOLL_ROOT_ROOT (c : Nat) : Fld := ⟨Reg.TOLL_ROOT c, 12, 26⟩

/-- R167. -/
def Reg.TOLL_FAULT_COUNT (c : Nat) : Nat := 0x3902000 + 0x8 * c
def Fld.TOLL_FAULT_COUNT_FAULTS (c : Nat) : Fld := ⟨Reg.TOLL_FAULT_COUNT c, 0, 32⟩

/-- R169. -/
def Reg.TOLL_FAULT_LOG (i w : Nat) : Nat := 0x3904000 + 0x20 * i + 0x8 * w
def Fld.TOLL_FAULT_LOG_RECORD (i w : Nat) : Fld := ⟨Reg.TOLL_FAULT_LOG i w, 0, 64⟩

/-- The registers of spec/01. -/
def regTable01 : List RegSpec := [
  ⟨"IDENT_NODE", 0x40, 1, 0x8, 1, 0x8, [⟨0, 12, .rw, 0, []⟩, ⟨16, 1, .rw, 0, []⟩, ⟨17, 1, .ro, 0, []⟩, ⟨18, 1, .w1c, 0, []⟩]⟩,
  ⟨"IDENT_TRAY", 0x48, 1, 0x8, 1, 0x8, [⟨0, 4, .ro, 0, []⟩, ⟨4, 8, .ro, 0, []⟩, ⟨12, 2, .ro, 0, []⟩, ⟨14, 1, .ro, 0, []⟩]⟩]

/-- The registers of spec/02. -/
def regTable02 : List RegSpec := [
  ⟨"IDENT_HBM_MAP", 0x80, 1, 0x8, 1, 0x8, [⟨0, 8, .rw, 0, []⟩, ⟨8, 1, .w1c, 0, []⟩]⟩,
  ⟨"IDENT_CISTERN", 0x88, 1, 0x8, 1, 0x8, [⟨0, 5, .rw, 0, [(0, 16)]⟩, ⟨5, 5, .rw, 0, [(0, 16)]⟩, ⟨10, 5, .rw, 0, [(0, 16)]⟩, ⟨15, 5, .rw, 0, [(0, 16)]⟩, ⟨20, 1, .ro, 0, []⟩, ⟨21, 1, .w1c, 0, []⟩]⟩,
  ⟨"ERR_GLEDA", 0x3000100, 21, 0x8, 1, 0x8, [⟨0, 16, .rc, 0, []⟩, ⟨16, 16, .rc, 0, []⟩, ⟨32, 4, .ro, 15, []⟩, ⟨36, 1, .ro, 0, []⟩, ⟨37, 1, .ro, 0, []⟩, ⟨38, 1, .ro, 0, []⟩]⟩,
  ⟨"ERR_ALARM", 0x30001F8, 1, 0x8, 1, 0x8, [⟨0, 1, .ro, 0, []⟩, ⟨1, 1, .ro, 0, []⟩, ⟨2, 1, .ro, 0, []⟩]⟩]

/-- The registers of spec/03. -/
def regTable03 : List RegSpec := [
  ⟨"CLK_REF_STATUS", 0x300000, 1, 0x8, 1, 0x8, [⟨0, 1, .ro, 0, []⟩, ⟨1, 1, .ro, 0, []⟩, ⟨2, 1, .w1c, 0, []⟩, ⟨3, 1, .w1c, 0, []⟩, ⟨4, 1, .ro, 0, []⟩, ⟨5, 1, .ro, 0, []⟩]⟩,
  ⟨"CLK_DLL_FAULT", 0x300008, 1, 0x8, 1, 0x8, [⟨0, 21, .w1c, 0, []⟩, ⟨21, 8, .w1c, 0, []⟩, ⟨29, 21, .w1c, 0, []⟩, ⟨50, 8, .w1c, 0, []⟩]⟩,
  ⟨"CLK_ISL_TARGET", 0x301000, 116, 0x10, 1, 0x8, [⟨0, 24, .rw, 0, []⟩, ⟨24, 7, .rw, 0, []⟩, ⟨32, 4, .rw, 0, [(2, 15)]⟩, ⟨36, 1, .rw, 0, []⟩, ⟨63, 1, .wo, 0, []⟩]⟩,
  ⟨"CLK_ISL_STATUS", 0x301008, 116, 0x10, 1, 0x8, [⟨0, 16, .ro, 0, []⟩, ⟨16, 1, .ro, 0, []⟩, ⟨17, 1, .ro, 0, []⟩, ⟨18, 2, .ro, 2, []⟩, ⟨20, 1, .ro, 0, []⟩, ⟨21, 1, .w1c, 0, []⟩, ⟨22, 1, .w1c, 0, []⟩, ⟨23, 1, .ro, 0, []⟩, ⟨24, 8, .rc, 0, []⟩, ⟨32, 32, .ro, 0, []⟩]⟩]

/-- The registers of spec/04. -/
def regTable04 : List RegSpec := [
  ⟨"LND_AWIN", 0x3800000, 4, 0x8, 1, 0x8, [⟨0, 1, .rw, 0, []⟩, ⟨1, 1, .ro, 0, []⟩, ⟨2, 1, .w1c, 0, []⟩]⟩,
  ⟨"TOLL_CTRL", 0x3900000, 1, 0x8, 1, 0x8, [⟨0, 1, .rw, 0, []⟩, ⟨1, 1, .w1c, 0, []⟩]⟩,
  ⟨"TOLL_REGION", 0x3900008, 1, 0x8, 1, 0x8, [⟨21, 17, .rw, 0, []⟩, ⟨48, 13, .rw, 0, [(0, 4096)]⟩]⟩,
  ⟨"TOLL_INV", 0x3900010, 1, 0x8, 1, 0x8, [⟨0, 2, .wo, 0, []⟩, ⟨2, 8, .wo, 0, []⟩, ⟨63, 1, .wo, 0, []⟩]⟩,
  ⟨"TOLL_INV_RANGE", 0x3900018, 1, 0x8, 1, 0x8, [⟨12, 36, .rw, 0, []⟩, ⟨48, 6, .rw, 12, [(12, 48)]⟩]⟩,
  ⟨"TOLL_INV_STATUS", 0x3900020, 1, 0x8, 1, 0x8, [⟨0, 32, .ro, 0, []⟩, ⟨32, 32, .ro, 0, []⟩]⟩,
  ⟨"TOLL_INV_FLAGS", 0x3900028, 1, 0x8, 1, 0x8, [⟨0, 5, .ro, 0, []⟩, ⟨5, 1, .w1c, 0, []⟩]⟩,
  ⟨"TOLL_FAULT_PTR", 0x3900030, 1, 0x8, 1, 0x8, [⟨0, 8, .ro, 0, []⟩, ⟨8, 32, .ro, 0, []⟩]⟩,
  ⟨"TOLL_ROOT", 0x3901000, 133, 0x8, 1, 0x8, [⟨0, 1, .rw, 0, []⟩, ⟨12, 26, .rw, 0, []⟩]⟩,
  ⟨"TOLL_FAULT_COUNT", 0x3902000, 133, 0x8, 1, 0x8, [⟨0, 32, .rc, 0, []⟩]⟩,
  ⟨"TOLL_FAULT_LOG", 0x3904000, 256, 0x20, 4, 0x8, [⟨0, 64, .ro, 0, []⟩]⟩]

/-- The registers of spec/05. -/
def regTable05 : List RegSpec := [
  ⟨"RING_DESC_CTRL", 0x210000, 64, 0x40, 1, 0x8, [⟨0, 1, .rw, 0, []⟩, ⟨1, 5, .rw, 6, [(6, 16)]⟩, ⟨6, 2, .rw, 3, []⟩, ⟨8, 2, .rw, 0, [(0, 1)]⟩, ⟨10, 1, .rw, 0, []⟩, ⟨11, 11, .rw, 0, []⟩]⟩,
  ⟨"RING_DESC_CTRL", 0x101000, 128, 0x2000, 64, 0x40, [⟨0, 1, .rw, 0, []⟩, ⟨1, 5, .rw, 6, [(6, 16)]⟩, ⟨6, 2, .rw, 3, []⟩, ⟨8, 2, .rw, 0, [(0, 1)]⟩, ⟨10, 1, .rw, 0, []⟩, ⟨11, 11, .rw, 0, []⟩]⟩,
  ⟨"RING_DESC_TBASE", 0x210008, 64, 0x40, 1, 0x8, [⟨0, 48, .rw, 0, []⟩]⟩,
  ⟨"RING_DESC_TBASE", 0x101008, 128, 0x2000, 64, 0x40, [⟨0, 48, .rw, 0, []⟩]⟩,
  ⟨"RING_DESC_ABASE", 0x210010, 64, 0x40, 1, 0x8, [⟨0, 48, .rw, 0, []⟩]⟩,
  ⟨"RING_DESC_ABASE", 0x101010, 128, 0x2000, 64, 0x40, [⟨0, 48, .rw, 0, []⟩]⟩,
  ⟨"RING_DESC_INIT", 0x210018, 64, 0x40, 1, 0x8, [⟨0, 32, .rw, 0, []⟩]⟩,
  ⟨"RING_DESC_INIT", 0x101018, 128, 0x2000, 64, 0x40, [⟨0, 32, .rw, 0, []⟩]⟩,
  ⟨"RING_DESC_MIRROR", 0x210020, 64, 0x40, 1, 0x8, [⟨0, 48, .rw, 0, []⟩, ⟨48, 1, .rw, 0, []⟩]⟩,
  ⟨"RING_DESC_MIRROR", 0x101020, 128, 0x2000, 64, 0x40, [⟨0, 48, .rw, 0, []⟩, ⟨48, 1, .rw, 0, []⟩]⟩,
  ⟨"RING_DESC_COAL", 0x210028, 64, 0x40, 1, 0x8, [⟨0, 16, .rw, 0, []⟩, ⟨16, 16, .rw, 0, []⟩]⟩,
  ⟨"RING_DESC_COAL", 0x101028, 128, 0x2000, 64, 0x40, [⟨0, 16, .rw, 0, []⟩, ⟨16, 16, .rw, 0, []⟩]⟩,
  ⟨"RING_SEQS", 0x200000, 64, 0x400, 1, 0x8, [⟨0, 32, .ro, 0, []⟩, ⟨32, 32, .ro, 0, []⟩]⟩,
  ⟨"RING_SEQS", 0x4020000, 128, 0x4000000, 64, 0x400, [⟨0, 32, .ro, 0, []⟩, ⟨32, 32, .ro, 0, []⟩]⟩,
  ⟨"RING_TAIL", 0x200008, 64, 0x400, 1, 0x8, [⟨0, 32, .ro, 0, []⟩]⟩,
  ⟨"RING_TAIL", 0x4020008, 128, 0x4000000, 64, 0x400, [⟨0, 32, .ro, 0, []⟩]⟩,
  ⟨"RING_REAPED", 0x200010, 64, 0x400, 1, 0x8, [⟨0, 32, .rw, 0, []⟩]⟩,
  ⟨"RING_REAPED", 0x4020010, 128, 0x4000000, 64, 0x400, [⟨0, 32, .rw, 0, []⟩]⟩,
  ⟨"RING_STATE", 0x200018, 64, 0x400, 1, 0x8, [⟨0, 3, .ro, 0, []⟩, ⟨8, 4, .ro, 0, []⟩, ⟨16, 1, .w1c, 0, []⟩, ⟨17, 1, .w1c, 0, []⟩, ⟨32, 17, .ro, 0, []⟩]⟩,
  ⟨"RING_STATE", 0x4020018, 128, 0x4000000, 64, 0x400, [⟨0, 3, .ro, 0, []⟩, ⟨8, 4, .ro, 0, []⟩, ⟨16, 1, .w1c, 0, []⟩, ⟨17, 1, .w1c, 0, []⟩, ⟨32, 17, .ro, 0, []⟩]⟩,
  ⟨"RING_OP", 0x200020, 64, 0x400, 1, 0x8, [⟨0, 3, .wo, 0, []⟩]⟩,
  ⟨"RING_OP", 0x4020020, 128, 0x4000000, 64, 0x400, [⟨0, 3, .wo, 0, []⟩]⟩,
  ⟨"RING_COUNTS", 0x200028, 64, 0x400, 1, 0x8, [⟨0, 16, .rc, 0, []⟩, ⟨16, 16, .rc, 0, []⟩, ⟨32, 16, .rc, 0, []⟩, ⟨48, 16, .rc, 0, []⟩]⟩,
  ⟨"RING_COUNTS", 0x4020028, 128, 0x4000000, 64, 0x400, [⟨0, 16, .rc, 0, []⟩, ⟨16, 16, .rc, 0, []⟩, ⟨32, 16, .rc, 0, []⟩, ⟨48, 16, .rc, 0, []⟩]⟩]

/-- The registers of spec/06. -/
def regTable06 : List RegSpec := [
  ⟨"BERTH0_SRC_MAC", 0x20000, 8, 0x8, 1, 0x8, [⟨0, 48, .rw, 0, []⟩, ⟨48, 12, .rw, 0, []⟩, ⟨60, 1, .rw, 0, []⟩]⟩,
  ⟨"BERTH0_SRC_IP", 0x20040, 8, 0x10, 2, 0x8, [⟨0, 64, .rw, 0, []⟩]⟩,
  ⟨"BERTH0_SRC_VALID", 0x200C0, 1, 0x8, 1, 0x8, [⟨0, 8, .rw, 0, []⟩, ⟨8, 8, .rw, 0, []⟩]⟩,
  ⟨"BPLAN_CTRL", 0x100000, 128, 0x2000, 1, 0x8, [⟨0, 2, .ro, 0, []⟩, ⟨2, 1, .wo, 0, []⟩, ⟨3, 1, .wo, 0, []⟩, ⟨4, 1, .wo, 0, []⟩, ⟨5, 1, .w1c, 0, []⟩, ⟨6, 1, .w1c, 0, []⟩, ⟨8, 4, .ro, 0, []⟩, ⟨16, 16, .ro, 0, []⟩, ⟨32, 16, .ro, 0, []⟩]⟩,
  ⟨"BPLAN_RIGHTS", 0x100008, 128, 0x2000, 1, 0x8, [⟨0, 4, .rw, 0, []⟩, ⟨4, 2, .rw, 3, []⟩, ⟨6, 1, .rw, 0, []⟩, ⟨7, 1, .rw, 0, []⟩, ⟨8, 1, .rw, 0, []⟩, ⟨9, 1, .rw, 0, []⟩, ⟨10, 1, .rw, 0, []⟩, ⟨11, 1, .rw, 0, []⟩, ⟨12, 1, .rw, 0, []⟩]⟩,
  ⟨"CPLAN_RIGHTS", 0x100408, 128, 0x2000, 1, 0x8, [⟨0, 4, .ro, 0, []⟩, ⟨4, 2, .ro, 3, []⟩, ⟨6, 1, .ro, 0, []⟩, ⟨7, 1, .ro, 0, []⟩, ⟨8, 1, .ro, 0, []⟩, ⟨9, 1, .ro, 0, []⟩, ⟨10, 1, .ro, 0, []⟩, ⟨11, 1, .ro, 0, []⟩, ⟨12, 1, .ro, 0, []⟩]⟩,
  ⟨"BPLAN_QUOTA", 0x100010, 128, 0x2000, 1, 0x8, [⟨0, 7, .rw, 0, [(0, 64)]⟩, ⟨8, 21, .rw, 0, [(0, 1048576)]⟩, ⟨32, 17, .rw, 0, [(0, 65536)]⟩]⟩,
  ⟨"CPLAN_QUOTA", 0x100410, 128, 0x2000, 1, 0x8, [⟨0, 7, .ro, 0, []⟩, ⟨8, 21, .ro, 0, []⟩, ⟨32, 17, .ro, 0, []⟩]⟩,
  ⟨"BPLAN_MEM", 0x100018, 128, 0x2000, 1, 0x8, [⟨0, 19, .rw, 0, [(0, 262144)]⟩, ⟨32, 9, .rw, 0, [(0, 256)]⟩]⟩,
  ⟨"CPLAN_MEM", 0x100418, 128, 0x2000, 1, 0x8, [⟨0, 19, .ro, 0, []⟩, ⟨32, 9, .ro, 0, []⟩]⟩,
  ⟨"BPLAN_RATE", 0x100020, 128, 0x2000, 1, 0x8, [⟨0, 16, .rw, 0, []⟩, ⟨16, 16, .rw, 0, []⟩, ⟨32, 16, .rw, 0, []⟩]⟩,
  ⟨"CPLAN_RATE", 0x100420, 128, 0x2000, 1, 0x8, [⟨0, 16, .ro, 0, []⟩, ⟨16, 16, .ro, 0, []⟩, ⟨32, 16, .ro, 0, []⟩]⟩,
  ⟨"BPLAN_SHARE", 0x100028, 128, 0x2000, 1, 0x8, [⟨0, 8, .rw, 1, [(1, 255)]⟩, ⟨16, 10, .rw, 10, [(1, 1000)]⟩]⟩,
  ⟨"CPLAN_SHARE", 0x100428, 128, 0x2000, 1, 0x8, [⟨0, 8, .ro, 1, []⟩, ⟨16, 10, .ro, 10, []⟩]⟩,
  ⟨"BPLAN_PANS", 0x100040, 128, 0x2000, 4, 0x8, [⟨0, 64, .rw, 0, []⟩]⟩,
  ⟨"CPLAN_PANS", 0x100440, 128, 0x2000, 4, 0x8, [⟨0, 64, .ro, 0, []⟩]⟩,
  ⟨"BPLAN_VOL", 0x100080, 128, 0x2000, 16, 0x8, [⟨0, 12, .rw, 0, []⟩, ⟨12, 1, .rw, 0, []⟩, ⟨13, 1, .rw, 0, []⟩]⟩,
  ⟨"CPLAN_VOL", 0x100480, 128, 0x2000, 16, 0x8, [⟨0, 12, .ro, 0, []⟩, ⟨12, 1, .ro, 0, []⟩, ⟨13, 1, .ro, 0, []⟩]⟩,
  ⟨"BPLAN_SRC_MAC", 0x100100, 128, 0x2000, 8, 0x8, [⟨0, 48, .rw, 0, []⟩, ⟨48, 12, .rw, 0, []⟩, ⟨60, 1, .rw, 0, []⟩]⟩,
  ⟨"CPLAN_SRC_MAC", 0x100500, 128, 0x2000, 8, 0x8, [⟨0, 48, .ro, 0, []⟩, ⟨48, 12, .ro, 0, []⟩, ⟨60, 1, .ro, 0, []⟩]⟩,
  ⟨"BPLAN_SRC_IP", 0x100140, 128, 0x2000, 16, 0x8, [⟨0, 64, .rw, 0, []⟩]⟩,
  ⟨"CPLAN_SRC_IP", 0x100540, 128, 0x2000, 16, 0x8, [⟨0, 64, .ro, 0, []⟩]⟩,
  ⟨"BPLAN_SRC_VALID", 0x1001C0, 128, 0x2000, 1, 0x8, [⟨0, 8, .rw, 0, []⟩, ⟨8, 8, .rw, 0, []⟩]⟩,
  ⟨"CPLAN_SRC_VALID", 0x1005C0, 128, 0x2000, 1, 0x8, [⟨0, 8, .ro, 0, []⟩, ⟨8, 8, .ro, 0, []⟩]⟩,
  ⟨"CNT_TICKETS", 0x100800, 128, 0x2000, 1, 0x8, [⟨0, 64, .rc, 0, []⟩]⟩,
  ⟨"CNT_NET_TX", 0x100808, 128, 0x2000, 1, 0x8, [⟨0, 64, .rc, 0, []⟩]⟩,
  ⟨"CNT_NET_RX", 0x100810, 128, 0x2000, 1, 0x8, [⟨0, 64, .rc, 0, []⟩]⟩,
  ⟨"CNT_STO", 0x100818, 128, 0x2000, 1, 0x8, [⟨0, 64, .rc, 0, []⟩]⟩,
  ⟨"CNT_ACCEL", 0x100820, 128, 0x2000, 1, 0x8, [⟨0, 64, .rc, 0, []⟩]⟩,
  ⟨"CNT_REFUSED", 0x100828, 128, 0x2000, 1, 0x8, [⟨0, 32, .rc, 0, []⟩, ⟨32, 32, .rc, 0, []⟩]⟩,
  ⟨"CNT_LIMITS", 0x100830, 128, 0x2000, 1, 0x8, [⟨0, 32, .rc, 0, []⟩, ⟨32, 32, .rc, 0, []⟩]⟩,
  ⟨"USAGE", 0x100838, 128, 0x2000, 1, 0x8, [⟨0, 7, .ro, 0, []⟩, ⟨8, 21, .ro, 0, []⟩, ⟨32, 17, .ro, 0, []⟩]⟩,
  ⟨"USAGE_MEM", 0x100840, 128, 0x2000, 1, 0x8, [⟨0, 19, .ro, 0, []⟩, ⟨32, 9, .ro, 0, []⟩]⟩]

/-- The registers of spec/07. -/
def regTable07 : List RegSpec := [
  ⟨"TOLL_MOOR", 0x3900038, 1, 0x8, 1, 0x8, [⟨0, 1, .rw, 0, []⟩, ⟨1, 1, .ro, 0, []⟩, ⟨2, 1, .w1c, 0, []⟩, ⟨3, 5, .rw, 20, [(10, 20)]⟩, ⟨12, 26, .rw, 0, []⟩]⟩,
  ⟨"TOLL_MOOR_USED", 0x3900040, 1, 0x8, 1, 0x8, [⟨0, 21, .ro, 0, []⟩, ⟨32, 32, .rc, 0, []⟩]⟩]

/-- The registers of spec/08. -/
def regTable08 : List RegSpec := [
  ⟨"LND_HOST_LINK", 0x3810000, 1, 0x8, 1, 0x8, [⟨0, 3, .ro, 0, []⟩, ⟨3, 5, .ro, 0, []⟩, ⟨8, 1, .ro, 0, []⟩, ⟨9, 1, .ro, 0, []⟩, ⟨10, 1, .ro, 0, []⟩, ⟨11, 1, .ro, 0, []⟩, ⟨16, 16, .rc, 0, []⟩]⟩,
  ⟨"LND_HOST_EVENTS", 0x3810008, 1, 0x8, 1, 0x8, [⟨0, 1, .w1c, 0, []⟩, ⟨1, 1, .w1c, 0, []⟩, ⟨2, 1, .w1c, 0, []⟩, ⟨3, 1, .w1c, 0, []⟩, ⟨4, 1, .w1c, 0, []⟩, ⟨5, 1, .w1c, 0, []⟩, ⟨6, 1, .w1c, 0, []⟩, ⟨7, 1, .w1c, 0, []⟩]⟩,
  ⟨"LND_HOST_BADADDR", 0x3810010, 1, 0x8, 1, 0x8, [⟨0, 26, .ro, 0, []⟩, ⟨26, 8, .ro, 0, []⟩, ⟨34, 1, .ro, 0, []⟩]⟩,
  ⟨"LND_HOST_LTR", 0x3810018, 1, 0x8, 1, 0x8, [⟨0, 10, .rw, 2, []⟩, ⟨10, 3, .rw, 2, [(0, 5)]⟩, ⟨16, 10, .rw, 1, []⟩, ⟨26, 3, .rw, 4, [(0, 5)]⟩, ⟨32, 16, .rw, 100, []⟩]⟩,
  ⟨"LND_HOST_ASPM", 0x3810020, 1, 0x8, 1, 0x8, [⟨0, 16, .rw, 20, []⟩]⟩,
  ⟨"LND_HOST_COUNTS", 0x3810038, 1, 0x8, 1, 0x8, [⟨0, 16, .rc, 0, []⟩, ⟨16, 16, .rc, 0, []⟩, ⟨32, 16, .rc, 0, []⟩, ⟨48, 16, .rc, 0, []⟩]⟩,
  ⟨"LND_HOST_FLR", 0x3810028, 2, 0x8, 1, 0x8, [⟨0, 64, .ro, 0, []⟩]⟩,
  ⟨"MSIX_PF_ADDR", 0x3880000, 2048, 0x10, 1, 0x8, [⟨0, 64, .rw, 0, []⟩]⟩,
  ⟨"MSIX_PF_DATA", 0x3880008, 2048, 0x10, 1, 0x8, [⟨0, 32, .rw, 0, []⟩, ⟨32, 1, .rw, 1, []⟩]⟩,
  ⟨"MSIX_PF_PBA", 0x3890000, 32, 0x8, 1, 0x8, [⟨0, 64, .ro, 0, []⟩]⟩,
  ⟨"MSIX_VF_ADDR", 0x4030000, 128, 0x4000000, 64, 0x10, [⟨0, 64, .rw, 0, []⟩]⟩,
  ⟨"MSIX_VF_DATA", 0x4030008, 128, 0x4000000, 64, 0x10, [⟨0, 32, .rw, 0, []⟩, ⟨32, 1, .rw, 1, []⟩]⟩,
  ⟨"MSIX_VF_PBA", 0x4038000, 128, 0x4000000, 1, 0x8, [⟨0, 64, .ro, 0, []⟩]⟩]

/-- The registers of spec/09. -/
def regTable09 : List RegSpec := [
  ⟨"LND_AP_CTRL", 0x3820000, 4, 0x1000, 1, 0x8, [⟨0, 1, .rw, 1, []⟩, ⟨1, 1, .wo, 0, []⟩, ⟨2, 1, .wo, 0, []⟩, ⟨3, 1, .rw, 0, []⟩, ⟨16, 16, .rw, 500, []⟩, ⟨32, 16, .rw, 2000, [(100, 65535)]⟩, ⟨48, 16, .rw, 0, []⟩]⟩,
  ⟨"WHF_DP_CTRL", 0x700000, 8, 0x100, 1, 0x8, [⟨0, 1, .rw, 1, []⟩, ⟨1, 1, .wo, 0, []⟩, ⟨2, 1, .wo, 0, []⟩, ⟨3, 1, .rw, 0, []⟩, ⟨16, 16, .rw, 500, []⟩, ⟨32, 16, .rw, 2000, [(100, 65535)]⟩, ⟨48, 16, .rw, 0, []⟩]⟩,
  ⟨"LND_AP_STATUS", 0x3820008, 4, 0x1000, 1, 0x8, [⟨0, 3, .ro, 0, []⟩, ⟨3, 5, .ro, 0, []⟩, ⟨8, 1, .ro, 0, []⟩, ⟨9, 3, .ro, 0, []⟩, ⟨12, 4, .ro, 0, []⟩, ⟨16, 1, .w1c, 0, []⟩, ⟨17, 1, .w1c, 0, []⟩, ⟨18, 1, .w1c, 0, []⟩, ⟨19, 1, .ro, 0, []⟩, ⟨20, 1, .w1c, 0, []⟩, ⟨24, 8, .ro, 0, []⟩]⟩,
  ⟨"WHF_DP_STATUS", 0x700008, 8, 0x100, 1, 0x8, [⟨0, 3, .ro, 0, []⟩, ⟨3, 5, .ro, 0, []⟩, ⟨8, 1, .ro, 0, []⟩, ⟨9, 3, .ro, 0, []⟩, ⟨12, 4, .ro, 0, []⟩, ⟨16, 1, .w1c, 0, []⟩, ⟨17, 1, .w1c, 0, []⟩, ⟨18, 1, .w1c, 0, []⟩, ⟨19, 1, .ro, 0, []⟩, ⟨20, 1, .w1c, 0, []⟩, ⟨24, 8, .ro, 0, []⟩]⟩,
  ⟨"LND_AP_ERR", 0x3820020, 4, 0x1000, 1, 0x8, [⟨0, 1, .w1c, 0, []⟩, ⟨1, 1, .w1c, 0, []⟩, ⟨2, 1, .w1c, 0, []⟩, ⟨3, 1, .w1c, 0, []⟩, ⟨4, 1, .w1c, 0, []⟩, ⟨5, 1, .w1c, 0, []⟩, ⟨6, 1, .w1c, 0, []⟩, ⟨7, 1, .w1c, 0, []⟩, ⟨16, 16, .ro, 0, []⟩]⟩,
  ⟨"WHF_DP_ERR", 0x700020, 8, 0x100, 1, 0x8, [⟨0, 1, .w1c, 0, []⟩, ⟨1, 1, .w1c, 0, []⟩, ⟨2, 1, .w1c, 0, []⟩, ⟨3, 1, .w1c, 0, []⟩, ⟨4, 1, .w1c, 0, []⟩, ⟨5, 1, .w1c, 0, []⟩, ⟨6, 1, .w1c, 0, []⟩, ⟨7, 1, .w1c, 0, []⟩, ⟨16, 16, .ro, 0, []⟩]⟩,
  ⟨"LND_AP_COUNTS", 0x3820028, 4, 0x1000, 1, 0x8, [⟨0, 16, .rc, 0, []⟩, ⟨16, 16, .rc, 0, []⟩, ⟨32, 16, .rc, 0, []⟩, ⟨48, 16, .rc, 0, []⟩]⟩,
  ⟨"WHF_DP_COUNTS", 0x700028, 8, 0x100, 1, 0x8, [⟨0, 16, .rc, 0, []⟩, ⟨16, 16, .rc, 0, []⟩, ⟨32, 16, .rc, 0, []⟩, ⟨48, 16, .rc, 0, []⟩]⟩,
  ⟨"LND_AP_CFG_ADDR", 0x3820010, 4, 0x1000, 1, 0x8, [⟨2, 10, .rw, 0, []⟩, ⟨12, 3, .rw, 0, []⟩, ⟨15, 1, .rw, 0, []⟩, ⟨16, 4, .rw, 15, []⟩, ⟨63, 1, .wo, 0, []⟩]⟩,
  ⟨"LND_AP_CFG_DATA", 0x3820018, 4, 0x1000, 1, 0x8, [⟨0, 32, .rw, 0, []⟩, ⟨32, 1, .ro, 0, []⟩, ⟨33, 2, .ro, 0, []⟩]⟩,
  ⟨"LND_AP_BAR", 0x3820100, 4, 0x1000, 24, 0x8, [⟨12, 26, .ro, 0, []⟩, ⟨38, 6, .ro, 0, []⟩, ⟨44, 3, .ro, 0, []⟩, ⟨47, 3, .ro, 0, []⟩, ⟨50, 1, .ro, 0, []⟩, ⟨51, 1, .ro, 0, []⟩]⟩]

/-- The registers of spec/10. -/
def regTable10 : List RegSpec := [
  ⟨"WHF_PORT_CTRL", 0x400000, 2, 0x100000, 1, 0x8, [⟨0, 1, .rw, 0, []⟩, ⟨1, 2, .rw, 0, [(0, 2)]⟩, ⟨3, 1, .w1c, 0, []⟩]⟩,
  ⟨"WHF_PORT_STATUS", 0x400008, 2, 0x100000, 1, 0x8, [⟨0, 4, .ro, 0, []⟩, ⟨4, 4, .ro, 1, []⟩]⟩,
  ⟨"WHF_RXPOOL", 0x400010, 2, 0x100000, 1, 0x8, [⟨0, 12, .rw, 1536, [(0, 2048)]⟩, ⟨16, 12, .rw, 1024, [(0, 2048)]⟩, ⟨32, 12, .rw, 512, [(0, 2048)]⟩]⟩,
  ⟨"WHF_MAC_CTRL", 0x400100, 2, 0x100000, 4, 0x40, [⟨0, 1, .rw, 1, []⟩, ⟨2, 8, .rw, 0, []⟩, ⟨10, 3, .rw, 0, []⟩, ⟨16, 14, .rw, 9216, [(1518, 9216)]⟩, ⟨32, 14, .rw, 100, [(10, 10000)]⟩]⟩,
  ⟨"WHF_MAC_STATUS", 0x400108, 2, 0x100000, 4, 0x40, [⟨0, 1, .ro, 0, []⟩, ⟨1, 1, .ro, 0, []⟩, ⟨2, 8, .ro, 0, []⟩, ⟨10, 8, .ro, 0, []⟩, ⟨18, 8, .w1c, 0, []⟩, ⟨32, 16, .rc, 0, []⟩]⟩,
  ⟨"WHF_MAC_ERRS", 0x400110, 2, 0x100000, 4, 0x40, [⟨0, 16, .rc, 0, []⟩, ⟨16, 16, .rc, 0, []⟩, ⟨32, 16, .rc, 0, []⟩, ⟨48, 16, .rc, 0, []⟩]⟩,
  ⟨"WHF_MAC_FRAMES", 0x400118, 2, 0x100000, 4, 0x40, [⟨0, 32, .rc, 0, []⟩, ⟨32, 32, .rc, 0, []⟩]⟩,
  ⟨"MNF_CTRL", 0x401000, 2, 0x100000, 1, 0x8, [⟨0, 16, .ro, 0, []⟩, ⟨16, 1, .wo, 0, []⟩, ⟨17, 1, .wo, 0, []⟩, ⟨18, 1, .ro, 0, []⟩, ⟨19, 1, .w1c, 0, []⟩, ⟨20, 1, .w1c, 0, []⟩, ⟨32, 32, .ro, 0, []⟩]⟩,
  ⟨"MNF_MISS", 0x401008, 2, 0x100000, 1, 0x8, [⟨0, 64, .rw, 0, []⟩]⟩,
  ⟨"MNF_MISS_CUR", 0x401010, 2, 0x100000, 1, 0x8, [⟨0, 64, .ro, 0, []⟩]⟩,
  ⟨"MNF_USED", 0x401020, 2, 0x100000, 1, 0x8, [⟨0, 17, .ro, 0, []⟩, ⟨32, 13, .ro, 0, []⟩]⟩,
  ⟨"MNF_EM_MASK", 0x401040, 2, 0x100000, 7, 0x8, [⟨0, 64, .rw, 18446744073709551615, []⟩]⟩,
  ⟨"MNF_EDIT_CMD", 0x401080, 2, 0x100000, 1, 0x8, [⟨0, 2, .wo, 0, []⟩, ⟨2, 2, .wo, 0, []⟩, ⟨4, 12, .wo, 0, []⟩, ⟨63, 1, .wo, 0, []⟩]⟩,
  ⟨"MNF_EDIT_STATUS", 0x401088, 2, 0x100000, 1, 0x8, [⟨0, 3, .ro, 0, []⟩, ⟨16, 11, .ro, 0, []⟩]⟩,
  ⟨"MNF_EDIT_DATA", 0x401100, 2, 0x100000, 16, 0x8, [⟨0, 64, .rw, 0, []⟩]⟩,
  ⟨"MNF_DROPS", 0x401200, 2, 0x100000, 4, 0x8, [⟨0, 32, .rc, 0, []⟩, ⟨32, 32, .rc, 0, []⟩]⟩,
  ⟨"MNF_METER_RATES", 0x402000, 2, 0x100000, 4096, 0x10, [⟨0, 16, .rw, 0, []⟩, ⟨16, 16, .rw, 0, []⟩, ⟨32, 16, .rw, 0, []⟩, ⟨48, 16, .rw, 0, []⟩]⟩,
  ⟨"MNF_METER_CTRL", 0x402008, 2, 0x100000, 4096, 0x10, [⟨0, 1, .rw, 0, []⟩, ⟨32, 32, .rc, 0, []⟩]⟩,
  ⟨"MNF_DH", 0x420000, 2, 0x100000, 16, 0x8, [⟨0, 1, .ro, 0, []⟩, ⟨16, 16, .rc, 0, []⟩, ⟨32, 32, .rc, 0, []⟩]⟩,
  ⟨"MNF_COUNTER", 0x600000, 2, 0x80000, 65536, 0x8, [⟨0, 64, .rc, 0, []⟩]⟩]

/-- The registers of spec/11. -/
def regTable11 : List RegSpec := [
  ⟨"XCT_CTRL", 0x800000, 1, 0x8, 1, 0x8, [⟨0, 1, .rw, 0, []⟩, ⟨1, 1, .w1c, 0, []⟩, ⟨16, 16, .rw, 7433, [(1, 65535)]⟩]⟩,
  ⟨"XCT_CC", 0x800008, 1, 0x8, 1, 0x8, [⟨0, 16, .rw, 250, [(1, 65535)]⟩, ⟨16, 16, .rw, 2, [(1, 65535)]⟩, ⟨32, 8, .rw, 8, [(1, 255)]⟩]⟩,
  ⟨"XCT_USED", 0x800010, 1, 0x8, 1, 0x8, [⟨0, 17, .ro, 0, []⟩]⟩,
  ⟨"XCT_RX_DROPS", 0x800020, 4, 0x8, 1, 0x8, [⟨0, 32, .rc, 0, []⟩, ⟨32, 32, .rc, 0, []⟩]⟩,
  ⟨"XCT_XING", 0x900000, 65536, 0x10, 1, 0x8, [⟨0, 3, .ro, 0, []⟩, ⟨3, 1, .ro, 0, []⟩, ⟨4, 4, .ro, 0, []⟩, ⟨8, 8, .ro, 0, []⟩, ⟨16, 8, .ro, 0, []⟩, ⟨24, 12, .ro, 0, []⟩, ⟨36, 16, .ro, 0, []⟩, ⟨52, 1, .ro, 0, []⟩, ⟨53, 1, .ro, 0, []⟩, ⟨54, 1, .ro, 0, []⟩]⟩,
  ⟨"XCT_XING_CC", 0x900008, 65536, 0x10, 1, 0x8, [⟨0, 16, .ro, 0, []⟩, ⟨16, 16, .rc, 0, []⟩, ⟨32, 32, .ro, 0, []⟩]⟩]

/-- The registers of spec/13. -/
def regTable13 : List RegSpec := [
  ⟨"STO_CTRL", 0xC00000, 1, 0x8, 1, 0x8, [⟨0, 1, .rw, 0, []⟩, ⟨16, 16, .rw, 5000, [(100, 60000)]⟩]⟩,
  ⟨"STO_DRV_STATE", 0xC01000, 8, 0x40, 1, 0x8, [⟨0, 3, .ro, 0, []⟩, ⟨3, 1, .ro, 0, []⟩]⟩,
  ⟨"STO_DRV_SIZE", 0xC01008, 8, 0x40, 1, 0x8, [⟨0, 40, .ro, 0, []⟩]⟩,
  ⟨"STO_DRV_PM", 0xC01010, 8, 0x40, 1, 0x8, [⟨0, 32, .rw, 0, []⟩, ⟨32, 5, .rw, 0, []⟩, ⟨40, 5, .ro, 0, []⟩]⟩,
  ⟨"STO_DRV_LAT", 0xC01018, 8, 0x40, 1, 0x8, [⟨0, 32, .ro, 0, []⟩, ⟨32, 32, .ro, 0, []⟩]⟩,
  ⟨"STO_DRV_ID", 0xC01020, 8, 0x40, 1, 0x8, [⟨0, 64, .ro, 0, []⟩]⟩,
  ⟨"STO_DRV_COUNTS", 0xC01028, 8, 0x40, 1, 0x8, [⟨0, 16, .rc, 0, []⟩, ⟨16, 16, .rc, 0, []⟩, ⟨32, 16, .rc, 0, []⟩, ⟨48, 16, .rc, 0, []⟩]⟩,
  ⟨"STO_TGT_CTRL", 0xC20000, 64, 0x20, 1, 0x8, [⟨0, 1, .rw, 0, []⟩, ⟨1, 2, .ro, 0, []⟩, ⟨3, 1, .w1c, 0, []⟩, ⟨32, 32, .rw, 0, []⟩]⟩,
  ⟨"STO_TGT_OFF", 0xC20008, 64, 0x20, 1, 0x8, [⟨0, 41, .rw, 0, []⟩]⟩,
  ⟨"STO_TGT_COUNTS", 0xC20010, 64, 0x20, 1, 0x8, [⟨0, 16, .rc, 0, []⟩, ⟨16, 16, .rc, 0, []⟩, ⟨32, 16, .rc, 0, []⟩]⟩,
  ⟨"STO_VOL_CTRL", 0xC80000, 4096, 0x20, 1, 0x8, [⟨0, 1, .wo, 0, []⟩, ⟨1, 1, .wo, 0, []⟩, ⟨2, 2, .ro, 0, []⟩, ⟨4, 1, .rw, 0, []⟩, ⟨5, 1, .rw, 0, []⟩, ⟨6, 1, .w1c, 0, []⟩, ⟨7, 4, .ro, 0, []⟩, ⟨16, 8, .rw, 0, []⟩, ⟨24, 5, .rw, 17, [(16, 20)]⟩, ⟨32, 6, .rw, 0, []⟩]⟩,
  ⟨"STO_VOL_SIZE", 0xC80008, 4096, 0x20, 1, 0x8, [⟨0, 37, .rw, 0, [(0, 68719476736)]⟩]⟩,
  ⟨"STO_VOL_BASE", 0xC80010, 4096, 0x20, 1, 0x8, [⟨0, 48, .rw, 0, []⟩]⟩,
  ⟨"STO_VOL_KEY", 0xC80018, 4096, 0x20, 1, 0x8, [⟨0, 24, .rw, 0, []⟩, ⟨32, 32, .rw, 0, []⟩]⟩]

/-- The registers of spec/14. -/
def regTable14 : List RegSpec := [
  ⟨"TID_CTRL", 0x310000, 1, 0x8, 1, 0x8, [⟨0, 1, .rw, 0, []⟩, ⟨1, 1, .rw, 1, []⟩, ⟨2, 1, .wo, 0, []⟩, ⟨3, 1, .rw, 0, []⟩, ⟨4, 1, .w1c, 0, []⟩]⟩,
  ⟨"TID_STATUS", 0x310008, 1, 0x8, 1, 0x8, [⟨0, 16, .ro, 0, []⟩, ⟨16, 1, .ro, 0, []⟩, ⟨17, 2, .ro, 0, []⟩, ⟨19, 2, .ro, 2, []⟩, ⟨21, 1, .ro, 0, []⟩, ⟨22, 1, .ro, 0, []⟩, ⟨32, 32, .ro, 0, []⟩]⟩,
  ⟨"TID_TIDE", 0x310010, 1, 0x8, 1, 0x8, [⟨0, 64, .ro, 0, []⟩]⟩,
  ⟨"TID_SNAP_SEC", 0x310018, 1, 0x8, 1, 0x8, [⟨0, 48, .ro, 0, []⟩, ⟨48, 16, .ro, 0, []⟩]⟩,
  ⟨"TID_SNAP_NS", 0x310020, 1, 0x8, 1, 0x8, [⟨0, 30, .ro, 0, []⟩]⟩,
  ⟨"TID_TW_SEC", 0x310028, 1, 0x8, 1, 0x8, [⟨0, 49, .ro, 0, []⟩]⟩,
  ⟨"TID_TW_NS", 0x310030, 1, 0x8, 1, 0x8, [⟨0, 30, .ro, 0, []⟩]⟩,
  ⟨"TID_GAP", 0x310038, 1, 0x8, 1, 0x8, [⟨0, 64, .ro, 0, []⟩]⟩,
  ⟨"TID_FREQ", 0x310040, 1, 0x8, 1, 0x8, [⟨0, 32, .rw, 0, []⟩]⟩,
  ⟨"TID_STEP", 0x310048, 1, 0x8, 1, 0x8, [⟨0, 30, .rw, 1000000, [(1000, 1000000000)]⟩, ⟨32, 9, .rw, 500, [(1, 500)]⟩, ⟨48, 16, .rw, 100, [(1, 65535)]⟩]⟩,
  ⟨"TID_WALL_SET_SEC", 0x310050, 1, 0x8, 1, 0x8, [⟨0, 48, .rw, 0, []⟩]⟩,
  ⟨"TID_WALL_SET_NS", 0x310058, 1, 0x8, 1, 0x8, [⟨0, 30, .rw, 0, []⟩, ⟨63, 1, .wo, 0, []⟩]⟩,
  ⟨"TID_PTP_CTRL", 0x310060, 1, 0x8, 1, 0x8, [⟨0, 8, .rw, 0, []⟩, ⟨8, 3, .rw, 0, []⟩, ⟨11, 2, .rw, 0, [(0, 2)]⟩, ⟨13, 4, .rw, 3, [(2, 10)]⟩, ⟨20, 4, .rw, 13, [(0, 4), (9, 15)]⟩]⟩,
  ⟨"TID_PTP_SRC_MAC", 0x310068, 1, 0x8, 1, 0x8, [⟨0, 48, .rw, 0, []⟩, ⟨48, 12, .rw, 0, []⟩, ⟨60, 1, .rw, 0, []⟩]⟩,
  ⟨"TID_PTP_MASTER", 0x310080, 1, 0x8, 1, 0x8, [⟨0, 64, .ro, 0, []⟩]⟩,
  ⟨"TID_PTP_OFFSET", 0x310088, 1, 0x8, 1, 0x8, [⟨0, 64, .ro, 0, []⟩]⟩,
  ⟨"TID_PTP_COUNTS", 0x310090, 1, 0x8, 1, 0x8, [⟨0, 16, .rc, 0, []⟩, ⟨16, 16, .rc, 0, []⟩, ⟨32, 16, .rc, 0, []⟩, ⟨48, 16, .rc, 0, []⟩]⟩,
  ⟨"TID_PTP_SRC_IP", 0x310070, 2, 0x8, 1, 0x8, [⟨0, 64, .rw, 0, []⟩]⟩]

/-- The registers of spec/15. -/
def regTable15 : List RegSpec := [
  ⟨"PAN_STATE", 0x1000000, 256, 0x20, 1, 0x8, [⟨0, 3, .ro, 0, []⟩, ⟨3, 1, .ro, 0, []⟩, ⟨4, 4, .ro, 0, []⟩, ⟨8, 8, .ro, 0, []⟩, ⟨32, 32, .ro, 0, []⟩]⟩,
  ⟨"PAN_COUNT", 0x1000008, 256, 0x20, 1, 0x8, [⟨0, 16, .rc, 0, []⟩, ⟨16, 16, .rc, 0, []⟩, ⟨32, 16, .rc, 0, []⟩, ⟨48, 16, .rc, 0, []⟩]⟩,
  ⟨"PAN_END", 0x1000010, 256, 0x20, 1, 0x8, [⟨0, 8, .ro, 0, []⟩, ⟨8, 16, .ro, 0, []⟩, ⟨32, 32, .ro, 0, []⟩]⟩,
  ⟨"PAN_END_RESULT", 0x1000018, 256, 0x20, 1, 0x8, [⟨0, 64, .ro, 0, []⟩]⟩]

/-- The registers of spec/19. -/
def regTable19 : List RegSpec := [
  ⟨"CRY_STATE", 0x1800000, 32, 0x40, 1, 0x8, [⟨0, 1, .ro, 0, []⟩, ⟨1, 3, .ro, 0, []⟩, ⟨4, 7, .ro, 0, []⟩]⟩,
  ⟨"CRY_COUNTS", 0x1800008, 32, 0x40, 1, 0x8, [⟨0, 32, .rc, 0, []⟩, ⟨32, 32, .rc, 0, []⟩]⟩,
  ⟨"CRY_BUSY", 0x1800010, 32, 0x40, 1, 0x8, [⟨0, 64, .rc, 0, []⟩]⟩]

/-- The registers of spec/20. -/
def regTable20 : List RegSpec := [
  ⟨"TASK_OP", 0x10000, 2, 0x203FF0000, 1, 0x8, [⟨0, 16, .rw, 0, []⟩]⟩,
  ⟨"TASK_TAG", 0x10008, 2, 0x203FF0000, 1, 0x8, [⟨0, 32, .rw, 0, []⟩]⟩,
  ⟨"TASK_GO", 0x10010, 2, 0x203FF0000, 1, 0x8, [⟨0, 1, .wo, 0, []⟩]⟩,
  ⟨"TASK_STATE", 0x10018, 2, 0x203FF0000, 1, 0x8, [⟨0, 2, .ro, 0, []⟩, ⟨2, 1, .w1c, 0, []⟩, ⟨3, 1, .ro, 0, []⟩, ⟨4, 1, .rc, 0, []⟩, ⟨5, 1, .ro, 0, []⟩, ⟨8, 8, .ro, 0, []⟩, ⟨16, 16, .ro, 0, []⟩, ⟨32, 32, .ro, 0, []⟩]⟩,
  ⟨"TASK_HELM", 0x10020, 2, 0x203FF0000, 1, 0x8, [⟨0, 1, .ro, 0, []⟩, ⟨1, 1, .ro, 0, []⟩, ⟨2, 1, .ro, 0, []⟩, ⟨16, 10, .ro, 30, []⟩, ⟨32, 16, .ro, 0, []⟩, ⟨48, 16, .ro, 0, []⟩]⟩,
  ⟨"TASK_LOG", 0x10028, 2, 0x203FF0000, 1, 0x8, [⟨0, 32, .ro, 0, []⟩, ⟨32, 32, .ro, 0, []⟩]⟩,
  ⟨"TASK_CAN", 0x10030, 2, 0x203FF0000, 1, 0x8, [⟨0, 8, .ro, 0, []⟩, ⟨8, 8, .ro, 0, []⟩, ⟨16, 2, .ro, 0, []⟩, ⟨18, 1, .ro, 0, []⟩, ⟨24, 6, .ro, 0, []⟩, ⟨32, 16, .rc, 0, []⟩, ⟨48, 16, .rc, 0, []⟩]⟩,
  ⟨"TASK_ARG", 0x10040, 2, 0x203FF0000, 8, 0x8, [⟨0, 64, .rw, 0, []⟩]⟩,
  ⟨"TASK_RES", 0x10080, 2, 0x203FF0000, 8, 0x8, [⟨0, 64, .ro, 0, []⟩]⟩]

/-- The registers of spec/21. -/
def regTable21 : List RegSpec := [
  ⟨"GAU_STATUS", 0x320000, 1, 0x8, 1, 0x8, [⟨0, 32, .ro, 0, []⟩, ⟨32, 1, .ro, 0, []⟩, ⟨33, 1, .ro, 0, []⟩, ⟨34, 30, .ro, 0, []⟩]⟩,
  ⟨"GAU_FIFO", 0x320008, 1, 0x8, 1, 0x8, [⟨0, 11, .ro, 0, []⟩, ⟨16, 16, .ro, 0, []⟩]⟩,
  ⟨"GAU_LAST", 0x320100, 32, 0x40, 1, 0x8, [⟨0, 32, .ro, 0, []⟩]⟩,
  ⟨"GAU_LAST_TIDE", 0x320108, 32, 0x40, 1, 0x8, [⟨0, 64, .ro, 0, []⟩]⟩,
  ⟨"GAU_MINMAX", 0x320110, 32, 0x40, 1, 0x8, [⟨0, 32, .ro, 0, []⟩, ⟨32, 32, .ro, 0, []⟩]⟩,
  ⟨"GAU_MEAN", 0x320118, 32, 0x40, 1, 0x8, [⟨0, 32, .ro, 0, []⟩, ⟨32, 32, .ro, 0, []⟩]⟩,
  ⟨"GAU_CFG", 0x320120, 32, 0x40, 1, 0x8, [⟨0, 1, .ro, 0, []⟩, ⟨1, 3, .ro, 0, []⟩, ⟨4, 5, .ro, 0, []⟩, ⟨16, 8, .ro, 0, []⟩, ⟨24, 1, .ro, 0, []⟩, ⟨25, 1, .ro, 0, []⟩, ⟨28, 4, .ro, 0, []⟩, ⟨48, 16, .ro, 0, []⟩]⟩,
  ⟨"GAU_THRESH", 0x320128, 32, 0x40, 1, 0x8, [⟨0, 32, .ro, 0, []⟩, ⟨32, 32, .ro, 0, []⟩]⟩]

/-- The registers of spec/22. -/
def regTable22 : List RegSpec := [
  ⟨"PWR_CTRL", 0x308000, 1, 0x8, 1, 0x8, [⟨0, 1, .rw, 1, []⟩, ⟨1, 1, .w1c, 0, []⟩, ⟨16, 16, .rw, 10, []⟩, ⟨32, 16, .rw, 25, []⟩]⟩,
  ⟨"PWR_STATUS", 0x308008, 1, 0x8, 1, 0x8, [⟨0, 16, .ro, 750, []⟩, ⟨16, 6, .ro, 0, []⟩, ⟨22, 1, .ro, 0, []⟩, ⟨23, 1, .ro, 0, []⟩, ⟨24, 1, .ro, 0, []⟩, ⟨25, 1, .ro, 0, []⟩, ⟨32, 16, .ro, 0, []⟩, ⟨48, 16, .ro, 0, []⟩]⟩,
  ⟨"PWR_BRAKE", 0x308010, 1, 0x8, 1, 0x8, [⟨0, 5, .ro, 0, []⟩, ⟨16, 32, .rc, 0, []⟩]⟩,
  ⟨"PWR_BRAKE_TIDE", 0x308018, 1, 0x8, 1, 0x8, [⟨0, 64, .ro, 0, []⟩]⟩,
  ⟨"PWR_CAPS", 0x308020, 1, 0x8, 1, 0x8, [⟨0, 16, .ro, 750, []⟩, ⟨16, 16, .ro, 750, []⟩, ⟨32, 16, .ro, 750, []⟩, ⟨48, 16, .ro, 750, []⟩]⟩,
  ⟨"PWR_BOUNDS", 0x308058, 1, 0x8, 1, 0x8, [⟨0, 16, .ro, 120, []⟩, ⟨16, 16, .ro, 70, []⟩]⟩,
  ⟨"PWR_COUNTS", 0x308060, 1, 0x8, 1, 0x8, [⟨0, 32, .rc, 0, []⟩, ⟨32, 32, .rc, 0, []⟩]⟩,
  ⟨"PWR_IDLE", 0x308028, 2, 0x8, 1, 0x8, [⟨0, 32, .rw, 2000, []⟩, ⟨32, 32, .rw, 10000, []⟩]⟩,
  ⟨"PWR_LAT", 0x308040, 3, 0x8, 1, 0x8, [⟨0, 32, .ro, 0, []⟩, ⟨32, 32, .ro, 0, []⟩]⟩,
  ⟨"PWR_ISL", 0x308100, 116, 0x8, 1, 0x8, [⟨0, 2, .ro, 0, []⟩, ⟨2, 2, .ro, 0, []⟩, ⟨16, 16, .rc, 0, []⟩, ⟨32, 16, .rc, 0, []⟩]⟩]

/-- The registers of spec/23. -/
def regTable23 : List RegSpec := [
  ⟨"IDENT_BOOT", 0x90, 1, 0x8, 1, 0x8, [⟨0, 4, .ro, 1, []⟩, ⟨4, 1, .ro, 0, []⟩, ⟨5, 3, .ro, 0, []⟩, ⟨8, 3, .ro, 0, []⟩, ⟨16, 16, .rc, 0, []⟩, ⟨32, 16, .rc, 0, []⟩]⟩,
  ⟨"IDENT_BOOT_READY", 0x98, 1, 0x8, 1, 0x8, [⟨0, 64, .ro, 0, []⟩]⟩]

/-- The registers of spec/24. -/
def regTable24 : List RegSpec := [
  ⟨"VLT_STATUS", 0x330000, 1, 0x8, 1, 0x8, [⟨0, 3, .ro, 0, []⟩, ⟨3, 1, .ro, 0, []⟩, ⟨4, 1, .ro, 0, []⟩, ⟨5, 1, .ro, 0, []⟩, ⟨6, 1, .ro, 0, []⟩, ⟨7, 1, .ro, 0, []⟩, ⟨8, 1, .ro, 0, []⟩, ⟨9, 1, .ro, 0, []⟩, ⟨16, 8, .ro, 0, []⟩]⟩,
  ⟨"VLT_SEQ", 0x330008, 1, 0x8, 1, 0x8, [⟨0, 64, .ro, 0, []⟩]⟩,
  ⟨"VLT_USED", 0x330010, 1, 0x8, 1, 0x8, [⟨0, 14, .ro, 0, []⟩, ⟨16, 14, .ro, 0, []⟩, ⟨32, 17, .ro, 0, []⟩]⟩,
  ⟨"VLT_LAST", 0x330018, 1, 0x8, 1, 0x8, [⟨0, 32, .ro, 0, []⟩, ⟨32, 8, .ro, 0, []⟩, ⟨40, 8, .ro, 0, []⟩]⟩,
  ⟨"VLT_AREA", 0x330020, 1, 0x8, 1, 0x8, [⟨0, 36, .ro, 0, []⟩, ⟨48, 16, .ro, 0, []⟩]⟩,
  ⟨"VLT_FREEZE", 0x330028, 1, 0x8, 1, 0x8, [⟨0, 64, .ro, 0, []⟩]⟩]

/-- The registers of spec/25. -/
def regTable25 : List RegSpec := [
  ⟨"IDENT_PART", 0x0, 1, 0x8, 1, 0x8, [⟨0, 16, .ro, 7996, []⟩, ⟨16, 16, .ro, 20512, []⟩, ⟨32, 8, .ro, 0, []⟩]⟩,
  ⟨"IDENT_FW_ABI", 0x8, 1, 0x8, 1, 0x8, [⟨0, 16, .ro, 0, []⟩, ⟨16, 16, .ro, 0, []⟩, ⟨32, 16, .ro, 0, []⟩]⟩,
  ⟨"IDENT_FW_VERSION", 0x10, 1, 0x8, 1, 0x8, [⟨0, 64, .ro, 0, []⟩]⟩,
  ⟨"IDENT_DSN", 0x18, 1, 0x8, 1, 0x8, [⟨0, 64, .ro, 0, []⟩]⟩,
  ⟨"TLH_CTRL", 0x2000, 1, 0x8, 1, 0x8, [⟨0, 1, .w1s, 0, []⟩, ⟨1, 1, .w1c, 0, []⟩]⟩,
  ⟨"TLH_STATUS", 0x2008, 1, 0x8, 1, 0x8, [⟨0, 15, .ro, 0, []⟩, ⟨16, 1, .ro, 0, []⟩, ⟨17, 1, .ro, 0, []⟩, ⟨18, 1, .ro, 0, []⟩, ⟨19, 1, .ro, 0, []⟩, ⟨20, 4, .ro, 0, []⟩, ⟨24, 8, .ro, 0, []⟩, ⟨32, 16, .ro, 0, []⟩]⟩,
  ⟨"TLH_SLOT_CMD", 0x2010, 1, 0x8, 1, 0x8, [⟨0, 14, .rw, 0, []⟩, ⟨16, 8, .rw, 0, []⟩, ⟨24, 1, .rw, 0, []⟩, ⟨25, 2, .rw, 0, []⟩, ⟨63, 1, .wo, 0, []⟩]⟩,
  ⟨"TLH_SLOT_STATUS", 0x2018, 1, 0x8, 1, 0x8, [⟨0, 3, .ro, 0, []⟩, ⟨3, 1, .ro, 0, []⟩, ⟨4, 1, .ro, 0, []⟩, ⟨5, 1, .ro, 0, []⟩, ⟨8, 8, .ro, 0, []⟩]⟩,
  ⟨"TLH_SLOT_KEYID", 0x2020, 1, 0x8, 1, 0x8, [⟨0, 64, .ro, 0, []⟩]⟩,
  ⟨"TLH_KEY_DATA", 0x2040, 8, 0x8, 1, 0x8, [⟨0, 64, .wo, 0, []⟩]⟩,
  ⟨"TLH_AP_IDE", 0x2100, 4, 0x40, 1, 0x8, [⟨0, 1, .rw, 0, []⟩, ⟨1, 3, .ro, 0, []⟩, ⟨4, 1, .w1c, 0, []⟩]⟩,
  ⟨"TLH_AP_CERT", 0x2108, 4, 0x40, 6, 0x8, [⟨0, 64, .ro, 0, []⟩]⟩]

/-- The registers of spec/26. -/
def regTable26 : List RegSpec := [
  ⟨"ERR_STATUS", 0x3000000, 1, 0x8, 1, 0x8, [⟨0, 1, .ro, 0, []⟩, ⟨1, 1, .ro, 0, []⟩, ⟨2, 1, .w1c, 0, []⟩, ⟨3, 1, .w1c, 0, []⟩]⟩,
  ⟨"ERR_COUNTS", 0x3000008, 1, 0x8, 1, 0x8, [⟨0, 16, .rc, 0, []⟩, ⟨16, 16, .rc, 0, []⟩, ⟨32, 16, .rc, 0, []⟩, ⟨48, 16, .rc, 0, []⟩]⟩,
  ⟨"ERR_LAST", 0x3000010, 1, 0x8, 1, 0x8, [⟨0, 16, .ro, 0, []⟩, ⟨16, 2, .ro, 0, []⟩, ⟨18, 8, .ro, 0, []⟩, ⟨32, 16, .ro, 0, []⟩]⟩,
  ⟨"ERR_LAST_ARG", 0x3000018, 1, 0x8, 1, 0x8, [⟨0, 64, .ro, 0, []⟩]⟩,
  ⟨"ERR_LAST_TIDE", 0x3000020, 1, 0x8, 1, 0x8, [⟨0, 64, .ro, 0, []⟩]⟩,
  ⟨"ERR_FIRST_UNC", 0x3000028, 1, 0x8, 1, 0x8, [⟨0, 16, .ro, 0, []⟩, ⟨32, 16, .ro, 0, []⟩]⟩,
  ⟨"ERR_FIRST_UNC_TIDE", 0x3000030, 1, 0x8, 1, 0x8, [⟨0, 64, .ro, 0, []⟩]⟩,
  ⟨"ERR_LADDER", 0x3000038, 1, 0x8, 1, 0x8, [⟨0, 32, .rc, 0, []⟩, ⟨32, 32, .rc, 0, []⟩]⟩]

/-- The whole register map. -/
def regTable : List RegSpec :=
  regTable01 ++ regTable02 ++ regTable03 ++ regTable04 ++ regTable05 ++ regTable06 ++ regTable07 ++ regTable08 ++ regTable09 ++ regTable10 ++ regTable11 ++ regTable13 ++ regTable14 ++ regTable15 ++ regTable19 ++ regTable20 ++ regTable21 ++ regTable22 ++ regTable23 ++ regTable24 ++ regTable25 ++ regTable26

/-- Whether a key is one of the registers of a row. -/
def RegSpec.covers (s : RegSpec) (k : Nat) : Bool :=
  s.base ≤ k && (k - s.base) / s.s1 < s.n1 && (k - s.base) % s.s1 / s.s2 < s.n2 && (k - s.base) % s.s1 % s.s2 == 0

/-- The row that describes a key; none for a reserved offset. -/
def findSpec (k : Nat) : Option RegSpec := regTable.find? (fun s => s.covers k)

end Sys2Proof.Machine
end

