-- ==== Sys2Proof/Machine/State.lean ====
section
/-! DEFINITION. The state of the block as plain data: the waiting commands, the register file, the memories, and what
each unit holds beyond its registers.  A register's fields lie in `regs` under the register's key; everything the spec
gives the machine that no register shows has a field of its own, unit by unit. -/

namespace Sys2Proof.Machine

/-- A sparse table: pairs of key and value, keys strictly rising, no entry equal to its key's default. -/
abbrev Tab (α : Type) := List (Nat × α)

/-- What leaves the device, by kind; `Emit.args` and `Emit.data` hold what the docstring names, in that order. -/
inductive EmitKind where
  /-- posted memory write on the host link: function, address, bit 0 RO, bit 1 No Snoop, bit 2 EP; data -/
  | hostWrite
  /-- memory read on the host link: function, address, length, tag -/
  | hostRead
  /-- AtomicOp on the host link: function, address, 0 FetchAdd or 1 CAS, tag; operands -/
  | hostAtomic
  /-- completion on the host link: function, tag, status 0 SC 1 UR 2 CA 3 RRS, bit 0 EP; data -/
  | hostCpl
  /-- message on the host link: code (0 ERR_COR, 1 ERR_NONFATAL, 2 ERR_FATAL, 3 PM_PME, 4 LTR, 5 DRS, 6 IDE), arguments -/
  | hostMsg
  /-- MSI-X message: function, vector, address, data word -/
  | msix
  /-- posted write on accelerator port n: port, PCIe address, EP; data -/
  | apWrite
  /-- read on accelerator port n: port, PCIe address, length, tag -/
  | apRead
  /-- AtomicOp on accelerator port n: port, PCIe address, kind, tag; operands -/
  | apAtomic
  /-- completion on accelerator port n: port, tag, status, EP; data -/
  | apCpl
  /-- configuration request on a downstream port: port, function, DWORD, 1 write, byte enables, data, tag -/
  | cfgReq
  /-- completion to a drive: drive, tag, status; data -/
  | dpCpl
  /-- NVMe command to a drive: drive, command identifier, opcode, LBA, blocks; data written -/
  | nvme
  /-- register or link action on a downstream port (0 SBR, 1 Disable, 2 Train, 3 PERST# low, 4 PERST# high): port, action -/
  | portLink
  /-- Ethernet frame on a MAC: MAC number; bytes -/
  | frame
  /-- PFC frame: MAC number, class enable vector, 1 with quanta (their number is left open), 0 with zero quanta -/
  | pfc
  /-- TCP segment of NVMe/TCP connection t: target, kind; bytes -/
  | tcp
  /-- flit on a Gleda link: link, SEQ, kind; data -/
  | flit
  /-- link control on a Gleda link: link, kind (0 REPLAY_FROM request, 1 SWAP), argument -/
  | gledaCtl
  /-- level of an alarm-ring line: line, level -/
  | alarm
  /-- CAN frame: ID, extended; data -/
  | canFrame
  /-- MCTP, PLDM, SPDM or I3C answer: binding, kind; bytes -/
  | mctp
  /-- level of an output pin: pin, level -/
  | pin
  /-- TAP output: kind, value -/
  | tap
  /-- SPI flash action: chip select, action -/
  | spi
  /-- NVMe or NVMe/TCP control action on a drive or target: unit, action, argument -/
  | stoCtl
  /-- PTP message: kind, sequence; fields -/
  | ptp
  deriving DecidableEq, Repr

/-- One thing sent. -/
structure Emit where
  kind : EmitKind
  args : List Nat
  data : List Byte
  deriving DecidableEq, Repr

/-- A ticket in flight is known by its ring and slot and the generation it runs under (R195). -/
structure TKey where
  b : Nat
  r : Nat
  slot : Nat
  gen : Nat
  deriving DecidableEq, Repr

/-- A ticket taken and not yet arrived (R181, R200), with the plan its epoch grants (R230) and how far it has come. -/
structure Ticket where
  key : TKey
  seq : Nat
  words : List Word
  tide : Nat
  epoch : Nat
  /-- the committed plan of the epoch, by plan offset (R230) -/
  plan : Tab Word
  /-- DEADLINE_US after raising (R197, R897); 0 none -/
  deadlineUs : Nat
  clamped : Bool
  started : Bool
  /-- pieces or reads the service still waits for -/
  left : Nat
  status : Nat
  detail : Nat
  result : Nat
  /-- source bytes gathered so far, by offset -/
  data : Tab Byte
  bad : Bool
  /-- the poisoned ranges of that data: offset, bytes (R51, R270) -/
  marks : List (Nat × Nat)
  prove : Bool
  /-- links placed on (0 host, 1 + n APn): function, and the DW of the last byte plus 1 -/
  links : Tab (Nat × Nat)
  /-- how far the service's own sequence has come, and what it remembers -/
  step : Nat
  aux : List Nat
  deriving DecidableEq, Repr

/-- What a ring holds beyond its registers. -/
structure RingH where
  /-- arrivals or signals written and not yet announced, and the Tide time of the oldest (R194) -/
  unann : Nat
  oldest : Nat
  /-- signals dropped since the last one written (R204) -/
  lost : Nat
  /-- a BAD_DOORBELL signal was posted since RING_COUNTS was last read (R189) -/
  badSent : Bool
  /-- results kept while the ring is in ERROR with CAUSE 2 (R220): the four arrival words, INTR_NOW -/
  held : List (List Word × Bool)
  /-- per link (0 host, 1 + n APn): the DW that holds the last byte the ring's tickets placed there (R280), plus 1; with its function -/
  placed : Tab (Nat × Nat)
  deriving DecidableEq, Repr

/-- One cached translation (R156): context, first VA, log2 of its size, the leaf. -/
structure CacheEnt where
  ctx : Nat
  va : Nat
  log2 : Nat
  leaf : Word
  deriving DecidableEq, Repr

/-- One queued invalidation (R158). -/
structure Inval where
  scope : Nat
  ctx : Nat
  base : Nat
  log2 : Nat
  issued : Nat
  deriving DecidableEq, Repr

/-- The Toll table's own state beyond TOLL_ registers. -/
structure TollS where
  cache : List CacheEnt
  queue : List Inval
  /-- a TOLL_FAULT signal was posted since TOLL_FAULT_PTR was last read (R164) -/
  signalled : Bool
  deriving DecidableEq, Repr

/-- A REVOKE or REGEN whose arrival waits for pieces checked under the old key (R267, R268). -/
structure Quiesce where
  index : Nat
  oldGen : Nat
  tk : TKey
  /-- true: REVOKE, the index becomes free; false: REGEN -/
  revoke : Bool
  deriving DecidableEq, Repr

/-- The mooring unit beyond TOLL_MOOR and the table in memory. -/
structure MoorS where
  /-- the index allocated last, plus 1; 0 before the first registration (R260) -/
  lastPlus1 : Nat
  waiting : List Quiesce
  /-- registered indexes, and those whose REVOKE is not over -/
  reg : List Nat
  deriving DecidableEq, Repr

/-- What a berth holds beyond its plan: release times (R240) by 0 NET_TX, 1 STO, 2 ACCEL in ps; the spoof report armed
(R251). -/
structure BerthH where
  releaseNet : Nat
  releaseSto : Nat
  releaseAccel : Nat
  spoofReported : Bool
  /-- withdrawn Pans not yet released, with the Tide time their grace ends (R234) -/
  withdrawn : List (Nat × Nat)
  /-- 4 KiB pages its moorings count in HBM and in Cistern scratch (R265) -/
  hbmPages : Nat
  cisPages : Nat
  deriving DecidableEq, Repr

/-- Where an outstanding non-posted request came from and what its completion feeds. -/
inductive Purpose where
  /-- the ticket fetch of a ring (R305) -/
  | fetch (b r : Nat)
  /-- source bytes of a ticket at an offset of its source -/
  | gather (tk : TKey) (off : Nat)
  /-- one piece of a COPY: destination key and offset (R279) -/
  | copy (tk : TKey) (dkey doff : Nat)
  /-- the proving read of a ticket (R271) -/
  | prove (tk : TKey)
  /-- an indirect configuration request on APn (R343) -/
  | cfg (n : Nat)
  /-- a host BAR2 read forwarded into an accelerator window: function, host tag (R299) -/
  | bar2 (f tag : Nat)
  /-- an accelerator's read that goes to the host link or another accelerator: port, its tag (R346) -/
  | peer (n tag : Nat)
  /-- a GET served as target: crossing, PSN, offset of the response (R453) -/
  | xctGet (x psn off : Nat)
  /-- an atomic served as target (R453) -/
  | xctAtomic (x psn : Nat)
  /-- a proving read made for a FLUSH_REQ (R454) -/
  | xctProve (x psn : Nat)
  /-- source bytes of a packet being formed, at an offset of its payload (R450, R465) -/
  | xctRead (x off : Nat)
  /-- an accelerator's AtomicOp routed on (R347) -/
  | peerAtomic (n tag : Nat)
  /-- image bytes of an FW_STAGE DATA task, at an offset of the transfer (R723) -/
  | stage (off : Nat)
  deriving DecidableEq, Repr

/-- One outstanding non-posted request: link 0 host, 1 + n APn, 16 + k DPk. -/
structure Outst where
  tag : Nat
  link : Nat
  func : Nat
  addr : Nat
  len : Nat
  purpose : Purpose
  deriving DecidableEq, Repr

/-- A selective IDE stream of the host port (R312): 0 off, 1 Secure, 2 Insecure. -/
structure IdeStream where
  state : Nat
  ridLo : Nat
  ridHi : Nat
  /-- keys programmed per key set and direction; the set in use -/
  keys : Tab (List Byte)
  setInUse : Nat
  /-- functions a VF FLR took out of the range (Table 8.11) -/
  excl : List Nat
  deriving DecidableEq, Repr

/-- The host port beyond LND_HOST_ and the configuration registers. -/
structure HostS where
  /-- configuration space of the PF and the VFs: function × 4,096 + offset of the DW -/
  cfg : Tab (BitVec 32)
  /-- link state: 0 down, 1 L0, 2 L1, 3 Recovery, 4 Detect retry -/
  link : Nat
  /-- PERST_N is high -/
  perstHigh : Bool
  /-- Tide time plus 1 at which a link drop began the 2 ms slack-water timer (R319); 0 none -/
  dropTimer : Nat
  /-- posted TLPs the host has not acknowledged, oldest first (R328) -/
  unacked : List Emit
  /-- what D3hot holds back, oldest first (R307) -/
  held : List Emit
  /-- functions between an Initiate FLR and its completion point (0 the PF), with whether silence is reached -/
  flr : List (Nat × Bool)
  /-- the active LTR values were sent last (R311) -/
  ltrActive : Bool
  ide : Tab IdeStream
  /-- the PF configuration space is ready (R320) -/
  cfgReady : Bool
  deriving DecidableEq, Repr

/-- One log record (Table 20.2). -/
structure LogRec where
  event : Nat
  sev : Nat
  berth : Nat
  seq : Nat
  tide : Nat
  arg0 : Nat
  arg1 : Nat
  deriving DecidableEq, Repr

/-- The error unit beyond ERR_ registers: reports withheld per CODE and SOURCE (R890), the Tide time of the last log
record of each corrected CODE (R888). -/
structure ErrS where
  reported : List (Nat × Nat)
  lastLog : Tab Nat
  deriving DecidableEq, Repr

/-- The Tide clock beyond TID_ registers (R513 to R530). -/
structure TimeS where
  /-- Wall time in ns, meaningful while WALL_VALID is 1 -/
  wall : Nat
  /-- TW_OFFSET in ns -/
  two : Int
  /-- consecutive samples with |offset| ≤ LOCK_NS (R525) -/
  lockRun : Nat
  /-- the last 64 servo outputs, newest first (R529) -/
  outputs : List Int
  /-- masters heard: what the best master clock algorithm compares, then portIdentity (R520) -/
  heard : List (List Nat × Nat)
  /-- the selected master's portIdentity plus 1; 0 none -/
  master : Nat
  /-- the Sync in hand: sequenceId; t2 plus 1; t1 plus 1 once known; the corrections (R521, R524) -/
  syncSeq : Nat
  t2 : Nat
  t1 : Nat
  corr : Int
  /-- sequenceId of the last Delay_Req, and its t3 plus 1 -/
  dreqSeq : Nat
  t3 : Nat
  /-- Tide time at which HOLDOVER began (R529) -/
  holdFrom : Nat
  deriving DecidableEq, Repr

/-- A core island's clock beyond its registers (R101, R120 to R131). -/
structure ClkIsl where
  /-- the setting in use: FRAC, NINT, DIV, REF_SEL as CLK_ISL_TARGET lays them out; 0 stands for Table 3.7 -/
  inUse : Nat
  /-- change in progress: 0 none, 1 glide, 2 hop, 3 relock after a lost lock, 4 relock after a lost reference, 6 relock while a
  change is in progress -/
  change : Nat
  /-- the setting the change brings -/
  target : Nat
  /-- consecutive failed relocks (R128) -/
  fails : Nat
  /-- the mux has left the island's path for the safe clock because of the change -/
  onSafe : Bool
  deriving DecidableEq, Repr

/-- One half of a strand: the receiver's and the transmitter's side (R66 to R71).  `replayFrom` holds a
sequence number plus 1; 0 none. -/
structure StrandHalf where
  lastGood : Nat
  fails : Nat
  replayFrom : Nat
  /-- sent and not acknowledged, oldest first: SEQ, TYPE, data (R69) -/
  buf : List (Nat × Nat × List Byte)
  /-- received in order and waiting for the strand merge (R74) -/
  merge : List (Nat × List Byte)
  deriving DecidableEq, Repr

/-- The Causeway: strand halves by link × 16 + strand, rotation step per link, the alarm ring (R75), DLL state. -/
structure CauseS where
  half : Tab StrandHalf
  step : Tab Nat
  /-- flits delivered to each link's tile, newest first: link, TYPE, data -/
  delivered : List (Nat × Nat × List Byte)
  brake : Bool
  stop : Bool
  kill : Bool
  pulse : Bool
  resetPulses : Nat
  /-- links whose receiver's master DLL is unlocked (R115) -/
  dllLinks : List Nat
  /-- HBM channels whose master DLL is unlocked: stack × 64 + channel, true once its hold has expired (R116) -/
  dllHbm : List (Nat × Bool)
  /-- slave taps off their trained value (R113): unit × 4,096 + lane, signed drift -/
  drift : Tab Int
  /-- scratch units a Cistern change in progress turns into scratch or cache: die × 16 + unit, true into scratch (R82) -/
  cisChange : List (Nat × Bool)
  deriving DecidableEq, Repr

/-- Power states and caps beyond PWR_ registers. -/
structure PowerS where
  /-- consecutive ms with P below the band (R770) -/
  below : Nat
  /-- group offset R (R771) -/
  offset : Nat
  thermBrake : Nat
  /-- the thermal curve: VALID, AT_C, CAP_W of the eight entries -/
  curve : List (Bool × Nat × Nat)
  /-- island transitions in progress: 1 entering Neap, 2 entering Slack, 3 leaving; plus 4 when a wake waits (R766) -/
  moving : Tab Nat
  brakePinLow : Bool
  thermTrip : Bool
  /-- BRAKE_APPLIED records at most once per second: Tide time of the last plus 1, applications since -/
  lastBrakeLog : Nat
  brakeSince : Nat
  /-- Tide time plus 1 of the last POWER_STATE for L (R785), and whether one is owed -/
  lastLPost : Nat
  deriving DecidableEq, Repr

/-- The Slipway and the supply pins (R789 to R817). -/
structure SlipS where
  standby : Bool
  mainPg : Bool
  /-- main power is believed (R825) -/
  believed : Bool
  cellLowHigh : Bool
  /-- the run in progress: 0 cold start, 1 fundamental reset that skips, 2 fundamental reset that runs every station -/
  run : Nat
  runStart : Nat
  stationStart : Nat
  recovery : Bool
  /-- Crystallizer groups still to leave Slack (R797) -/
  cryGroups : Nat
  /-- staggered starts still to come: ports, and pairs as masks; ports autonomous helm still has to power (R714) -/
  accelQueue : List Nat
  accelWait : List Nat
  driveQueue : List Nat
  /-- a slack-water reset is in progress; or has completed and waits for the link (R808) -/
  slack : Bool
  slackWaits : Bool
  slackCrossings : Nat
  /-- STAGGER_PLAN in force: ACCEL_GAP_MS, DRIVE_GAP_MS, CRY_GAP_MS, AUTO_ACCEL, AUTO_DRIVES (R801) -/
  accelGap : Nat
  driveGap : Nat
  cryGap : Nat
  autoAccel : Nat
  autoDrives : Nat
  /-- hard off (R834): the main tiles are held in reset until a cold start -/
  hardOff : Bool
  /-- Tide time plus 1 at which a gap of a staggered start began; 0 none: slipway ports, slipway drives, task ports, task drives, autonomy's ports -/
  gaps : Tab Nat
  /-- who started a port, until its PERST release or timeout (R800): 1 the Slipway, 2 a task, 3 autonomy, 4 + m ACCEL_RESET of set m, 6 a
  fundamental reset -/
  starts : Tab Nat
  /-- Tide time at which MAIN_PG last changed -/
  pgSince : Nat
  /-- STAGGER_PLAN as last set, in the order of the fields above: the next start takes it over -/
  plan : List Nat
  deriving DecidableEq, Repr

/-- The event log (R718): newest record first. -/
structure LogS where
  seq : Nat
  recs : List LogRec
  pers : List LogRec
  /-- ALERT_N is driven low (R721) -/
  alertN : Bool
  deriving DecidableEq, Repr

/-- A firmware image slot: A or B (R703, R722). -/
structure FwSlot where
  valid : Bool
  /-- STAGED_VALID -/
  staged : Bool
  version : Nat
  abi : Nat
  svn : Nat
  helmLive : Bool
  bytes : List Byte
  deriving DecidableEq, Repr

/-- The Ferryman beyond its registers. -/
structure FerryS where
  /-- Tide time of the last GO of the host and of the BMC set (R714) -/
  lastGo0 : Nat
  lastGo1 : Nat
  /-- Tide time plus 1 at which autonomous helm began; 0 outside it -/
  autoSince : Nat
  /-- AUTONOMY_POLICY in force, and its copy in the persistent store with SILENCE_S -/
  restartEn : Bool
  tempCh : Nat
  autoTable : List (Bool × Nat × Nat)
  /-- restarts per port in this period (R715), and the Tide time plus 1 of a containment with cause 6 -/
  restarts : Tab Nat
  contained6 : Tab Nat
  slotA : FwSlot
  slotB : FwSlot
  /-- the slot whose image runs: 0 A, 1 B -/
  running : Nat
  /-- starts of the trial image not confirmed (R726) -/
  trialStarts : Nat
  /-- 0 none, 1 host, 2 BMC, 3 PLDM; LENGTH; Tide time of its last FW_STAGE -/
  stageOwner : Nat
  stageLen : Nat
  stageTide : Nat
  stageBytes : List Byte
  /-- a DATA transfer in hand: bytes so far, reads outstanding, a read failed or brought poison -/
  stageGot : Tab Byte
  stageLeft : Nat
  stageBad : Bool
  /-- why the helm is down: 0 up, 1 lockstep, 2 watchdog, 3 activation; 4: up, and a switch to the boot slot's image waits until no
  task runs (R806) -/
  helmWhy : Nat
  /-- the activating set plus 1, while HELM_NOW runs -/
  helmTask : Nat
  /-- per task set: 0 no task, 1 accepted, 2 under way, 3 waits behind a task of the other set (R707); above bit 3 what a long task
  remembers -/
  prog : Tab Nat
  /-- what a task of the set waits for at the SPI flash: 1 autonomy, 2 thermal, 3 stagger plan, 4 CAN, 5 vault, 6 DISCARD, 7 an
  erase, 8 a program -/
  flash : Tab Nat
  /-- a task of the set changed a persistent setting: the copy the store will hold (R711) -/
  stored : Tab (List Nat)
  /-- MCTP endpoint ID per binding: 0 PCIe VDM, 1 I3C0; 0 none -/
  eid : Tab Nat
  /-- accelerator power-on sequence of tasks: ports still to enable, port waited for plus 1, its APn_PG deadline, results -/
  accQueue : List Nat
  accSet : Nat
  accGood : Nat
  accBad : Nat
  drvQueue : List Nat
  drvSet : Nat
  deriving DecidableEq, Repr
/-- A downstream port beyond its registers: APn is port n, DPk is port 4 + k. -/
structure PortH where
  /-- PWREN is driven high; PERST# is asserted (for a drive: by the tray, with PWREN low); PG is high -/
  pwren : Bool
  perst : Bool
  pg : Bool
  /-- Tide time at which PG rose; before that, at which power was enabled -/
  pgAt : Nat
  /-- Tide time at which training, or the 2 ms of a hot reset, began; and at which the link came up -/
  trainAt : Nat
  upAt : Nat
  /-- Max_Payload_Size in use in bytes -/
  mps : Nat
  /-- device-owned capability fields of the partner (Table 9.3): function, DW, byte mask -/
  owned : List (Nat × Nat × Nat)
  /-- release time of UP_HOST_RATE in ps (R350) -/
  release : Nat
  deriving DecidableEq, Repr

/-- A Raker: its Adeat registers and control-space registers (R587, R588, R547).  Tables list what is not zero; `g` never
lists g0, `p` never lists p0. -/
structure RakerS where
  /-- named in RAKERS of the run's image -/
  started : Bool
  /-- running: neither stopped nor exited -/
  live : Bool
  exited : Bool
  exitVal : Word
  pc : Nat
  g : Tab Word
  v : Tab (BitVec 512)
  p : Tab (BitVec 16)
  cause : Word
  epc : Nat
  flane : Nat
  round : Nat
  dflags : Nat
  /-- data-cache lines by DPA / 64 (R560) -/
  lines : Tab (List Byte)
  /-- inbox, head first: the DELIVER ticket and the eight words of Table 15.4 -/
  inbox : List (TKey × List Word)
  answer : Word
  desc : Tab Word
  cmd : Tab Word
  deriving DecidableEq, Repr

/-- One Barrow descriptor in the queue (Table 15.5). -/
structure BarrowD where
  src : Nat
  dst : Nat
  len : Nat
  tally : Nat
  deriving DecidableEq, Repr

/-- One command in a Crystallizer queue: CSEQ, Raker, the eight words; what its execution came to (0 none, 1 done,
2 failed: CODE, KIND, word 3 of Table 19.4); Tide time plus 1 at which it came to the head (for CWAIT). -/
structure CryE where
  cseq : Nat
  words : List Word
  ran : Nat
  code : Nat
  kind : Nat
  info : Nat
  headAt : Nat
  deriving DecidableEq, Repr

/-- A Pan beyond its registers, with its share of the Crystallizer (R671). -/
structure PanS where
  /-- EXEC sections of the run's image: first VA, end; HANDLER -/
  exec : List (Nat × Nat)
  handler : Nat
  tally : Tab Word
  barrow : List BarrowD
  barrowErr : Word
  /-- PAN_STOP_AT -/
  stopAt : Nat
  /-- the LOAD ticket whose Rakers have not started; the ENTRY and RAKERS of its image -/
  loading : Option TKey
  entry : Nat
  rakers : Nat
  /-- waiting STOP tickets, WATCH tickets with their RUN_ID, and DELIVER tickets that wait for an answer -/
  stops : List TKey
  watches : List (TKey × Nat)
  asks : List TKey
  /-- commands queued, oldest first; CSEQ of the next -/
  cry : List CryE
  cseq : Nat
  /-- virtual time V_p, in units of 1 / lcm(1 … 255) cycle (R675); the Pan is among the ready ones -/
  vt : Nat
  ready : Bool
  /-- generator state (R692) -/
  gen : Nat
  /-- stream status: FAILS, FLAGS, the first failure's CODE, KIND, CSEQ and word 3, and whether commands are skipped -/
  fails : Nat
  flags : Nat
  fcode : Nat
  fkind : Nat
  fcseq : Nat
  finfo : Nat
  skip : Bool
  deriving DecidableEq, Repr

/-- A Deckhand slot's image (R578): its bytes by VA offset from 0xFFFF_FFC0_0000, EXEC ranges, ENTRY, BUDGET. -/
structure DhImage where
  bytes : Tab Byte
  exec : List (Nat × Nat)
  entry : Nat
  budget : Nat
  deriving DecidableEq, Repr

/-- A frame inside a Wharf. -/
structure FrameS where
  id : Nat
  m : Nat
  j : Nat
  prio : Nat
  data : List Byte
  arrived : Nat
  epoch : Nat
  key : List Word
  action : Word
  /-- 0 waits for placement on a ring, 1 in the Deckhand queue, 2 with the XCT engine -/
  stage : Nat
  /-- rings disabled or enabled since the lookup: b × 64 + r (R381) -/
  staleRings : List Nat
  deriving DecidableEq, Repr

/-- Who offered a frame to a transmit queue. -/
inductive TxSource where
  /-- a FRAME_TX ticket -/
  | ticket (tk : TKey) (len : Nat)
  /-- the XCT engine: owner berth, crossing -/
  | xct (b x : Nat)
  /-- the storage service: target -/
  | storage (t : Nat)
  /-- the Tide clock -/
  | ptp
  deriving DecidableEq, Repr

/-- A frame in a transmit queue: Wharf, MAC, priority. -/
structure TxFrame where
  m : Nat
  j : Nat
  prio : Nat
  source : TxSource
  data : List Byte
  deriving DecidableEq, Repr

/-- One staged edit: table 0 exact, 1 ternary, 2 slot; remove; index; key or VALUE, MASK; action; image. -/
structure MnfEdit where
  table : Nat
  remove : Bool
  index : Nat
  key : List Word
  mask : List Word
  action : Word
  image : Option DhImage
  deriving DecidableEq, Repr

/-- A Wharf's Manifest tables and pools beyond its registers. -/
structure WharfS where
  exact : List (List Word × Word)
  ternary : Tab (List Word × List Word × Word)
  slots : Tab (Option DhImage)
  /-- the slots of the epoch before, kept while frames of it are inside (R389) -/
  oldSlots : Tab (Option DhImage)
  pend : List MnfEdit
  /-- meters: committed and peak tokens in 1/80 B, Tide time they were counted at -/
  meters : Tab (Nat × Nat × Nat)
  /-- priorities for which the MACs send pause (R371) -/
  pausing : Nat
  /-- per MAC × 8 + priority: Tide time plus 1 at which it became paused, and of the last pause received -/
  pausedAt : Tab Nat
  lastPause : Tab Nat
  /-- the source kind served last, per MAC × 8 + priority (R374) -/
  lastSource : Tab Nat
  deriving DecidableEq, Repr


/-- A key slot of the Tollhouse (R856): owner berth, kind (0 CROSSING, 1 VOLUME), key material (empty: the slot is EMPTY),
KEY_ID. -/
structure TlhKey where
  owner : Nat
  kind : Nat
  key : List Byte
  id : Nat
  deriving DecidableEq, Repr

/-- A crossing's key slot (R426, R428, R429): key, epoch, salts, seal counter, and one more than the highest SCTR that has
verified. -/
structure XKey where
  key : List Byte
  epoch : Nat
  txSalt : Nat
  rxSalt : Nat
  sctr : Nat
  high : Nat
  deriving DecidableEq, Repr

/-- A sequenced packet of this end (R449, R450, R464): its ticket, type, flags, extension, source (key, offset, bytes), and
what has become of it; times are Tide times plus 1, 0 none. -/
structure XPkt where
  psn : Nat
  tk : TKey
  ty : Nat
  first : Bool
  last : Bool
  ackNow : Bool
  ext : List Byte
  lkey : Nat
  loff : Nat
  len : Nat
  firstSent : Nat
  lastSent : Nat
  sends : Nat
  expiries : Nat
  covered : Bool
  answered : Bool
  fastAt : Nat
  deriving DecidableEq, Repr

/-- A ticket whose packets are being formed: bytes formed, packets formed, the message's FIRST_PSN, LENGTH, op, MSG_TAG. -/
structure XForm where
  tk : TKey
  op : Nat
  len : Nat
  off : Nat
  firstPsn : Nat
  tag : Nat
  deriving DecidableEq, Repr

/-- A packet whose source is being read: new, or a retransmission. -/
structure XMake where
  pkt : XPkt
  isNew : Bool
  data : Tab Byte
  left : Nat
  bad : Bool
  deriving DecidableEq, Repr

/-- What waits for pacing ahead of new packets: a retransmission, or a response (TYPE, PSN, extension, payload). -/
inductive XReady where
  | retx (psn : Nat)
  | resp (ty psn : Nat) (ext pay : List Byte)
  deriving DecidableEq, Repr

/-- A POST assembly (R457): the bound RECV (none: refused or over), bytes placed, bytes written, the last PSN plus 1. -/
structure XAsm where
  firstPsn : Nat
  msgLen : Nat
  tag : Nat
  recv : Option TKey
  got : Nat
  wrote : Nat
  last : Nat
  deriving DecidableEq, Repr

/-- A GET served as target whose bytes come over a link: PSN, LEN, bytes so far, reads left. -/
structure XGet where
  psn : Nat
  len : Nat
  data : Tab Byte
  left : Nat
  bad : Bool
  deriving DecidableEq, Repr

/-- A crossing beyond its registers. -/
structure Xing where
  /-- the record and the source entries BIND copied (R409) -/
  record : List Word
  srcMac : Word
  srcIp : Nat
  slot0 : Option XKey
  slot1 : Option XKey
  pktMax : Nat
  /-- requester: next PSN, unfinished packets, tickets in formation, the packet being read, what waits for pacing -/
  nextPsn : Nat
  out : List XPkt
  form : List XForm
  making : Option XMake
  ready : List XReady
  /-- when the next paced packet may leave, in ps (R434) -/
  depart : Nat
  /-- last ACK_PSN accepted; last CE_COUNT seen; Tide time plus 1 of the last decrease; when the AI interval began (R435) -/
  lastAck : Nat
  lastCe : Nat
  lastDec : Nat
  incAt : Nat
  /-- target: E, the receive bitmap (bit d stands for E + d), CE marks counted -/
  exp : Nat
  rcv : Nat
  rxCe : Nat
  /-- arrivals since the last acknowledgement; Tide time plus 1 of the oldest; Tide time of the newest (R462) -/
  unacked : Nat
  oldest : Nat
  newest : Nat
  /-- response cache, newest first: PSN, TYPE, extension (R470) -/
  cache : List (Nat × Nat × List Byte)
  asm : List XAsm
  /-- failures at this end: PSN, CODE, DETAIL; the PSN of the last FLUSH_REQ executed (R454) -/
  fails : List (Nat × Nat × Nat)
  lastFlush : Nat
  /-- per link (0 host, 1 + n APn): the last DW placed since that FLUSH_REQ: function, address plus 1 -/
  placed : Tab (Nat × Nat)
  /-- fenced requests not started: PSN, TYPE, extension; GETs and proofs in progress; host atomics in progress -/
  fenced : List (Nat × Nat × List Byte)
  gets : List XGet
  proves : List (Nat × Nat)
  atoms : List Nat
  /-- CLOSING copies still to send, REASON, when the next is due; the crossing is freed after the last (R438) -/
  copies : Nat
  reason : Nat
  copyAt : Nat
  freeAfter : Bool
  /-- both key slots are emptied after the last copy (R433) -/
  zeroAfter : Bool
  /-- the CLOSE and the RETIRE that wait -/
  closeTk : Option TKey
  retireTk : Option TKey
  deriving DecidableEq, Repr

/-- An NVMe command of the storage service (R485, R508): unit k a drive, 8 + t target t; opcode (256 + opcode on the admin
queue); the ticket it serves, as it was; volume, first volume block, media LBA, blocks; data to write, data read by offset. -/
structure StoCmd where
  unit : Nat
  cid : Nat
  op : Nat
  tk : Option Ticket
  vol : Nat
  vblk : Nat
  lba : Nat
  n : Nat
  fua : Bool
  pay : List Byte
  data : Tab Byte
  /-- the poisoned ranges of what a drive has written: offset, bytes (R352) -/
  marks : List (Nat × Nat)
  /-- timeouts so far; an Abort is under way; sent (a command held for a power state is not), and when -/
  touts : Nat
  aborting : Bool
  issued : Bool
  at_ : Nat
  /-- its data is discarded (R511): the ticket's berth or the device was reset -/
  dead : Bool
  deriving DecidableEq, Repr

/-- A drive beyond its registers. -/
structure DrvH where
  /-- how far initialization has come: 0 none, 1 Identify Controller, 2 Identify Namespace, 3 Set Features -/
  step : Nat
  /-- maximum data transfer size in blocks, 0 none -/
  mdts : Nat
  serial : List Byte
  /-- power state descriptors: ENLAT, EXLAT -/
  psd : List (Nat × Nat)
  /-- Tide time since which no command is outstanding; 0 steady, 1 entering NOPS, 2 returning to state 0 -/
  idleFrom : Nat
  phase : Nat
  deriving DecidableEq, Repr

/-- A target beyond its registers: its record; namespaces reported (4,096-byte format, blocks) by NSID; Keep Alive: when it
was last sent, unanswered; bytes sent and not acknowledged, oldest segment first; the RTO in ns. -/
structure TgtH where
  record : List Byte
  ns : Tab (Bool × Nat)
  kaAt : Nat
  kaOut : Bool
  unacked : List (List Byte)
  rto : Nat
  deriving DecidableEq, Repr

/-- The storage service: commands outstanding, oldest first; the next identifier; drives; IDHASH of each volume's drives at
its creation (R510), by volume × 8 + drive; targets. -/
structure StoS where
  cmds : List StoCmd
  nextCid : Nat
  drv : Tab DrvH
  ids : Tab Word
  tgt : Tab TgtH
  deriving DecidableEq, Repr

/-- An SPDM session (R866): identifier, binding (0 PCIe VDM, 1 I3C0), established, KEY_UPDATEs taken. -/
structure SpdmSess where
  id : Nat
  binding : Nat
  up : Bool
  updates : Nat
  deriving DecidableEq, Repr

/-- The Tollhouse beyond its registers and key slots: SPDM connection state per binding (0 none, 1 after GET_VERSION, 2 after
GET_CAPABILITIES, 3 after NEGOTIATE_ALGORITHMS), sessions; the fuses of R872, R873, R854; digests of the helm image running and
of the image whose keeper firmware is in effect (R867); the stream keys of APn (empty: none). -/
structure TlhS where
  conn : Tab Nat
  sess : List SpdmSess
  nextSess : Nat
  minSvn : Nat
  advances : Nat
  revoked : Nat
  debugOpen : Bool
  helm : List Byte
  keeper : List Byte
  apKeys : Tab (List Byte)
  deriving DecidableEq, Repr

/-- A CAN FD frame: ARG0 of CAN_SEND (Table 20.6), with TRUNCATED in bit 39; data; Tide time of its arrival. -/
structure CanF where
  word : Nat
  data : List Byte
  tide : Nat
  deriving DecidableEq, Repr

/-- The CAN FD controller beyond TASK_CAN (R730 to R734): queue and FIFO, oldest first; filters (ID with IDE in bit 29, MASK)
plus set; the ACK count; LONE since (Tide time plus 1), when the next probe is due, frames dropped meanwhile. -/
structure CanS where
  enabled : Bool
  nominal : Nat
  dataRate : Nat
  txq : List CanF
  fifo : List CanF
  filters : Tab (Option (Nat × Nat))
  ackCount : Nat
  loneAt : Nat
  probeAt : Nat
  dropped : Nat
  deriving DecidableEq, Repr

/-- The Gauge beyond its mirror: FIFO, oldest first; a marker is owed before the next word; the channel being visited plus 1,
words delivered in the visit, the valid words of a visit without a filter reset counted from `pos` 4; Tide time of the last
word; settings and thresholds that wait for the next visit (channel: GAU_CFG bits, GAU_THRESH word; plus set); sums and counts
of n; consecutive words outside the limits. -/
structure GaugeS where
  fifo : List Nat
  owed : Bool
  cur : Nat
  pos : Nat
  lastAt : Nat
  want : Tab (Option Word)
  wantT : Tab (Option (Word × Word))
  sum : Tab Int
  outside : Tab Nat
  deriving DecidableEq, Repr

/-- An extent of the vault region (Table 24.3): DPA, length, owner, mooring index, generation, VA. -/
structure VltExt where
  dpa : Nat
  len : Nat
  owner : Nat
  index : Nat
  gen : Nat
  va : Nat
  deriving DecidableEq, Repr

/-- The Tide Vault beyond its registers: IDHASH per drive position at SET, PENDING's and the configuration's copy in the store
being the registers'; ARM in effect; next SEQ.  A drain: its start and freeze point, extents frozen, SEQ, phase (0 none, 1
copying, 2 flushing, 3 sealing, 4 sealed), next unit per position, units outstanding (position, unit), units copied.  A
restore: phase (0 none, 1 reading the chunk table, 2 the image), task set, SEQ, slot, header words, next unit, bytes read of
the part in hand, the chunk table, extents read, TABLE_KEY and TABLE_OFF. -/
structure VltS where
  ids : List Word
  armed : Bool
  nextSeq : Nat
  start : Nat
  freeze : Nat
  ext : List VltExt
  seq : Nat
  phase : Nat
  next : List Nat
  out : List (Nat × Nat)
  copied : Tab (List Byte)
  rphase : Nat
  rslot : Nat
  rhead : List Word
  runit : Nat
  rgot : List Byte
  rtable : List Byte
  rext : List VltExt
  rbytes : Nat
  rkey : Nat
  roff : Nat
  deriving DecidableEq, Repr

/-- The TAP (R923): instruction register (0 BYPASS, 1 IDCODE, 2 SAMPLE/PRELOAD, 3 EXTEST), the bypass bit, the boundary
register's cells, and whether the pins are driven from it. -/
structure TapS where
  ir : Nat
  bypass : Bool
  cells : List Bool
  driving : Bool
  deriving DecidableEq, Repr

/-- The device: the registers, the memories, and each unit's own state. -/
structure Dev where
  /-- every register of the map by its key; an unlisted one holds its Reset value (`resetReg`) -/
  regs : Tab Word
  /-- HBM, Cistern scratch, Pan SRAM and the feed stores, by DPA (R134) -/
  mem : Tab Byte
  /-- ranges of DPA whose contents the spec calls unspecified: first, end, tag (R79) -/
  stale : List (Nat × Nat × Nat)
  /-- poisoned 64-byte granules, by DPA / 64 -/
  poison : Tab Bool
  /-- Tide time in ns (R513) -/
  tide : Nat
  /-- the model's own: the free-value counter -/
  free : Nat
  /-- what the device sent, newest first -/
  sent : List Emit
  time : TimeS
  clk : Tab ClkIsl
  cause : CauseS
  power : PowerS
  slip : SlipS
  log : LogS
  err : ErrS
  toll : TollS
  /-- tickets in flight, oldest first -/
  tickets : List Ticket
  /-- work below each ticket still live, one entry an item (R197, R198) -/
  work : List TKey
  /-- slot generations (R195): (b × 64 + r) × 65,536 + slot -/
  gens : Tab Nat
  ringH : Tab RingH
  berthH : Tab BerthH
  moor : MoorS
  /-- per registered mooring index: where its pages lay at registration, as (region, pages); region q for quad q,
  8 + 16 k + u for unit u of Cistern k (R79) -/
  moorPages : Tab (List (Nat × Nat))
  host : HostS
  /-- outstanding non-posted requests, oldest first, and the next tag -/
  outst : List Outst
  nextTag : Nat
  /-- enabled rings, in the order of their enabling: b × 64 + r -/
  ringsOn : List Nat
  /-- dispatch credits of classes 1 to 3 (R191) -/
  credits : List Nat
  /-- the ring served last in each class, plus 1 -/
  lastServed : Tab Nat
  /-- downstream ports -/
  ports : Tab PortH
  /-- crossings not FREE, by ID; one more than the ID allocated last; Tide time plus 1 of each ID's release (R405) -/
  xing : Tab Xing
  xctLast : Nat
  xctFreed : Tab Nat
  /-- key slots of the Tollhouse (R855) -/
  tlh : Tab TlhKey
  /-- the storage service -/
  sto : StoS
  /-- Rakers: Pan × 4 + Raker -/
  rakers : Tab RakerS
  pans : Tab PanS
  /-- per Crystallizer: Rakers stalled on CRY_GO, Pan × 4 + Raker, oldest first (R673) -/
  cryStall : Tab (List Nat)
  /-- frames inside the Wharves, oldest first; frames in the transmit queues; the next frame's number -/
  frames : List FrameS
  txq : List TxFrame
  nextFrame : Nat
  wharf : Tab WharfS
  /-- Ferryman -/
  ferry : FerryS
  /-- Tide time from which PWR_COUNTS.BRAKE_US still has to count -/
  brakeFrom : Nat
  /-- the Tollhouse beyond its key slots -/
  tlhs : TlhS
  /-- CAN FD controller, Gauge, Tide Vault, TAP -/
  can : CanS
  gauge : GaugeS
  vlt : VltS
  tap : TapS
  /-- extents of each vault-class mooring, as its pages translated at registration (R819): DPA, VA, pages -/
  moorExt : Tab (List (Nat × Nat × Nat))
  deriving DecidableEq, Repr

/-- Why the block stops with a fault. -/
inductive Fault where
  /-- raised by no command of this model: every error the spec describes is taken as the spec describes it; safe -/
  | none
  deriving DecidableEq, Repr

/-- Why the block refuses a command. -/
inductive Refusal where
  /-- raised by exec's arm of a command that has no meaning yet; safe -/
  | notModelled (mnemonic : String)
  deriving DecidableEq, Repr

def RingH.init : RingH := ⟨0, 0, 0, false, [], []⟩
def TimeS.init : TimeS := ⟨0, 0, 0, [], [], 0, 0, 0, 0, 0, 0, 0, 0⟩
def BerthH.init : BerthH := ⟨0, 0, 0, false, [], 0, 0⟩
def ClkIsl.init : ClkIsl := ⟨0, 0, 0, 0, true⟩
def StrandHalf.init : StrandHalf := ⟨1023, 0, 0, [], []⟩
/-- A stream with no RID association: its range is empty. -/
def IdeStream.init : IdeStream := ⟨0, 1, 0, [], 0, []⟩

def PortH.init : PortH := ⟨false, true, false, 0, 0, 0, 128, [], 0⟩
def Xing.init : Xing := ⟨[], 0, 0, none, none, 0, 0, [], [], none, [], 0, 0, 0, 0, 0, 0, 0, 0, 0, 0, 0, [], [], [], 0, [], [], [], [], [], 0, 0, 0, false, false, none, none⟩
def TlhKey.init : TlhKey := ⟨0, 0, [], 0⟩
def DrvH.init : DrvH := ⟨0, 0, [], [], 0, 0⟩
def TgtH.init : TgtH := ⟨[], [], 0, false, [], 1000000⟩
def RakerS.init : RakerS := ⟨false, false, false, 0, 0, [], [], [], 0, 0, 0, 0, 0, [], [], 0, [], []⟩
def PanS.init : PanS := ⟨[], 0, [], [], 0, 0, none, 0, 0, [], [], [], [], 0, 0, false, 0x9E3779B9, 0, 0, 0, 0, 0, 0, false⟩
def WharfS.init : WharfS := ⟨[], [], [], [], [], [], 0, [], [], []⟩
def FwSlot.init : FwSlot := ⟨false, false, 0, 0, 0, false, []⟩
def FerryS.init : FerryS := ⟨0, 0, 0, false, 0, List.replicate 8 (false, 0, 0), [], [], FwSlot.init, FwSlot.init, 0, 0, 0, 0, 0, [], [], 0, false, 0, 0, [], [], [], [], [], 0, 0, 0, [], 0⟩
def GaugeS.init : GaugeS := ⟨[], false, 0, 0, 0, [], [], [], []⟩
def VltS.init : VltS := ⟨[], false, 1, 0, 0, [], 0, 0, [], [], [], 0, 0, [], 0, [], [], [], 0, 0, 0⟩

/-- R773: the thermal curve with no stored policy. -/
def defaultCurve : List (Bool × Nat × Nat) :=
  [(true, 95, 600), (true, 100, 450), (true, 103, 320), (false, 0, 0), (false, 0, 0), (false, 0, 0), (false, 0, 0), (false, 0, 0)]

/-- The device right after reset: a cold start has begun, station 1 (R789); every register holds its Reset value. -/
def Dev.reset : Dev where
  regs := []
  mem := []
  stale := []
  poison := []
  tide := 0
  free := 0
  sent := []
  time := TimeS.init
  clk := []
  cause := ⟨[], [], [], false, false, false, false, 0, [], [], [], []⟩
  power := ⟨0, 0, 110, defaultCurve, [], false, false, 0, 0, 0⟩
  slip := ⟨true, false, false, false, 0, 0, 0, false, 0, [], [], [], false, false, 0, 250, 100, 2, 15, 255, false, [], [], 0, [250, 100, 2, 15, 255]⟩
  log := ⟨0, [], [], false⟩
  err := ⟨[], []⟩
  toll := ⟨[], [], false⟩
  tickets := []
  work := []
  gens := []
  ringH := []
  berthH := []
  moor := ⟨0, [], []⟩
  moorPages := []
  host := ⟨[], 0, false, 0, [], [], [], false, [], false⟩
  outst := []
  nextTag := 0
  ringsOn := []
  credits := [4, 2, 1]
  lastServed := []
  ports := []
  xing := []
  xctLast := 0
  xctFreed := []
  tlh := []
  sto := ⟨[], 0, [], [], []⟩
  rakers := []
  pans := []
  cryStall := []
  frames := []
  txq := []
  nextFrame := 0
  wharf := []
  ferry := FerryS.init
  brakeFrom := 0
  tlhs := ⟨[], [], 0, 0, 0, 0, false, [], [], []⟩
  can := ⟨false, 0, 0, [], [], [], 0, 0, 0, 0⟩
  gauge := GaugeS.init
  vlt := VltS.init
  tap := ⟨1, false, [], false⟩
  moorExt := []

/-- The state of the block: the queue of waiting commands, the device, and the units no other unit reaches into. -/
structure State where
  /-- the commands that wait, first in, first out -/
  pending : List Instr
  dev : Dev
  deriving DecidableEq, Repr

/-- The block right after reset. -/
def State.reset : State where
  pending := []
  dev := Dev.reset

end Sys2Proof.Machine
end

