-- ==== Sys2Proof/Machine/Ops.lean ====
section
/-! DEFINITION. The named operations every unit uses: sparse tables, bit fields, the register file, the memory by DPA,
what is sent, the event log, sequence comparison, the clock. -/

namespace Sys2Proof.Machine

/-- The outcome of a command. -/
abbrev Out := Host.Outcome State Fault Refusal

/-! Sparse tables -/

/-- The entry of a key; the key's default where none is listed. -/
def tget {α : Type} (d : Nat → α) : Tab α → Nat → α
  | [], k => d k
  | (k', v) :: t, k => if k = k' then v else tget d t k

/-- The table without a key. -/
def tdel {α : Type} (k : Nat) : Tab α → Tab α
  | [] => []
  | (k', v) :: t => if k' = k then tdel k t else (k', v) :: tdel k t

/-- A key entered in its place, keys rising. -/
def tins {α : Type} (k : Nat) (v : α) : Tab α → Tab α
  | [] => [(k, v)]
  | (k', v') :: t => if k < k' then (k, v) :: (k', v') :: t else if k = k' then (k, v) :: t else (k', v') :: tins k v t

/-- Write an entry, keeping the canonical form: a value equal to the default removes the entry. -/
def tput {α : Type} [DecidableEq α] (d : Nat → α) (t : Tab α) (k : Nat) (v : α) : Tab α :=
  if v = d k then tdel k t else tins k v t

/-- The table without the keys a test selects. -/
def tdrop {α : Type} (p : Nat → Bool) (t : Tab α) : Tab α := t.filter (fun kv => !p kv.1)

/-- The canonical form: keys strictly rising, no entry equal to its default. -/
def tabWf {α : Type} [DecidableEq α] (d : Nat → α) : Tab α → Bool
  | [] => true
  | (k, v) :: t => decide (v ≠ d k) && t.all (fun kv => decide (k < kv.1)) && tabWf d t

/-! Bit fields and bytes -/

/-- A word with bits [lo + len − 1 : lo] replaced. -/
def setBits (w : Word) (lo len v : Nat) : Word :=
  (w &&& ~~~(BitVec.ofNat 64 ((2 ^ len - 1) * 2 ^ lo))) ||| BitVec.ofNat 64 (v % 2 ^ len * 2 ^ lo)

/-- Bits of a word. -/
def getBits (w : Word) (lo len : Nat) : Nat := bitsOf w.toNat lo len

/-- A number made of fields (lo, len, value). -/
def pack (fs : List (Nat × Nat × Nat)) : Nat := (fs.map (fun f => f.2.2 % 2 ^ f.2.1 * 2 ^ f.1)).sum

/-- A word made of fields. -/
def packW (fs : List (Nat × Nat × Nat)) : Word := BitVec.ofNat 64 (pack fs)

/-- n bytes of a number, least significant first (R10). -/
def leBytes : Nat → Nat → List Byte
  | 0, _ => []
  | n + 1, x => BitVec.ofNat 8 x :: leBytes n (x / 256)

/-- The number of bytes given least significant first. -/
def ofLe : List Byte → Nat
  | [] => 0
  | b :: bs => b.toNat + 256 * ofLe bs

/-- n bytes of a number, most significant first (R11). -/
def beBytes (n x : Nat) : List Byte := (leBytes n x).reverse

/-- The number of bytes given most significant first. -/
def ofBe (bs : List Byte) : Nat := ofLe bs.reverse

/-- The words of an entry in memory (R10). -/
def toWords : Nat → List Byte → List Word
  | 0, _ => []
  | n + 1, bs => BitVec.ofNat 64 (ofLe (bs.take 8)) :: toWords n (bs.drop 8)

/-- The bytes of an entry's words. -/
def wordBytes (ws : List Word) : List Byte := ws.flatMap (fun w => leBytes 8 w.toNat)

/-- Word i of an entry; zero past its end. -/
def wordAt (ws : List Word) (i : Nat) : Word := ws.getD i 0

/-- A field of word i of an entry. -/
def wf (ws : List Word) (i lo len : Nat) : Nat := getBits (wordAt ws i) lo len

/-- The sign-extended value of the low n bits. -/
def signed (n x : Nat) : Int := if x % 2 ^ n < 2 ^ (n - 1) then (x % 2 ^ n : Nat) else (x % 2 ^ n : Nat) - (2 ^ n : Nat)

/-! Comparing sequence numbers -/

/-- R13: whether a is later than b, with N bits. -/
def after (a b n : Nat) : Bool :=
  let d := (a + 2 ^ n - b % 2 ^ n) % 2 ^ n
  decide (1 ≤ d) && decide (d ≤ 2 ^ (n - 1) - 1)

/-- R13: whether a and b are the same, with N bits. -/
def same (a b n : Nat) : Bool := decide (a % 2 ^ n = b % 2 ^ n)

/-- R13: whether a is earlier than b. -/
def before (a b n : Nat) : Bool := after b a n

/-- (a − b) mod 2^n. -/
def subMod (a b n : Nat) : Nat := (a + 2 ^ n - b % 2 ^ n) % 2 ^ n

/-! Reset values that the register tables give by reference -/

/-- Table 3.7: NINT and DIV of island n. -/
def islandReset (n : Nat) : Nat × Nat :=
  if n < 64 then (88, 2) else if n < 96 then (64, 2) else if n < 100 then (80, 2) else if n < 104 then (64, 2)
  else if n < 112 then (60, 2) else if n < 114 then (64, 2) else if n = 114 then (80, 2) else (96, 12)

/-- Table 22.2: entry and exit latency in ns of Ebb, Neap, Slack. -/
def latReset (t : Nat) : Word :=
  if t = 0 then packW [(0, 32, 10), (32, 32, 50)] else if t = 1 then packW [(0, 32, 100), (32, 32, 400)]
  else packW [(0, 32, 20000), (32, 32, 40000)]

/-- R754: EN 1, GAIN 0, OSR code 3, DWELL 4; HI enabled with PERSIST 4 on channels 0–15. -/
def gaugeCfgReset (ch : Nat) : Word :=
  packW [(0, 1, 1), (1, 3, 0), (4, 5, 3), (16, 8, 4), (24, 1, if ch < 16 then 1 else 0), (28, 4, if ch < 16 then 4 else 0)]

/-- R754: HI 102,400 on channels 0–15. -/
def gaugeThreshReset (ch : Nat) : Word := packW [(0, 32, if ch < 16 then 102400 else 0)]

/-- R749: MIN and MAX after a clear. -/
def gaugeMinMaxReset : Word := packW [(0, 32, 0x7FFFFFFF), (32, 32, 0x80000000)]

/-- R787: PWR_ISL_n after cold start: Pan quads in Ebb at ÷4, Crystallizers in Slack, the rest in Flood. -/
def pwrIslReset (n : Nat) : Word :=
  if n < 64 then packW [(0, 2, 1), (2, 2, 2)] else if n < 96 then packW [(0, 2, 3)] else 0

/-! The register file -/

/-- The Reset value a row's fields give. -/
def RegSpec.resetWord (s : RegSpec) : Word :=
  s.fields.foldl (fun w f => setBits w f.lo f.len f.reset) 0

/-- R9: a register's Reset value.  Rows whose Reset column names a rule or a table are filled in here: Table 3.7
(islands), Table 22.2 (latencies), R749 and R754 (Gauge channels), R787 (islands start in Slack), R84 (no link 14, 15), R794 (the cap level starts at 32), R367 (MAC 0
exists in every MODE). -/
def resetReg (k : Nat) : Word :=
  match findSpec k with
  | none => 0
  | some sp =>
    let w := sp.resetWord
    let i := (k - sp.base) / sp.s1
    if sp.name = "CLK_ISL_TARGET" then setBits (setBits w 24 7 (islandReset i).1) 32 4 (islandReset i).2
    else if sp.name = "PWR_ISL" then pwrIslReset i
    else if sp.name = "PWR_STATUS" then setBits w 16 6 32
    else if sp.name = "PWR_LAT" then latReset i
    else if sp.name = "GAU_CFG" then gaugeCfgReset i
    else if sp.name = "GAU_THRESH" then gaugeThreshReset i
    else if sp.name = "GAU_MINMAX" then gaugeMinMaxReset
    else if sp.name = "ERR_GLEDA" && (i = 14 || i = 15) then 0
    else if sp.name = "WHF_MAC_STATUS" && (k - sp.base) % sp.s1 = 0 then setBits w 1 1 1
    else w

/-- A register's word. -/
def Dev.reg (s : Dev) (k : Nat) : Word := tget resetReg s.regs k

/-- The device sets a register's word. -/
def Dev.setReg (s : Dev) (k : Nat) (w : Word) : Dev := { s with regs := tput resetReg s.regs k w }

/-- A field's value. -/
def Dev.get (s : Dev) (f : Fld) : Nat := getBits (s.reg f.key) f.lo f.len

/-- The device sets a field. -/
def Dev.put (s : Dev) (f : Fld) (v : Nat) : Dev := s.setReg f.key (setBits (s.reg f.key) f.lo f.len v)

/-- Whether a field is not zero. -/
def Dev.on (s : Dev) (f : Fld) : Bool := s.get f != 0

/-- A counter field that saturates. -/
def Dev.sat (s : Dev) (f : Fld) (n : Nat := 1) : Dev := s.put f (min (s.get f + n) (2 ^ f.len - 1))

/-- A counter field that wraps. -/
def Dev.wrap (s : Dev) (f : Fld) (n : Nat := 1) : Dev := s.put f (s.get f + n)

/-- Every register a test selects back to its Reset value (R9). -/
def Dev.resetRegs (s : Dev) (p : Nat → Bool) : Dev := { s with regs := tdrop p s.regs }

/-- Whether a field's encoding is not reserved (R7). -/
def RegField.ok (f : RegField) (v : Nat) : Bool := f.legal.isEmpty || f.legal.any (fun r => decide (r.1 ≤ v ∧ v ≤ r.2))

/-- The bits of a field that a write with a byte-lane mask covers: mask of field-relative bits. -/
def laneMask (size off lo len : Nat) : Nat :=
  -- size 8 covers all; size 4 covers bits 0–31 (off 0) or 32–63 (off 4)
  if size = 8 then 2 ^ len - 1
  else
    let a := max lo (off * 8)
    let b := min (lo + len) (off * 8 + 32)
    if a < b then (2 ^ (b - a) - 1) * 2 ^ (a - lo) else 0

/-- R6, R7, R12: the word a register holds after a write, field by field.  `checked` false: reserved encodings are
stored (R238). -/
def writeFields (fs : List RegField) (checked : Bool) (old data : Word) (size off : Nat) : Word :=
  fs.foldl (fun w f =>
    let m := laneMask size off f.lo f.len
    let o := getBits old f.lo f.len
    let n := getBits data f.lo f.len
    let merged := (n &&& m) ||| (o &&& ((2 ^ f.len - 1) ^^^ m))
    match f.acc with
    | .rw => if checked && !f.ok merged then w else setBits w f.lo f.len merged
    | .w1c => setBits w f.lo f.len (o &&& ((2 ^ f.len - 1) ^^^ (n &&& m)))
    | .w1s => setBits w f.lo f.len (o ||| (n &&& m))
    | _ => w) old

/-- The value a WO field receives in a write; 0 where the write does not cover it. -/
def woBits (data : Word) (size off lo len : Nat) : Nat := getBits data lo len &&& laneMask size off lo len

/-- R6, R12: a write takes effect by the access codes alone. -/
def Dev.writeReg (s : Dev) (k : Nat) (data : Word) (size off : Nat) : Dev :=
  match findSpec k with
  | none => s
  | some sp => s.setReg k (writeFields sp.fields (!(0x100000 ≤ k && k < 0x200000)) (s.reg k) data size off)

/-- R6: what a read of a register's stored fields returns: WO fields read zero. -/
def readFields (fs : List RegField) (w : Word) : Word :=
  fs.foldl (fun acc f => if f.acc = .wo then acc else setBits acc f.lo f.len (getBits w f.lo f.len)) 0

/-- R6, R17, R295: the word after the RC fields that lie wholly in the read have cleared. -/
def clearRc (fs : List RegField) (w : Word) (size off : Nat) : Word :=
  fs.foldl (fun acc f =>
    if f.acc = .rc && laneMask size off f.lo f.len = 2 ^ f.len - 1 then setBits acc f.lo f.len 0 else acc) w

/-- R6: the value a read returns from the stored fields. -/
def Dev.readReg (s : Dev) (k : Nat) : Word :=
  match findSpec k with
  | none => 0
  | some sp => readFields sp.fields (s.reg k)

/-- R17: the RC fields a read covers clear. -/
def Dev.rcClear (s : Dev) (k size off : Nat) : Dev :=
  match findSpec k with
  | none => s
  | some sp => s.setReg k (clearRc sp.fields (s.reg k) size off)

/-! The memory by DPA (R134) -/

/-- What an unlisted byte reads as: zero, or in a range whose contents the spec calls unspecified a free byte (R79). -/
def memDflt (stale : List (Nat × Nat × Nat)) (a : Nat) : Byte :=
  match stale.find? (fun r => decide (r.1 ≤ a ∧ a < r.2.1)) with
  | some r => Config.staleByte r.2.2 a
  | none => 0

/-- The memory's canonical form: addresses rising, no entry equal to what an unlisted address reads as. -/
def Memory.wf (s : Dev) : Bool := tabWf (memDflt s.stale) s.mem

/-- One byte of the device's memory. -/
def Dev.byte (s : Dev) (a : Nat) : Byte := tget (memDflt s.stale) s.mem a

/-- n bytes of the device's memory from a DPA. -/
def Dev.bytes (s : Dev) (a n : Nat) : List Byte := (List.range n).map (fun i => s.byte (a + i))

/-- Bytes entered one after the other. -/
def putBytes (d : Nat → Byte) (m : Tab Byte) (a : Nat) : List Byte → Tab Byte
  | [] => m
  | b :: bs => putBytes d (tput d m a b) (a + 1) bs

/-- R49: the stack and the in-stack offset of an HBM address. -/
def Dev.stackOf (s : Dev) (dpa : Nat) : Nat × Nat :=
  let q := bitsOf dpa 35 3
  let o := bitsOf dpa 0 35
  if s.get Fld.IDENT_HBM_MAP_QUAD_HOME / 2 ^ q % 2 = 0 then
    (bitsOf o 12 3 ^^^ bitsOf o 15 3, q * 2 ^ 32 + bitsOf o 15 20 * 4096 + bitsOf o 0 12)
  else (2 * bitsOf o 33 2 + bitsOf o 12 1, q * 2 ^ 32 + bitsOf o 13 20 * 4096 + bitsOf o 0 12)

/-- R116: an HBM address whose channel's DLL has been unlocked past its hold: every access completes poisoned. -/
def Dev.channelLost (s : Dev) (a : Nat) : Bool :=
  decide (a < 0x4000000000) && !s.cause.dllHbm.isEmpty &&
    s.cause.dllHbm.any (fun c => c.2 && c.1 = (s.stackOf a).1 * 64 + Config.hbmChannel (s.stackOf a).2)

/-- Whether the 64-byte granule of a DPA is poisoned (R51, R559, R668, R891). -/
def Dev.poisonedAt (s : Dev) (a : Nat) : Bool := tget (fun _ => false) s.poison (a / 64) || s.channelLost a

/-- The granules a range touches. -/
def granules (a n : Nat) : List Nat := if n = 0 then [] else (List.range ((a + n - 1) / 64 - a / 64 + 1)).map (fun i => a / 64 + i)

/-- Whether any granule of a range is poisoned. -/
def Dev.poisoned (s : Dev) (a n : Nat) : Bool := (granules a n).any (fun g => s.poisonedAt (g * 64))

/-- R892: the poison marks after a write: poisoned data marks every granule it touches; only a whole aligned granule of
clean data removes a mark. -/
def poisonAfter (p : Tab Bool) (a n : Nat) (bad : Bool) : Tab Bool :=
  (granules a n).foldl (fun p g =>
    if bad then tput (fun _ => false) p g true
    else if decide (a ≤ g * 64 ∧ g * 64 + 64 ≤ a + n) then tput (fun _ => false) p g false else p) p

/-- Write bytes at a DPA, clean or poisoned. -/
def Dev.writeMem (s : Dev) (a : Nat) (bs : List Byte) (bad : Bool := false) : Dev :=
  { s with mem := putBytes (memDflt s.stale) s.mem a bs, poison := poisonAfter s.poison a bs.length bad }

/-- The poisoned ranges of a read: offset, bytes (R51: the granules that hold a mark). -/
def Dev.poisonRuns (s : Dev) (a n : Nat) : List (Nat × Nat) :=
  (granules a n).filterMap (fun g =>
    if s.poisonedAt (g * 64) then some (max a (g * 64) - a, min (a + n) (g * 64 + 64) - max a (g * 64)) else none)

/-- The part of marked ranges that falls in n bytes from an offset, counted from there. -/
def clipRuns (ms : List (Nat × Nat)) (off n : Nat) : List (Nat × Nat) :=
  ms.filterMap (fun m => if max m.1 off < min (m.1 + m.2) (off + n) then some (max m.1 off - off, min (m.1 + m.2) (off + n) - max m.1 off) else none)

/-- Ranges moved up by an offset. -/
def shiftRuns (ms : List (Nat × Nat)) (off : Nat) : List (Nat × Nat) := ms.map (fun m => (m.1 + off, m.2))

/-- Bytes of which some ranges are poisoned are written: those stay poisoned at their destination (R51, R270). -/
def Dev.writeMarked (s : Dev) (a : Nat) (bs : List Byte) (ms : List (Nat × Nat)) : Dev :=
  let s1 := s.writeMem a bs
  { s1 with poison := ms.foldl (fun p m => poisonAfter p (a + m.1) m.2 true) s1.poison }

/-- A range becomes zero and clean (station 8, R793; a scrub, R235; a table clear, R276). -/
def Dev.zeroMem (s : Dev) (a n : Nat) : Dev :=
  { s with
    mem := (tdrop (fun k => decide (a ≤ k ∧ k < a + n)) s.mem)
    poison := tdrop (fun g => decide (a ≤ g * 64 ∧ g * 64 < a + n)) s.poison
    stale := s.stale.flatMap (fun r =>
      if r.2.1 ≤ a ∨ a + n ≤ r.1 then [r]
      else (if r.1 < a then [(r.1, a, r.2.2)] else []) ++ (if a + n < r.2.1 then [(a + n, r.2.1, r.2.2)] else [])) }

/-- A range's contents become unspecified (R79). -/
def Dev.scrambleMem (s : Dev) (a n : Nat) : Dev :=
  let s1 := s.zeroMem a n
  { s1 with stale := (a, a + n, s1.free) :: s1.stale, free := s1.free + 1 }

/-! Configuration space (R289 to R293); the fields' places are those of the PCIe base specification -/

/-- The PF's configuration space at reset, by DW offset (Tables 8.2 to 8.5). -/
def pfCfg (o : Nat) : BitVec 32 :=
  match o with
  | 0x00 => 0x50201F3C | 0x04 => 0x00100000 | 0x08 => 0x02000000 | 0x10 => 0x00000004 | 0x18 => 0x0000000C
  | 0x2C => 0x00201F3C | 0x34 => 0x00000040
  | 0x40 => 0xC8035001 | 0x44 => 0x00000008
  | 0x50 => 0x07FF6011 | 0x54 => 0x03880000 | 0x58 => 0x03890000
  | 0x60 => 0x00020010 | 0x64 => 0x10008022 | 0x68 => 0x00002810 | 0x6C => 0x0005A906
  | 0x84 => 0x0003181F | 0x8C => 0x0000007E
  | 0x100 => 0x15020001 | 0x108 => 0x00400000 | 0x10C => 0x00462030 | 0x114 => 0x00006000
  | 0x150 => 0x1581000E | 0x158 => 0x16810003 | 0x168 => 0x1A810010 | 0x174 => 0x00800080 | 0x17C => 0x00010001
  | 0x180 => 0x50210000 | 0x184 => 0x00000055 | 0x188 => 0x00000001 | 0x18C => 0x00000004 | 0x194 => 0x0000000C
  | 0x1A8 => 0x1B010018 | 0x1B0 => 0x1C01001E | 0x1C0 => 0x1F010019 | 0x1F0 => 0x20010025 | 0x200 => 0x24010026
  | 0x240 => 0x2701002A | 0x270 => 0x2A010031 | 0x2A0 => 0x30010027 | 0x300 => 0x00010030 | 0x304 => 0x00070042
  | _ => 0

/-- A VF's configuration space at reset (R291). -/
def vfCfg (o : Nat) : BitVec 32 :=
  match o with
  | 0x00 => 0xFFFFFFFF | 0x04 => 0x00100000 | 0x08 => 0x02000000 | 0x2C => 0x00201F3C | 0x34 => 0x00000050
  | 0x50 => 0x003F6011 | 0x54 => 0x00030000 | 0x58 => 0x00038000
  | 0x60 => 0x00020010 | 0x64 => 0x10008022 | 0x6C => 0x0005A906 | 0x84 => 0x0003181F
  | 0x100 => 0x15020001 | 0x10C => 0x00462030 | 0x114 => 0x00002000 | 0x150 => 0x0001000E
  | _ => 0

/-- Configuration space at reset by key: function × 4,096 + offset. -/
def cfgReset (k : Nat) : BitVec 32 :=
  if k < 4096 then (if 0x30C ≤ k ∧ k < 0x46C ∧ (k - 0x30C) % 44 = 0 then 2 else pfCfg k) else vfCfg (k % 4096)

/-- A configuration DW. -/
def Dev.cfg (s : Dev) (f o : Nat) : BitVec 32 := tget cfgReset s.host.cfg (f * 4096 + o)

/-- The device or the host sets a configuration DW. -/
def Dev.setCfg (s : Dev) (f o : Nat) (v : BitVec 32) : Dev :=
  { s with host := { s.host with cfg := tput cfgReset s.host.cfg (f * 4096 + o) v } }

/-- A configuration field. -/
def Dev.cfgBits (s : Dev) (f o lo len : Nat) : Nat := bitsOf (s.cfg f o).toNat lo len

/-- Set a configuration field. -/
def Dev.putCfg (s : Dev) (f o lo len v : Nat) : Dev :=
  let w := (s.cfg f o).toNat
  s.setCfg f o (BitVec.ofNat 32 (w - bitsOf w lo len * 2 ^ lo + v % 2 ^ len * 2 ^ lo))

/-- Memory Space Enable: of the PF; of a VF the SR-IOV capability's VF MSE. -/
def Dev.mse (s : Dev) (f : Nat) : Bool := if f = 0 then s.cfgBits 0 4 1 1 = 1 else s.cfgBits 0 0x170 3 1 = 1
/-- Bus Master Enable of a function. -/
def Dev.bme (s : Dev) (f : Nat) : Bool := s.cfgBits f 4 2 1 = 1
/-- MSI-X Enable of a function. -/
def Dev.msixOn (s : Dev) (f : Nat) : Bool := s.cfgBits f 0x50 31 1 = 1
/-- MSI-X Function Mask. -/
def Dev.msixMaskAll (s : Dev) (f : Nat) : Bool := s.cfgBits f 0x50 30 1 = 1
/-- VF Enable and NumVFs: whether function f exists (R293). -/
def Dev.funcOn (s : Dev) (f : Nat) : Bool :=
  f = 0 || (s.cfgBits 0 0x170 0 1 = 1 && decide (f ≤ s.cfgBits 0 0x178 0 16))
/-- PF0 is in D3hot (R307). -/
def Dev.d3hot (s : Dev) : Bool := s.cfgBits 0 0x44 0 2 = 3
/-- PME_En. -/
def Dev.pmeEn (s : Dev) : Bool := s.cfgBits 0 0x44 8 1 = 1
/-- PME_Status. -/
def Dev.setPmeStatus (s : Dev) (v : Bool) : Dev := s.putCfg 0 0x44 15 1 (if v then 1 else 0)
/-- AtomicOp Requester Enable of a function. -/
def Dev.atomicReq (s : Dev) (f : Nat) : Bool := s.cfgBits f 0x88 6 1 = 1
/-- Enable Relaxed Ordering and Enable No Snoop (R303), taken from the PF's Device Control. -/
def Dev.roEn (s : Dev) : Bool := s.cfgBits 0 0x68 4 1 = 1
def Dev.nsEn (s : Dev) : Bool := s.cfgBits 0 0x68 11 1 = 1

/-- R895: the host link's completion timeout in µs: the upper end of the Device Control 2 range; 64 s while Completion
Timeout Disable is set; 50 ms for the default encoding and for a reserved one. -/
def Dev.hostCtoUs (s : Dev) : Nat :=
  if s.cfgBits 0 0x88 4 1 = 1 then 64000000
  else match s.cfgBits 0 0x88 0 4 with
    | 1 => 100 | 2 => 10000 | 5 => 55000 | 6 => 210000 | 9 => 900000 | 10 => 3500000 | 13 => 13000000 | 14 => 64000000
    | _ => 50000

/-- The link state in which the host port takes requests. -/
def Dev.linkUp (s : Dev) : Bool := s.on Fld.LND_HOST_LINK_LINK_UP

/-! What is sent, free values, the clock -/

/-- Something leaves the device. -/
def Dev.emit (s : Dev) (k : EmitKind) (args : List Nat) (data : List Byte := []) : Dev :=
  { s with sent := ⟨k, args, data⟩ :: s.sent }

/-- A fresh free-value index. -/
def Dev.tick (s : Dev) : Dev := { s with free := s.free + 1 }

/-- n free bytes for an outside address, and the state with the counter advanced. -/
def Dev.outside (s : Dev) (a n : Nat) : List Byte × Dev :=
  ((List.range n).map (fun i => Config.freeByte s.free (a + i)), s.tick)

/-- R516, R517: how far Wall time advances while Tide time advances by d ns: without a step the gap closes at SLEW_PPM,
never past zero (the rate of Table 14.8). -/
def Dev.wallAdvance (s : Dev) (d : Nat) : Nat :=
  let g : Int := (s.time.wall : Int) - s.time.two - s.tide
  let p := s.get Fld.TID_STEP_SLEW_PPM
  if !s.on Fld.TID_STATUS_WALL_VALID || g = 0 then d
  else if 0 < g then
    let w := d * 1000000 / (1000000 + p)
    if (d : Int) - w ≤ g then w else d - g.toNat
  else
    let w := d * 1000000 / (1000000 - p)
    if (w : Int) - d ≤ -g then w else d + (-g).toNat

/-- d ns of Tide time pass. -/
def Dev.pass (s : Dev) (d : Nat) : Dev :=
  { s with tide := s.tide + d, time := { s.time with wall := s.time.wall + s.wallAdvance d } }

/-- A timer's command carries the block to the timer's instant: Tide time never runs back. -/
def Dev.at (s : Dev) (t : Nat) : Dev := if s.tide < t then s.pass (t - s.tide) else s

/-! The event log (R718, R719) -/

/-- R721: ALERT_N is low while the BMC cursor lies behind a volatile record of severity WARNING or higher, or DONE_NEW of
the BMC set is 1. -/
def Dev.alertLow (s : Dev) : Bool :=
  s.on (Fld.TASK_STATE_DONE_NEW 1) ||
    s.log.recs.any (fun r => decide (3 ≤ r.sev) && !before r.seq (s.get (Fld.TASK_LOG_CURSOR 1)) 32)

/-- ALERT_N follows R721, and is sent where it changes. -/
def Dev.syncAlert (s : Dev) : Dev :=
  if s.alertLow = s.log.alertN then s
  else { s with log := { s.log with alertN := s.alertLow } }.emit .pin [3, if s.alertLow then 0 else 1]

/-- R718: one record with the next LOG_SEQ; 4,096 volatile, and 1,024 persistent of severity ERROR or higher. -/
def Dev.logAdd (s : Dev) (sev event berth arg0 arg1 : Nat) : Dev :=
  let q := (s.log.seq + 1) % 2 ^ 32
  let r : LogRec := ⟨event, sev, berth, q, s.tide, arg0, arg1⟩
  let l := s.log
  let s1 := { s with log := { l with
      seq := q
      recs := (r :: l.recs).take 4096
      pers := if 4 ≤ sev then (r :: l.pers).take 1024 else l.pers } }
  let s2 := (s1.put (Fld.TASK_LOG_NEWEST_SEQ 0) q).put (Fld.TASK_LOG_NEWEST_SEQ 1) q
  -- R308: a WARNING record while PERST_N is asserted and PME_En is 1 sets PME_Status and drives WAKE_N low
  let s3 := if 3 ≤ sev && !s2.host.perstHigh && s2.pmeEn then (s2.setPmeStatus true).emit .pin [4, 0] else s2
  s3.syncAlert

/-! The end of a command -/

/-- Read-only fields that show other state follow it: LINK_UP the host link (R319), TRIPPED the thermal trip (R781), LOADED, SESSIONS and
SESSION_ONLY the Tollhouse (Table 25.8), CELL_OK, MAIN_OK and TRIPPED the conditions of R824. -/
def Dev.follow (s : Dev) : Dev :=
  let s1 := s.put Fld.LND_HOST_LINK_LINK_UP (if 1 ≤ s.host.link ∧ s.host.link ≤ 3 then 1 else 0)
  let s2 := s1.put Fld.PWR_STATUS_TRIPPED (if s.power.thermTrip then 1 else 0)
  let s3 := (s2.put Fld.TLH_STATUS_LOADED s.tlh.length).put Fld.TLH_STATUS_SESSIONS s.tlhs.sess.length
  let s4 := s3.put Fld.TLH_STATUS_SESSION_ONLY (s3.get Fld.TLH_CTRL_SESSION_ONLY)
  ((s4.put Fld.VLT_STATUS_CELL_OK (if s.slip.cellLowHigh then 1 else 0)).put Fld.VLT_STATUS_MAIN_OK (if s.slip.believed then 1 else 0)).put
    Fld.VLT_STATUS_TRIPPED (if s.power.thermTrip then 1 else 0)

/-- What follows other state has followed it when a command is done; ALERT_N last (R721). -/
def Dev.settle (s : Dev) : Dev := s.follow.syncAlert

/-- The outcome of a command that leaves the device as d: the block goes on, the waiting commands as they were. -/
def State.done (s : State) (d : Dev) : Out := .next { s with dev := d.settle }

/-- A command's effect on the device alone. -/
def State.dv (s : State) (f : Dev → Dev) : Out := s.done (f s.dev)

/-- A command whose operands name something that exists; any other changes nothing of its own. -/
def State.dvIf (s : State) (c : Bool) (f : Dev → Dev) : Out := s.dv fun d => if c then f d else d

end Sys2Proof.Machine
end

