-- ==== Sys2Proof/Machine/Flags.lean ====
section
/-! DEFINITION. Numbers and their flags (spec/16 R599 to R601, spec/18): exact values, rounding, the encoding into each of
the eighteen formats, IEEE 754 operations, packed decimal.  A flag set is five bits: 1 NV, 2 DZ, 4 OF, 8 UF, 16 NX. -/

namespace Sys2Proof.Machine

/-- An exact value: a NaN, an infinity, or (−1)^neg × n ÷ d × 2^e. -/
inductive Num where
  | nan (signalling : Bool)
  | inf (neg : Bool)
  | fin (neg : Bool) (n d : Nat) (e : Int)
  deriving DecidableEq, Repr

/-- A floating-point layout (Table 18.2): exponent bits, fraction bits, bias, infinities, NaNs (0 none, 1 as IEEE 754,
2 the all-ones encoding only). -/
structure FFmt where
  e : Nat
  m : Nat
  bias : Nat
  inf : Bool
  nan : Nat
  deriving DecidableEq, Repr

/-- The layouts by format code (Table 18.1). -/
def ffmt (code : Nat) : FFmt :=
  match code with
  | 0 => ⟨11, 52, 1023, true, 1⟩
  | 1 => ⟨8, 23, 127, true, 1⟩
  | 2 => ⟨8, 7, 127, true, 1⟩
  | 3 => ⟨5, 10, 15, true, 1⟩
  | 4 => ⟨4, 3, 7, false, 2⟩
  | 5 => ⟨5, 2, 15, true, 1⟩
  | 6 => ⟨3, 2, 3, false, 0⟩
  | 7 => ⟨2, 3, 1, false, 0⟩
  | _ => ⟨2, 1, 1, false, 0⟩

/-- Bits of an element of a format code; 0 for a reserved code. -/
def fmtBits (code : Nat) : Nat :=
  match code with
  | 0 => 64 | 1 => 32 | 2 => 16 | 3 => 16 | 4 => 8 | 5 => 8 | 6 => 6 | 7 => 6 | 8 => 4 | 9 => 8
  | 10 => 32 | 11 => 16 | 12 => 8 | 13 => 8 | 14 => 4 | 15 => 1 | 16 => 64 | 17 => 128 | _ => 0

/-- R648, R649: the value of an encoding. -/
def decodeF (f : FFmt) (x : Nat) : Num :=
  let neg := decide (bitsOf x (f.e + f.m) 1 = 1)
  let E := bitsOf x f.m f.e
  let F := bitsOf x 0 f.m
  let ones := decide (E = 2 ^ f.e - 1)
  if f.nan = 1 && ones then (if F = 0 then .inf neg else .nan (decide (F < 2 ^ (f.m - 1))))
  else if f.nan = 2 && ones && F = 2 ^ f.m - 1 then .nan false
  else if E = 0 then .fin neg F 1 (1 - (f.bias : Int) - f.m)
  else .fin neg (2 ^ f.m + F) 1 ((E : Int) - f.bias - f.m)

/-- ⌊log2 (n ÷ d)⌋ for n and d above 0. -/
def ratLog2 (n d : Nat) : Int :=
  let k : Int := (Nat.log2 n : Int) - Nat.log2 d
  if (if 0 ≤ k then decide (d * 2 ^ k.toNat ≤ n) else decide (d ≤ n * 2 ^ (-k).toNat)) then k else k - 1

/-- R661, R662: n ÷ d × 2^e as a whole number of 2^q: the number, and whether it is inexact.  Modes: 0 RNE, 1 RTZ, 2 RUP,
3 RDN, 4 stochastic with the draw r. -/
def roundAt (mode r : Nat) (neg : Bool) (n d : Nat) (e q : Int) : Nat × Bool :=
  let num := if q ≤ e then n * 2 ^ (e - q).toNat else n
  let den := if q ≤ e then d else d * 2 ^ (q - e).toNat
  let fl := num / den
  let rem := num % den
  let up := match mode with
    | 0 => decide (den < 2 * rem) || (2 * rem = den && fl % 2 = 1)
    | 1 => false
    | 2 => !neg && decide (0 < rem)
    | 3 => neg && decide (0 < rem)
    -- R662 counts from lo: for a negative value lo is the larger magnitude
    | _ => if neg then decide (0 < rem) && decide ((den - rem) * 2 ^ 32 / den ≤ r) else decide (r < rem * 2 ^ 32 / den)
  (if up then fl + 1 else fl, decide (rem ≠ 0))

/-- The largest finite value as (N, q): N × 2^q. -/
def FFmt.maxFinite (f : FFmt) : Nat × Int :=
  if f.nan = 1 then (2 ^ (f.m + 1) - 1, (2 ^ f.e - 2 : Nat) - (f.bias : Int) - f.m)
  else if f.nan = 2 then (2 ^ (f.m + 1) - 2, (2 ^ f.e - 1 : Nat) - (f.bias : Int) - f.m)
  else (2 ^ (f.m + 1) - 1, (2 ^ f.e - 1 : Nat) - (f.bias : Int) - f.m)

/-- Whether N × 2^q is above the largest finite value. -/
def FFmt.above (f : FFmt) (n : Nat) (q : Int) : Bool :=
  let mx := f.maxFinite
  if mx.2 ≤ q then decide (mx.1 < n * 2 ^ (q - mx.2).toNat) else decide (mx.1 * 2 ^ (mx.2 - q).toNat < n)

/-- The encoding of N × 2^q, q at least the exponent of the smallest subnormal. -/
def FFmt.place (f : FFmt) (neg : Bool) (n : Nat) (q : Int) : Nat :=
  (if neg then 2 ^ (f.e + f.m) else 0) + (q - (1 - (f.bias : Int) - f.m)).toNat * 2 ^ f.m + n

/-- Table 18.3; +0 where the format has no NaN. -/
def FFmt.qnan (f : FFmt) : Nat :=
  if f.nan = 1 then (2 ^ f.e - 1) * 2 ^ f.m + 2 ^ (f.m - 1) else if f.nan = 2 then 2 ^ (f.e + f.m) - 1 else 0

/-- The encoding of the largest finite value, with a sign. -/
def FFmt.maxCode (f : FFmt) (neg : Bool) : Nat := f.place neg f.maxFinite.1 f.maxFinite.2

/-- R656, R657, R661, R662, Table 18.5: an exact value encoded in a floating-point format, with the flags. -/
def encodeF (f : FFmt) (mode r : Nat) (x : Num) : Nat × Nat :=
  match x with
  | .nan sig => (f.qnan, if f.inf then (if sig then 1 else 0) else 1)
  | .inf neg =>
    if f.inf then ((if neg then 2 ^ (f.e + f.m) else 0) + (2 ^ f.e - 1) * 2 ^ f.m, 0) else (f.maxCode neg, 1)
  | .fin neg n d e =>
    if n = 0 then (if neg then 2 ^ (f.e + f.m) else 0, 0)
    else
      let L := ratLog2 n d + e
      let emin : Int := 1 - (f.bias : Int)
      let q := max (L - f.m) (emin - f.m)
      let far := (match roundAt 1 0 neg n d e q with
        | (k, ix) => f.above k q || (ix && k = f.maxFinite.1 && q = f.maxFinite.2))
      let md := if mode = 4 && far then 0 else mode
      match roundAt md r neg n d e q with
      | (k, inexact) =>
        let nx := if inexact then 16 else 0
        if f.above k q then
          let ieee := f.inf && f.m != 2
          let toInf := ieee && (md = 0 || (md = 2 && !neg) || (md = 3 && neg))
          (if toInf then (if neg then 2 ^ (f.e + f.m) else 0) + (2 ^ f.e - 1) * 2 ^ f.m else f.maxCode neg, 4 + 16)
        else
          let tiny := decide (L < emin) &&
            !(L = emin - 1 && (roundAt md r neg n d e (L - f.m)).1 = 2 ^ (f.m + 1))
          (f.place neg k q, nx + (if tiny && inexact then 8 else 0))

/-- Table 18.5: an exact value encoded as an integer of n bits; `isInt` says the source is an integer format. -/
def encodeI (n : Nat) (isSigned isInt : Bool) (mode r : Nat) (x : Num) : Nat × Nat :=
  let lo : Int := if isSigned then -(2 ^ (n - 1) : Nat) else 0
  let hi : Int := if isSigned then (2 ^ (n - 1) - 1 : Nat) else (2 ^ n - 1 : Nat)
  let put := fun (v : Int) => (v % (2 ^ n : Nat)).toNat
  let nv := if isInt then 0 else 1
  match x with
  | .nan _ => (0, 1)
  | .inf neg => (put (if neg then lo else hi), 1)
  | .fin neg a d e =>
    let big := fun (v : Int) => decide (v < lo) || decide (hi < v)
    let at_ := fun (md : Nat) => match roundAt md r neg a d e 0 with
      | (k, ix) => ((if neg then -(k : Int) else k), ix)
    let past := big (at_ 1).1 || ((at_ 1).2 && ((neg && (at_ 1).1 = lo) || (!neg && (at_ 1).1 = hi)))
    let md := if mode = 4 && past then 0 else mode
    match at_ md with
    | (v, ix) => if v < lo then (put lo, nv) else if hi < v then (put hi, nv) else (put v, if ix then 16 else 0)

/-- R653: an exact value encoded as E8M0. -/
def encodeE8 (x : Num) : Nat × Nat :=
  match x with
  | .nan _ => (0xFF, 1)
  | .inf _ => (0xFF, 1)
  | .fin _ n d e =>
    if n = 0 then (0, 0)
    else
      let k := ratLog2 n d + e + 127
      if k < 0 then (0, 8) else if 254 < k then (0xFE, 4) else (k.toNat, 0)

/-! Packed decimal (R605, R606) -/

/-- Nibble k. -/
def nib (x k : Nat) : Nat := bitsOf x (4 * k) 4

/-- The first invalid nibble of a decimal value of w nibbles (R611). -/
def decBad (w x : Nat) : Option Nat :=
  if nib x 0 ≠ 0xC ∧ nib x 0 ≠ 0xD ∧ nib x 0 ≠ 0xF then some 0
  else (List.range w).find? (fun k => k ≠ 0 && decide (9 < nib x k))

/-- The magnitude of a valid decimal value of w nibbles. -/
def decMag (w x : Nat) : Nat := ((List.range (w - 1)).map (fun k => nib x (k + 1) * 10 ^ k)).sum

/-- `val` of R606: the value, or the first invalid nibble. -/
def decVal (w x : Nat) : Except Nat Int :=
  match decBad w x with
  | some k => .error k
  | none => .ok (if nib x 0 = 0xD then -(decMag w x : Int) else decMag w x)

/-- Digits of m in nibbles 1 to w − 1. -/
def decDigits (w m : Nat) : Nat := ((List.range (w - 1)).map (fun k => m / 10 ^ k % 10 * 16 ^ (k + 1))).sum

/-- `enc` of R606; none where the magnitude has too many digits. -/
def decEnc (w : Nat) (v : Int) : Option Nat :=
  if 10 ^ (w - 1) ≤ v.natAbs then none else some (decDigits w v.natAbs + (if v < 0 then 0xD else 0xC))

/-- v ÷ 10^n rounded to an integer by a mode, and whether it is inexact (R609). -/
def decShift (mode : Nat) (v : Int) (n : Nat) : Int × Bool :=
  match roundAt mode 0 (decide (v < 0)) v.natAbs (10 ^ n) 0 0 with
  | (k, ix) => (if v < 0 then -(k : Int) else k, ix)

/-! Elements by format code -/

/-- R648 to R655: the exact value of an element; none for a decimal element R606 rejects. -/
def decodeE (code x : Nat) : Option Num :=
  let int := fun (v : Int) => some (Num.fin (decide (v < 0)) v.natAbs 1 0)
  if code ≤ 8 then some (decodeF (ffmt code) x)
  else if code = 9 then (if x % 256 = 0xFF then some (.nan false) else some (.fin false 1 1 ((x % 256 : Nat) - 127)))
  else if code = 10 then int (signed 32 x)
  else if code = 11 then int (signed 16 x)
  else if code = 12 then int (signed 8 x)
  else if code = 13 then int (x % 256 : Nat)
  else if code = 14 then int (signed 4 x)
  else if code = 15 then int (if x % 2 = 1 then 1 else -1)
  else match decVal (if code = 16 then 16 else 32) x with
    | .ok v => int v
    | .error _ => none

/-- The integer formats, as sources that raise no flag (Table 18.5). -/
def isIntFmt (code : Nat) : Bool := 10 ≤ code

/-- What an encoding into a decimal target meets: 0 nothing, 1 the decimal-data condition, 2 the decimal overflow. -/
structure Enc where
  bits : Nat
  flags : Nat
  bad : Nat
  deriving DecidableEq, Repr

/-- Table 18.5: an exact value encoded in a target format. -/
def encodeE (code mode r : Nat) (fromInt : Bool) (x : Num) : Enc :=
  let mk := fun (p : Nat × Nat) => (⟨p.1, p.2, 0⟩ : Enc)
  if code ≤ 8 then mk (encodeF (ffmt code) mode r x)
  else if code = 9 then mk (encodeE8 x)
  else if code = 10 then mk (encodeI 32 true fromInt mode r x)
  else if code = 11 then mk (encodeI 16 true fromInt mode r x)
  else if code = 12 then mk (encodeI 8 true fromInt mode r x)
  else if code = 13 then mk (encodeI 8 false fromInt mode r x)
  else if code = 14 then mk (encodeI 4 true fromInt mode r x)
  else
    match x with
    | .fin neg n d e =>
      let w := if code = 16 then 16 else 32
      let tr := roundAt 1 0 neg n d e 0
      let far := decide (10 ^ (w - 1) ≤ tr.1) || (tr.2 && decide (10 ^ (w - 1) ≤ tr.1 + 1))
      match roundAt (if mode = 4 && far then 0 else mode) r neg n d e 0 with
      | (k, ix) =>
        match decEnc w (if neg then -(k : Int) else k) with
        | some b => ⟨b, if ix then 16 else 0, 0⟩
        | none => ⟨0, 0, 2⟩
    | _ => ⟨0, 0, 1⟩

/-- R629, R651: a value times 2^(e − 127); a NaN under the scale 0xFF. -/
def scaleUp (x : Num) (e : Nat) : Num :=
  if e = 0xFF then .nan false
  else match x with
    | .fin neg n d k => .fin neg n d (k + e - 127)
    | y => y

/-- R629: a value divided by 2^(e − 127); a NaN under the scale 0xFF. -/
def scaleDown (x : Num) (e : Nat) : Num :=
  if e = 0xFF then .nan false
  else match x with
    | .fin neg n d k => .fin neg n d (k + 127 - e)
    | y => y

/-! IEEE 754 operations on exact values: the result before rounding, with the flags raised before rounding -/

/-- A NaN operand: the flags it raises. -/
def nanFlags (xs : List Num) : Nat := if xs.any (fun x => x = .nan true) then 1 else 0
def Num.isNan : Num → Bool
  | .nan _ => true
  | _ => false

def Num.neg : Num → Num
  | .nan s => .nan s
  | .inf s => .inf (!s)
  | .fin s n d e => .fin (!s) n d e

/-- The exact sum; an exact zero sum of unlike operands is −0 under RDN. -/
def numAdd (mode : Nat) (a b : Num) : Num × Nat :=
  match a, b with
  | .nan _, _ => (.nan false, nanFlags [a, b])
  | _, .nan _ => (.nan false, nanFlags [a, b])
  | .inf s, .inf t => if s = t then (.inf s, 0) else (.nan false, 1)
  | .inf s, _ => (.inf s, 0)
  | _, .inf t => (.inf t, 0)
  | .fin s n d e, .fin t n' d' e' =>
    if n = 0 ∧ n' = 0 then (.fin (if s = t then s else mode = 3) 0 1 0, 0)
    else
      let k := min e e'
      let x : Int := (n * 2 ^ (e - k).toNat * d' : Nat)
      let y : Int := (n' * 2 ^ (e' - k).toNat * d : Nat)
      let z := (if s then -x else x) + (if t then -y else y)
      if z = 0 then (.fin (mode = 3) 0 1 0, 0) else (.fin (decide (z < 0)) z.natAbs (d * d') k, 0)

/-- The exact product. -/
def numMul (a b : Num) : Num × Nat :=
  match a, b with
  | .nan _, _ => (.nan false, nanFlags [a, b])
  | _, .nan _ => (.nan false, nanFlags [a, b])
  | .inf s, .inf t => (.inf (s != t), 0)
  | .inf s, .fin t n _ _ => if n = 0 then (.nan false, 1) else (.inf (s != t), 0)
  | .fin s n _ _, .inf t => if n = 0 then (.nan false, 1) else (.inf (s != t), 0)
  | .fin s n d e, .fin t n' d' e' => (.fin (s != t) (n * n') (d * d') (e + e'), 0)

/-- The exact quotient. -/
def numDiv (a b : Num) : Num × Nat :=
  match a, b with
  | .nan _, _ => (.nan false, nanFlags [a, b])
  | _, .nan _ => (.nan false, nanFlags [a, b])
  | .inf _, .inf _ => (.nan false, 1)
  | .inf s, .fin t _ _ _ => (.inf (s != t), 0)
  | .fin s _ _ _, .inf t => (.fin (s != t) 0 1 0, 0)
  | .fin s n d e, .fin t n' d' e' =>
    if n' = 0 then (if n = 0 then (.nan false, 1) else (.inf (s != t), 2))
    else (.fin (s != t) (n * d') (d * n') (e - e'), 0)

/-- The square root of a decoded value: 120 further bits and a sticky bit below them decide every rounding. -/
def numSqrt (a : Num) : Num × Nat :=
  match a with
  | .nan _ => (.nan false, nanFlags [a])
  | .inf s => if s then (.nan false, 1) else (.inf false, 0)
  | .fin s n _ e =>
    if n = 0 then (a, 0)
    else if s then (.nan false, 1)
    else
      let n1 := if e % 2 = 0 then n else 2 * n
      let e1 := if e % 2 = 0 then e else e - 1
      let big := n1 * 2 ^ 240
      let r := Nat.sqrt big
      (.fin false (2 * r + (if r * r = big then 0 else 1)) 1 (e1 / 2 - 120 - 1), 0)

/-- a × b + c, exact.  Whether ∞ × 0 with a quiet NaN addend raises NV is the implementation's choice in IEEE 754. -/
def numFma (mode : Nat) (a b c : Num) : Num × Nat :=
  match numMul a b with
  | (p, fl) =>
    if c.isNan then
      (.nan false, nanFlags [a, b, c] ||| (if fl = 1 && !a.isNan && !b.isNan && Config.fmaNan then 1 else 0))
    else if p.isNan then (.nan false, fl)
    else numAdd mode p c

/-- −1, 0 or 1 as a is less than, equal to or greater than b; no NaN. -/
def numCmp (a b : Num) : Int :=
  match a, b with
  | .inf s, .inf t => if s = t then 0 else if s then -1 else 1
  | .inf s, _ => if s then -1 else 1
  | _, .inf t => if t then 1 else -1
  | .fin s n d e, .fin t n' d' e' =>
    let k := min e e'
    let x : Int := (n * 2 ^ (e - k).toNat * d' : Nat)
    let y : Int := (n' * 2 ^ (e' - k).toNat * d : Nat)
    let z := (if s then -x else x) - (if t then -y else y)
    if z < 0 then -1 else if z = 0 then 0 else 1
  | _, _ => 0

def Num.sign : Num → Bool
  | .nan _ => false
  | .inf s => s
  | .fin s _ _ _ => s

/-- minimumNumber and maximumNumber of IEEE 754-2019: −0 is below +0, one NaN gives the other operand. -/
def numMinMax (isMax : Bool) (a b : Num) : Num × Nat :=
  if a.isNan && b.isNan then (.nan false, nanFlags [a, b])
  else if a.isNan then (b, nanFlags [a, b])
  else if b.isNan then (a, nanFlags [a, b])
  else
    let c := numCmp a b
    let less := decide (c < 0) || (c = 0 && a.sign && !b.sign)
    (if less != isMax then a else b, 0)

/-- The compares of R599, R600 and R624: 0 EQ quiet, 1 NE quiet, 2 LT and 3 LE signalling. -/
def numTest (cond : Nat) (a b : Num) : Bool × Nat :=
  if a.isNan || b.isNan then (cond = 1, if 2 ≤ cond then 1 else nanFlags [a, b])
  else
    let c := numCmp a b
    (match cond with | 0 => c = 0 | 1 => c ≠ 0 | 2 => c < 0 | _ => c ≤ 0, 0)

/-- An operation rounded into a layout: encoding and flags. -/
def finishF (f : FFmt) (mode : Nat) (x : Num × Nat) : Nat × Nat :=
  let r := encodeF f mode 0 x.1
  (r.1, r.2 ||| x.2)

/-- FADD, FSUB, FMUL, FDIV, FMIN, FMAX of Table 16.7 and Table 17.5 by operation number. -/
def floatOp (f : FFmt) (op mode a b : Nat) : Nat × Nat :=
  let x := decodeF f a
  let y := decodeF f b
  finishF f mode (match op with
    | 0 => numAdd mode x y
    | 1 => numAdd mode x y.neg
    | 2 => numMul x y
    | 3 => numDiv x y
    | 5 => numMinMax false x y
    | _ => numMinMax true x y)

/-- FSQRT. -/
def floatSqrt (f : FFmt) (mode a : Nat) : Nat × Nat := finishF f mode (numSqrt (decodeF f a))

/-- FMA: a × b + c, rounded once. -/
def floatFma (f : FFmt) (mode a b c : Nat) : Nat × Nat := finishF f mode (numFma mode (decodeF f a) (decodeF f b) (decodeF f c))

/-- FCLASS (Table 16.7). -/
def floatClass (f : FFmt) (a : Nat) : Nat :=
  let E := bitsOf a f.m f.e
  match decodeF f a with
  | .inf s => if s then 1 else 2 ^ 7
  | .nan s => if s then 2 ^ 8 else 2 ^ 9
  | .fin s n _ _ =>
    if n = 0 then (if s then 2 ^ 3 else 2 ^ 4)
    else if E = 0 then (if s then 2 ^ 2 else 2 ^ 5)
    else (if s then 2 ^ 1 else 2 ^ 6)

/-- R601, R623: the lowest enabled flag a set holds, as an exception code; TRAP's five bits. -/
def trapCode (trap flags : Nat) : Option Nat :=
  ((List.range 5).find? (fun i => bitsOf (trap &&& flags) i 1 = 1)).map (0x11 + ·)

end Sys2Proof.Machine
end

