-- ==== Sys2Proof/Machine/Operands.lean ====
section
/-! DEFINITION. The Adeat instruction word (spec/16, spec/17): its formats, its fields, the function it selects, and whether
it is ILLEGAL (R589 to R591, R604, R607, R621 to R631). -/

namespace Sys2Proof.Machine

/-- An instruction: its word, and its long word sign-extended where it has one. -/
structure Insn where
  w : Nat
  long : Bool
  imm : Int
  deriving DecidableEq, Repr

def Insn.major (i : Insn) : Nat := bitsOf i.w 22 6
def Insn.rd (i : Insn) : Nat := bitsOf i.w 17 5
def Insn.ra (i : Insn) : Nat := bitsOf i.w 12 5
def Insn.rb (i : Insn) : Nat := bitsOf i.w 7 5
def Insn.fn (i : Insn) : Nat := bitsOf i.w 0 7
def Insn.guardReg (i : Insn) : Nat := bitsOf i.w 29 3
def Insn.guardInv (i : Insn) : Bool := decide (bitsOf i.w 28 1 = 1)

/-- Words of an instruction in bytes. -/
def Insn.size (i : Insn) : Nat := if i.long then 8 else 4

/-- R590, Table 16.2, Table 17.2: whether a word's format has an L bit and it is 1. -/
def isLong (w : Nat) : Bool :=
  let m := bitsOf w 22 6
  if (2 ≤ m && m ≤ 7) || m = 9 || m = 0x10 || m = 0x11 || m = 0x39 || m = 0x3A then decide (bitsOf w 11 1 = 1)
  else if m = 0x20 || m = 0x21 || m = 0x22 then decide (bitsOf w 16 1 = 1)
  else false

/-- The immediate of formats I, I3 and B; the short offset fields of M and VM are scaled where they are used. -/
def Insn.value (i : Insn) : Int :=
  if i.long then i.imm
  else
    let m := i.major
    if m = 7 || m = 9 then signed 8 (bitsOf i.w 0 8)
    else if m = 0x20 || m = 0x21 || m = 0x22 then signed 16 (bitsOf i.w 0 16) * 4
    else signed 11 (bitsOf i.w 0 11)

/-- The offset of formats M and VM, for an access of n bytes. -/
def Insn.offset (i : Insn) (n : Nat) : Int := if i.long then i.imm else signed 7 (bitsOf i.w 0 7) * n

/-- The conversion kinds of Table 17.7: narrow bits, wide bits, whether a scale acts, format code of the source and of the
target; none for a reserved kind. -/
def convKind (narrowing : Bool) (k : Nat) : Option (Nat × Nat × Bool × Nat × Nat) :=
  if narrowing then
    match k with
    | 0 => some (8, 32, true, 1, 4)
    | 1 => some (8, 32, true, 1, 5)
    | 2 => some (8, 32, true, 1, 12)
    | 3 => some (8, 32, false, 1, 9)
    | 4 => some (16, 32, false, 1, 2)
    | 5 => some (16, 32, false, 1, 3)
    | 6 => some (16, 32, false, 10, 11)
    | 7 => some (8, 32, false, 10, 12)
    | 8 => some (8, 32, false, 10, 13)
    | 9 => some (8, 16, false, 11, 12)
    | 10 => some (1, 8, false, 12, 15)
    | 11 => some (32, 32, false, 1, 10)
    | _ => none
  else
    match k with
    | 0 => some (8, 32, true, 4, 1)
    | 1 => some (8, 32, true, 5, 1)
    | 2 => some (6, 32, true, 6, 1)
    | 3 => some (6, 32, true, 7, 1)
    | 4 => some (4, 32, true, 8, 1)
    | 5 => some (8, 32, true, 12, 1)
    | 6 => some (8, 32, false, 9, 1)
    | 7 => some (16, 32, false, 2, 1)
    | 8 => some (16, 32, false, 3, 1)
    | 9 => some (4, 8, false, 14, 12)
    | 10 => some (8, 32, false, 12, 10)
    | 11 => some (8, 32, false, 13, 10)
    | 12 => some (16, 32, false, 11, 10)
    | 13 => some (1, 8, false, 15, 12)
    | 14 => some (32, 32, false, 10, 1)
    | _ => none

/-- R628: whether a Q is valid for a kind. -/
def convQOk (nb wb q : Nat) : Bool := if nb = wb then q = 0 else decide ((q + 1) * (512 / wb) * nb ≤ 512)

/-- The function a word selects within its major opcode. -/
def Insn.sub (i : Insn) : Nat :=
  let m := i.major
  if m = 0x18 then bitsOf i.w 3 4
  else if m = 0x28 then bitsOf i.w 0 4
  else if m = 7 || m = 9 then bitsOf i.w 8 3
  else if m = 0x30 || m = 0x31 || m = 0x33 || m = 0x36 then bitsOf i.w 2 5
  else if m = 0x34 || m = 0x35 then bitsOf i.w 3 4
  else if m = 0x00 || m = 0x01 || m = 0x08 || m = 0x12 || m = 0x38 then i.fn
  else 0

/-- A named instruction: major opcode and function. -/
def Insn.key (i : Insn) : Nat := i.major * 128 + i.sub

/-- Table 16.9 with R604, R587 and R588. -/
def systemOk (i : Insn) : Bool :=
  let z := i.rb = 0
  match i.fn with
  | 1 => i.rd = 0 && i.ra = 0 && z
  | 2 => i.rd = 0 && i.ra = 0 && z
  | 3 => i.rd = 0 && i.ra = 0 && z
  | 4 => i.rd = 0 && i.ra = 0 && z
  | 5 => i.rd = 0 && i.ra = 0 && z
  | 8 => i.ra ≤ 6 && z
  | 9 => i.rd ≤ 4 && z
  | 0xA => 1 ≤ i.rd && i.rd ≤ 7 && z
  | 0xB => i.ra ≤ 7 && z
  | _ => false

/-- Table 16.4. -/
def integerOk (i : Insn) : Bool :=
  let f := i.fn
  f ≤ 8 || (0x10 ≤ f && f ≤ 0x1B)
    || (((0x20 ≤ f && f ≤ 0x23) || (0x28 ≤ f && f ≤ 0x2A) || (0x2C ≤ f && f ≤ 0x2E)) && i.rb = 0)

/-- Table 16.7. -/
def floatOk (i : Insn) : Bool :=
  let op := bitsOf i.w 3 4
  bitsOf i.w 0 3 ≤ 3 && op ≤ 14 && (op ≠ 4 || i.rb = 0) && (op ≠ 11 || i.rb ≤ 3)

/-- Table 16.11 with R607. -/
def decimalOk (i : Insn) : Bool :=
  let op := bitsOf i.w 0 4
  let p := bitsOf i.w 4 1
  let n := i.rb
  bitsOf i.w 5 2 = 0 && op ≤ 10 && (p = 0 || op = 5 || op = 6) &&
    (match op with
    | 2 => i.rd % 2 = 0 && i.rd ≠ 0
    | 4 => n ≤ 15
    | 5 => if p = 1 then n ≤ 30 && i.ra % 2 = 0 else n ≤ 15
    | 6 => if p = 1 then n ≤ 30 && i.ra % 2 = 0 else n ≤ 15
    | 7 => n ≤ 3
    | 8 => n = 0
    | 9 => n = 0
    | 10 => n = 0
    | _ => true)

/-- Formats M and VM: the widths, NC, and the short field of a long form. -/
def memoryOk (i : Insn) : Bool :=
  let w := bitsOf i.w 8 3
  let nc := bitsOf i.w 7 1
  (!i.long || bitsOf i.w 0 7 = 0) &&
    (match i.major with
    | 0x10 => w ≤ 6
    | 0x11 => w ≤ 3 && nc = 0
    | 0x39 => w = 0
    | _ => w = 0 && nc = 0)

/-- The compares of R624: cond, F and type. -/
def compareOk (i : Insn) : Bool :=
  let c := bitsOf i.w 4 3
  let f := bitsOf i.w 3 1
  bitsOf i.w 0 3 ≤ 2 && c ≤ 5 && (f = 0 || (c ≠ 3 && c ≠ 5))

/-- Majors 0x30 to 0x3D (R621 to R635). -/
def vectorOk (i : Insn) : Bool :=
  let op := bitsOf i.w 2 5
  let T := bitsOf i.w 0 2
  match i.major with
  | 0x30 => op ≤ 22 && T ≤ 2 && (!(13 ≤ op && op ≤ 16) || T = 0) && ((op ≠ 20 && op ≠ 21) || i.rb = 0) && (op ≠ 22 || T ≠ 2)
  | 0x31 => op ≤ 10 && T ≤ 2 && (op ≠ 4 || i.rb = 0)
  | 0x32 => compareOk i && i.rd % 8 ≠ 0 && (if bitsOf i.w 0 3 = 0 then i.rd / 8 = 0 else i.rd / 8 ≤ 1)
  | 0x33 =>
    op ≤ 4 && (op = 2 || T = 0) && (op ≠ 2 || (1 ≤ i.rd && i.rd ≤ 7)) && (op ≠ 3 || i.rb = 0) && (op ≠ 4 || i.rb ≤ 15)
  | 0x34 => (match convKind false (bitsOf i.w 3 4) with
    | some (nb, wb, sc, _, _) => convQOk nb wb (bitsOf i.w 0 3) && (sc || i.rb = 0)
    | none => false)
  | 0x35 => (match convKind true (bitsOf i.w 3 4) with
    | some (nb, wb, sc, _, _) => convQOk nb wb (bitsOf i.w 0 3) && (sc || i.rb = 0)
    | none => false)
  | 0x36 => op ≤ 12 && T ≤ 2 && (op ≠ 0 || T = 0) && (!(op = 1 || 5 ≤ op) || i.rb = 0)
  | 0x37 => compareOk i
  | 0x38 =>
    i.fn ≤ 7 && 1 ≤ i.rd && i.rd ≤ 7 && (i.fn = 7 || (i.ra ≤ 7 && i.rb ≤ 7)) && (!(4 ≤ i.fn && i.fn ≤ 6) || i.rb = 0)
  | 0x39 => memoryOk i
  | 0x3A => memoryOk i
  | 0x3B => bitsOf i.w 5 2 ≤ 2 && bitsOf i.w 0 3 = 0
  | 0x3C => bitsOf i.w 5 2 ≤ 2 && bitsOf i.w 0 3 = 0
  | 0x3D => bitsOf i.w 5 2 ≤ 2 && bitsOf i.w 0 3 ≠ 0
  | _ => false

/-- R589, R590: an instruction that is not ILLEGAL. -/
def Insn.legal (i : Insn) : Bool :=
  bitsOf i.w 28 4 ≠ 1 &&
    (match i.major with
    | 0x00 => systemOk i
    | 0x01 => integerOk i
    | 0x02 => !i.long || bitsOf i.w 0 11 = 0
    | 0x03 => !i.long || bitsOf i.w 0 11 = 0
    | 0x04 => !i.long || bitsOf i.w 0 11 = 0
    | 0x05 => !i.long || bitsOf i.w 0 11 = 0
    | 0x06 => i.long && bitsOf i.w 0 11 = 0 && i.ra = 0
    | 0x07 => !i.long && bitsOf i.w 8 3 ≤ 3 && bitsOf i.w 6 2 = 0
    | 0x08 => i.fn ≤ 5
    | 0x09 => bitsOf i.w 8 3 ≤ 5 && (!i.long || bitsOf i.w 0 8 = 0)
    | 0x10 => memoryOk i
    | 0x11 => memoryOk i
    | 0x12 => i.fn ≤ 2
    | 0x18 => floatOk i
    | 0x20 => (!i.long || bitsOf i.w 0 16 = 0) && i.value % 4 = 0
    | 0x21 => (!i.long || bitsOf i.w 0 16 = 0) && i.value % 4 = 0
    | 0x22 => (!i.long || bitsOf i.w 0 16 = 0) && i.value % 4 = 0
    | 0x23 => true
    | 0x28 => decimalOk i
    | _ => vectorOk i)

end Sys2Proof.Machine
end

