-- ==== Sys2Proof/Machine/Toll.lean ====
section
/-! DEFINITION. The address map, the Toll table's walk and its translation caches, the target checks, and how an access
leaves on the host link or an accelerator port (spec/04, spec/08). -/

namespace Sys2Proof.Machine

/-- What lies at a DPA (Table 4.1). -/
inductive Region where
  | hbm
  | scratch
  | cisternCache
  | panSram
  | feed
  | registers
  | window (n : Nat)
  | host
  | reserved
  deriving DecidableEq, Repr

/-- R54, R82: whether a Cistern DPA lies in a scratch unit, a changing unit being none. -/
def Dev.isScratch (s : Dev) (dpa : Nat) : Bool :=
  let o := dpa - 0x4000000000
  let k := o / 0x4000000
  let u := o % 0x4000000 / 0x400000
  let n := s.get ⟨Reg.IDENT_CISTERN, 5 * k, 5⟩
  decide (u < n) && !s.cause.cisChange.any (fun c => c.1 = k * 16 + u)

/-- Table 4.1. -/
def Dev.region (s : Dev) (dpa : Nat) : Region :=
  if dpa < 0x4000000000 then .hbm
  else if dpa < 0x4010000000 then (if s.isScratch dpa then .scratch else .cisternCache)
  else if 0x4100000000 ≤ dpa ∧ dpa < 0x4120000000 then .panSram
  else if 0x4200000000 ≤ dpa ∧ dpa < 0x4208000000 then .feed
  else if 0xF000000000 ≤ dpa ∧ dpa < 0xF004000000 then .registers
  else if 0x10000000000 ≤ dpa ∧ dpa < 0x20000000000 then .window ((dpa - 0x10000000000) / 0x4000000000)
  else if 0x800000000000 ≤ dpa ∧ dpa < 0x1000000000000 then .host
  else .reserved

/-- R153: the first DPA and the size of the Toll region. -/
def Dev.tollBase (s : Dev) : Nat := s.get Fld.TOLL_REGION_BASE * 0x200000
def Dev.tollSize (s : Dev) : Nat := s.get Fld.TOLL_REGION_SIZE * 0x200000
def Dev.inToll (s : Dev) (dpa : Nat) : Bool := decide (s.tollBase ≤ dpa ∧ dpa < s.tollBase + s.tollSize)

/-- The outcome of a translation: the DPA and the leaf, or a fault of Table 4.7 with the level where the walk stopped
(7: no walk). -/
inductive Xl where
  | ok (dpa : Nat) (leaf : Word)
  | fault (kind level : Nat)
  deriving DecidableEq, Repr

/-- Whether a leaf permits an access: 0 read, 1 write, 2 atomic (Table 4.6). -/
def leafAllows (e : Word) (kind : Nat) : Bool := e.getLsbD (2 + kind)

/-- Whether reserved bits of an entry are zero (Table 4.6). -/
def tollReservedOk (e : Word) : Bool :=
  getBits e 7 5 == 0 && getBits e 56 8 == 0 && (e.getLsbD 1 || (getBits e 2 5 == 0 && getBits e 48 8 == 0))

/-- R150: the levels of the walk below a table at `t`: the leaf with its level, or a fault. -/
def Dev.walkLevels (s : Dev) (va : Nat) : List Nat → Nat → Except (Nat × Nat) (Word × Nat)
  | [], _ => .error (2, 0)
  | lvl :: rest, t =>
    if !s.inToll t then .error (2, lvl)
    else
      let a := t + 8 * bitsOf va (12 + 9 * lvl) 9
      if s.poisonedAt a then .error (5, lvl)
      else
        let e : Word := BitVec.ofNat 64 (ofLe (s.bytes a 8))
        if !e.getLsbD 0 then .error (0, lvl)
        else if !tollReservedOk e then .error (2, lvl)
        else if e.getLsbD 1 && lvl = 3 then .error (2, lvl)
        else if !e.getLsbD 1 && lvl = 0 then .error (2, lvl)
        else if e.getLsbD 1 then
          (if bitsOf (getBits e 12 36) 0 (9 * lvl) ≠ 0 then .error (2, lvl) else .ok (e, lvl))
        else s.walkLevels va rest (getBits e 12 36 * 4096)

/-- R150: the walk of a context, its rights and target checks apart. -/
def Dev.walk (s : Dev) (ctx va : Nat) : Except (Nat × Nat) (Word × Nat) :=
  if !s.on Fld.TOLL_CTRL_ENABLE || !s.on (Fld.TOLL_ROOT_VALID ctx) then .error (0, 7)
  else s.walkLevels va [3, 2, 1, 0] (s.get (Fld.TOLL_ROOT_ROOT ctx) * 4096)

/-- The DPA a leaf at a level gives. -/
def leafDpa (e : Word) (lvl va : Nat) : Nat := getBits e 12 36 * 4096 + va % 2 ^ (12 + 9 * lvl)

/-- R147: the requester function of an access to host memory. -/
def requester (ctx : Nat) (leaf : Word) : Nat := if 1 ≤ ctx ∧ ctx ≤ 128 then ctx else getBits leaf 48 8

/-- R144: the whole access lies in one enumerated memory BAR of APn. -/
def Dev.inBar (s : Dev) (n off len : Nat) : Bool :=
  (List.range 24).any (fun i =>
    s.on (Fld.LND_AP_BAR_VALID n i) &&
      let o := s.get (Fld.LND_AP_BAR_OFFSET n i) * 4096
      let z := 2 ^ s.get (Fld.LND_AP_BAR_LOG2_SIZE n i)
      decide (o ≤ off ∧ off + len ≤ o + z))

/-- How an access reaches the Toll table: the accelerator ports its party holds (R145), whether it is a host BAR2 access
(R152, R333), whether it is an atomic (R304). -/
structure Via where
  accel : Nat
  hostBar : Bool := false
  ring : Bool := false
  deriving DecidableEq, Repr

/-- The Pan whose SRAM or feed-store slice holds a DPA (R47, R668). -/
def panOf (dpa : Nat) : Nat :=
  if dpa < 0x4200000000 then (dpa - 0x4100000000) / 0x200000 else (dpa - 0x4200000000) / 0x80000

/-- The berth that holds a Pan (R225). -/
def Dev.holder (s : Dev) (p : Nat) : Nat := s.get (Fld.PAN_STATE_HOLDER p)

/-- R145, R144, R152, R546, R670: the target checks, in that order; none where the target is good, else the fault's kind. -/
def Dev.checkTarget (s : Dev) (ctx dpa len kind : Nat) (leaf : Word) (v : Via) : Option Nat :=
  match s.region dpa with
  | .hbm => if s.inToll dpa && (ctx != 0 || v.hostBar) then some 3 else none
  | .scratch => none
  | .panSram => if 1 ≤ ctx && ctx ≤ 128 && s.holder (panOf dpa) != ctx then some 3 else none
  | .feed => if 1 ≤ ctx && ctx ≤ 128 && s.holder (panOf dpa) != ctx then some 3 else none
  | .window n =>
    if 1 ≤ ctx && ctx ≤ 128 && v.accel / 2 ^ n % 2 = 0 then some 4
    else if v.ring then some 3
    else if s.on (Fld.LND_AWIN_ENABLE n) && s.on (Fld.LND_AWIN_LIVE n) && s.inBar n (dpa % 0x4000000000) len then none
    else some 3
  | .host =>
    let f := requester ctx leaf
    if v.hostBar then some 3
    else if 128 < f then some 3
    else if !s.bme f then some 3
    else if kind = 2 && !s.atomicReq f then some 3
    else none
  | .cisternCache => some 3
  | .registers => some 3
  | .reserved => some 3

/-- A translation from a leaf: rights, then target. -/
def Dev.useLeaf (s : Dev) (ctx va kind len : Nat) (leaf : Word) (lvl : Nat) (walked : Bool) (v : Via) : Xl :=
  if !leafAllows leaf kind then .fault 1 lvl
  else
    let dpa := leafDpa leaf lvl va
    match s.checkTarget ctx dpa len kind leaf v with
    | some k => .fault k (if walked then lvl else 7)
    | none => .ok dpa leaf

/-- R150: the walk with its rights and target checks, without caches. -/
def Dev.walkAccess (s : Dev) (ctx va kind len : Nat) (v : Via) : Xl :=
  match s.walk ctx va with
  | .error (k, l) => .fault k l
  | .ok (e, lvl) => s.useLeaf ctx va kind len e lvl true v

/-- The cached leaf that covers an address. -/
def Dev.cached (s : Dev) (ctx va : Nat) : Option CacheEnt :=
  s.toll.cache.find? (fun c => decide (c.ctx = ctx ∧ c.va = va / 2 ^ c.log2 * 2 ^ c.log2))

/-- R156: the walk fills the cache. -/
def Dev.fill (s : Dev) (ctx va : Nat) (e : Word) (lvl : Nat) : Dev :=
  let l := 12 + 9 * lvl
  let c : CacheEnt := ⟨ctx, va / 2 ^ l * 2 ^ l, l, e⟩
  { s with toll := { s.toll with cache := c :: s.toll.cache.filter (fun x => !(x.ctx = ctx && x.va = c.va && x.log2 = l)) } }

/-- Station 4 and 5 of the route: a piece's translation, through the caches.  Where a cached leaf and the tables differ,
which one the access uses is unspecified until an invalidation covers it (R161, R172, R173): a free choice. -/
def Dev.xlate (s : Dev) (ctx va kind len : Nat) (v : Via) : Xl × Dev :=
  let fresh := s.walkAccess ctx va kind len v
  let filled := match s.walk ctx va with
    | .ok (e, lvl) => s.fill ctx va e lvl
    | .error _ => s
  match s.cached ctx va with
  | none => (fresh, filled)
  | some c =>
    let old := s.useLeaf ctx va kind len c.leaf ((c.log2 - 12) / 9) false v
    if old = fresh then (fresh, s)
    else if Config.freeBool s.free then (old, s.tick) else (fresh, filled.tick)

/-- R155: the pieces of a transfer, cut at every 4 KiB boundary of its VA: (VA, length). -/
def pieces : Nat → Nat → Nat → List (Nat × Nat)
  | 0, _, _ => []
  | fuel + 1, va, len =>
    if len = 0 then []
    else
      let n := min len (4096 - va % 4096)
      (va, n) :: pieces fuel (va + n) (len - n)

/-- R155. -/
def piecesOf (va len : Nat) : List (Nat × Nat) := pieces (len / 4096 + 2) va len

/-- Where a translated access goes. -/
inductive Dest where
  | mem (dpa : Nat)
  | ap (n addr : Nat)
  | host (f addr : Nat) (noSnoop : Bool)
  deriving DecidableEq, Repr

/-- R137, R143: the destination of a DPA that passed its checks. -/
def Dev.destOf (s : Dev) (ctx dpa : Nat) (leaf : Word) : Dest :=
  match s.region dpa with
  | .window n => .ap n (0x4000000000 + dpa % 0x4000000000)
  | .host => .host (requester ctx leaf) (dpa - 0x800000000000) (leaf.getLsbD 6 && s.nsEn)
  | _ => .mem dpa

/-- A function lies in the RID range of a selective IDE stream (R312, Table 8.11). -/
def IdeStream.covers (e : IdeStream) (f : Nat) : Bool := decide (e.ridLo ≤ f ∧ f ≤ e.ridHi) && !e.excl.contains f

/-- A selective IDE stream that covers a function is Insecure (R314); is Secure (R313). -/
def Dev.ideInsecure (s : Dev) (f : Nat) : Bool := s.host.ide.any (fun e => e.2.state = 2 && e.2.covers f)
def Dev.ideSecure (s : Dev) (f : Nat) : Bool := s.host.ide.any (fun e => e.2.state = 1 && e.2.covers f)

/-- LTR is enabled (R311). -/
def Dev.ltrOn (s : Dev) : Bool := s.cfgBits 0 0x88 10 1 = 1

/-- R311: one LTR message: the active values, or the idle ones; the same for snoop and no-snoop. -/
def Dev.sendLtr (s : Dev) (active : Bool) : Dev :=
  let v := if active then s.get Fld.LND_HOST_LTR_ACT_VALUE + s.get Fld.LND_HOST_LTR_ACT_SCALE * 1024
    else s.get Fld.LND_HOST_LTR_IDLE_VALUE + s.get Fld.LND_HOST_LTR_IDLE_SCALE * 1024
  { s.emit .hostMsg [4, v + 0x8000, v + 0x8000] with host := { s.host with ltrActive := active } }

/-- R310, R311: there is work for the host link: the link leaves L1, the active LTR values hold. -/
def Dev.hostBusy (s : Dev) : Dev :=
  let s1 := if s.host.link = 2 then { s.put Fld.LND_HOST_LINK_IN_L1 0 with host := { s.host with link := 1 } } else s
  if s1.ltrOn && !s1.host.ltrActive && !s1.d3hot && s1.host.link = 1 then s1.sendLtr true else s1

/-- R307, R328: a TLP for the host link: held in D3hot, queued while the link is down, else sent.  What is held raises
PME where PME_En is 1 (R308). -/
def Dev.hostSend (s : Dev) (e : Emit) : Dev :=
  if s.d3hot then
    let s1 := { s with host := { s.host with held := s.host.held ++ [e] } }
    if s1.pmeEn && s1.cfgBits 0 0x44 15 1 = 0 then (s1.setPmeStatus true).emit .hostMsg [3, 0] else s1
  else if s.host.link = 0 || s.host.link = 4 then { s with host := { s.host with unacked := s.host.unacked ++ [e] } }
  else
    let s1 := s.hostBusy
    { s1 with sent := e :: s1.sent }

/-- Chunks of at most n bytes that do not cross a multiple of n (R302). -/
def chunks : Nat → Nat → Nat → List Byte → List (Nat × List Byte)
  | 0, _, _, _ => []
  | fuel + 1, n, a, bs =>
    if bs.isEmpty then []
    else
      let k := n - a % n
      (a, bs.take k) :: chunks fuel n (a + k) (bs.drop k)

/-- Max_Payload_Size in effect. -/
def Dev.mps (s : Dev) : Nat := 128 * 2 ^ min 2 (s.cfgBits 0 0x68 5 3)
/-- Max_Read_Request_Size in effect. -/
def Dev.mrrs (s : Dev) : Nat := 128 * 2 ^ min 5 (s.cfgBits 0 0x68 12 3)

/-- R302, R303: posted writes on the host link; `ro` for the data of a placement.  None is sent for a function of an Insecure
stream (R314). -/
def Dev.sendHost (s : Dev) (f addr : Nat) (bs : List Byte) (ro ns bad : Bool) : Dev :=
  if s.ideInsecure f then s else (chunks (bs.length + 1) s.mps addr bs).foldl (fun s c =>
    s.hostSend ⟨.hostWrite, [f, c.1, (if ro && s.roEn then 1 else 0) + (if ns then 2 else 0) + (if bad then 4 else 0)], c.2⟩) s

/-- The hidden part of a downstream port. -/
def Dev.port (s : Dev) (p : Nat) : PortH := tget (fun _ => PortH.init) s.ports p
def Dev.setPort (s : Dev) (p : Nat) (h : PortH) : Dev := { s with ports := tput (fun _ => PortH.init) s.ports p h }

/-- R871: the stream of APn is INSECURE: no TLP is sent on the port. -/
def Dev.apInsecure (s : Dev) (n : Nat) : Bool := s.get (Fld.TLH_AP_IDE_STATE n) = 4

/-- R344: posted writes on an accelerator port, of at most the partner's Max_Payload_Size. -/
def Dev.sendAp (s : Dev) (n addr : Nat) (bs : List Byte) (bad : Bool) : Dev :=
  if s.apInsecure n then s else (chunks (bs.length + 1) (s.port n).mps addr bs).foldl (fun s c => s.emit .apWrite [n, c.1, if bad then 1 else 0] c.2) s

/-- A write of one translated piece. -/
def Dev.writeDest (s : Dev) (d : Dest) (bs : List Byte) (ro bad : Bool) : Dev :=
  match d with
  | .mem a => s.writeMem a bs bad
  | .ap n a => s.sendAp n a bs bad
  | .host f a ns => s.sendHost f a bs ro ns bad

/-- A write of one translated piece of which some ranges are poisoned; over a link it is sent as poisoned TLPs (R270). -/
def Dev.writeDestMarked (s : Dev) (d : Dest) (bs : List Byte) (ro : Bool) (ms : List (Nat × Nat)) : Dev :=
  match d with
  | .mem a => s.writeMarked a bs ms
  | .ap _ _ => s.writeDest d bs ro (!ms.isEmpty)
  | .host _ _ _ => s.writeDest d bs ro (!ms.isEmpty)

/-- A non-posted read is sent and becomes outstanding: link 0 the host, 1 + n APn. -/
def Dev.sendRead (s : Dev) (d : Dest) (len : Nat) (p : Purpose) : Dev :=
  let t := s.nextTag
  match d with
  | .mem _ => s
  | .ap n a => { (s.emit .apRead [n, a, len, t]) with outst := s.outst ++ [⟨t, 1 + n, 0, a, len, p⟩], nextTag := t + 1 }
  | .host f a _ => { (s.hostSend ⟨.hostRead, [f, a, len, t], []⟩) with outst := s.outst ++ [⟨t, 0, f, a, len, p⟩], nextTag := t + 1 }

/-- R164: the record of a fault, its counter and its window's flag; the signal apart. -/
def Dev.recordFault (s : Dev) (ctx va kind access level source unit : Nat) (win : Option Nat) : Dev :=
  let i := s.get Fld.TOLL_FAULT_PTR_NEXT
  let total := s.get Fld.TOLL_FAULT_PTR_TOTAL
  let w0 := packW [(0, 48, va), (48, 8, ctx), (56, 3, kind), (59, 2, access), (61, 3, level)]
  let s1 := (((s.setReg (Reg.TOLL_FAULT_LOG i 0) w0).setReg (Reg.TOLL_FAULT_LOG i 1) (BitVec.ofNat 64 s.tide)).setReg
    (Reg.TOLL_FAULT_LOG i 2) (packW [(0, 4, source), (4, 12, unit), (32, 32, total)])).setReg (Reg.TOLL_FAULT_LOG i 3) 0
  let s2 := ((s1.put Fld.TOLL_FAULT_PTR_NEXT ((i + 1) % 256)).put Fld.TOLL_FAULT_PTR_TOTAL (total + 1)).sat
    (Fld.TOLL_FAULT_COUNT_FAULTS ctx)
  match win with
  | some n => if kind = 3 || kind = 4 then s2.put (Fld.LND_AWIN_WIN_FAULT n) 1 else s2
  | none => s2

/-- The accelerator window a leaf of a failed access names, for WIN_FAULT. -/
def Dev.windowOf (s : Dev) (ctx va : Nat) : Option Nat :=
  match s.walk ctx va with
  | .ok (e, lvl) => (match s.region (leafDpa e lvl va) with | .window n => some n | _ => none)
  | .error _ => none

end Sys2Proof.Machine
end

