-- ==== Sys2Proof/Machine/Rings.lean ====
section
/-! DEFINITION. Rings (spec/05) with the reporting of errors (spec/26): MSI-X messages, signals, Toll faults, classified
errors, arrivals, doorbells, ring operations, the taking of tickets and their deadlines. -/

namespace Sys2Proof.Machine

/-! AER (R315, R316): the places of the bits are the base specification's; masks, severities and the enables of the messages
are the PF's for every function -/

/-- An uncorrectable error of a function, by its bit: status, and the message its severity and masks give. -/
def Dev.aerUncor (s : Dev) (f bit : Nat) : Dev :=
  let s1 := s.putCfg f 0x104 bit 1 1
  let fatal := s.cfgBits 0 0x10C bit 1 = 1
  let s2 := s1.putCfg f 0x68 (if fatal then 18 else 17) 1 1
  let s3 := if s.cfg f 0x104 = 0 then s2.putCfg f 0x118 0 5 bit else s2
  if s.cfgBits 0 0x108 bit 1 = 1 then s3
  else if fatal then (if s.cfgBits 0 0x68 2 1 = 1 then s3.emit .hostMsg [2, f] else s3)
  else (if s.cfgBits 0 0x68 1 1 = 1 then s3.emit .hostMsg [1, f] else s3)

/-- A correctable error of a function, by its bit. -/
def Dev.aerCor (s : Dev) (f bit : Nat) : Dev :=
  let s1 := (s.putCfg f 0x110 bit 1 1).putCfg f 0x68 16 1 1
  if s.cfgBits 0 0x114 bit 1 = 1 then s1
  else if s.cfgBits 0 0x68 0 1 = 1 then s1.emit .hostMsg [0, f] else s1

/-- An advisory non-fatal error of a function (Table 8.6): reported as correctable while its severity is non-fatal. -/
def Dev.aerAdvisory (s : Dev) (f bit : Nat) : Dev :=
  if s.cfgBits 0 0x10C bit 1 = 1 then s.aerUncor f bit else (s.putCfg f 0x104 bit 1 1).aerCor f 13

/-! MSI-X (R300, R301) -/

/-- Set or clear the pending bit of a vector. -/
def Dev.setPending (s : Dev) (f v b : Nat) : Dev :=
  if f = 0 then s.put ⟨Reg.MSIX_PF_PBA (v / 64), v % 64, 1⟩ b else s.put ⟨Reg.MSIX_VF_PBA f, v, 1⟩ b

/-- The pending bit of a vector. -/
def Dev.isPending (s : Dev) (f v : Nat) : Bool :=
  if f = 0 then s.on ⟨Reg.MSIX_PF_PBA (v / 64), v % 64, 1⟩ else s.on ⟨Reg.MSIX_VF_PBA f, v, 1⟩

/-- The mask bit of a vector. -/
def Dev.vectorMasked (s : Dev) (f v : Nat) : Bool :=
  s.msixMaskAll f || (if f = 0 then s.on (Fld.MSIX_PF_DATA_MASK v) else s.on (Fld.MSIX_VF_DATA_MASK f v))

/-- Whether a message of a vector may leave. -/
def Dev.msixOpen (s : Dev) (f v : Nat) : Bool := s.msixOn f && s.bme f && !s.vectorMasked f v && !s.ideInsecure f

/-- The message of a vector, to the address its table entry holds (R142). -/
def Dev.sendMsix (s : Dev) (f v : Nat) : Dev :=
  let a := if f = 0 then s.get (Fld.MSIX_PF_ADDR_ADDR v) else s.get (Fld.MSIX_VF_ADDR_ADDR f v)
  let d := if f = 0 then s.get (Fld.MSIX_PF_DATA_DATA v) else s.get (Fld.MSIX_VF_DATA_DATA f v)
  s.hostSend ⟨.msix, [f, v, a, d], []⟩

/-- One event of a vector. -/
def Dev.msixEvent (s : Dev) (f v : Nat) : Dev := if s.msixOpen f v then s.sendMsix f v else s.setPending f v 1

/-- On unmask, on MSI-X Enable or on Bus Master Enable: one message for a pending vector (R300, R301). -/
def Dev.msixRelease (s : Dev) (f v : Nat) : Dev :=
  if s.isPending f v && s.msixOpen f v then (s.setPending f v 0).sendMsix f v else s

/-- The vectors of a function. -/
def vectorsOf (f : Nat) : Nat := if f = 0 then 2048 else 64

/-- Every vector of a function that has become free to send. -/
def Dev.msixReleaseAll (s : Dev) (f : Nat) : Dev := (List.range (vectorsOf f)).foldl (fun s v => s.msixRelease f v) s

/-! What a berth holds -/

/-- Where berth b's plan lies (R237). -/
def planBase (b : Nat) : Nat := 0x100000 + 0x2000 * (b - 1)

/-- The committed plan of a berth by plan offset (R230). -/
def Dev.planSnap (s : Dev) (b : Nat) : Tab Word :=
  (s.regs.filter (fun e => decide (planBase b + 0x408 ≤ e.1 ∧ e.1 < planBase b + 0x800))).map
    (fun e => (e.1 - (planBase b + 0x400), e.2))

/-- A committed word of the epoch a ticket belongs to. -/
def Ticket.planWord (t : Ticket) (off : Nat) : Word := tget (fun o => resetReg (planBase t.key.b + 0x400 + o)) t.plan off

/-- A right of a ticket's epoch; berth 0 holds every right (R224). -/
def Ticket.right (t : Ticket) (lo len : Nat) : Nat :=
  if t.key.b = 0 then 2 ^ len - 1 else getBits (t.planWord 8) lo len

/-- R145: the accelerators a berth's accesses may reach now. -/
def Dev.accelOf (s : Dev) (b : Nat) : Nat := if b = 0 then 15 else s.get (Fld.CPLAN_RIGHTS_ACCEL b)

/-- The accelerators a ticket's accesses may reach. -/
def Ticket.accel (t : Ticket) : Nat := t.right 0 4

/-! Rings -/

/-- The hidden part of a ring. -/
def Dev.rh (s : Dev) (b r : Nat) : RingH := tget (fun _ => RingH.init) s.ringH (b * 64 + r)
def Dev.setRh (s : Dev) (b r : Nat) (h : RingH) : Dev := { s with ringH := tput (fun _ => RingH.init) s.ringH (b * 64 + r) h }

/-- R176: the entries of a ring. -/
def Dev.ringSize (s : Dev) (b r : Nat) : Nat := 2 ^ s.get (Fld.RING_DESC_CTRL_LOG2_SIZE b r)
def Dev.ringState (s : Dev) (b r : Nat) : Nat := s.get (Fld.RING_STATE_STATE b r)
def Dev.isSignal (s : Dev) (b r : Nat) : Bool := s.get (Fld.RING_DESC_CTRL_KIND b r) = 1

/-- The berth's SIGNAL ring (R179). -/
def Dev.sigRing (s : Dev) (b : Nat) : Option Nat :=
  (s.ringsOn.find? (fun x => decide (x / 64 = b) && s.isSignal b (x % 64))).map (· % 64)

/-- R194: announce what is due; `now` for INTR_NOW. -/
def Dev.announce (s : Dev) (b r : Nat) (now : Bool) : Dev :=
  let h := s.rh b r
  let c := s.get (Fld.RING_DESC_COAL_COAL_COUNT b r)
  if s.on (Fld.RING_DESC_CTRL_INTR_EN b r) && decide (0 < h.unann) && (now || decide (c ≤ h.unann)) then
    (s.setRh b r { h with unann := 0 }).msixEvent b (s.get (Fld.RING_DESC_CTRL_VECTOR b r))
  else s

/-- One more arrival or signal to announce. -/
def Dev.noteUnann (s : Dev) (b r : Nat) : Dev :=
  let h := s.rh b r
  s.setRh b r { h with unann := h.unann + 1, oldest := if h.unann = 0 then s.tide else h.oldest }

/-- R177: the translation of a ring's own access, in the berth's context. -/
def Dev.ringXlate (s : Dev) (b va kind len : Nat) : Xl × Dev :=
  s.xlate b va kind len { accel := s.accelOf b, ring := true }

/-- A ring enters ERROR with a CAUSE. -/
def Dev.ringError (s : Dev) (b r cause : Nat) : Dev := (s.put (Fld.RING_STATE_STATE b r) 5).put (Fld.RING_STATE_CAUSE b r) cause

/-- R203, R204: a signal that finds no room is dropped and counted. -/
def Dev.dropSignal (s : Dev) (b r : Nat) : Dev :=
  let h := s.rh b r
  (s.setRh b r { h with lost := min (h.lost + 1) 0xFFFF }).sat (Fld.RING_COUNTS_LOST_SIG b r)

/-- A signal (Table 5.7) is posted on the berth's SIGNAL ring.  A signal whose write faults puts the ring in ERROR with
CAUSE SIGNAL_WRITE, and its fault is recorded as R164 states, which may post one TOLL_FAULT signal on berth 0's ring: the
first argument bounds that nesting. -/
def Dev.sigPost : Nat → Dev → Nat → Nat → Nat → Nat → Nat → Dev
  | 0, s, _, _, _, _, _ => s
  | n + 1, s, b, type, src, a0, a1 =>
    match s.sigRing b with
    | none => s
    | some r =>
      let p := s.get (Fld.RING_SEQS_PRODUCED_SEQ b r)
      let room := subMod p (s.get (Fld.RING_REAPED_REAPED_SEQ b r)) 32
      if s.ringState b r ≠ 1 || s.ringSize b r ≤ room then s.dropSignal b r
      else
        let va := s.get (Fld.RING_DESC_ABASE_ABASE b r) + 32 * (p % s.ringSize b r)
        let ws := [packW [(0, 16, type), (16, 16, src), (32, 32, a0)], BitVec.ofNat 64 a1, BitVec.ofNat 64 s.tide,
          packW [(16, 16, (s.rh b r).lost), (32, 32, p)]]
        match s.ringXlate b va 1 32 with
        | (.ok dpa leaf, s1) =>
          let s2 := s1.writeDest (s1.destOf b dpa leaf) (wordBytes ws) false false
          let s3 := s2.setRh b r { s2.rh b r with lost := 0 }
          ((s3.wrap (Fld.RING_SEQS_PRODUCED_SEQ b r)).noteUnann b r).announce b r false
        | (.fault k lvl, s1) =>
          let s2 := ((s1.ringError b r 4).dropSignal b r).recordFault b va k 1 lvl 6 0 (s1.windowOf b va)
          if s2.toll.signalled then s2
          else
            let i := (s2.get Fld.TOLL_FAULT_PTR_NEXT + 255) % 256
            Dev.sigPost n { s2 with toll := { s2.toll with signalled := true } } 0 0x0012 0
              (s2.get Fld.TOLL_FAULT_PTR_TOTAL) (s2.reg (Reg.TOLL_FAULT_LOG i 0)).toNat

/-- Post a signal: berth, TYPE, SOURCE, ARG0, ARG1. -/
def Dev.signal (s : Dev) (b type src a0 a1 : Nat) : Dev := Dev.sigPost 3 s b type src a0 a1

/-- R163, R164: a fault of Table 4.7 is recorded, and announced to the manager where no announcement is pending. -/
def Dev.tollFault (s : Dev) (ctx va kind access level source unit : Nat) : Dev :=
  let s1 := s.recordFault ctx va kind access level source unit (s.windowOf ctx va)
  if s1.toll.signalled then s1
  else
    let i := (s1.get Fld.TOLL_FAULT_PTR_NEXT + 255) % 256
    { s1 with toll := { s1.toll with signalled := true } }.signal 0 0x0012 0 (s1.get Fld.TOLL_FAULT_PTR_TOTAL)
      (s1.reg (Reg.TOLL_FAULT_LOG i 0)).toNat

/-! Classified errors (R887 to R890, R901) -/

/-- Table 26.2: the class of a CODE: 1 corrected, 2 contained, 3 uncontained. -/
def errClass (code : Nat) : Nat :=
  if code = 0x0601 || code = 0x0602 || code = 0x0606 || code = 0x0608 || code = 0x0609 || code = 0x060B || code = 0x060D
    || code = 0x0617 then 1
  else if code = 0x0603 || code = 0x0605 || code = 0x060A || code = 0x060C || code = 0x060F || code = 0x0616 then 3
  else 2

/-- R890: an ERROR_REPORT for a contained error, withheld after one per CODE and SOURCE. -/
def Dev.errorReport (s : Dev) (code source berth arg1 arg0 : Nat) (tenantSpoof withheld : Bool) : Dev :=
  let _ := berth
  if tenantSpoof then
    if withheld then s.sat Fld.ERR_COUNTS_SUPPRESSED else s.signal 0 0x0050 source arg0 arg1
  else if s.err.reported.contains (code, source) then s.sat Fld.ERR_COUNTS_SUPPRESSED
  else { s with err := { s.err with reported := (code, source) :: s.err.reported } }.signal 0 0x0050 source arg0 arg1

/-- R887, R888, R901: an error of Table 26.2 is counted, recorded, reported and acted on by its class.  `berth` 0xFF: no
berth is concerned. -/
def Dev.classified (s : Dev) (code source berth arg1 : Nat) (tenantSpoof : Bool := false) (withheld : Bool := false) : Dev :=
  let c := errClass code
  let arg0 := pack [(0, 16, code), (16, 2, c), (18, 8, berth)]
  let la0 := arg0 + source % 65536 * 2 ^ 32
  let s1 := ((s.setReg Reg.ERR_LAST (packW [(0, 16, code), (16, 2, c), (18, 8, berth), (32, 16, source)])).setReg
    Reg.ERR_LAST_ARG (BitVec.ofNat 64 arg1)).setReg Reg.ERR_LAST_TIDE (BitVec.ofNat 64 s.tide)
  match c with
  | 1 =>
    let s2 := (s1.sat Fld.ERR_COUNTS_CORRECTED).put Fld.ERR_STATUS_CORR_SEEN 1
    let due := tget (fun _ => 0) s2.err.lastLog code
    let s3 := if due = 0 || due - 1 + 1000000000 ≤ s2.tide then
        { s2 with err := { s2.err with lastLog := tput (fun _ => 0) s2.err.lastLog code (s2.tide + 1) } }.logAdd 2 code berth la0 arg1
      else s2
    s3.aerCor 0 14
  | 2 =>
    let s2 := ((s1.sat Fld.ERR_COUNTS_CONTAINED).put Fld.ERR_STATUS_CONT_SEEN 1).logAdd 4 code berth la0 arg1
    s2.errorReport code source berth arg1 arg0 tenantSpoof withheld
  | _ =>
    let s2 := ((s1.sat Fld.ERR_COUNTS_UNCONTAINED).put Fld.ERR_STATUS_UNCONTAINED 1).put Fld.ERR_STATUS_STOPPED 1
    let s3 := if s2.on Fld.ERR_FIRST_UNC_CODE then s2 else
      (s2.setReg Reg.ERR_FIRST_UNC (packW [(0, 16, code), (32, 16, source)])).setReg Reg.ERR_FIRST_UNC_TIDE (BitVec.ofNat 64 s.tide)
    let s4 := ((s3.logAdd 5 code berth la0 arg1).aerUncor 0 22).put Fld.LND_HOST_LINK_DEVICE_READY 0
    if s4.cause.stop then s4 else { s4 with cause := { s4.cause with stop := true } }.emit .alarm [1, 1]

/-- STOP is driven (R902). -/
def Dev.stopped (s : Dev) : Bool := s.on Fld.ERR_STATUS_STOPPED

/-- A refusal for a missing right (R251). -/
def Dev.rightRefused (s : Dev) (b : Nat) : Dev := if b = 0 then s else s.sat (Fld.CNT_REFUSED_RIGHTS b)

/-- A request that ends BUSY by a quota (R232). -/
def Dev.quotaBusy (s : Dev) (b : Nat) : Dev := if b = 0 then s else s.sat (Fld.CNT_LIMITS_QUOTA_BUSY b)

/-! Arrivals (R182, R187, R194, R201, R220, R942) -/

/-- R187: the mirror word, written where MIRROR_EN is 1 and the ring is not in ERROR with CAUSE MIRROR_WRITE. -/
def Dev.writeMirror (s : Dev) (b r : Nat) : Dev :=
  if !s.on (Fld.RING_DESC_MIRROR_MIRROR_EN b r) || s.isSignal b r
    || (s.ringState b r = 5 && (s.get (Fld.RING_STATE_CAUSE b r) = 3)) then s
  else
    let va := s.get (Fld.RING_DESC_MIRROR_MIRROR_VA b r)
    let w := s.get (Fld.RING_SEQS_PRODUCED_SEQ b r) + s.get (Fld.RING_SEQS_CONSUMED_SEQ b r) * 2 ^ 32
    match s.ringXlate b va 1 8 with
    | (.ok dpa leaf, s1) => s1.writeDest (s1.destOf b dpa leaf) (leBytes 8 w) false false
    | (.fault k lvl, s1) =>
      let s2 := s1.tollFault b va k 1 lvl 6 0
      if s2.ringState b r = 5 then s2 else s2.ringError b r 3

/-- R210, R211: a HALTING or ABANDONING ring with no ticket in flight becomes HALTED. -/
def Dev.settleRing (s : Dev) (b r : Nat) : Dev :=
  if (s.ringState b r = 2 || s.ringState b r = 4) && s.get (Fld.RING_STATE_INFLIGHT b r) = 0 then s.put (Fld.RING_STATE_STATE b r) 3
  else s

/-- Write one arrival at PRODUCED_SEQ: words 0, 1 and the low half of word 3. -/
def Dev.writeArrival (s : Dev) (b r : Nat) (ws : List Word) (intrNow : Bool) : Dev :=
  let h := s.rh b r
  let keep := s.setRh b r { h with held := h.held ++ [(ws, intrNow)] }
  if s.ringState b r = 5 && s.get (Fld.RING_STATE_CAUSE b r) = 2 then keep
  else
    let p := s.get (Fld.RING_SEQS_PRODUCED_SEQ b r)
    let va := s.get (Fld.RING_DESC_ABASE_ABASE b r) + 32 * (p % s.ringSize b r)
    let full := [wordAt ws 0, wordAt ws 1, BitVec.ofNat 64 s.tide, packW [(0, 32, (wordAt ws 3).toNat), (32, 32, p)]]
    match s.ringXlate b va 1 32 with
    | (.ok dpa leaf, s1) =>
      let s2 := s1.writeDest (s1.destOf b dpa leaf) (wordBytes full) false false
      let s3 := (s2.wrap (Fld.RING_SEQS_PRODUCED_SEQ b r)).put (Fld.RING_STATE_INFLIGHT b r) (s2.get (Fld.RING_STATE_INFLIGHT b r) - 1)
      ((((s3.writeMirror b r).noteUnann b r).announce b r intrNow)).settleRing b r
    | (.fault k lvl, s1) =>
      let s2 := s1.tollFault b va k 1 lvl 6 0
      let s3 := (s2.setRh b r { s2.rh b r with held := h.held ++ [(ws, intrNow)] }).ringError b r 2
      s3.signal b 0x0001 0 r 2

/-- The tickets in flight without one. -/
def Dev.dropTicket (s : Dev) (k : TKey) (seq : Nat) : Dev :=
  { s with tickets := s.tickets.filter (fun t => !(t.key = k && t.seq = seq)) }

/-- R197: the ticket in flight at a slot. -/
def Dev.ticketAt (s : Dev) (b r slot : Nat) : Option Ticket :=
  s.tickets.find? (fun t => decide (t.key.b = b ∧ t.key.r = r ∧ t.key.slot = slot))

/-- The ticket in flight that a result from below names by slot and generation. -/
def Dev.ticketOf (s : Dev) (k : TKey) : Option Ticket := s.tickets.find? (fun t => t.key = k)

/-- A ticket's record changed. -/
def Dev.setTicket (s : Dev) (t : Ticket) : Dev :=
  { s with tickets := s.tickets.map (fun u => if u.key = t.key && u.seq = t.seq then t else u) }

/-- R198: whether the current generation of a slot is carried by live work below. -/
def Dev.genOf (s : Dev) (b r slot : Nat) : Nat := tget (fun _ => 0) s.gens ((b * 64 + r) * 65536 + slot)
def Dev.liveBelow (s : Dev) (b r slot : Nat) : Bool := s.work.any (fun k => k = ⟨b, r, slot, s.genOf b r slot⟩)

/-- R196: the generation of a slot advances. -/
def Dev.advanceGen (s : Dev) (b r slot : Nat) : Dev :=
  { s with gens := tput (fun _ => 0) s.gens ((b * 64 + r) * 65536 + slot) ((s.genOf b r slot + 1) % 256) }

/-- R245, step 6 of the route: STATE returns to ACTIVE once OLD_INFLIGHT is 0 and every withdrawn Pan is released. -/
def Dev.settleBerth (s : Dev) (b : Nat) : Dev :=
  if b ≠ 0 && s.get (Fld.BPLAN_CTRL_STATE b) = 2 && s.get (Fld.BPLAN_CTRL_OLD_INFLIGHT b) = 0
      && (tget (fun _ => BerthH.init) s.berthH b).withdrawn.isEmpty then s.put (Fld.BPLAN_CTRL_STATE b) 1
  else s

/-- R230: how many tickets of a berth belong to an older epoch; OLD_INFLIGHT saturates. -/
def Dev.countOld (s : Dev) (b : Nat) : Dev :=
  if b = 0 then s
  else
    let e := s.get (Fld.BPLAN_CTRL_EPOCH b)
    let n := (s.tickets.filter (fun t => t.key.b = b && t.epoch ≠ e)).length
    (s.put (Fld.BPLAN_CTRL_OLD_INFLIGHT b) (min n 0xFFFF)).settleBerth b

/-- R182, R196, R202: a ticket ends with one arrival. -/
def Dev.finish (s : Dev) (t : Ticket) (status detail result : Nat) : Dev :=
  let b := t.key.b
  let r := t.key.r
  let st := if status = 0 && t.clamped then 0x0D else status
  let live := s.work.any (fun k => k = t.key)
  let s1 := s.dropTicket t.key t.seq
  let s2 := if (st = 5 || st = 2) && live then s1.advanceGen b r t.key.slot else s1
  let tag := if t.words.isEmpty then 0 else wf t.words 0 32 32
  let ws := [packW [(0, 32, tag), (32, 32, t.seq)], BitVec.ofNat 64 result, 0,
    packW [(0, 8, st), (8, 8, t.key.gen), (16, 16, detail)]]
  (s2.writeArrival b r ws (wf t.words 0 25 1 = 1)).countOld b

/-- A ticket ends with a failing status: RESULT 0 (R201). -/
def Dev.fail (s : Dev) (t : Ticket) (status detail : Nat) : Dev := s.finish t status detail 0

/-- R197: a result from below completes the ticket that carries its generation; any other is discarded and counted. -/
def Dev.finishKey (s : Dev) (k : TKey) (status detail result : Nat) : Dev :=
  match s.ticketOf k with
  | some t => s.finish t status detail result
  | none => s.sat Fld.ERR_LADDER_LATE_DISCARDS

/-- Work below a ticket begins and ends (R196 to R198). -/
def Dev.workOn (s : Dev) (k : TKey) (n : Nat := 1) : Dev := { s with work := List.replicate n k ++ s.work }
def Dev.workOff (s : Dev) (k : TKey) : Dev := { s with work := s.work.erase k }
def Dev.workClear (s : Dev) (k : TKey) : Dev := { s with work := s.work.filter (fun x => x ≠ k) }

/-- R536, R557: the timed operations, WATCHes and asking DELIVERs that wait on a ring; R393, R458: its waiting FRAME_RXs and
the RECVs no message has bound. -/
def Dev.waiting (s : Dev) (b r : Nat) : List Ticket :=
  s.tickets.filter (fun t => t.key.b = b && t.key.r = r && t.started &&
    (let o := wf t.words 0 0 8
     match wf t.words 0 8 4 with
     | 6 => decide (0x10 ≤ o)
     | 5 => o = 3 || (o = 0x10 && wf t.words 2 10 1 = 1)
     | 2 => o = 0x11
     | 3 => o = 0x18 && t.aux.isEmpty
     | _ => false))

/-- HALT is applied to a ring (R209, R210, R213): what waits on it ends at once, ABANDONED (R536, R557), a FRAME_RX or RECV
OK with RESULT 0 (R393, R458). -/
def Dev.ringHaltNow (s : Dev) (b r : Nat) : Dev :=
  if s.ringState b r = 1 then
    if s.isSignal b r then s.put (Fld.RING_STATE_STATE b r) 3
    else
      let s1 := { s.put (Fld.RING_STATE_STATE b r) 2 with outst := s.outst.filter (fun o => o.purpose ≠ Purpose.fetch b r) }
      ((s1.waiting b r).foldl (fun s t => if wf t.words 0 8 4 = 2 || wf t.words 0 8 4 = 3 then s.finish t 0 0 0 else s.fail t 2 0) s1).settleRing b r
  else s

/-- R250, R251: a spoof by a berth.  `armed` report state is the berth's. -/
def Dev.spoof (s : Dev) (b : Nat) : Dev :=
  if b = 0 then s.classified 0x0610 0 0 0
  else
    let s1 := s.sat (Fld.CNT_REFUSED_SPOOF b)
    let h := tget (fun _ => BerthH.init) s1.berthH b
    let s2 := { s1 with berthH := tput (fun _ => BerthH.init) s1.berthH b { h with spoofReported := true } }
    let s3 := s2.classified 0x0610 b b (s1.reg (Reg.CNT_REFUSED b)).toNat true h.spoofReported
    if s3.on (Fld.CPLAN_RIGHTS_QUAR_ON_SPOOF b) && !s3.on (Fld.BPLAN_CTRL_QUARANTINED b) then
      let s4 := s3.put (Fld.BPLAN_CTRL_QUARANTINED b) 1
      let s5 := (s4.ringsOn.filter (fun x => x / 64 = b)).foldl (fun s x => s.ringHaltNow b (x % 64)) s4
      s5.signal b 0x0020 0 (s5.get (Fld.BPLAN_CTRL_EPOCH b)) 0x100
    else s3

/-! Enabling and disabling (R180, R205 to R207, R239) -/

/-- USAGE.RINGS_ENABLED follows the enabled rings of a berth. -/
def Dev.countRings (s : Dev) (b : Nat) : Dev :=
  if b = 0 then s else s.put (Fld.USAGE_RINGS_ENABLED b) (s.ringsOn.filter (fun x => x / 64 = b)).length

/-- R206, R239: whether enabling ring r of berth b as its descriptor stands is refused. -/
def Dev.enableRefused (s : Dev) (b r : Nat) : Bool :=
  let sig := s.isSignal b r
  let ab := s.get (Fld.RING_DESC_ABASE_ABASE b r)
  let tb := s.get (Fld.RING_DESC_TBASE_TBASE b r)
  let mv := s.get (Fld.RING_DESC_MIRROR_MIRROR_VA b r)
  decide (ab % 4096 ≠ 0) || (!sig && decide (tb % 4096 ≠ 0)) || decide (mv % 8 ≠ 0)
    || (s.on (Fld.RING_DESC_CTRL_INTR_EN b r) && decide (vectorsOf b ≤ s.get (Fld.RING_DESC_CTRL_VECTOR b r)))
    || (sig && (s.sigRing b).isSome) || decide (8192 ≤ s.ringsOn.length)
    || (b ≠ 0 && (s.get (Fld.BPLAN_CTRL_STATE b) = 0 || s.get (Fld.BPLAN_CTRL_STATE b) = 3
        || decide (s.get (Fld.CPLAN_QUOTA_RINGS b) ≤ r)))

/-- R381: frames inside the Wharves remember a ring that is disabled or enabled after their lookup. -/
def Dev.staleFrames (s : Dev) (b r : Nat) : Dev :=
  { s with frames := s.frames.map (fun f => { f with staleRings := (b * 64 + r) :: f.staleRings }) }

/-- R180: a ring is enabled. -/
def Dev.ringStart (s : Dev) (b r : Nat) : Dev :=
  let i := s.get (Fld.RING_DESC_INIT_INIT_SEQ b r)
  let sig := s.isSignal b r
  let s1 := ((s.setReg (Reg.RING_SEQS b r) (packW [(0, 32, if sig then 0 else i), (32, 32, i)])).setReg (Reg.RING_TAIL b r)
    (packW [(0, 32, if sig then 0 else i)])).setReg (Reg.RING_REAPED b r) (packW [(0, 32, i)])
  let s2 := ((s1.put (Fld.RING_STATE_STATE b r) 1).put (Fld.RING_STATE_CAUSE b r) 0).put (Fld.RING_STATE_INFLIGHT b r) 0
  (({ s2 with ringsOn := s2.ringsOn ++ [b * 64 + r] }.setRh b r RingH.init).countRings b).staleFrames b r

/-- R207: a ring is disabled at once: every slot with work in flight advances its generation, nothing more is written. -/
def Dev.ringStop (s : Dev) (b r : Nat) : Dev :=
  let mine := s.tickets.filter (fun t => t.key.b = b && t.key.r = r)
  let s1 := mine.foldl (fun s t => s.advanceGen b r t.key.slot) s
  let s2 := { s1 with
    tickets := s1.tickets.filter (fun t => !(t.key.b = b && t.key.r = r))
    ringsOn := s1.ringsOn.filter (fun x => x ≠ b * 64 + r)
    outst := s1.outst.filter (fun o => o.purpose ≠ Purpose.fetch b r) }
  let s3 := ((s2.put (Fld.RING_STATE_STATE b r) 0).put (Fld.RING_STATE_CAUSE b r) 0).put (Fld.RING_STATE_INFLIGHT b r) 0
  (((s3.setRh b r RingH.init).countRings b).countOld b).staleFrames b r

/-- The key of a descriptor register: 0 CTRL, 1 TBASE, 2 ABASE, 3 INIT, 4 MIRROR, 5 COAL. -/
def descKey (b r i : Nat) : Nat := ringDesc b r + 8 * i

/-- R205 to R207: a write to a register of a ring's descriptor. -/
def Dev.ringDescWrite (s : Dev) (b r i : Nat) (v : Word) (size off : Nat) : Dev :=
  let k := descKey b r i
  let w := s.writeReg k v size off
  let on := s.on (Fld.RING_DESC_CTRL_ENABLE b r)
  let on' := w.on (Fld.RING_DESC_CTRL_ENABLE b r)
  if on then
    if on' then (if w.reg k = s.reg k then s else s.put (Fld.RING_STATE_CFG_REFUSED b r) 1)
    else
      let changed := decide (setBits (w.reg k) 0 1 1 ≠ s.reg k)
      let s1 := (s.put (Fld.RING_DESC_CTRL_ENABLE b r) 0).ringStop b r
      if changed then s1.put (Fld.RING_STATE_CFG_REFUSED b r) 1 else s1
  else if on' then
    if (w.put (Fld.RING_DESC_CTRL_ENABLE b r) 0).enableRefused b r then
      (w.put (Fld.RING_DESC_CTRL_ENABLE b r) 0).put (Fld.RING_STATE_CFG_REFUSED b r) 1
    else w.ringStart b r
  else w

/-- R222: a ring is disabled and returns to its Reset values. -/
def Dev.ringReset (s : Dev) (b r : Nat) : Dev :=
  let s1 := s.ringStop b r
  s1.resetRegs (fun k => decide (ringDesc b r ≤ k ∧ k < ringDesc b r + 64) || decide (ringPage b r ≤ k ∧ k < ringPage b r + 1024))

/-- R222, R198: every ring of a berth resets, and the work below its tickets counts as ended. -/
def Dev.berthRingsReset (s : Dev) (b : Nat) : Dev :=
  let s1 := (List.range 64).foldl (fun s r => if s.on (Fld.RING_DESC_CTRL_ENABLE b r) then s.ringStop b r else s) s
  let s2 := { s1 with work := s1.work.filter (fun k => k.b ≠ b) }
  s2.resetRegs (fun k => decide (ringDesc b 0 ≤ k ∧ k < ringDesc b 0 + 4096) || decide (ringPage b 0 ≤ k ∧ k < ringPage b 0 + 65536))

/-! Doorbells, reaping, ring operations -/

/-- R188, R189: a doorbell discarded as bad. -/
def Dev.badDoorbell (s : Dev) (b r : Nat) : Dev :=
  let s1 := s.sat (Fld.RING_COUNTS_BAD_DB b r)
  let h := s1.rh b r
  if h.badSent then s1 else (s1.setRh b r { h with badSent := true }).signal b 0x0002 0 r 0

/-- R188: a doorbell write; `whole` says it is one aligned 8-byte write. -/
def Dev.doorbell (s : Dev) (b r v : Nat) (whole : Bool) : Dev :=
  let t := v % 2 ^ 32
  let tail := s.get (Fld.RING_TAIL_TAIL_SEQ b r)
  if s.ringState b r = 0 || !whole then s.badDoorbell b r
  else if same t tail 32 then s
  else if after t tail 32 then
    if subMod t (s.get (Fld.RING_SEQS_CONSUMED_SEQ b r)) 32 ≤ s.ringSize b r then s.put (Fld.RING_TAIL_TAIL_SEQ b r) t
    else s.badDoorbell b r
  else s.sat (Fld.RING_COUNTS_STALE_DB b r)

/-- R190: a write to RING_REAPED. -/
def Dev.reap (s : Dev) (b r v : Nat) : Dev :=
  let t := v % 2 ^ 32
  let q := s.get (Fld.RING_REAPED_REAPED_SEQ b r)
  if same t q 32 then s
  else if after t q 32 && !after t (s.get (Fld.RING_SEQS_PRODUCED_SEQ b r)) 32 then s.put (Fld.RING_REAPED_REAPED_SEQ b r) t
  else s.sat (Fld.RING_COUNTS_BAD_REAP b r)

/-- An operation Table 5.11 refuses. -/
def Dev.opRefused (s : Dev) (b r : Nat) : Dev := s.put (Fld.RING_STATE_OP_REFUSED b r) 1

/-- R210: HALT. -/
def Dev.ringHalt (s : Dev) (b r : Nat) : Dev := if s.ringState b r = 0 then s.opRefused b r else s.ringHaltNow b r

/-- R211: ABANDON ends every ticket in flight with ABANDONED. -/
def Dev.ringAbandon (s : Dev) (b r : Nat) : Dev :=
  let st := s.ringState b r
  if st = 0 || s.isSignal b r || (st = 5 && s.get (Fld.RING_STATE_CAUSE b r) = 2) then s.opRefused b r
  else if st = 4 then s
  else
    let s0 := (s.put (Fld.RING_STATE_STATE b r) 4).put (Fld.RING_STATE_CAUSE b r) 0
    let s1 := { s0 with outst := s0.outst.filter (fun o => o.purpose ≠ Purpose.fetch b r) }
    let mine := s1.tickets.filter (fun t => t.key.b = b && t.key.r = r)
    let s2 := mine.foldl (fun s t => s.fail t 2 0) s1
    (s2.put (Fld.RING_TAIL_TAIL_SEQ b r) (s2.get (Fld.RING_SEQS_CONSUMED_SEQ b r))).settleRing b r

/-- R220: the kept results are written again. -/
def Dev.retryHeld (s : Dev) (b r : Nat) : Dev :=
  let l := (s.rh b r).held
  l.foldl (fun s e => s.writeArrival b r e.1 e.2) (s.setRh b r { s.rh b r with held := [] })

/-- RESUME (Table 5.11), refused while the berth is quarantined (R250). -/
def Dev.ringResume (s : Dev) (b r : Nat) : Dev :=
  let st := s.ringState b r
  let c := s.get (Fld.RING_STATE_CAUSE b r)
  if b ≠ 0 && s.on (Fld.BPLAN_CTRL_QUARANTINED b) then s.opRefused b r
  else if st = 1 then s
  else if st = 3 || st = 5 then
    let s1 := (s.put (Fld.RING_STATE_STATE b r) 1).put (Fld.RING_STATE_CAUSE b r) 0
    if st = 5 && c = 2 then s1.retryHeld b r else if st = 5 && c = 3 then s1.writeMirror b r else s1
  else s.opRefused b r

/-- R209: a write of OP to RING_OP. -/
def Dev.ringOp (s : Dev) (b r op : Nat) : Dev :=
  match op with
  | 0 => s
  | 1 => s.ringHalt b r
  | 2 => s.ringAbandon b r
  | 3 => s.ringResume b r
  | _ => s.opRefused b r

/-- R208: a write to a register of a ring's sequence page, by its offset. -/
def Dev.ringPageWrite (s : Dev) (b r off : Nat) (v : Word) (size o : Nat) : Dev :=
  if off = 0x10 then (if o = 0 then s.reap b r (woBits v size o 0 32) else s)
  else if off = 0x20 then s.ringOp b r (woBits v size o 0 3)
  else s.writeReg (ringPage b r + off) v size o

/-- R17, R189: a read of RING_COUNTS clears its counts and re-arms BAD_DOORBELL. -/
def Dev.ringPageRead (s : Dev) (b r off size o : Nat) : Dev :=
  let s1 := s.rcClear (ringPage b r + off) size o
  if off = 0x28 then s1.setRh b r { s1.rh b r with badSent := false } else s1

/-! Taking tickets -/

/-- R183: whether the device may take the ring's next ticket. -/
def Dev.canTake (s : Dev) (b r : Nat) : Bool :=
  let c := s.get (Fld.RING_SEQS_CONSUMED_SEQ b r)
  s.ringState b r = 1 && !s.isSignal b r && !s.stopped && after (s.get (Fld.RING_TAIL_TAIL_SEQ b r)) c 32
    && decide (subMod c (s.get (Fld.RING_REAPED_REAPED_SEQ b r)) 32 < s.ringSize b r)
    && !s.liveBelow b r (c % s.ringSize b r) && !s.outst.any (fun o => o.purpose = Purpose.fetch b r)

/-- R191, R192: the class a ring runs at. -/
def Dev.ringClass (s : Dev) (b r : Nat) : Nat :=
  let c := s.get (Fld.RING_DESC_CTRL_CLASS b r)
  if b = 0 then c else max c (s.get (Fld.CPLAN_RIGHTS_CLASS_MIN b))

/-- R191: whether the scheduler may serve this ring now: class 0 first, then by the credits of classes 1 to 3, and within
a class the first takeable ring after the one served last. -/
def Dev.scheduled (s : Dev) (b r : Nat) : Bool :=
  let ready := s.ringsOn.filter (fun x => s.canTake (x / 64) (x % 64))
  let cls := fun x => s.ringClass (x / 64) (x % 64)
  let c := s.ringClass b r
  let credit := fun c => s.credits.getD (c - 1) 0
  let last := tget (fun _ => 0) s.lastServed c
  let dist := fun x => (x + 8256 - last) % 8256
  let turn := ready.all (fun x => cls x ≠ c || dist (b * 64 + r) ≤ dist x)
  turn && (c = 0 || (ready.all (fun x => cls x ≠ 0) && (0 < credit c || ready.all (fun x => credit (cls x) = 0))))

/-- R191: the ring is served. -/
def Dev.served (s : Dev) (b r : Nat) : Dev :=
  let c := s.ringClass b r
  let s1 := { s with lastServed := tput (fun _ => 0) s.lastServed c (b * 64 + r + 1) }
  if c = 0 then s1
  else
    let cr := if s.credits.getD (c - 1) 0 = 0 then [4, 2, 1] else s.credits
    { s1 with credits := cr.set (c - 1) (cr.getD (c - 1) 0 - 1) }

/-- Table 5.4 and the services' tables: the operations that exist. -/
def opDefined (svc op : Nat) : Bool :=
  match svc with
  | 0 => op = 0
  | 1 => op = 1 || op = 2 || op = 3
  | 2 => op = 1 || op = 2 || op = 0x10 || op = 0x11
  | 3 => (1 ≤ op && op ≤ 8) || (0x10 ≤ op && op ≤ 0x15) || op = 0x18
  | 4 => 1 ≤ op && op ≤ 6
  | 5 => op = 1 || op = 2 || op = 3 || op = 0x10
  | 6 => op = 1 || op = 0x10 || op = 0x11
  | _ => false

/-- R200: the fixed words are well formed. -/
def ticketOk (ws : List Word) : Bool :=
  opDefined (wf ws 0 8 4) (wf ws 0 0 8) && wf ws 0 12 12 = 0 && wf ws 0 26 6 = 0 && wf ws 1 32 32 = 0

/-- R466, R467: the larger of the accelerator ports' completion timeouts and the host link's, in µs. -/
def Dev.pcieToUs (s : Dev) : Nat :=
  max (max (max (s.get (Fld.LND_AP_CTRL_CPL_TO_US 0)) (s.get (Fld.LND_AP_CTRL_CPL_TO_US 1)))
    (max (s.get (Fld.LND_AP_CTRL_CPL_TO_US 2)) (s.get (Fld.LND_AP_CTRL_CPL_TO_US 3)))) s.hostCtoUs

/-- R464: RTO_0 and RTO_k of a crossing, in ns. -/
def Dev.rto0 (s : Dev) (x : Nat) : Nat :=
  let srtt := s.get (Fld.XCT_XING_CC_SRTT_NS x)
  if srtt = 0 then 100000 else min 4000000 (max 8000 (2 * srtt))
def Dev.rto (s : Dev) (x k : Nat) : Nat := min 4000000 (s.rto0 x * 2 ^ k)

/-- R894: B3 of a crossing in ns: max(F, Σ RTO_k for k from 0 to 7). -/
def Dev.b3 (s : Dev) (x : Nat) : Nat := max (4 * s.pcieToUs * 1000) (((List.range 8).map (s.rto x)).sum)

/-- A crossing index names a READY crossing of a berth. -/
def Dev.xingReady (s : Dev) (b x : Nat) : Bool := s.get (Fld.XCT_XING_STATE x) = 2 && s.get (Fld.XCT_XING_OWNER x) = b

/-- Table 26.6: the deadline floor of a ticket, in µs. -/
def Dev.floorUs (s : Dev) (b : Nat) (ws : List Word) : Nat :=
  let svc := wf ws 0 8 4
  let op := wf ws 0 0 8
  let pcie := 4 * s.pcieToUs
  if svc = 3 && 0x10 ≤ op && op ≤ 0x15 then
    (if s.xingReady b (wf ws 2 0 16) then (4 * s.b3 (wf ws 2 0 16) + 999) / 1000 else 0)
  else if svc = 4 then 4 * (2 * s.get Fld.STO_CTRL_CMD_TO_MS + 1000) * 1000
  else if svc = 1 || (svc = 2 && op ≠ 0x11) || (svc = 3 && op ≤ 8) || (svc = 5 && op = 1) || (svc = 6 && op = 1) then pcie
  else 0

/-- Station 3 and 4: a ticket is taken, stamped, and checked (R181, R195, R199, R200, R229, R897). -/
def Dev.takeTicket (s : Dev) (b r : Nat) (bs : List Byte) (bad : Bool) : Dev :=
  let c := s.get (Fld.RING_SEQS_CONSUMED_SEQ b r)
  let slot := c % s.ringSize b r
  let s1 := (s.wrap (Fld.RING_SEQS_CONSUMED_SEQ b r)).put (Fld.RING_STATE_INFLIGHT b r) (s.get (Fld.RING_STATE_INFLIGHT b r) + 1)
  let s2 := if b = 0 then s1 else s1.wrap (Fld.CNT_TICKETS_TICKETS b)
  let ws := if bad then [] else toWords 8 bs
  let dl := wf ws 1 0 32
  let fl := s2.floorUs b ws
  let clamp := decide (0 < dl ∧ dl < fl)
  let ep := if b = 0 then 0 else s2.get (Fld.BPLAN_CTRL_EPOCH b)
  let t : Ticket := ⟨⟨b, r, slot, s2.genOf b r slot⟩, c, ws, s2.tide, ep, if b = 0 then [] else s2.planSnap b,
    if clamp then fl else dl, clamp, false, 0, 0, 0, 0, [], false, [], false, [], 0, []⟩
  let s3 := { s2 with tickets := s2.tickets ++ [t] }
  if bad then s3.fail t 8 0
  else if !ticketOk ws || (b ≠ 0 && s3.on (Fld.BPLAN_CTRL_QUARANTINED b)) then
    s3.fail { t with clamped := false, deadlineUs := dl } 3 0
  else if clamp then s3.sat Fld.ERR_LADDER_CLAMPS else s3

/-- The fetch of a ring's next ticket failed: ERROR with CAUSE TICKET_FETCH (R219, Table 8.7). -/
def Dev.fetchFailed (s : Dev) (b r : Nat) : Dev := (s.ringError b r 1).signal b 0x0001 0 r 1

/-- R311: a ring's ticket or arrival array lies in host memory. -/
def Dev.ringInHost (s : Dev) (b r : Nat) : Bool :=
  [s.get (Fld.RING_DESC_TBASE_TBASE b r), s.get (Fld.RING_DESC_ABASE_ABASE b r)].any (fun va =>
    match s.walk b va with
    | .ok (e, lvl) => s.region (leafDpa e lvl va) = .host
    | .error _ => false)

/-- R181, R183, R191, R219: the device reads the next ticket of a ring and takes it; a ticket in host memory is taken when
its read completes. -/
def Dev.take (s : Dev) (b r : Nat) : Dev :=
  if !(s.canTake b r && s.scheduled b r) then s
  else
    let s0 := s.served b r
    let c := s0.get (Fld.RING_SEQS_CONSUMED_SEQ b r)
    let va := s0.get (Fld.RING_DESC_TBASE_TBASE b r) + 64 * (c % s0.ringSize b r)
    match s0.ringXlate b va 0 64 with
    | (.ok dpa leaf, s1) =>
      match s1.destOf b dpa leaf with
      | .mem a =>
        let s2 := s1.takeTicket b r (s1.bytes a 64) (s1.poisoned a 64)
        if s2.ringInHost b r then s2.hostBusy else s2
      | .host f a ns => if s1.ideInsecure f then s1.fetchFailed b r else s1.sendRead (.host f a ns) 64 (.fetch b r)
      | .ap _ _ => s1
    | (.fault k lvl, s1) =>
      if k = 5 then s1.tollFault b va k 0 lvl 6 0 |>.takeTicket b r [] true
      else (s1.tollFault b va k 0 lvl 6 0).fetchFailed b r

/-- The ticket of a ring read from host memory has come. -/
def Dev.fetched (s : Dev) (b r : Nat) (bs : List Byte) (bad : Bool) : Dev :=
  if s.ringState b r = 1 then s.takeTicket b r bs bad else s

/-- R193: every earlier ticket of the ring has arrived. -/
def Dev.fenceOpen (s : Dev) (t : Ticket) : Bool :=
  wf t.words 0 24 1 = 0 || !s.tickets.any (fun u => u.key.b = t.key.b && u.key.r = t.key.r && before u.seq t.seq 32)

/-- Station 5: a service acts on a ticket in flight that has not started, of its SVC and OP, whose fence is open; any other
command of the service changes nothing. -/
def Dev.serve (s : Dev) (b r slot svc op : Nat) (f : Dev → Ticket → Dev) : Dev :=
  match s.ticketAt b r slot with
  | none => s
  | some t =>
    if t.started || s.stopped || !s.fenceOpen t || wf t.words 0 8 4 ≠ svc || wf t.words 0 0 8 ≠ op then s
    else
      let t1 := { t with started := true }
      f (s.setTicket t1) t1

/-! The commands -/

/-- Ring r of berth b exists (R176). -/
def ringThere (b r : Nat) : Bool := decide (b ≤ 128 ∧ r < 64)

/-- DOORBELL (R188). -/
def execDoorbell (b r v : Nat) (whole : Bool) (s : State) : Out := s.dvIf (ringThere b r) (·.doorbell b r v whole)

/-- RING_REAPED_WRITE (R190). -/
def execRingReapedWrite (b r v : Nat) (s : State) : Out := s.dvIf (ringThere b r) (·.reap b r v)

/-- TICKET_TAKE (R181, R183). -/
def execTicketTake (b r : Nat) (s : State) : Out := s.dvIf (ringThere b r) (·.take b r)

/-- MSIX_COALESCE_TIMER (R194): COAL_US have passed since the oldest unannounced arrival. -/
def execMsixCoalesceTimer (b r : Nat) (s : State) : Out :=
  s.dvIf (ringThere b r) fun d =>
    let us := d.get (Fld.RING_DESC_COAL_COAL_US b r)
    let h := d.rh b r
    if us = 0 || h.unann = 0 || !d.on (Fld.RING_DESC_CTRL_INTR_EN b r) then d
    else (d.at (h.oldest + 1000 * us)).announce b r true

/-- RING_ENABLE (R205, R206): a write of RING_DESC_CTRL with ENABLE 1. -/
def execRingEnable (b r : Nat) (v : Word) (s : State) : Out := s.dvIf (ringThere b r) (·.ringDescWrite b r 0 (v ||| 1) 8 0)

/-- RING_DISABLE (R207): a write of RING_DESC_CTRL with ENABLE 0. -/
def execRingDisable (b r : Nat) (v : Word) (s : State) : Out := s.dvIf (ringThere b r) (·.ringDescWrite b r 0 (v &&& ~~~1) 8 0)

/-- RING_HALT (R209, R210). -/
def execRingHalt (b r : Nat) (s : State) : Out := s.dvIf (ringThere b r) (·.ringOp b r 1)

/-- RING_ABANDON (R209, R211). -/
def execRingAbandon (b r : Nat) (s : State) : Out := s.dvIf (ringThere b r) (·.ringOp b r 2)

/-- RING_RESUME (R209). -/
def execRingResume (b r : Nat) (s : State) : Out := s.dvIf (ringThere b r) (·.ringOp b r 3)

/-- DEADLINE_EXPIRY (R199): the deadline of the ticket in flight at a slot expires. -/
def execDeadlineExpiry (b r slot : Nat) (s : State) : Out :=
  s.dv fun d =>
    match d.ticketAt b r slot with
    | none => d
    | some t => if t.deadlineUs = 0 then d else (d.at (t.tide + 1000 * t.deadlineUs)).fail t 5 0

/-- RING_NOP (Table 5.4): completes OK with RESULT 0. -/
def execRingNop (b r slot : Nat) (s : State) : Out := s.dv fun d => d.serve b r slot 0 0 (fun d t => d.finish t 0 0 0)

/-- ERR_LAST_READ (R890): one 8-byte read re-arms the reports; a 4-byte read does not. -/
def execErrLastRead (whole : Bool) (s : State) : Out :=
  s.dv fun d => if whole then { d with err := { d.err with reported := [] } } else d

end Sys2Proof.Machine
end

