-- ==== Sys2Proof/Machine/Moor.lean ====
section
/-! DEFINITION. Moorings and direct placement (spec/07): keys and their checks, registration, revocation, COPY and FLUSH,
and the gathering and placing of a ticket's data that every service uses. -/

namespace Sys2Proof.Machine

/-- Who makes a keyed access: a berth of this node, or the remote end of a crossing. -/
inductive Who where
  | loc (b : Nat)
  | rem (x : Nat)
  deriving DecidableEq, Repr

/-- Entries of the mooring table. -/
def Dev.moorEntries (s : Dev) : Nat := 2 ^ s.get Fld.TOLL_MOOR_LOG2_ENTRIES
/-- The DPA of entry i (R273). -/
def Dev.moorAddr (s : Dev) (i : Nat) : Nat := s.get Fld.TOLL_MOOR_BASE * 4096 + 32 * i
/-- The descriptor of index i. -/
def Dev.moorDesc (s : Dev) (i : Nat) : List Word := toWords 4 (s.bytes (s.moorAddr i) 32)
def Dev.setMoorDesc (s : Dev) (i : Nat) (d : List Word) : Dev := s.writeMem (s.moorAddr i) (wordBytes d)

/-- Key GEN and INDEX (Table 7.4). -/
def keyGen (k : Nat) : Nat := bitsOf k 24 8
def keyIndex (k : Nat) : Nat := bitsOf k 0 24
/-- R260: the generation after g. -/
def nextGen (g : Nat) : Nat := if g = 0xFF then 1 else g + 1

/-- Whether keyed checks are served (Table 7.1 row 1, R276). -/
def Dev.moorOn (s : Dev) : Bool := s.on Fld.TOLL_MOOR_ENABLE && !s.on Fld.TOLL_MOOR_BUSY

/-- Checks 1 to 4 or 5 of Table 7.1: the descriptor, or a status and DETAIL. -/
def Dev.keyOpen (s : Dev) (w : Who) (key : Nat) : Except (Nat × Nat) (List Word) :=
  let i := keyIndex key
  if !s.moorOn then .error (4, 7)
  else if 2 ^ 20 ≤ i ∨ s.moorEntries ≤ i then .error (4, 1)
  else if s.poisoned (s.moorAddr i) 32 then .error (8, 0)
  else
    let d := s.moorDesc i
    let owner := wf d 0 32 8
    if wf d 0 0 1 = 0 || wf d 0 24 8 = 0 || wf d 0 24 8 ≠ keyGen key then .error (4, 2)
    else match w with
      | .loc b => if owner ≠ b then .error (4, 3) else .ok d
      | .rem x =>
        let xct := owner = 0 || s.on (Fld.CPLAN_RIGHTS_XCT owner)
        if s.get (Fld.XCT_XING_OWNER x) = owner && xct
          && (wf d 0 8 1 = 1 || wf d 0 12 12 = s.get (Fld.XCT_XING_REMOTE_NODE x)) then .ok d
        else .error (4, 6)

/-- Table 7.1: the owner and the VA a keyed piece reaches; kind 0 read, 1 write, 2 atomic. -/
def Dev.keyCheck (s : Dev) (w : Who) (key off len kind : Nat) : Except (Nat × Nat) (Nat × Nat) :=
  match s.keyOpen w key with
  | .error e => .error e
  | .ok d =>
    let bit := match w with | .loc _ => 1 + kind | .rem _ => 4 + kind
    let length := wf d 2 0 41
    if wf d 0 bit 1 = 0 then .error (4, 4)
    else if length < off + len ∨ (len = 0 ∧ length ≤ off) then .error (4, 5)
    else .ok (wf d 0 32 8, wf d 1 0 48 + off)

/-- A keyed piece that failed: KEY_FAULTS counts, a failure of check 4 is a spoof (R262, R278). -/
def Dev.keyFault (s : Dev) (w : Who) (e : Nat × Nat) : Dev :=
  if e.1 ≠ 4 then s
  else
    let s1 := s.sat Fld.TOLL_MOOR_USED_KEY_FAULTS
    match w with
    | .loc b => if e.2 = 3 then s1.spoof b else s1
    | .rem _ => s1

/-- Table 4.8: what a device service reports for a fault of a kind. -/
def faultStatus (kind : Nat) : Nat := if kind = 5 then 8 else 3

/-- R261: one keyed piece, inside one 4 KiB page: checked, then translated in the owner's context; a port whose
stream is INSECURE ends it as Table 9.6 states (R871). -/
def Dev.keyedPiece (s : Dev) (w : Who) (key off len kind accel source unit : Nat) : Except (Nat × Nat) Dest × Dev :=
  match s.keyCheck w key off len kind with
  | .error e => (.error e, s.keyFault w e)
  | .ok (owner, va) =>
    match s.xlate owner va kind len { accel := accel } with
    | (.ok dpa leaf, s1) =>
      (match s1.destOf owner dpa leaf with
        | .ap n a => if s1.apInsecure n then (.error (0xA, 0x0303), s1) else (.ok (.ap n a), s1)
        | d => (.ok d, s1))
    | (.fault k lvl, s1) => (.error (faultStatus k, 0), s1.tollFault owner va k kind lvl source unit)

/-- The VA of an offset under a key, for the 4 KiB split of R155; the offset itself where the key does not open. -/
def Dev.keyVa (s : Dev) (key off : Nat) : Nat := wf (s.moorDesc (keyIndex key)) 1 0 48 + off

/-- R155: the pieces of a keyed transfer: (offset under the key, length). -/
def Dev.keyedPieces (s : Dev) (key off len : Nat) : List (Nat × Nat) :=
  let va := s.keyVa key off
  (piecesOf va len).map (fun p => (off + (p.1 - va), p.2))

/-! Rate ceilings (R240) -/

/-- R240: the instant in ps at which a piece of n bytes may go, and the release time after it, under a ceiling of c × 100 MB/s. -/
def rateAfter (T now n c : Nat) : Nat := if c = 0 then T else max T now + n * 10000 / c

/-- R240: a piece of a berth's work waits for its release time: 0 NET_TX, 1 STO, 2 ACCEL. -/
def Dev.rateGate (s : Dev) (b which n c : Nat) : Dev :=
  if b = 0 || c = 0 then s
  else
    let h := tget (fun _ => BerthH.init) s.berthH b
    let T := match which with | 0 => h.releaseNet | 1 => h.releaseSto | _ => h.releaseAccel
    let s1 := s.at ((T + 999) / 1000)
    let T' := rateAfter T (s1.tide * 1000) n c
    let h' := match which with
      | 0 => { h with releaseNet := T' }
      | 1 => { h with releaseSto := T' }
      | _ => { h with releaseAccel := T' }
    { s1 with berthH := tput (fun _ => BerthH.init) s1.berthH b h' }

/-- The ceiling of the epoch of a ticket. -/
def Ticket.ceiling (t : Ticket) (which : Nat) : Nat := getBits (t.planWord 0x20) (16 * which) 16

/-! Gathering and placing -/

/-- The link of a destination and its function and address: 0 the host link, 1 + n APn; none on the device. -/
def Dest.link : Dest → Option (Nat × Nat × Nat)
  | .mem _ => none
  | .ap n a => some (1 + n, 0, a)
  | .host f a _ => some (0, f, a)

/-- Bytes of a ticket's gathered data. -/
def Ticket.bytesAt (t : Ticket) (off n : Nat) : List Byte := (List.range n).map (fun i => tget (fun _ => 0) t.data (off + i))

/-- One piece of a ticket's data is placed: its ceiling and counters (R240, R252), Relaxed Ordering (R303), the link it used
(R280). -/
def Dev.placePiece (s : Dev) (t : Ticket) (d : Dest) (bs : List Byte) (ms : List (Nat × Nat)) : Dev × Ticket :=
  let b := t.key.b
  let s1 := match d with
    | .ap _ _ =>
      let s0 := s.rateGate b 2 bs.length (t.ceiling 2)
      if b = 0 then s0 else s0.wrap (Fld.CNT_ACCEL_BYTES b) bs.length
    | _ => s
  let s2 := s1.writeDestMarked d bs true ms
  match d.link with
  | none => (s2, t)
  | some (l, f, a) =>
    let dw := (f, (a + bs.length - 1) / 4 * 4 + 1)
    let h := s2.rh b t.key.r
    (s2.setRh b t.key.r { h with placed := tput (fun _ => (0, 0)) h.placed l dw },
      { t with links := tput (fun _ => (0, 0)) t.links l dw })

/-- The bytes of a source piece enter the ticket's data at an offset, or their reads go out (R302): data on the device is
there at once. -/
def Dev.gatherPiece (s : Dev) (t : Ticket) (d : Dest) (at_ len : Nat) : Except (Nat × Nat) Unit × Dev × Ticket :=
  match d with
  | .mem a =>
    (.ok (), s, { t with data := putBytes (fun _ => 0) t.data at_ (s.bytes a len), bad := t.bad || s.poisoned a len,
                             marks := t.marks ++ shiftRuns (s.poisonRuns a len) at_ })
  | .ap n a => (.ok (), (s.sendRead (.ap n a) len (.gather t.key at_)).workOn t.key, { t with left := t.left + 1 })
  | .host f a ns =>
    if s.ideInsecure f then (.error (7, 0x0403), s, t)
    else
      let cs := chunks (len + 1) s.mrrs a (List.replicate len 0)
      (.ok (), cs.foldl (fun s c => (s.sendRead (.host f c.1 ns) c.2.length (.gather t.key (at_ + (c.1 - a)))).workOn t.key) s,
        { t with left := t.left + cs.length })

/-- Source bytes under a key are gathered piece by piece: offset under the key, length, offset in the ticket's data. -/
def Dev.gatherPieces (s : Dev) (w : Who) (t : Ticket) (key source unit : Nat) :
    List (Nat × Nat) → Nat → Except (Nat × Nat) Unit × Dev × Ticket
  | [], _ => (.ok (), s, t)
  | (off, len) :: ps, at_ =>
    match s.keyedPiece w key off len 0 t.accel source unit with
    | (.error e, s1) => (.error e, s1, t)
    | (.ok d, s1) =>
      match s1.gatherPiece t d at_ len with
      | (.error e, s2, t2) => (.error e, s2, t2)
      | (.ok _, s2, t2) => s2.gatherPieces w t2 key source unit ps (at_ + len)

/-- Gathered bytes are placed under a key piece by piece. -/
def Dev.placePieces (s : Dev) (w : Who) (t : Ticket) (key source unit : Nat) (ms : List (Nat × Nat)) :
    List (Nat × Nat) → List Byte → Except (Nat × Nat) Unit × Dev × Ticket
  | [], _ => (.ok (), s, t)
  | (off, len) :: ps, bs =>
    match s.keyedPiece w key off len 1 t.accel source unit with
    | (.error e, s1) => (.error e, s1, t)
    | (.ok d, s1) =>
      let (s2, t2) := s1.placePiece t d (bs.take len) (clipRuns ms 0 len)
      s2.placePieces w t2 key source unit (clipRuns ms len (bs.length - len)) ps (bs.drop len)

/-- R271: a proving read on a link, to the DW at an address. -/
def Dev.sendProve (s : Dev) (link f addr : Nat) (p : Purpose) : Dev :=
  let t := s.nextTag
  let s1 := if link = 0 then s.hostSend ⟨.hostRead, [f, addr, 0, t], []⟩ else s.emit .apRead [link - 1, addr, 0, t]
  { s1 with outst := s1.outst ++ [⟨t, link, f, addr, 0, p⟩], nextTag := t + 1 }

/-- Table 7.3: a placement is over: OK on the device; on a link DEPARTED, or the proving reads go out. -/
def Dev.placed (s : Dev) (t : Ticket) : Dev :=
  if t.links.isEmpty then (if t.bad then s.fail t 8 0 else s.finish t 0 0 t.result)
  else if t.prove then
    let s1 := t.links.foldl (fun s l => (s.sendProve l.1 l.2.1 (l.2.2 - 1) (.prove t.key)).workOn t.key) s
    s1.setTicket { t with left := t.links.length }
  else if t.bad then s.fail t 8 0 else s.finish t 1 0 t.result

/-- R271: a proving read of a ticket has ended: 0 Successful Completion without EP, else a status and DETAIL. -/
def Dev.proved (s : Dev) (k : TKey) (e : Option (Nat × Nat)) : Dev :=
  let s1 := s.workOff k
  match s1.ticketOf k with
  | none => s1.sat Fld.ERR_LADDER_LATE_DISCARDS
  | some t =>
    match e with
    | some (st, de) => s1.fail t st de
    | none =>
      if 1 < t.left then s1.setTicket { t with left := t.left - 1 }
      else if t.bad then s1.fail t 8 0 else s1.finish t 0 0 t.result

/-! COPY and FLUSH -/

/-- R155, R279: COPY from the offset reached on: each piece of the destination is gathered and placed; the copy waits where
source bytes must come over a link. -/
def Dev.copyRun : Nat → Dev → Ticket → Dev
  | 0, s, _ => s
  | fuel + 1, s, t =>
    let n := wf t.words 6 0 31
    let skey := wf t.words 2 0 32
    let dkey := wf t.words 4 0 32
    let b := t.key.b
    let o := t.result
    if n ≤ o then s.placed t
    else
      let doff := wf t.words 5 0 41 + o
      let soff := wf t.words 3 0 41 + o
      let len := min (n - o) (4096 - s.keyVa dkey doff % 4096)
      match s.gatherPieces (.loc b) { t with data := [], left := 0, bad := false, marks := [] } skey 6 0 (s.keyedPieces skey soff len) 0 with
      | (.error e, s1, t1) => s1.fail t1 e.1 e.2
      | (.ok _, s1, t1) =>
        -- the destination key is checked after the source key, before the piece moves
        match s1.keyCheck (.loc b) dkey doff len 1 with
        | .error e => (s1.keyFault (.loc b) e).fail t1 e.1 e.2
        | .ok _ =>
          if 0 < t1.left then s1.setTicket { t1 with step := len, aux := [if t.bad then 1 else 0] }
          else
            match s1.placePieces (.loc b) t1 dkey 6 0 t1.marks [(doff, len)] (t1.bytesAt 0 len) with
            | (.error e, s2, t2) => s2.fail t2 e.1 e.2
            | (.ok _, s2, t2) => Dev.copyRun fuel s2 { t2 with result := o + len, bad := t.bad || t2.bad }

/-- Pieces of a copy, as fuel. -/
def copyFuel (t : Ticket) : Nat := wf t.words 6 0 31 / 4096 + 3

/-- The source bytes of a waiting piece have all come: it is placed, and the copy goes on. -/
def Dev.copyResume (s : Dev) (t : Ticket) : Dev :=
  let b := t.key.b
  match s.placePieces (.loc b) t (wf t.words 4 0 32) 6 0 t.marks [(wf t.words 5 0 41 + t.result, t.step)] (t.bytesAt 0 t.step) with
  | (.error e, s1, t1) => s1.fail t1 e.1 e.2
  | (.ok _, s1, t1) => Dev.copyRun (copyFuel t) s1 { t1 with result := t.result + t.step, bad := t.bad || t.aux.contains 1 }

/-- Body bits not listed in Table 7.6b are zero (R277). -/
def bodyZero (ws : List Word) (used : List (Nat × Nat)) : Bool :=
  (List.range 6).all (fun i =>
    let m := (used.filter (fun u => u.1 = i + 2)).foldl (fun m u => m ||| u.2) 0
    decide ((wordAt ws (i + 2)).toNat &&& ((2 ^ 64 - 1) ^^^ m) = 0))

/-- R279, R277. -/
def Dev.copyStart (s : Dev) (t : Ticket) : Dev :=
  let n := wf t.words 6 0 31
  if !bodyZero t.words [(2, 2 ^ 32 - 1), (3, 2 ^ 41 - 1), (4, 2 ^ 32 - 1), (5, 2 ^ 41 - 1), (6, 2 ^ 31 - 1 + 2 ^ 32)]
    || n = 0 || decide (2 ^ 30 < n) then s.fail t 3 0x0101
  else Dev.copyRun (copyFuel t) s { t with prove := wf t.words 6 32 1 = 1 }

/-- R280: FLUSH. -/
def Dev.flushStart (s : Dev) (t : Ticket) : Dev :=
  let b := t.key.b
  if !bodyZero t.words [(4, 2 ^ 32 - 1), (5, 2 ^ 41 - 1)] then s.fail t 3 0x0101
  else
    match s.keyedPiece (.loc b) (wf t.words 4 0 32) (wf t.words 5 0 41) 0 1 t.accel 6 0 with
    | (.error e, s1) => s1.fail t e.1 e.2
    | (.ok d, s1) =>
      match d.link with
      | none => s1.finish t 0 0 0
      | some (l, f, a) =>
        let p := tget (fun _ => (0, 0)) (s1.rh b t.key.r).placed l
        let (f', a') := if p.2 = 0 then (f, a / 4 * 4) else (p.1, p.2 - 1)
        ((s1.sendProve l f' a' (.prove t.key)).workOn t.key).setTicket { t with left := 1 }

/-! Registration -/

/-- R264: the kinds a registration's rights name. -/
def regKinds (rights : Nat) : List Nat :=
  (List.range 3).filter (fun k => bitsOf rights k 1 = 1 || bitsOf rights (3 + k) 1 = 1)

/-- What a registration counts: HBM pages, Cistern pages, pages by region (R79), a page outside HBM. -/
structure PageSum where
  hbm : Nat
  cis : Nat
  homes : List (Nat × Nat)
  outside : Bool
  /-- extents: DPA, VA, pages -/
  ext : List (Nat × Nat × Nat)
  deriving DecidableEq, Repr

/-- Pages added to the count of a region. -/
def addHome (h : List (Nat × Nat)) (r n : Nat) : List (Nat × Nat) :=
  match h with
  | [] => [(r, n)]
  | (r', n') :: t => if r' = r then (r', n' + n) :: t else (r', n') :: addHome t r n

/-- R265: pages of one leaf, from a DPA. -/
def Dev.countPages (s : Dev) (p : PageSum) (va dpa n : Nat) : PageSum :=
  if dpa < 0x4000000000 then
    { p with hbm := p.hbm + n, homes := addHome p.homes (dpa / 2 ^ 35) n, ext := p.ext ++ [(dpa, va, n)] }
  else if dpa < 0x4010000000 then
    (List.range n).foldl (fun p i =>
      let a := dpa + 4096 * i
      if s.region a = .scratch then
        { p with cis := p.cis + 1, outside := true, homes := addHome p.homes (8 + (a - 0x4000000000) / 0x400000) 1 }
      else { p with outside := true }) p
  else { p with outside := true }

/-- R264: the registration walk over [va, last], a leaf at a time; a fault ends it. -/
def Dev.regWalk (s : Dev) (b accel rights last : Nat) : Nat → Nat → PageSum → Except (Nat × Nat × Nat × Nat) PageSum
  | 0, _, p => .ok p
  | fuel + 1, va, p =>
    if last < va then .ok p
    else
      match s.walk b va with
      | .error (k, l) => .error (va, k, (regKinds rights).headD 0, l)
      | .ok (e, lvl) =>
        let dpa := leafDpa e lvl va
        let kinds := if (regKinds rights).isEmpty then [0] else regKinds rights
        let bad := kinds.filterMap (fun k =>
          if !(regKinds rights).isEmpty && !leafAllows e k then some (1, k)
          else (s.checkTarget b dpa 4096 k e { accel := accel }).map (fun t => (t, k)))
        match bad with
        | (k, a) :: _ => .error (va, k, a, lvl)
        | [] =>
          let sz := 2 ^ (12 + 9 * lvl)
          let nxt := (va / sz + 1) * sz
          let n := (min nxt (last + 1) - va + 4095) / 4096
          s.regWalk b accel rights last fuel nxt (s.countPages p va dpa n)

/-- R260: the first free index after the one allocated last. -/
def Dev.freeIndex (s : Dev) : Nat → Nat → Option Nat
  | 0, _ => none
  | fuel + 1, i =>
    let j := i % s.moorEntries
    if s.moor.reg.contains j then Dev.freeIndex s fuel (i + 1) else some j

/-- 4 KiB pages in whole MiB, rounded up. -/
def pagesMib (n : Nat) : Nat := (n + 255) / 256

/-- USAGE_MEM and MOORINGS_USED of a berth follow its moorings (R265). -/
def Dev.moorUse (s : Dev) (b : Nat) (n hbm cis : Int) : Dev :=
  let s0 := s.put Fld.TOLL_MOOR_USED_USED ((s.get Fld.TOLL_MOOR_USED_USED + n).toNat)
  if b = 0 then s0
  else
    let h := tget (fun _ => BerthH.init) s0.berthH b
    let h' := { h with hbmPages := (h.hbmPages + hbm).toNat, cisPages := (h.cisPages + cis).toNat }
    let s1 := { s0 with berthH := tput (fun _ => BerthH.init) s0.berthH b h' }
    ((s1.put (Fld.USAGE_MOORINGS_USED b) ((s1.get (Fld.USAGE_MOORINGS_USED b) + n).toNat)).put
      (Fld.USAGE_MEM_HBM_MIB_USED b) (pagesMib h'.hbmPages)).put (Fld.USAGE_MEM_CIS_MIB_USED b) (pagesMib h'.cisPages)

/-- Vault-class pages registered. -/
def Dev.vaultPages (s : Dev) : Nat :=
  ((s.moor.reg.filter (fun i => wf (s.moorDesc i) 0 7 1 = 1 && wf (s.moorDesc i) 0 0 1 = 1)).map (fun i => wf (s.moorDesc i) 3 0 27)).sum

/-- An extent of the region entered by DPA; a page already in an extent is that of the mooring with the lowest index (R819,
Table 24.3): `a` comes after what is in the list. -/
def extEnter (l : List VltExt) (a : VltExt) : List VltExt :=
  match l with
  | [] => [a]
  | e :: t =>
    if a.len = 0 then e :: t
    else if a.dpa + a.len ≤ e.dpa then a :: e :: t
    else if e.dpa + e.len ≤ a.dpa then e :: extEnter t a
    else
      let left := { a with len := e.dpa - a.dpa }
      let cut := e.dpa + e.len - a.dpa
      let right := { a with dpa := e.dpa + e.len, va := a.va + cut, len := a.len - cut }
      (if a.dpa < e.dpa then [left] else []) ++ e :: (if right.len = 0 then t else extEnter t right)

/-- Neighbours merged (R819): a run of DPA is one extent, named for the mooring with the lowest index; `next` is what follows. -/
def extMerge : List VltExt → List VltExt
  | [] => []
  | e :: t =>
    match extMerge t with
    | [] => [e]
    | f :: u =>
      if e.dpa + e.len = f.dpa then
        (if e.index ≤ f.index then { e with len := e.len + f.len }
         else { f with dpa := e.dpa, len := e.len + f.len, va := (f.va + 2 ^ 48 - e.len) % 2 ^ 48 }) :: u
      else e :: f :: u

/-- R819: the extents of the vault region, with those of a mooring being registered (owner, index, generation, extents). -/
def Dev.extents (s : Dev) (more : List VltExt) : List VltExt :=
  let old := s.moorExt.flatMap (fun m =>
    let d := s.moorDesc m.1
    m.2.map (fun e => (⟨e.1, e.2.2 * 4096, wf d 0 32 8, m.1, wf d 0 24 8, e.2.1⟩ : VltExt)))
  extMerge ((old ++ more).foldl extEnter [])

/-- VLT_USED counts vault-class moorings (Table 24.5). -/
def Dev.vaultUse (s : Dev) : Dev :=
  (s.put Fld.VLT_USED_USED_MIB (pagesMib s.vaultPages)).put Fld.VLT_USED_EXTENTS (s.extents []).length

/-- R258 to R266, R278: REGISTER. -/
def Dev.registerStart (s : Dev) (t : Ticket) : Dev :=
  let b := t.key.b
  let base := wf t.words 2 0 48
  let len := wf t.words 3 0 41
  let rights := wf t.words 4 0 6
  let vault := wf t.words 4 6 1 = 1
  if !bodyZero t.words [(2, 2 ^ 48 - 1), (3, 2 ^ 41 - 1), (4, 2 ^ 20 - 1)] || len = 0 || decide (2 ^ 40 < len)
    || decide (2 ^ 48 < base + len) then s.fail t 3 0x0101
  else if (8 ≤ rights && t.right 7 1 = 0) || (vault && t.right 10 1 = 0) then (s.rightRefused b).fail t 3 0x0102
  else if vault && (base % 4096 ≠ 0 || len % 4096 ≠ 0) then s.fail t 3 0x0104
  else if !s.moorOn then s.fail t 12 0x0206
  else
    let first := base / 4096 * 4096
    match s.regWalk b t.accel rights (base + len - 1) (len / 4096 + 2) first ⟨0, 0, [], false, []⟩ with
    | .error (va, k, a, l) => (s.tollFault b va k a l 6 0).fail t 3 0x0103
    | .ok p =>
      let h := tget (fun _ => BerthH.init) s.berthH b
      let quotaW := getBits (t.planWord 0x10)
      let memW := getBits (t.planWord 0x18)
      if vault && p.outside then s.fail t 3 0x0104
      else if b ≠ 0 && decide (quotaW 8 21 < s.get (Fld.USAGE_MOORINGS_USED b) + 1) then (s.quotaBusy b).fail t 12 0x0201
      else if 2 ^ 27 ≤ p.hbm || (b ≠ 0 && decide (memW 0 19 < pagesMib (h.hbmPages + p.hbm))) then (s.quotaBusy b).fail t 12 0x0202
      else if 2 ^ 17 ≤ p.cis || (b ≠ 0 && decide (memW 32 9 < pagesMib (h.cisPages + p.cis))) then (s.quotaBusy b).fail t 12 0x0203
      else if vault && decide (s.get Fld.VLT_USED_LIMIT_MIB < pagesMib (s.vaultPages + p.hbm)
          ∨ 65536 < (s.extents (p.ext.map (fun e => (⟨e.1, e.2.2 * 4096, b, 2 ^ 24, 0, e.2.1⟩ : VltExt)))).length) then s.fail t 12 0x0205
      else
        match s.freeIndex (min s.moorEntries (s.moor.reg.length + 1)) s.moor.lastPlus1 with
        | none => s.fail t 12 0x0204
        | some i =>
          let g := wf (s.moorDesc i) 0 24 8
          let g' := if g = 0 then 1 else g
          let d := [packW [(0, 1, 1), (1, 6, rights), (7, 1, if vault then 1 else 0), (8, 1, wf t.words 4 7 1),
            (12, 12, wf t.words 4 8 12), (24, 8, g'), (32, 8, b)], packW [(0, 48, base)], packW [(0, 41, len)],
            packW [(0, 27, p.hbm), (27, 17, p.cis)]]
          let s1 := s.setMoorDesc i d
          let s2 := { s1 with
            moor := { s1.moor with lastPlus1 := i + 1, reg := i :: s1.moor.reg }
            moorPages := tput (fun _ => []) s1.moorPages i p.homes
            moorExt := tput (fun _ => []) s1.moorExt i (if vault then p.ext else []) }
          ((s2.moorUse b 1 p.hbm p.cis).vaultUse).finish t 0 0 (g' * 2 ^ 24 + i)

/-- R267: an index becomes free. -/
def Dev.freeMoor (s : Dev) (i : Nat) : Dev :=
  let d := s.moorDesc i
  let s1 := { s with
    moor := { s.moor with reg := s.moor.reg.filter (fun j => j ≠ i) }
    moorPages := tput (fun _ => []) s.moorPages i []
    moorExt := tput (fun _ => []) s.moorExt i [] }
  (s1.moorUse (wf d 0 32 8) (-1) (-(wf d 3 0 27 : Nat)) (-(wf d 3 27 17 : Nat))).vaultUse

/-- The generation of an index advances (R260), with VALID kept or cleared. -/
def Dev.stepGen (s : Dev) (i : Nat) (valid : Bool) : Dev :=
  let d := s.moorDesc i
  let w0 := setBits (setBits (wordAt d 0) 24 8 (nextGen (wf d 0 24 8))) 0 1 (if valid then 1 else 0)
  s.setMoorDesc i (d.set 0 w0)

/-- R267, R268, R278: REVOKE and REGEN: the key is fenced now, the arrival waits until no piece is checked under it. -/
def Dev.fenceKey (s : Dev) (t : Ticket) (revoke : Bool) : Dev :=
  let key := wf t.words 2 0 32
  if !bodyZero t.words [(2, 2 ^ 32 - 1)] then s.fail t 3 0x0101
  else
    match s.keyOpen (.loc t.key.b) key with
    | .error e => (s.keyFault (.loc t.key.b) e).fail t e.1 e.2
    | .ok _ =>
      let i := keyIndex key
      let s1 := s.stepGen i (!revoke)
      ({ s1 with moor := { s1.moor with waiting := s1.moor.waiting ++ [(⟨i, keyGen key, t.key, revoke⟩ : Quiesce)] } } : Dev).workOn t.key

/-- The keys a ticket names, by service. -/
def Ticket.keys (t : Ticket) : List Nat :=
  let svc := wf t.words 0 8 4
  let w := fun i => wf t.words i 0 32
  match svc with
  | 2 => if wf t.words 0 0 8 = 0x10 || wf t.words 0 0 8 = 0x11 then [w 2] else [w 2, w 4]
  | 3 => [w 3, w 5]
  | 4 => [w 4, wf t.words 4 32 32]
  | 5 => [w 2, w 3]
  | 6 => [w 2]
  | _ => []

/-- R267: pieces checked under a key have not all reached their completion point: a read for a ticket that names it is
outstanding. -/
def Dev.keyBusy (s : Dev) (i gen : Nat) : Bool :=
  s.outst.any (fun o =>
    match o.purpose with
    | .gather tk _ => (match s.ticketOf tk with
      | some t => t.keys.any (fun k => keyIndex k = i && keyGen k = gen)
      | none => false)
    | _ => false)

/-- R267, R268: the pieces checked under an old key have completed. -/
def Dev.keyQuiesced (s : Dev) (i gen : Nat) : Dev :=
  match s.moor.waiting.find? (fun q => decide (q.index = i ∧ q.oldGen = gen)) with
  | none => s
  | some q =>
    if s.keyBusy i gen then s
    else
      let s1 := { s with moor := { s.moor with waiting := s.moor.waiting.erase q } }
      let s2 := s1.workOff q.tk
      if q.revoke then (s2.freeMoor i).finishKey q.tk 0 0 0
      else s2.finishKey q.tk 0 0 (wf (s2.moorDesc i) 0 24 8 * 2 ^ 24 + i)

/-- R246, R285: every mooring of a berth is revoked. -/
def Dev.revokeAll (s : Dev) (b : Nat) : Dev :=
  let mine := s.moor.reg.filter (fun i => wf (s.moorDesc i) 0 32 8 = b)
  let s1 := mine.foldl (fun s i => (if wf (s.moorDesc i) 0 0 1 = 1 then s.stepGen i false else s).freeMoor i) s
  { s1 with moor := { s1.moor with waiting := s1.moor.waiting.filter (fun q => !mine.contains q.index) } }

/-! TOLL_MOOR (R274 to R276) -/

/-- R275: a write to TOLL_MOOR. -/
def Dev.moorWrite (s : Dev) (v : Word) (size off : Nat) : Dev :=
  let w := s.writeReg Reg.TOLL_MOOR v size off
  let old := s.reg Reg.TOLL_MOOR
  let new := w.reg Reg.TOLL_MOOR
  let en := s.on Fld.TOLL_MOOR_ENABLE
  let en' := w.on Fld.TOLL_MOOR_ENABLE
  let base := w.get Fld.TOLL_MOOR_BASE * 4096
  let inside := decide (s.tollBase ≤ base ∧ base + 32 * 2 ^ w.get Fld.TOLL_MOOR_LOG2_ENTRIES ≤ s.tollBase + s.tollSize)
  let moved := getBits old 3 35 ≠ getBits new 3 35
  if (en && moved) || (en' && (!s.on Fld.TOLL_CTRL_ENABLE || !inside)) || (en && !en' && s.on Fld.TOLL_MOOR_USED_USED) then
    s.put Fld.TOLL_MOOR_MOOR_REFUSED 1
  else if !en && en' then
    { w.put Fld.TOLL_MOOR_BUSY 1 with moor := { w.moor with lastPlus1 := 0 } }
  else if en && !en' then w.put Fld.TOLL_MOOR_BUSY 0
  else w

/-! The commands -/

/-- REGISTER (R258 to R266). -/
def execRegisterT (b r slot : Nat) (s : State) : Out := s.dv fun d => d.serve b r slot 1 1 Dev.registerStart

/-- REVOKE (R267). -/
def execRevoke (b r slot : Nat) (s : State) : Out := s.dv fun d => d.serve b r slot 1 2 (·.fenceKey · true)

/-- REGEN (R268). -/
def execRegen (b r slot : Nat) (s : State) : Out := s.dv fun d => d.serve b r slot 1 3 (·.fenceKey · false)

/-- MOORING_KEY_QUIESCED (R267, R268). -/
def execMooringKeyQuiesced (i gen : Nat) (s : State) : Out := s.dv (·.keyQuiesced i gen)

/-- COPY (R279). -/
def execCopyT (b r slot : Nat) (s : State) : Out := s.dv fun d => d.serve b r slot 2 1 Dev.copyStart

/-- PLACE_FLUSH (R280): it starts as if FENCE were 1. -/
def execPlaceFlush (b r slot : Nat) (s : State) : Out :=
  s.dv fun d =>
    match d.ticketAt b r slot with
    | none => d
    | some t =>
      if d.tickets.any (fun u => u.key.b = b && u.key.r = r && before u.seq t.seq 32) then d
      else d.serve b r slot 2 2 Dev.flushStart

/-- TOLL_MOOR_ENABLE (R276): a write of TOLL_MOOR. -/
def execTollMoorEnable (v : Word) (s : State) : Out := s.dv (·.moorWrite v 8 0)

/-- MOOR_TABLE_CLEARED (R276). -/
def execMoorTableCleared (s : State) : Out :=
  s.dv fun d =>
    if d.on Fld.TOLL_MOOR_BUSY then
      (d.zeroMem (d.moorAddr 0) (32 * d.moorEntries)).put Fld.TOLL_MOOR_BUSY 0
    else d

end Sys2Proof.Machine
end

