-- ==== Sys2Proof/Machine/Power.lean ====
section
/-! DEFINITION. Power states, caps, the thermal curve, the brake and the thermal trip (spec/22), with the Gauge values they
use (R739, R748, R751) and the path each island's clock takes. -/

namespace Sys2Proof.Machine

/-! Gauge values -/

/-- R748: the normalized value of a sample word. -/
def normOf (w : Nat) : Int := signed 16 w * (2 : Int) ^ (4 - bitsOf w 21 3)

/-- The latest normalized value of a channel, where there is one. -/
def Dev.gaugeN (s : Dev) (ch : Nat) : Option Int :=
  if s.get (Fld.GAU_LAST_TIDE_TIDE ch) = 0 then none else some (normOf (s.get (Fld.GAU_LAST_WORD ch)))

/-- The age in ns of a channel's latest value. -/
def Dev.gaugeAge (s : Dev) (ch : Nat) : Nat := s.tide - s.get (Fld.GAU_LAST_TIDE_TIDE ch)

/-- R751: the temperature of a channel, in 1/1,024 °C. -/
def Dev.chanTemp (s : Dev) (ch : Nat) : Int :=
  match s.gaugeN ch with
  | some n => if s.gaugeAge ch < 1000000000 then n else 512 * 1024
  | none => 512 * 1024

/-- R773: the highest temperature among channels 0–15, and its channel. -/
def Dev.hottest (s : Dev) : Int × Nat :=
  (List.range 16).foldl (fun m ch => if m.1 < s.chanTemp ch then (s.chanTemp ch, ch) else m) (s.chanTemp 0, 0)

/-- Whole °C of a temperature. -/
def wholeC (t : Int) : Int := t / 1024

/-- A signed number as a field of n bits. -/
def toField (n : Nat) (x : Int) : Nat := (x % (2 : Int) ^ n).toNat

/-- R773, R714: the CAP_W of the valid entry with the highest AT_C not above a temperature; 750 where none applies. -/
def curveCap (c : List (Bool × Nat × Nat)) (t : Int) : Nat :=
  (c.foldl (fun m e => if e.1 && decide ((e.2.1 : Int) * 1024 ≤ t) && decide (m.1 ≤ e.2.1) then (e.2.1, e.2.2) else m) (0, 750)).2

/-! The islands -/

/-- R770, R771: the divide the cap level gives an island. -/
def capDiv (level offset n : Nat) : Nat :=
  let g := if n < 64 then n / 4 else (n - 64) / 2
  let i := (g + 16 - offset % 16) % 16
  if level ≤ 16 then (if i < level then 2 else 1) else if level - 16 ≤ i then 2 else 4

/-- R763: the required divide of an island. -/
def Dev.required (s : Dev) (n : Nat) : Nat :=
  if s.on Fld.PWR_STATUS_BRAKE then 4 else capDiv (s.get Fld.PWR_STATUS_LEVEL) s.power.offset n

/-- The clock of an island beyond its registers. -/
def Dev.isl (s : Dev) (n : Nat) : ClkIsl := tget (fun _ => ClkIsl.init) s.clk n
def Dev.setIsl (s : Dev) (n : Nat) (c : ClkIsl) : Dev := { s with clk := tput (fun _ => ClkIsl.init) s.clk n c }

/-- The setting in use: NINT, FRAC, DIV. -/
def Dev.inUse (s : Dev) (n : Nat) : Nat × Nat × Nat :=
  let u := (s.isl n).inUse
  if u = 0 then ((islandReset n).1, 0, (islandReset n).2) else (bitsOf u 24 7, bitsOf u 0 24, bitsOf u 32 4)

/-- R101: f_pll in kHz, rounded down. -/
def pllKhz (nint frac div : Nat) : Nat := 100000 * (nint * 2 ^ 24 + frac) / (2 ^ 24 * (2 * div))

/-- R121: PATH and FREQ_KHZ of an island follow its mux, its power state and KILL. -/
def Dev.syncPath (s : Dev) (n : Nat) : Dev :=
  let st := if n < 96 then s.get (Fld.PWR_ISL_STATE n) else 0
  let path := if s.cause.kill || st = 2 || st = 3 then 3 else if (s.isl n).onSafe then 2 else if st = 1 then 1 else 0
  let (ni, fr, dv) := s.inUse n
  let f := match path with
    | 0 => pllKhz ni fr dv
    | 1 => pllKhz ni fr dv / (if s.get (Fld.PWR_ISL_DIV n) = 1 then 2 else 4)
    | 2 => 100000
    | _ => 0
  (s.put (Fld.CLK_ISL_STATUS_PATH n) path).put (Fld.CLK_ISL_STATUS_FREQ_KHZ n) f

/-- R763: an island in Flood or Ebb takes the path its required divide selects. -/
def Dev.syncIsland (s : Dev) (n : Nat) : Dev :=
  if 96 ≤ n then s.syncPath n
  else
    let st := s.get (Fld.PWR_ISL_STATE n)
    if st = 2 || st = 3 then s.syncPath n
    else
      let d := s.required n
      let s1 := (s.put (Fld.PWR_ISL_STATE n) (if d = 1 then 0 else 1)).put (Fld.PWR_ISL_DIV n) (d / 2)
      s1.syncPath n

/-- Every island follows the brake and the cap level. -/
def Dev.syncIslands (s : Dev) : Dev := (List.range 96).foldl Dev.syncIsland s

/-- R764: an island is idle. -/
def Dev.islandIdle (s : Dev) (n : Nat) : Bool :=
  if n < 64 then (List.range 4).all (fun i => s.get (Fld.PAN_STATE_STATE (4 * n + i)) = 0)
  else n < 96 && s.get (Fld.CRY_STATE_QUEUED (n - 64)) = 0 && !s.on (Fld.CRY_STATE_BUSY (n - 64))

/-- R766: what wakes an island: the exit begins at once, or follows the entry in progress. -/
def Dev.wakeIsland (s : Dev) (n : Nat) : Dev :=
  let m := tget (fun _ => 0) s.power.moving n
  let set := fun v => { s with power := { s.power with moving := tput (fun _ => 0) s.power.moving n v } }
  if m = 1 || m = 2 then set (m + 4)
  else if m = 0 && (s.get (Fld.PWR_ISL_STATE n) = 2 || s.get (Fld.PWR_ISL_STATE n) = 3) then set 3
  else s

/-- R767: the exit is over: the island runs on the path R763 selects; from Slack its PLL has relocked (DEDUCED from R762). -/
def Dev.exitIsland (s : Dev) (n : Nat) : Dev :=
  let s1 := { s with power := { s.power with moving := tput (fun _ => 0) s.power.moving n 0 } }
  let s2 := if s.get (Fld.PWR_ISL_STATE n) = 3 then s1.put (Fld.CLK_ISL_STATUS_LOCKED n) 1 else s1
  (s2.put (Fld.PWR_ISL_STATE n) 0).syncIsland n

/-! Signals of this chapter (R785) -/

/-- POWER_STATE. -/
def Dev.powerSignal (s : Dev) : Dev :=
  s.signal 0 0x0060 0
    (pack [(0, 16, s.get Fld.PWR_STATUS_CAP_W), (16, 6, s.get Fld.PWR_STATUS_LEVEL), (24, 1, s.get Fld.PWR_STATUS_BRAKE),
      (25, 5, s.get Fld.PWR_BRAKE_SOURCES)])
    (pack [(0, 16, s.get Fld.PWR_STATUS_POWER_W), (16, 16, s.get Fld.PWR_STATUS_TEMP_C)])

/-- PWR_COUNTS.BRAKE_US counts the time braked up to now. -/
def Dev.countBrake (s : Dev) : Dev :=
  if s.on Fld.PWR_STATUS_BRAKE then
    let us := (s.tide - s.brakeFrom) / 1000
    { s.sat Fld.PWR_COUNTS_BRAKE_US us with brakeFrom := s.brakeFrom + 1000 * us }
  else s

/-- R775: the brake follows its sources. -/
def Dev.setBrakeSource (s : Dev) (i : Nat) (on : Bool) : Dev :=
  let old := s.get Fld.PWR_BRAKE_SOURCES
  let s1 := s.put ⟨Reg.PWR_BRAKE, i, 1⟩ (if on then 1 else 0)
  let new := s1.get Fld.PWR_BRAKE_SOURCES
  if old = 0 && new ≠ 0 then
    let s2 := { ((s1.put Fld.PWR_STATUS_BRAKE 1).sat Fld.PWR_BRAKE_ASSERTS).setReg Reg.PWR_BRAKE_TIDE (BitVec.ofNat 64 s.tide) with
      brakeFrom := s.tide
      cause := { s1.cause with brake := true } }.emit .alarm [0, 1]
    let n := s2.power.brakeSince + 1
    let due := s2.power.lastBrakeLog = 0 || decide (s2.power.lastBrakeLog - 1 + 1000000000 ≤ s2.tide)
    let s3 := if due then
        { s2 with power := { s2.power with lastBrakeLog := s2.tide + 1, brakeSince := 0 } }.logAdd 2 0x0300 0xFF new n
      else { s2 with power := { s2.power with brakeSince := n } }
    s3.syncIslands.powerSignal
  else if old ≠ 0 && new = 0 then
    let s2 := (s1.countBrake).put Fld.PWR_STATUS_BRAKE 0
    ({ s2 with cause := { s2.cause with brake := false } }.emit .alarm [0, 0]).syncIslands.powerSignal
  else s1

/-- R768, R710: the cap in force; a change is announced. -/
def Dev.updateCap (s : Dev) : Dev :=
  let c := min (min (s.get Fld.PWR_CAPS_HOST_W) (s.get Fld.PWR_CAPS_BMC_W)) (min (s.get Fld.PWR_CAPS_THERM_W) (s.get Fld.PWR_CAPS_AUTO_W))
  if c = s.get Fld.PWR_STATUS_CAP_W then s else (s.put Fld.PWR_STATUS_CAP_W c).powerSignal

/-- Wide enough for any level change: the level moves, islands follow, crossings of 0 are announced. -/
def Dev.setLevel (s : Dev) (l : Nat) : Dev :=
  let old := s.get Fld.PWR_STATUS_LEVEL
  if l = old then s
  else
    let s1 := (s.put Fld.PWR_STATUS_LEVEL l).syncIslands
    let s2 := if old = 0 then s1.logAdd 2 0x0303 0xFF (s1.get Fld.PWR_STATUS_CAP_W) (s1.get Fld.PWR_STATUS_POWER_W) else s1
    if (old = 0 || l = 0) && (s2.power.lastLPost = 0 || decide (s2.power.lastLPost - 1 + 10000000 ≤ s2.tide)) then
      { s2 with power := { s2.power with lastLPost := s2.tide + 1 } }.powerSignal
    else s2

/-- R769: device power in units of 2^−27 W, and the channel that has no current value where there is one. -/
def Dev.powerNow (s : Dev) : Int × Option Nat :=
  let v := fun ch => (s.gaugeN ch).getD 0
  let p := v 16 * v 21 + v 17 * v 22 + v 18 * v 23 + (s.get Fld.PWR_CTRL_OTHER_W : Int) * 2 ^ 27
  (p, [16, 17, 18, 21, 22, 23].find? (fun ch => (s.gaugeN ch).isNone || decide (1000000000 < s.gaugeAge ch)))

/-- The vault holds L at 32 (R828), and the Slipway does until station 11 (R794). -/
def Dev.levelHeld (s : Dev) : Bool :=
  s.get Fld.VLT_STATUS_STATE = 3 || s.get Fld.VLT_STATUS_STATE = 4 || decide (s.get Fld.IDENT_BOOT_STATION < 11)

/-- R770: the cap level moves. -/
def Dev.moveLevel (s : Dev) (p : Int) (stale : Bool) : Dev :=
  let cap : Int := (s.get Fld.PWR_STATUS_CAP_W : Int) * 2 ^ 27
  let l := s.get Fld.PWR_STATUS_LEVEL
  let set := fun (n : Nat) => { s with power := { s.power with below := n } }
  if s.levelHeld then s.setLevel 32
  else if stale || decide (cap * 11 < p * 10) then (set 0).setLevel (min 32 (l + 4))
  else if cap < p then (set 0).setLevel (min 32 (l + 1))
  else if p < cap - (s.get Fld.PWR_CTRL_HYST_W : Int) * 2 ^ 27 then
    (if 10 ≤ s.power.below + 1 then (set 0).setLevel (l - 1) else set (s.power.below + 1))
  else set 0

/-- The instant of the next pass: the passes are 1 ms apart (R769). -/
def Dev.nextMs (s : Dev) : Nat := (s.tide / 1000000 + 1) * 1000000

/-- The pass's power reading `p` in POWER_W, or STALE with 750 W shown where channel `ch` of it is too old (R768). -/
def Dev.capPower (s : Dev) (p : Int) (aged : Option Nat) : Dev :=
  match aged with
  | some ch =>
    let a := (s.put Fld.PWR_STATUS_STALE 1).put Fld.PWR_STATUS_POWER_W 750
    if s.on Fld.PWR_STATUS_STALE then a else a.logAdd 4 0x0304 0xFF ch 0
  | none => (s.put Fld.PWR_STATUS_STALE 0).put Fld.PWR_STATUS_POWER_W (p / 2 ^ 27).toNat

/-- The pass's temperature `t` in TEMP_C, and the thermal cap of it (R770). -/
def Dev.capTemp (s : Dev) (t : Int) : Dev :=
  (s.put Fld.PWR_STATUS_TEMP_C (toField 16 (wholeC t))).put Fld.PWR_CAPS_THERM_W (curveCap s.power.curve t)

/-- The autonomy's cap: the table's while the Helm is on its own, else 750 W (R770). -/
def Dev.capAuto (s : Dev) : Dev :=
  if s.on (Fld.TASK_HELM_AUTONOMOUS 0) then
    let c := curveCap s.ferry.autoTable (s.chanTemp s.ferry.tempCh)
    if c = s.get Fld.PWR_CAPS_AUTO_W then s
    else (s.put Fld.PWR_CAPS_AUTO_W c).logAdd 2 0x0004 0xFF c (toField 64 (wholeC (s.chanTemp s.ferry.tempCh)))
  else s.put Fld.PWR_CAPS_AUTO_W 750

/-- The thermal brake of the temperature `t` of channel `hot`, which ends 5 degrees lower (R775). -/
def Dev.capBrake (s : Dev) (t : Int) (hot : Nat) : Dev :=
  let tb : Int := (s.power.thermBrake : Int) * 1024
  if tb ≤ t && !s.on Fld.PWR_STATUS_THERMAL then
    ((s.put Fld.PWR_STATUS_THERMAL 1).logAdd 3 0x0301 0xFF (toField 64 (wholeC t)) hot).setBrakeSource 2 true
  else if t < tb - 5 * 1024 && s.on Fld.PWR_STATUS_THERMAL then (s.put Fld.PWR_STATUS_THERMAL 0).setBrakeSource 2 false
  else s

/-- The cap and the level follow, and a millisecond with a level counts (R769, R784). -/
def Dev.capLevel (s : Dev) (p : Int) (stale : Bool) : Dev :=
  let s1 := s.updateCap.moveLevel p stale
  if s1.on Fld.PWR_STATUS_LEVEL then s1.sat Fld.PWR_COUNTS_CAP_MS else s1

/-- R769 to R773, R714: one pass of the cap loop. -/
def Dev.capLoop (s0 : Dev) : Dev :=
  let s := s0.at s0.nextMs
  let s1 := s.capPower s.powerNow.1 s.powerNow.2
  (((s1.capTemp s1.hottest.1).capAuto).capBrake s1.hottest.1 s1.hottest.2).capLevel s.powerNow.1 s.powerNow.2.isSome

/-- R107: KILL stops every island and abandons every change in progress (R132). -/
def Dev.kill (s : Dev) : Dev :=
  let s1 := if s.cause.kill then s else { s with cause := { s.cause with kill := true } }.emit .alarm [3, 1]
  (List.range 116).foldl (fun s n =>
    ((s.setIsl n { s.isl n with change := 0, onSafe := true }).put (Fld.CLK_ISL_STATUS_BUSY n) 0).syncPath n) s1

/-! The commands -/

/-- CAP_LOOP_TICK (R769, R770). -/
def execCapLoopTick (s : State) : Out := s.dv Dev.capLoop

/-- GROUP_ROTATE (R771): R advances by 1 modulo 16. -/
def execGroupRotate (s : State) : Out :=
  s.dv fun d => { d with power := { d.power with offset := (d.power.offset + 1) % 16 } }.syncIslands

/-- Which PWR_IDLE_ register an island follows: 0 Pan quads, 1 Crystallizers. -/
def idleKind (n : Nat) : Nat := if n < 64 then 0 else 1

/-- NEAP_ENTRY_TIMER (R765): an island idle for NEAP_NS begins to enter Neap. -/
def execNeapEntryTimer (n : Nat) (s : State) : Out :=
  s.dv fun d =>
    if decide (n < 96) && d.on Fld.PWR_CTRL_IDLE_EN && d.on (Fld.PWR_IDLE_NEAP_NS (idleKind n)) && d.islandIdle n
      && decide (d.get (Fld.PWR_ISL_STATE n) < 2) && tget (fun _ => 0) d.power.moving n = 0 then
      { d with power := { d.power with moving := tput (fun _ => 0) d.power.moving n 1 } }
    else d

/-- SLACK_ENTRY_TIMER (R765): an island that has stayed in Neap for SLACK_US begins to enter Slack. -/
def execSlackEntryTimer (n : Nat) (s : State) : Out :=
  s.dv fun d =>
    if decide (n < 96) && d.on Fld.PWR_CTRL_IDLE_EN && d.on (Fld.PWR_IDLE_SLACK_US (idleKind n)) && d.islandIdle n
      && d.get (Fld.PWR_ISL_STATE n) = 2 && tget (fun _ => 0) d.power.moving n = 0 then
      { d with power := { d.power with moving := tput (fun _ => 0) d.power.moving n 2 } }
    else d

/-- ISLAND_WAKE (R766). -/
def execIslandWake (n : Nat) (s : State) : Out := s.dv fun d => if n < 96 then d.wakeIsland n else d

/-- ISLAND_EXIT_DONE (R767). -/
def execIslandExitDone (n : Nat) (s : State) : Out :=
  s.dv fun d => if n < 96 ∧ tget (fun _ => 0) d.power.moving n = 3 then d.exitIsland n else d

/-- BRAKE_N_ASSERT (R775, R776, R777): BRAKE_N has been low for `ns`; a pulse shorter than 15 ns may be ignored, and one
shorter than 20 ns may pass or not. -/
def execBrakeNAssert (ns : Nat) (s : State) : Out :=
  s.dv fun d =>
    let take := decide (20 ≤ ns) || Config.freeBool d.free
    let d1 := if 20 ≤ ns then d else d.tick
    if take then { d1 with power := { d1.power with brakePinLow := true } }.setBrakeSource 0 true else d1

/-- BRAKE_N_RELEASE (R775, R778): BRAKE_N is high again, for `ns`. -/
def execBrakeNRelease (ns : Nat) (s : State) : Out :=
  s.dv fun d =>
    let take := decide (20 ≤ ns) || Config.freeBool d.free
    let d1 := if 20 ≤ ns then d else d.tick
    if take then { d1 with power := { d1.power with brakePinLow := false } }.setBrakeSource 0 false else d1

/-- PWR_CTRL_WRITE (R783). -/
def Dev.pwrCtrlWrite (s : Dev) (v : Word) (size off : Nat) : Dev :=
  let m := fun lo len => (woBits v size off lo len) ||| (getBits (s.reg Reg.PWR_CTRL) lo len &&& ((2 ^ len - 1) ^^^ laneMask size off lo len))
  let hy := m 16 16
  let ot := m 32 16
  let cleared := if woBits v size off 1 1 = 1 then s.put Fld.PWR_CTRL_PWR_REFUSED 0 else s
  if hy < 1 ∨ 100 < hy ∨ 200 < ot then s.put Fld.PWR_CTRL_PWR_REFUSED 1
  else
    ((cleared.put Fld.PWR_CTRL_IDLE_EN (m 0 1)).put Fld.PWR_CTRL_HYST_W hy).put Fld.PWR_CTRL_OTHER_W ot

def execPwrCtrlWrite (v : Word) (s : State) : Out := s.dv (·.pwrCtrlWrite v 8 0)

end Sys2Proof.Machine
end

