-- ==== Sys2Proof/Machine/Pan.lean ====
section
/-! DEFINITION. Pans (spec/15): runs and their ends, control space, the memory a Raker, a Barrow and a Crystallizer reach,
exceptions, the Barrow, PAN tickets. -/

namespace Sys2Proof.Machine

def Dev.pan (s : Dev) (p : Nat) : PanS := tget (fun _ => PanS.init) s.pans p
def Dev.setPan (s : Dev) (p : Nat) (q : PanS) : Dev := { s with pans := tput (fun _ => PanS.init) s.pans p q }
def Dev.rk (s : Dev) (p i : Nat) : RakerS := tget (fun _ => RakerS.init) s.rakers (p * 4 + i)
def Dev.setRk (s : Dev) (p i : Nat) (r : RakerS) : Dev :=
  let s1 := { s with rakers := tput (fun _ => RakerS.init) s.rakers (p * 4 + i) r }
  s1.put ⟨Reg.PAN_STATE p, 4 + i, 1⟩ (if r.live then 1 else 0)

/-- The state of a Pan (Table 15.9). -/
def Dev.panState (s : Dev) (p : Nat) : Nat := s.get (Fld.PAN_STATE_STATE p)

/-- R224: whether a berth holds a Pan for PAN tickets and source checks; berth 0 holds what is free. -/
def Dev.holds (s : Dev) (b p : Nat) : Bool := s.holder p = b

/-- Where a Pan's SRAM and feed-store slice lie (R47, R668). -/
def panSram (p : Nat) : Nat := 0x4100000000 + 0x200000 * p
def panFeed (p : Nat) : Nat := 0x4200000000 + 0x80000 * p

/-- The Pan window and control space (R545). -/
def panWindow : Nat := 0xFFFFFFC00000
def controlSpace : Nat := 0xFFFFFFE00000
def inPanWindow (va : Nat) : Bool := decide (0xFFFFFFC00000 ≤ va ∧ va < 0xFFFFFFE00000)
def inControl (va : Nat) : Bool := decide (0xFFFFFFE00000 ≤ va)

/-! Ends of runs (R566 to R573, R699) -/

/-- Entries a Crystallizer's queue holds. -/
def Dev.cryHeld (s : Dev) (c : Nat) : Nat := ((List.range 8).map (fun j => (s.pan (8 * c + j)).cry.length)).sum
/-- CRY_STATE.QUEUED follows the queue. -/
def Dev.countCry (s : Dev) (c : Nat) : Dev := s.put (Fld.CRY_STATE_QUEUED c) (s.cryHeld c)

/-- R572: the end of a run: what has not started is discarded, waiting DELIVERs end, the end record is written, and the
scrub begins. -/
def Dev.endRun (s : Dev) (p status detail result : Nat) : Dev :=
  let q := s.pan p
  let id := s.get (Fld.PAN_STATE_RUN_ID p)
  let s1 := s.setPan p { q with barrow := [], cry := q.cry.filter (fun e => e.ran ≠ 0), asks := [], watches := [], stopAt := 0 }
  let s2 := s1.countCry (p / 8)
  let s3 := q.asks.foldl (fun s k =>
    let s1 := s.workOff k
    match s1.ticketOf k with
    | some t => s1.fail t 0xA 0x0A06
    | none => s1) s2
  let s4 := (s3.setReg (Reg.PAN_END p) (packW [(0, 8, status), (8, 16, detail), (32, 32, id)])).setReg
    (Reg.PAN_END_RESULT p) (BitVec.ofNat 64 result)
  let s5 := q.watches.foldl (fun s w => (s.workOff w.1).finishKey w.1 status detail result) s4
  let s6 := (List.range 4).foldl (fun s i => s.setRk p i { s.rk p i with live := false }) s5
  (s6.put (Fld.PAN_STATE_STATE p) 4).put (Fld.PAN_STATE_STOP_PEND p) 0

/-- R570: the run is stopped by force. -/
def Dev.forceStop (s : Dev) (p : Nat) : Dev :=
  let s0 := match (s.pan p).loading with
    | some k => ((s.setPan p { s.pan p with loading := none }).workOff k).finishKey k 2 0x0A08 0
    | none => s
  (s0.sat (Fld.PAN_COUNT_FORCED p)).endRun p 2 0x0A08 0

/-- R568: a stop is requested, with a grace time in ms; 0 forces it. -/
def Dev.stopPan (s : Dev) (p graceMs : Nat) (force : Bool) : Dev :=
  let st := s.panState p
  if st = 0 || st = 4 then s
  else if force then s.forceStop p
  else if s.on (Fld.PAN_STATE_STOP_PEND p) then s
  else
    let due := s.tide + graceMs * 1000000
    let s1 := (s.put (Fld.PAN_STATE_STOP_PEND p) 1).setPan p { s.pan p with stopAt := due }
    let s2 := if st = 2 then s1.put (Fld.PAN_STATE_STATE p) 3 else s1
    s2.signal (s.holder p) 0x0021 0 p due

/-- R555, R569: the run ends when no started Raker runs any more. -/
def Dev.checkRun (s : Dev) (p : Nat) : Dev :=
  let started := (List.range 4).filter (fun i => (s.rk p i).started)
  if (s.panState p = 2 || s.panState p = 3) && started.all (fun i => !(s.rk p i).live) then
    if started.all (fun i => (s.rk p i).exited) then s.endRun p 0 0 (s.rk p (started.headD 0)).exitVal.toNat
    else s.endRun p 0 0x0A09 0
  else s

/-- R235, R671: the scrub ends, the Pan is IDLE, and a withdrawn Pan is released. -/
def Dev.scrubDone (s : Dev) (p : Nat) : Dev :=
  let q := s.pan p
  if s.panState p ≠ 4 || !q.cry.isEmpty then s
  else
    let s1 := ((s.zeroMem (panSram p) 0x200000).zeroMem (panFeed p) 0x80000).setPan p PanS.init
    let s2 := (List.range 4).foldl (fun s i => s.setRk p i RakerS.init) s1
    let s3 := s2.put (Fld.PAN_STATE_STATE p) 0
    let s4 := q.stops.foldl (fun s k => (s.workOff k).finishKey k 0 0 0) s3
    let b := s4.holder p
    let h := tget (fun _ => BerthH.init) s4.berthH b
    if b ≠ 0 && h.withdrawn.any (fun w => w.1 = p) then
      let s5 := { s4 with berthH := tput (fun _ => BerthH.init) s4.berthH b { h with withdrawn := h.withdrawn.filter (fun w => w.1 ≠ p) } }
      (s5.put (Fld.PAN_STATE_HOLDER p) 0).settleBerth b
    else s4

/-! Exceptions (R565 to R567) -/

/-- An exception: CODE, KIND, ACCESS, what s.flane receives, and the VA for s.epc where it is not the instruction's. -/
structure Exc where
  code : Nat
  kind : Nat := 0
  access : Nat := 0
  flane : Option Nat := none
  epc : Option Nat := none
  deriving DecidableEq, Repr

/-- The exception is taken by the handler, or ends the run. -/
def Dev.takeExc (s : Dev) (p i : Nat) (e : Exc) : Dev :=
  let r := s.rk p i
  let epc := e.epc.getD r.pc
  let active := r.cause.getLsbD 63
  let q := s.pan p
  if q.handler ≠ 0 && !active then
    s.setRk p i { r with
      epc := epc
      cause := packW [(0, 8, e.code), (8, 4, e.kind), (12, 2, e.access), (63, 1, 1)]
      flane := e.flane.getD r.flane
      pc := q.handler }
  else
    let code := if q.handler ≠ 0 then 0x3F else e.code
    (s.sat (Fld.PAN_COUNT_EXCEPTIONS p)).endRun p (if code = 7 then 8 else 7) (0x0A40 + code) (epc % 2 ^ 48 + i * 2 ^ 48)

/-! Memory as a Pan's agents reach it (R545, R546, R558 to R561) -/

/-- Where an access goes: control space, memory of the device, a link, or an exception CODE and KIND. -/
inductive PanDest where
  | control (off : Nat)
  | mem (dpa : Nat)
  | out (d : Dest)
  | exc (code kind : Nat)
  deriving DecidableEq, Repr

/-- A store into an EXEC section of the Pan (R575, Table 15.3). -/
def Dev.inExec (s : Dev) (p dpa len : Nat) : Bool :=
  decide (panSram p ≤ dpa ∧ dpa < panSram p + 0x200000) &&
    (s.pan p).exec.any (fun r => decide (r.1 < panWindow + (dpa - panSram p) + len ∧ panWindow + (dpa - panSram p) < r.2))

/-- R545, R546: an access of a Pan's agent inside one 4 KiB page: kind 0 read, 1 write, 2 atomic; the agent as the source of
Table 4.12. -/
def Dev.panXlate (s : Dev) (p va len kind source unit : Nat) : PanDest × Dev :=
  if inControl va then (.control (va - controlSpace), s)
  else if inPanWindow va then
    let a := panSram p + (va - panWindow)
    (if kind ≠ 0 && s.inExec p a len then .exc 6 0 else .mem a, s)
  else
    let b := s.holder p
    match s.xlate b va kind len { accel := s.accelOf b, ring := kind = 2 } with
    | (.fault k lvl, s1) => (.exc 5 k, s1.tollFault b va k kind lvl source unit)
    | (.ok dpa leaf, s1) =>
      match s1.destOf b dpa leaf with
      | .mem a => (if kind ≠ 0 && s1.inExec p a len then .exc 6 0 else .mem a, s1)
      | d => (.out d, s1)

/-- What an access over a link came to, from the command: 0 success, 1 UR or CA, 2 completion timeout, 3 link down or
containment; 4, for a store, a failure after it had left (R565). -/
def linkKind (o : Nat) : Option Nat := if 1 ≤ o ∧ o ≤ 3 then some (o - 1) else none

/-- The TLP of a read over a link; the bytes that return are the outside memory's. -/
def Dev.readOut (s : Dev) (d : Dest) (len : Nat) : List Byte × Dev :=
  let t := s.nextTag
  let s1 := { s with nextTag := t + 1 }
  match d with
  | .ap n a => (s1.emit .apRead [n, a, len, t]).outside a len
  | .host f a _ => (s1.hostSend ⟨.hostRead, [f, a, len, t], []⟩).outside a len
  | .mem a => (s1.bytes a len, s1)

/-! Crystallizer commands: the checks at the push (R672) -/

/-- Bits of a word outside a mask are zero. -/
def zeroOutside (w : Word) (fs : List (Nat × Nat)) : Bool :=
  decide (fs.foldl (fun w f => setBits w f.1 f.2 0) w = 0)

/-- Table 19.2: the formats CQUANT and CCONV accept. -/
def wideFmt (c : Nat) : Bool := c = 1 || c = 2 || c = 3
def mxFmt (c : Nat) : Bool := (4 ≤ c && c ≤ 8) || c = 0xC
def convFmt (c : Nat) : Bool := c ≤ 0x11 && c ≠ 0xF

/-- R672: whether a staged command is queued. -/
def cryCheck (ws : List Word) : Bool :=
  let op := wf ws 0 0 8
  let round := wf ws 0 13 3
  let seedEn := wf ws 0 16 1
  let z := fun i => decide (wordAt ws i = 0)
  let in_ := fun i lo len a b => decide (a ≤ wf ws i lo len ∧ wf ws i lo len ≤ b)
  zeroOutside (wordAt ws 0) [(0, 17), (32, 32)] && round ≤ 4 && (round = 0 || op = 0x30 || op = 0x31)
    && (seedEn = 0 || round = 4) &&
    (match op with
    | 0x01 | 0x02 =>
      zeroOutside (wordAt ws 1) [(0, 48)] && zeroOutside (wordAt ws 2) [(0, 22), (32, 23)] && in_ 2 32 23 64 4194304
        && wf ws 2 32 23 % 64 = 0 && wf ws 2 0 22 % 64 = 0 && in_ 3 48 16 1 65535 && z 4 && z 5 && z 6 && z 7
    | 0x10 =>
      zeroOutside (wordAt ws 1) [(0, 22), (32, 22)] && zeroOutside (wordAt ws 2) [(0, 22), (32, 22)]
        && zeroOutside (wordAt ws 3) [(0, 22)] && zeroOutside (wordAt ws 4) [(0, 13), (16, 13), (32, 17)]
        && zeroOutside (wordAt ws 5) [(0, 19)] && z 6 && z 7
        && [wf ws 1 0 22, wf ws 1 32 22, wf ws 2 0 22, wf ws 2 32 22, wf ws 3 0 22].all (fun a => a % 64 = 0)
        && in_ 4 0 13 1 4096 && in_ 4 16 13 1 4096 && in_ 4 32 17 32 65536 && wf ws 4 32 17 % 32 = 0
        && wf ws 5 0 8 ≤ 0x11 && wf ws 5 8 8 ≤ 0x11
    | 0x20 =>
      zeroOutside (wordAt ws 1) [(0, 22), (32, 22)] && zeroOutside (wordAt ws 2) [(0, 13), (32, 17)]
        && zeroOutside (wordAt ws 3) [(0, 11), (16, 3)] && zeroOutside (wordAt ws 4) [(0, 32)] && z 5 && z 6 && z 7
        && wf ws 1 0 22 % 64 = 0 && wf ws 1 32 22 % 64 = 0 && in_ 2 0 13 1 4096 && in_ 2 32 17 1 65536 && in_ 3 0 11 1 1024
    | 0x30 =>
      zeroOutside (wordAt ws 1) [(0, 48)] && zeroOutside (wordAt ws 2) [(0, 48)] && zeroOutside (wordAt ws 3) [(0, 48)]
        && zeroOutside (wordAt ws 4) [(0, 31)] && zeroOutside (wordAt ws 5) [(0, 17)] && z 6 && z 7
        && in_ 4 0 31 32 (2 ^ 30) && wf ws 4 0 31 % 32 = 0 && wideFmt (wf ws 5 0 8) && mxFmt (wf ws 5 8 8)
    | 0x31 =>
      zeroOutside (wordAt ws 1) [(0, 48)] && zeroOutside (wordAt ws 2) [(0, 48)] && z 3
        && zeroOutside (wordAt ws 4) [(0, 31)] && zeroOutside (wordAt ws 5) [(0, 16)] && z 6 && z 7
        && in_ 4 0 31 1 (2 ^ 30) && convFmt (wf ws 5 0 8) && convFmt (wf ws 5 8 8)
    | 0x40 => zeroOutside (wordAt ws 1) [(0, 4), (32, 32)] && zeroOutside (wordAt ws 2) [(0, 32)] && z 3 && z 4 && z 5 && z 6 && z 7
    | 0x41 => zeroOutside (wordAt ws 1) [(0, 49)] && wf ws 1 0 48 % 64 = 0 && z 2 && z 3 && z 4 && z 5 && z 6 && z 7
    | _ => false)

/-- R673: the stalled Raker an entry goes to: its Pan holds the fewest entries, then the lower Pan, then the earlier stall. -/
def Dev.stallWinner (s : Dev) (c : Nat) : Option Nat :=
  (tget (fun _ => []) s.cryStall c).foldl (fun best x =>
    match best with
    | none => some x
    | some y =>
      let n := fun z => (s.pan (z / 4)).cry.length
      if n x < n y || (n x = n y && x / 4 < y / 4) then some x else best) none

/-! Control space (R547, R548, Table 15.1) -/

/-- What a control-space write comes to. -/
inductive CtlOut where
  | done (s : Dev)
  | stall (s : Dev)
  | exc

/-- R554: an answer. -/
def Dev.answer (s : Dev) (p token status detail result : Nat) : Dev :=
  let k : TKey := ⟨s.holder p, bitsOf token 16 6, bitsOf token 0 16, bitsOf token 22 8⟩
  let q := s.pan p
  let bad := s.sat (Fld.PAN_COUNT_BAD_ANSWER p)
  if bitsOf token 31 1 = 0 || !q.asks.contains k then bad
  else
    let s1 := (s.setPan p { q with asks := q.asks.erase k }).workOff k
    match s1.ticketOf k with
    | none => (s1.sat (Fld.PAN_COUNT_BAD_ANSWER p)).sat Fld.ERR_LADDER_LATE_DISCARDS
    | some t =>
      if status = 0 || status = 3 || status = 7 || status = 8 || status = 0xC then s1.finish t status detail result
      else s1.finish t 7 0x0A0F result

/-- R555: a Raker exits. -/
def Dev.rakerExit (s : Dev) (p i : Nat) (v : Word) : Dev :=
  (s.setRk p i { s.rk p i with live := false, exited := true, exitVal := v }).checkRun p

/-- R574: the staged descriptor is queued. -/
def Dev.barrowGo (s : Dev) (p i : Nat) : CtlOut :=
  let d := fun k => tget (fun _ => (0 : Word)) (s.rk p i).desc k
  let ok := zeroOutside (d 0) [(0, 48)] && zeroOutside (d 1) [(0, 48)] && zeroOutside (d 2) [(0, 31)] && zeroOutside (d 3) [(0, 4)]
    && decide (1 ≤ getBits (d 2) 0 31 ∧ getBits (d 2) 0 31 ≤ 2 ^ 30)
  let q := s.pan p
  if !ok then .exc
  else if 32 ≤ q.barrow.length then .stall s
  else .done (s.setPan p { q with
    barrow := q.barrow ++ [⟨getBits (d 0) 0 48, getBits (d 1) 0 48, getBits (d 2) 0 31, getBits (d 3) 0 4⟩] })

/-- R576, R672, R673: the staged command is pushed. -/
def Dev.cryGo (s : Dev) (p i : Nat) : CtlOut :=
  let ws := (List.range 8).map (fun k => tget (fun _ => (0 : Word)) (s.rk p i).cmd k)
  let c := p / 8
  let l := tget (fun _ => []) s.cryStall c
  let me := p * 4 + i
  if !cryCheck ws then .exc
  else if 64 ≤ s.cryHeld c || (!l.isEmpty && s.stallWinner c ≠ some me) then
    .stall (if l.contains me then s else { s with cryStall := tput (fun _ => []) s.cryStall c (l ++ [me]) })
  else
    let q := s.pan p
    let s1 := { s with cryStall := tput (fun _ => []) s.cryStall c (l.erase me) }
    let s2 := s1.setPan p { q with cry := q.cry ++ [⟨q.cseq, ws, 0, 0, 0, 0, if q.cry.isEmpty then s.tide + 1 else 0⟩], cseq := (q.cseq + 1) % 2 ^ 32 }
    .done ((s2.countCry c).wakeIsland (64 + c))

/-- R547: an aligned 8-byte write of a Raker to control space.  FENCE.S (R563) adds nothing: stores are performed in program
order. -/
def Dev.ctlWrite (s : Dev) (p i off : Nat) (v : Word) : CtlOut :=
  let b := s.holder p
  let r := s.rk p i
  if off % 8 ≠ 0 then .exc
  else if 0x10000 ≤ off ∧ off < 0x20000 ∧ off % 1024 = 0 then .done (s.doorbell b ((off - 0x10000) / 1024) (getBits v 0 32) true)
  else if 0x20000 ≤ off ∧ off < 0x30000 ∧ off % 1024 ≤ 0x28 then
    .done (s.ringPageWrite b ((off - 0x20000) / 1024) (off % 1024) v 8 0)
  else if off = 0x100018 then .done (s.rakerExit p i v)
  else if off = 0x100088 then .done (s.setRk p i { r with inbox := r.inbox.tail })
  else if off = 0x100090 then .done (s.setRk p i { r with answer := v })
  else if off = 0x100098 then
    .done (if v.getLsbD 63 then s.answer p (getBits v 0 32) (getBits v 32 8) (getBits v 40 16) r.answer.toNat else s)
  else if 0x100100 ≤ off ∧ off < 0x100180 then
    .done (s.setPan p { s.pan p with tally := tput (fun _ => 0) (s.pan p).tally ((off - 0x100100) / 8) v })
  else if 0x100200 ≤ off ∧ off < 0x100220 then .done (s.setRk p i { r with desc := tput (fun _ => 0) r.desc ((off - 0x100200) / 8) v })
  else if off = 0x100220 then s.barrowGo p i
  else if 0x100300 ≤ off ∧ off < 0x100340 then .done (s.setRk p i { r with cmd := tput (fun _ => 0) r.cmd ((off - 0x100300) / 8) v })
  else if off = 0x100340 then s.cryGo p i
  else if off < 0x10000 ∨ off = 0x100000 ∨ off = 0x100008 ∨ off = 0x100010 ∨ (0x100040 ≤ off ∧ off ≤ 0x100080)
    ∨ off = 0x100228 ∨ off = 0x100230 ∨ off = 0x100348 then .done s
  else .exc

/-- R243, Tables 6.5 and 6.6: a word of berth b's sheet; zero for berth 0. -/
def Dev.sheetWord (s : Dev) (b off : Nat) : Word :=
  if b = 0 then 0
  else if off = 0 then
    packW [(0, 16, s.get (Fld.BPLAN_CTRL_EPOCH b)), (17, 1, if s.get (Fld.BPLAN_CTRL_STATE b) = 2 then 1 else 0),
      (18, 1, s.get (Fld.BPLAN_CTRL_QUARANTINED b)), (19, 1, s.get Fld.IDENT_NODE_NODE_VALID),
      (20, 12, s.get Fld.IDENT_NODE_NODE_ID), (32, 8, b)]
  else if off < 0x400 then s.readReg (planBase b + 0x400 + off)
  else if off = 0x400 then s.readReg (Reg.USAGE b)
  else if off = 0x408 then s.readReg (Reg.USAGE_MEM b)
  else 0

/-- R547: an aligned 8-byte read of a Raker from control space: the value, and the effect of RC fields. -/
def Dev.ctlRead (s : Dev) (p i off : Nat) : Option (Word × Dev) :=
  let b := s.holder p
  let r := s.rk p i
  let q := s.pan p
  if off % 8 ≠ 0 then none
  else if off < 0x10000 then some (s.sheetWord b off, s)
  else if 0x10000 ≤ off ∧ off < 0x20000 ∧ off % 1024 = 0 then some (0, s)
  else if 0x20000 ≤ off ∧ off < 0x30000 ∧ off % 1024 ≤ 0x28 then
    let n := (off - 0x20000) / 1024
    some (s.readReg (ringPage b n + off % 1024), s.ringPageRead b n (off % 1024) 8 0)
  else if off = 0x100000 then
    some (packW [(0, 8, p), (8, 2, i), (16, 8, b), (32, 32, s.get (Fld.PAN_STATE_RUN_ID p))], s)
  else if off = 0x100008 then some (BitVec.ofNat 64 (s.get (Fld.PAN_STATE_STOP_PEND p)), s)
  else if off = 0x100010 then some (BitVec.ofNat 64 q.stopAt, s)
  else if 0x100040 ≤ off ∧ off < 0x100080 then some (wordAt ((r.inbox.map (·.2)).headD []) ((off - 0x100040) / 8), s)
  else if off = 0x100080 then some (BitVec.ofNat 64 r.inbox.length, s)
  else if off = 0x100090 then some (r.answer, s)
  else if 0x100100 ≤ off ∧ off < 0x100180 then some (tget (fun _ => 0) q.tally ((off - 0x100100) / 8), s)
  else if 0x100200 ≤ off ∧ off < 0x100220 then some (tget (fun _ => 0) r.desc ((off - 0x100200) / 8), s)
  else if off = 0x100228 then some (BitVec.ofNat 64 (32 - q.barrow.length), s)
  else if off = 0x100230 then some (q.barrowErr, s)
  else if 0x100300 ≤ off ∧ off < 0x100340 then some (tget (fun _ => 0) r.cmd ((off - 0x100300) / 8), s)
  else if off = 0x100348 then some (BitVec.ofNat 64 (64 - s.cryHeld (p / 8)), s)
  else if off = 0x100018 ∨ off = 0x100088 ∨ off = 0x100098 ∨ off = 0x100220 ∨ off = 0x100340 then some (0, s)
  else none

/-- A control-space write that a command states on its own: an exception is taken by the Raker. -/
def Dev.ctlCommand (s : Dev) (p i off : Nat) (v : Word) : Dev :=
  if !(s.rk p i).live || s.stopped then s
  else match s.ctlWrite p i off v with
    | .done s1 => s1
    | .stall s1 => s1
    | .exc => s.takeExc p i { code := 9, access := 1 }

/-! Tallies and the Barrow -/

/-- R564: a tally counts: DONE or FAILED. -/
def Dev.countTally (s : Dev) (p t : Nat) (failed : Bool) : Dev :=
  let q := s.pan p
  let w := tget (fun _ => (0 : Word)) q.tally t
  let w' := if failed then setBits w 32 32 (getBits w 32 32 + 1) else setBits w 0 32 (getBits w 0 32 + 1)
  s.setPan p { q with tally := tput (fun _ => 0) q.tally t w' }

/-- Pieces of a copy between two VAs that cross no 4 KiB boundary of either. -/
def pieces2 : Nat → Nat → Nat → Nat → List (Nat × Nat × Nat)
  | 0, _, _, _ => []
  | fuel + 1, a, b, len =>
    if len = 0 then []
    else
      let n := min len (min (4096 - a % 4096) (4096 - b % 4096))
      (a, b, n) :: pieces2 fuel (a + n) (b + n) (len - n)

/-- One read of a Pan's engine: the bytes and the ranges that are poisoned, or CODE and KIND. -/
def Dev.engineRead (s : Dev) (p va len source unit : Nat) (out : List Nat) :
    Except (Nat × Nat) (List Byte × List (Nat × Nat)) × Dev × List Nat :=
  match s.panXlate p va len 0 source unit with
  | (.control _, s1) => (.error (9, 0), s1, out)
  | (.exc c k, s1) => (.error (c, k), s1, out)
  | (.mem a, s1) => (.ok (s1.bytes a len, s1.poisonRuns a len), s1, out)
  | (.out d, s1) =>
    match linkKind (out.headD 0) with
    | some k => (.error (8, k), s1, out.tail)
    | none => match s1.readOut d len with | (bs, s2) => (.ok (bs, []), s2, out.tail)

/-- One write of a Pan's engine. -/
def Dev.engineWrite (s : Dev) (p va source unit : Nat) (bs : List Byte) (ms : List (Nat × Nat)) (out : List Nat) :
    Except (Nat × Nat) Unit × Dev × List Nat :=
  match s.panXlate p va bs.length 1 source unit with
  | (.control _, s1) => (.error (9, 0), s1, out)
  | (.exc c k, s1) => (.error (c, k), s1, out)
  | (.mem a, s1) => (.ok (), s1.writeMarked a bs ms, out)
  | (.out d, s1) =>
    match linkKind (out.headD 0) with
    | some k => (.error (8, k), s1, out.tail)
    | none => (.ok (), s1.writeDestMarked d bs false ms, out.tail)

/-- R574, R575: the pieces of a descriptor in turn; a failure gives CODE, KIND and the VA. -/
def Dev.barrowRun (s : Dev) (p : Nat) : List (Nat × Nat × Nat) → List Nat → Option (Nat × Nat × Nat) × Dev
  | [], _ => (none, s)
  | (a, b, n) :: ps, out =>
    match s.engineRead p a n 3 p out with
    | (.error e, s1, _) => (some (e.1, e.2, a), s1)
    | (.ok (bs, ms), s1, out1) =>
      match s1.engineWrite p b 3 p bs ms out1 with
      | (.error e, s2, _) => (some (e.1, e.2, b), s2)
      | (.ok _, s2, out2) => if !ms.isEmpty then (some (7, 0, a), s2) else s2.barrowRun p ps out2

/-- BARROW_DESCRIPTOR_DONE: the head descriptor runs to its end. -/
def Dev.barrowDone (s : Dev) (p : Nat) (out : List Nat) : Dev :=
  let q := s.pan p
  match q.barrow with
  | [] => s
  | d :: ds =>
    if s.stopped then s
    else match s.barrowRun p (pieces2 (2 * (d.len / 4096) + 4) d.src d.dst d.len) out with
    | (e, s1) =>
      let s2 := s1.setPan p { s1.pan p with barrow := ds }
      match e with
      | none => s2.countTally p d.tally false
      | some (c, k, va) =>
        (s2.setPan p { s2.pan p with barrowErr := packW [(0, 8, c), (8, 4, k), (12, 4, d.tally), (16, 48, va)] }).countTally p d.tally true

/-! PAN tickets (R549 to R557, R573, R579) -/

/-- A Pan the berth does not hold: a spoof (Table 6.7). -/
def Dev.panSpoof (s : Dev) (t : Ticket) : Dev := (s.spoof t.key.b).fail t 3 0x0A07

/-- R577: the sections of an image: (DEST, SIZE, offset of the data, ZERO_FILL, EXEC). -/
def imageSections (img : List Byte) : Nat → Nat → Nat → List (Nat × Nat × Nat × Bool × Bool)
  | 0, _, _ => []
  | n + 1, i, at_ =>
    let ws := toWords 2 (img.drop (64 + 16 * i))
    let sz := wf ws 1 0 32
    let zf := decide (wf ws 1 32 1 = 1)
    let nxt := if zf then at_ else (at_ + sz + 63) / 64 * 64
    (wf ws 0 0 48, sz, at_, zf, decide (wf ws 1 33 1 = 1)) :: imageSections img n (i + 1) nxt

/-- The header of an image. -/
def imageHeader (img : List Byte) : List Word := toWords 8 img
def imageTable (img : List Byte) : List (Nat × Nat × Nat × Bool × Bool) :=
  let n := wf (imageHeader img) 0 40 5
  imageSections img n 0 ((64 + 16 * n + 63) / 64 * 64)

/-- R550, R578: whether an image is valid, its sections inside [lo, hi). -/
def imageOk (img : List Byte) (lo hi : Nat) (deck : Bool) : Bool :=
  let h := imageHeader img
  let n := wf h 0 40 5
  let secs := imageTable img
  let entry := wf h 1 0 48
  let hand := wf h 2 0 48
  let inExec := fun a => secs.any (fun x => x.2.2.2.2 && decide (x.1 ≤ a ∧ a < x.1 + x.2.1))
  decide (64 ≤ img.length) && wf h 0 0 32 = 0x50414E31 && wf h 0 32 8 = 1 && decide (1 ≤ n ∧ n ≤ 16)
    && (deck || wf h 0 45 4 ≠ 0) && wf h 0 49 15 = 0 && wf h 1 48 16 = 0 && wf h 2 48 16 = 0
    && (List.range 5).all (fun i => wordAt h (i + 3) = 0)
    && decide (64 + 16 * n ≤ img.length)
    && (List.range n).all (fun i =>
      let ws := toWords 2 (img.drop (64 + 16 * i))
      wf ws 0 48 16 = 0 && wf ws 1 34 30 = 0)
    && secs.all (fun x => decide (lo ≤ x.1 ∧ x.1 + x.2.1 ≤ hi ∧ 1 ≤ x.2.1 ∧ x.2.1 ≤ 0x200000)
      && (x.2.2.2.1 || decide (x.2.2.1 + x.2.1 ≤ img.length)))
    && ((List.range n).all (fun i => (List.range i).all (fun j =>
      match secs[i]?, secs[j]? with
      | some x, some y => decide (x.1 + x.2.1 ≤ y.1 ∨ y.1 + y.2.1 ≤ x.1)
      | _, _ => true)))
    && entry % 4 = 0 && inExec entry && (deck || hand = 0 || (hand % 4 = 0 && inExec hand))

/-- R549, R551: the image is accepted: the Pan loads. -/
def Dev.loadImage (s : Dev) (t : Ticket) (p : Nat) (img : List Byte) : Dev :=
  let h := imageHeader img
  let secs := imageTable img
  let id := (s.get (Fld.PAN_STATE_RUN_ID p) + 1) % 2 ^ 32
  let s1 := (s.put (Fld.PAN_STATE_RUN_ID p) (if id = 0 then 1 else id)).put (Fld.PAN_STATE_STATE p) 1
  let s2 := s1.zeroMem (panSram p) 0x200000
  let s3 := secs.foldl (fun s x =>
    if x.2.2.2.1 then s else s.writeMem (panSram p + (x.1 - panWindow)) ((img.drop x.2.2.1).take x.2.1)) s2
  (s3.setPan p { s3.pan p with
    exec := (secs.filter (fun x => x.2.2.2.2)).map (fun x => (x.1, x.1 + x.2.1))
    handler := wf h 2 0 48, entry := wf h 1 0 48, rakers := wf h 0 45 4, loading := some t.key }).workOn t.key |>.wakeIsland (p / 4)

/-- LOAD with its image gathered. -/
def Dev.loadResume (s : Dev) (t : Ticket) : Dev :=
  let p := wf t.words 4 32 8
  let img := t.bytesAt 0 (wf t.words 4 0 22)
  if t.bad then s.fail t 8 0
  else if s.panState p ≠ 0 then s.fail t 0xC 0x0A03
  else if !imageOk img panWindow controlSpace false then s.fail t 3 0x0A04
  else s.loadImage t p img

/-- R549: LOAD. -/
def Dev.loadStart (s : Dev) (t : Ticket) : Dev :=
  let n := wf t.words 4 0 22
  let p := wf t.words 4 32 8
  if !bodyZero t.words [(2, 2 ^ 32 - 1), (3, 2 ^ 41 - 1), (4, 2 ^ 22 - 1 + (2 ^ 40 - 2 ^ 32))] || decide (n < 64 ∨ 2097152 < n) then
    s.fail t 3 0x0A01
  else if t.right 9 1 = 0 then (s.rightRefused t.key.b).fail t 3 0x0A02
  else if !s.holds t.key.b p then s.panSpoof t
  else if s.panState p ≠ 0 then s.fail t 0xC 0x0A03
  else
    match s.gatherPieces (.loc t.key.b) t (wf t.words 2 0 32) 6 0 (s.keyedPieces (wf t.words 2 0 32) (wf t.words 3 0 41) n) 0 with
    | (.error e, s1, t1) => s1.fail t1 e.1 e.2
    | (.ok _, s1, t1) => if 0 < t1.left then s1.setTicket t1 else s1.loadResume t1

/-- R551: the Rakers the image names start at ENTRY. -/
def Dev.loadStarted (s : Dev) (p : Nat) : Dev :=
  let q := s.pan p
  match q.loading with
  | none => s
  | some k =>
    if 2 ≤ s.get (Fld.PWR_ISL_STATE (p / 4)) then s else
    let id := s.get (Fld.PAN_STATE_RUN_ID p)
    let s1 := (List.range 4).foldl (fun s i =>
      if bitsOf q.rakers i 1 = 1 then
        s.setRk p i { RakerS.init with
          started := true, live := true, pc := q.entry
          g := ([(2, i), (3, p), (4, id)].filter (fun x => x.2 ≠ 0)).map (fun x => (x.1, BitVec.ofNat 64 x.2)) }
      else s) (s.setPan p { q with loading := none })
    let s2 := s1.put (Fld.PAN_STATE_STATE p) (if s.on (Fld.PAN_STATE_STOP_PEND p) then 3 else 2)
    (s2.workOff k).finishKey k 0 0 id

/-- R573: STOP. -/
def Dev.stopStart (s : Dev) (t : Ticket) : Dev :=
  let p := wf t.words 2 0 8
  if !bodyZero t.words [(2, 2 ^ 9 - 1)] then s.fail t 3 0x0A01
  else if t.right 9 1 = 0 then (s.rightRefused t.key.b).fail t 3 0x0A02
  else if !s.holds t.key.b p then s.panSpoof t
  else if s.panState p = 0 then s.finish t 0 0 0
  else
    let s1 := (s.setPan p { s.pan p with stops := (s.pan p).stops ++ [t.key] }).workOn t.key
    s1.stopPan p (if t.key.b = 0 then 10 else s1.get (Fld.CPLAN_SHARE_GRACE_MS t.key.b)) (wf t.words 2 8 1 = 1)

/-- R556: WATCH. -/
def Dev.watchStart (s : Dev) (t : Ticket) : Dev :=
  let p := wf t.words 2 0 8
  let id := wf t.words 2 32 32
  if !bodyZero t.words [(2, 2 ^ 8 - 1 + (2 ^ 64 - 2 ^ 32))] then s.fail t 3 0x0A01
  else if !s.holds t.key.b p then s.panSpoof t
  else if id = 0 || s.get (Fld.PAN_STATE_RUN_ID p) ≠ id then s.fail t 0xA 0x0A06
  else if s.panState p = 0 || s.panState p = 4 then
    s.finish t (s.get (Fld.PAN_END_STATUS p)) (s.get (Fld.PAN_END_DETAIL p)) (s.reg (Reg.PAN_END_RESULT p)).toNat
  else (s.setPan p { s.pan p with watches := (s.pan p).watches ++ [(t.key, id)] }).workOn t.key

/-- R553: DELIVER. -/
def Dev.deliverStart (s : Dev) (t : Ticket) : Dev :=
  let p := wf t.words 2 0 8
  let i := wf t.words 2 8 2
  let ask := wf t.words 2 10 1
  if !zeroOutside (wordAt t.words 2) [(0, 11)] then s.fail t 3 0x0A01
  else if !s.holds t.key.b p then s.panSpoof t
  else
    let r := s.rk p i
    if !(s.panState p = 2 || s.panState p = 3) || !r.started || r.exited then s.fail t 0xA 0x0A06
    else if 16 ≤ r.inbox.length then s.fail t 0xC 0x0A05
    else
      let token := pack [(0, 16, t.key.slot), (16, 6, t.key.r), (22, 8, t.key.gen), (31, 1, ask)]
      let e := [packW [(0, 32, token), (32, 32, wf t.words 0 32 32)], BitVec.ofNat 64 s.tide] ++ (t.words.drop 3).take 5
        ++ [packW [(0, 32, t.seq)]]
      let s1 := s.setRk p i { r with inbox := r.inbox ++ [(t.key, e)] }
      if ask = 0 then s1.finish t 0 0 0
      else (s1.setPan p { s1.pan p with asks := (s1.pan p).asks ++ [t.key] }).workOn t.key

/-! The commands -/

/-- PAN_LOAD (R549). -/
def execPanLoad (b r slot : Nat) (s : State) : Out := s.dv fun d => d.serve b r slot 5 1 Dev.loadStart

/-- PAN_LOAD_STARTED (R551). -/
def execPanLoadStarted (p : Nat) (s : State) : Out := s.dv (·.loadStarted p)

/-- PAN_STOP (R573). -/
def execPanStop (b r slot : Nat) (s : State) : Out := s.dv fun d => d.serve b r slot 5 2 Dev.stopStart

/-- WATCH (R556). -/
def execWatch (b r slot : Nat) (s : State) : Out := s.dv fun d => d.serve b r slot 5 3 Dev.watchStart

/-- DELIVER (R553). -/
def execDeliver (b r slot : Nat) (s : State) : Out := s.dv fun d => d.serve b r slot 5 0x10 Dev.deliverStart

/-- RAKER_EXIT (R555). -/
def execRakerExit (p i : Nat) (v : Word) (s : State) : Out := s.dv (·.ctlCommand p i 0x100018 v)

/-- INBOX_NEXT (Table 15.1). -/
def execInboxNext (p i : Nat) (s : State) : Out := s.dv (·.ctlCommand p i 0x100088 0)

/-- ANSWER_GO (R554). -/
def execAnswerGo (p i : Nat) (v : Word) (s : State) : Out := s.dv (·.ctlCommand p i 0x100098 v)

/-- TALLY_WRITE (R564). -/
def execTallyWrite (p i t : Nat) (v : Word) (s : State) : Out := s.dv fun d => d.ctlCommand p i (0x100100 + 8 * (t % 16)) v

/-- BARROW_GO (R574). -/
def execBarrowGo (p i : Nat) (s : State) : Out := s.dv (·.ctlCommand p i 0x100220 0)

/-- BARROW_DESCRIPTOR_DONE (R575). -/
def execBarrowDescriptorDone (p : Nat) (out : List Nat) (s : State) : Out := s.dv (·.barrowDone p out)

/-- CRY_GO (R672). -/
def execCryGo (p i : Nat) (s : State) : Out := s.dv (·.ctlCommand p i 0x100340 0)

/-- PAN_STOP_AT_EXPIRY (R570). -/
def execPanStopAtExpiry (p : Nat) (s : State) : Out :=
  s.dvIf (decide (p < 256)) fun d => if d.on (Fld.PAN_STATE_STOP_PEND p) then 
    let d1 := (d.at (d.pan p).stopAt).forceStop p
    let b := d.holder p
    if b = 0 then d1 else d1.sat (Fld.CNT_LIMITS_FORCED_STOPS b)
  else d

/-- PAN_SCRUB_DONE (R235). -/
def execPanScrubDone (p : Nat) (s : State) : Out := s.dvIf (decide (p < 256)) (·.scrubDone p)

end Sys2Proof.Machine
end

