-- ==== Sys2Proof/Machine/Cryst.lean ====
section
/-! DEFINITION. Crystallizers (spec/19): the engine's steps and arbitration, and each command's effect.  `out` says what
a command's accesses over links come to. -/

namespace Sys2Proof.Machine

/-- Where Crystallizer c's feed store lies (R668). -/
def feedBase (c : Nat) : Nat := 0x4200000000 + 0x400000 * c

/-- R663: one draw of the generator. -/
def xorshift (q : Nat) : Nat :=
  let a := q ^^^ (q * 2 ^ 13 % 2 ^ 32)
  let b := a ^^^ (a / 2 ^ 17)
  b ^^^ (b * 2 ^ 5 % 2 ^ 32)

/-- What a command came to: CODE 0 for success, KIND, word 3 of Table 19.4; the flags; the device. -/
structure CryOut where
  code : Nat
  kind : Nat
  info : Nat
  flags : Nat
  s : Dev

/-- R675: units of V_p in a cycle. -/
def cryScale : Nat := (List.range 256).foldl (fun m k => if k = 0 then m else Nat.lcm m k) 1

/-- The weight of the berth that holds a Pan. -/
def Dev.cryWeight (s : Dev) (p : Nat) : Nat :=
  let b := s.holder p
  if b = 0 then 8 else max 1 (s.get (Fld.CPLAN_SHARE_CRY_WEIGHT b))

/-- R677, R678: the head command of a Pan ends: stream status, counts, tally, queue entry. -/
def Dev.cryEnd (s : Dev) (p : Nat) (code kind info flags : Nat) : Dev :=
  let q := s.pan p
  match q.cry with
  | [] => s
  | e :: rest =>
    let c := p / 8
    let bad := decide (code ≠ 0)
    let first := bad && q.fcode = 0
    let rest' := match rest with | [] => [] | x :: xs => { x with headAt := s.tide + 1 } :: xs
    let q1 := { q with
      cry := rest'
      fails := if bad then min (q.fails + 1) (2 ^ 32 - 1) else q.fails
      flags := q.flags ||| flags
      fcode := if first then code else q.fcode
      fkind := if first then kind else q.fkind
      fcseq := if first then e.cseq else q.fcseq
      finfo := if first then info else q.finfo
      skip := q.skip || bad }
    let s1 := (s.setPan p q1).countCry c
    let s2 := s1.sat (if bad then Fld.CRY_COUNTS_FAILED c else Fld.CRY_COUNTS_DONE c)
    let s3 := if s2.get (Fld.CRY_STATE_CUR_SLOT c) = p % 8 then s2.put (Fld.CRY_STATE_BUSY c) 0 else s2
    if wf e.words 0 12 1 = 1 then s3.countTally p (wf e.words 0 8 4) bad else s3

/-- R675: Pan p is the one the engine runs. -/
def Dev.cryRuns (s : Dev) (p : Nat) : Bool :=
  s.on (Fld.CRY_STATE_BUSY (p / 8)) && s.get (Fld.CRY_STATE_CUR_SLOT (p / 8)) = p % 8

/-- The head command of the running Pan executes where its OP is this one; a skipped one ends without effect (R678). -/
def Dev.cryRun (s : Dev) (p op : Nat) (f : List Word → Dev → CryOut) : Dev :=
  match (s.pan p).cry with
  | [] => s
  | e :: _ =>
    if wf e.words 0 0 8 ≠ op || !s.cryRuns p || s.stopped then s
    else if (s.pan p).skip then s.cryEnd p 0x46 0 0 0
    else
      let r := f e.words s
      r.s.cryEnd p r.code r.kind r.info r.flags

/-- R669: every slice a feed range touches belongs to a Pan of the issuing berth; the range lies in the store. -/
def Dev.sliceOk (s : Dev) (p fa len : Nat) : Bool :=
  len = 0 || (List.range ((fa + len - 1) / 0x80000 - fa / 0x80000 + 1)).all (fun k =>
    s.holder (p / 8 * 8 + (fa / 0x80000 + k)) = s.holder p)
def feedOk (fa len : Nat) : Bool := decide (fa + len ≤ 0x400000)

def cryFail (s : Dev) (code : Nat) (kind info flags : Nat := 0) : CryOut := ⟨code, kind, info, flags, s⟩
def cryDone (s : Dev) (flags : Nat := 0) : CryOut := ⟨0, 0, 0, flags, s⟩

/-- Bytes read in 4 KiB pieces: the bytes, the VA of the first piece that holds poison, and the poisoned ranges; or CODE, KIND
and VA. -/
def Dev.cryRead (s : Dev) (p : Nat) : List (Nat × Nat) → List Nat →
    Except (Nat × Nat × Nat) (List Byte × Option Nat × List (Nat × Nat)) × Dev × List Nat
  | [], out => (.ok ([], none, []), s, out)
  | (va, n) :: ps, out =>
    match s.engineRead p va n 4 (p / 8) out with
    | (.error e, s1, o1) => (.error (e.1, e.2, va), s1, o1)
    | (.ok (bs, ms), s1, o1) =>
      match s1.cryRead p ps o1 with
      | (.error e, s2, o2) => (.error e, s2, o2)
      | (.ok (bs2, b2, ms2), s2, o2) => (.ok (bs ++ bs2, if ms.isEmpty then b2 else some va, ms ++ shiftRuns ms2 n), s2, o2)

/-- Bytes written in 4 KiB pieces. -/
def Dev.cryWrite (s : Dev) (p : Nat) : List (Nat × Nat) → List Byte → List (Nat × Nat) → List Nat →
    Except (Nat × Nat × Nat) Unit × Dev × List Nat
  | [], _, _, out => (.ok (), s, out)
  | (va, n) :: ps, bs, ms, out =>
    match s.engineWrite p va 4 (p / 8) (bs.take n) (clipRuns ms 0 n) out with
    | (.error e, s1, o1) => (.error (e.1, e.2, va), s1, o1)
    | (.ok _, s1, o1) => s1.cryWrite p ps (bs.drop n) (clipRuns ms n (bs.length - n)) o1

/-! CLOAD and CSTORE (R681) -/

/-- The rows of a copy between memory and the feed store from row i on. -/
def Dev.cryRows (s : Dev) (p : Nat) (ws : List Word) (isLoad : Bool) : Nat → Nat → List Nat → CryOut
  | 0, _, _ => cryDone s
  | rows + 1, i, out =>
    let len := wf ws 2 32 23
    let va := (wf ws 1 0 48 + i * wf ws 3 0 48) % 2 ^ 48
    let fa := feedBase (p / 8) + wf ws 2 0 22 + i * len
    if isLoad then
      match s.cryRead p (piecesOf va len) out with
      | (.error e, s1, _) => cryFail s1 e.1 e.2.1 e.2.2
      | (.ok (bs, bad, ms), s1, o1) =>
        let s2 := s1.writeMarked fa bs ms
        match bad with
        | some at_ => cryFail s2 7 0 at_
        | none => s2.cryRows p ws isLoad rows (i + 1) o1
    else
      let ms := s.poisonRuns fa len
      match s.cryWrite p (piecesOf va len) (s.bytes fa len) ms out with
      | (.error e, s1, _) => cryFail s1 e.1 e.2.1 e.2.2
      | (.ok _, s1, o1) => if !ms.isEmpty then cryFail s1 7 0 va else s1.cryRows p ws isLoad rows (i + 1) o1

/-- R681 with the checks of R676. -/
def Dev.cryCopy (p : Nat) (isLoad : Bool) (out : List Nat) (ws : List Word) (s : Dev) : CryOut :=
  let n := wf ws 3 48 16 * wf ws 2 32 23
  if !feedOk (wf ws 2 0 22) n then cryFail s 0x41
  else if !s.sliceOk p (wf ws 2 0 22) n then cryFail s 0x42
  else s.cryRows p ws isLoad (wf ws 3 48 16) 0 out

/-! CMMA (R682 to R684) -/

/-- Table 19.3: whether a pair is listed with these scales, and whether C is FP32. -/
def mmaPair (a b : Nat) (sa sb : Bool) : Option Bool :=
  let fp8 := fun x => x = 4 || x = 5
  let sub := fun x => x = 6 || x = 7 || x = 8
  let i8 := fun x => x = 12 || x = 13
  if (a = 2 && b = 2) || (a = 3 && b = 3) then (if !sa && !sb then some true else none)
  else if (fp8 a && (fp8 b || sub b)) || (sub a && (fp8 b || sub b)) then (if sa && sb then some true else none)
  else if a = 12 && b = 12 && (sa || sb) then some true
  else if sa || sb then none
  else if (i8 a && i8 b) || (a = 14 && (i8 b || b = 14)) || (i8 a && b = 14) || (a = 15 && b = 15) then some false
  else none

/-- Element k of a packed run that starts at a byte address. -/
def Dev.packed (s : Dev) (a bits k : Nat) : Nat :=
  let lo := bits * k
  bitsOf (ofLe (s.bytes (a + lo / 8) ((lo % 8 + bits + 7) / 8))) (lo % 8) bits

/-- One element of C: the accumulator after the groups, and the flags. -/
def mmaFp (acc0 : Nat) (term : Nat → Num × Nat) (groups : Nat) : Nat × Nat :=
  (List.range groups).foldl (fun a g =>
    let P := (List.range 32).foldl (fun (x : Num × Nat) k =>
      let t := term (32 * g + k)
      let y := if k = 0 then (t.1, 0) else numAdd 0 x.1 t.1
      (y.1, x.2 ||| y.2 ||| t.2)) (Num.fin false 0 1 0, 0)
    let z := numAdd 0 (decodeF (ffmt 1) a.1) P.1
    let r := encodeF (ffmt 1) 0 0 z.1
    (r.1, a.2 ||| P.2 ||| z.2 ||| r.2)) (acc0, 0)

/-- R684: the integer accumulator, modulo 2^32. -/
def mmaInt (acc0 : Nat) (term : Nat → Int) (k : Nat) : Nat :=
  (((acc0 : Int) + ((List.range k).map term).sum) % 2 ^ 32).toNat

/-- An integer element's value; BIN1 as ±1. -/
def intElem (code x : Nat) : Int :=
  match code with
  | 12 => signed 8 x
  | 13 => (x % 256 : Nat)
  | 14 => signed 4 x
  | _ => if x % 2 = 1 then 1 else -1

def Dev.cryMma (p : Nat) (ws : List Word) (s : Dev) : CryOut :=
  let base := feedBase (p / 8)
  let fa := wf ws 1 0 22
  let fb := wf ws 1 32 22
  let fc := wf ws 2 0 22
  let fas := wf ws 2 32 22
  let fbs := wf ws 3 0 22
  let M := wf ws 4 0 13
  let N := wf ws 4 16 13
  let K := wf ws 4 32 17
  let ca := wf ws 5 0 8
  let cb := wf ws 5 8 8
  let sa := decide (wf ws 5 16 1 = 1)
  let sb := decide (wf ws 5 17 1 = 1)
  let acc := decide (wf ws 5 18 1 = 1)
  let rowA := K * fmtBits ca / 8
  let rowB := K * fmtBits cb / 8
  let ins := [(fa, M * rowA), (fb, N * rowB)] ++ (if sa then [(fas, M * (K / 32))] else []) ++ (if sb then [(fbs, N * (K / 32))] else [])
  let nC := 4 * M * N
  match mmaPair ca cb sa sb with
  | none => cryFail s 0x41
  | some isFp =>
    if !(ins ++ [(fc, nC)]).all (fun r => feedOk r.1 r.2) || ins.any (fun r => decide (r.1 < fc + nC ∧ fc < r.1 + r.2)) then cryFail s 0x41
    else if !(ins ++ [(fc, nC)]).all (fun r => s.sliceOk p r.1 r.2) then cryFail s 0x42
    else if (ins ++ (if acc then [(fc, nC)] else [])).any (fun r => s.poisoned (base + r.1) r.2) then
      cryFail { s with poison := poisonAfter s.poison (base + fc) nC true } 7
    else
      let a := fun i k => s.packed (base + fa + i * rowA) (fmtBits ca) k
      let b := fun j k => s.packed (base + fb + j * rowB) (fmtBits cb) k
      let scA := fun i k => if sa then (s.byte (base + fas + i * (K / 32) + k / 32)).toNat else 0x7F
      let scB := fun j k => if sb then (s.byte (base + fbs + j * (K / 32) + k / 32)).toNat else 0x7F
      let old := fun e => if acc then ofLe (s.bytes (base + fc + 4 * e) 4) else 0
      let val := fun c x sc => scaleUp ((decodeE c x).getD (.nan false)) sc
      let cell := fun e =>
        let i := e / N
        let j := e % N
        if isFp then mmaFp (old e) (fun k => numMul (val ca (a i k) (scA i k)) (val cb (b j k) (scB j k))) (K / 32)
        else (mmaInt (old e) (fun k => intElem ca (a i k) * intElem cb (b j k)) K, 0)
      let cells := (List.range (M * N)).map cell
      cryDone (s.writeMem (base + fc) (cells.flatMap (fun c => leBytes 4 c.1))) (cells.foldl (fun f c => f ||| c.2) 0)

/-! CRANK (R686, R687) -/

/-- Whether candidate (score bits, index) x ranks before y. -/
def ranksBefore (isInt asc : Bool) (x y : Nat × Nat) : Bool :=
  let lower := decide (x.2 < y.2)
  if isInt then
    let a := signed 32 x.1
    let b := signed 32 y.1
    if a = b then lower else if asc then decide (a < b) else decide (b < a)
  else
    let a := decodeF (ffmt 1) x.1
    let b := decodeF (ffmt 1) y.1
    match a.isNan, b.isNan with
    | true, true => lower
    | true, false => false
    | false, true => true
    | false, false => let c := numCmp a b; if c = 0 then lower else if asc then decide (c < 0) else decide (0 < c)

/-- Insertion in rank order. -/
def rankInsert (before : Nat × Nat → Nat × Nat → Bool) (x : Nat × Nat) : List (Nat × Nat) → List (Nat × Nat)
  | [] => [x]
  | y :: l => if before x y then x :: y :: l else y :: rankInsert before x l

def Dev.cryRank (p : Nat) (ws : List Word) (s : Dev) : CryOut :=
  let base := feedBase (p / 8)
  let fs := wf ws 1 0 22
  let fo := wf ws 1 32 22
  let R := wf ws 2 0 13
  let N := wf ws 2 32 17
  let K := wf ws 3 0 11
  let merge := decide (wf ws 3 16 1 = 1)
  let asc := decide (wf ws 3 17 1 = 1)
  let isInt := decide (wf ws 3 18 1 = 1)
  let idx := wf ws 4 0 32
  let nS := 4 * R * N
  let nO := 8 * R * K
  if !feedOk fs nS || !feedOk fo nO || decide (fs < fo + nO ∧ fo < fs + nS) || decide (0xFFFFFFFF ≤ idx + N - 1) then cryFail s 0x41
  else if !s.sliceOk p fs nS || !s.sliceOk p fo nO then cryFail s 0x42
  else if s.poisoned (base + fs) nS || (merge && s.poisoned (base + fo) nO) then
    cryFail { s with poison := poisonAfter s.poison (base + fo) nO true } 7
  else
    let before := ranksBefore isInt asc
    let fill : Nat × Nat := (if isInt then (if asc then 0x7FFFFFFF else 0x80000000) else 0x7FC00000, 0xFFFFFFFF)
    let row := fun i =>
      let scores := (List.range N).map (fun j => (ofLe (s.bytes (base + fs + 4 * (i * N + j)) 4), idx + j))
      let old := if merge then (List.range K).map (fun k =>
        let a := base + fo + 8 * (i * K + k)
        (ofLe (s.bytes a 4), ofLe (s.bytes (a + 4) 4))) else []
      let best := (scores ++ old).foldl (fun l x => (rankInsert before x l).take K) []
      (List.range K).flatMap (fun k => let e := best.getD k fill; leBytes 4 e.1 ++ leBytes 4 e.2)
    cryDone (s.writeMem (base + fo) ((List.range R).flatMap row))

/-! CQUANT and CCONV (R688 to R692) -/

/-- A rounding with the Pan's generator: a stochastic one draws. -/
def drawFor (round gen : Nat) : Nat × Nat := if round = 4 then (let q := xorshift gen; (q, q)) else (0, gen)

/-- The generator state a command starts with (R663, R680). -/
def seedOf (ws : List Word) (gen : Nat) : Nat :=
  if wf ws 0 16 1 = 1 then (if wf ws 0 32 32 = 0 then 0x9E3779B9 else wf ws 0 32 32) else gen

/-- Elements packed from the least significant bit up (R655). -/
def packBits (bits : Nat) (l : List Nat) : Nat := l.foldr (fun x acc => x % 2 ^ bits + acc * 2 ^ bits) 0

/-- Elements of one 32-element block rounded in order: the encodings, the flags, the generator. -/
def quantBlock (mx round scale : Nat) (gen0 : Nat) (l : List Num) : List Nat × Nat × Nat :=
  l.foldl (fun (a : List Nat × Nat × Nat) v =>
    let d := drawFor round a.2.2
    let e := encodeE mx round d.1 false (scaleDown v scale)
    (a.1 ++ [e.bits], a.2.1 ||| e.flags, d.2)) ([], 0, gen0)

/-- Table 18.4. -/
def emaxOf (mx : Nat) : Nat := match mx with | 4 => 8 | 5 => 15 | 6 => 4 | 7 => 2 | 8 => 2 | _ => 6

/-- R688: the scale byte of a block: none where it holds a NaN or an infinity. -/
def blockScale (mx : Nat) (l : List Num) : Option Nat :=
  if l.any (fun v => match v with | .fin _ _ _ _ => false | _ => true) then none
  else
    let L := l.filterMap (fun v => match v with | .fin _ n d e => (if n = 0 then none else some (ratLog2 n d + e)) | _ => none)
    match L with
    | [] => some 0
    | x :: xs => some ((xs.foldl max x) + 127 - emaxOf mx).toNat

/-- R688: the blocks of a quantization from block k on. -/
def Dev.quantRun (s : Dev) (p : Nat) (ws : List Word) : Nat → Nat → Nat → List Nat → CryOut
  | 0, _, fl, _ => cryDone s fl
  | n + 1, k, fl, out =>
    let w := wf ws 5 0 8
    let mx := wf ws 5 8 8
    let round := wf ws 0 13 3
    let wb := 32 * fmtBits w / 8
    let mb := 32 * fmtBits mx / 8
    match s.cryRead p (piecesOf ((wf ws 1 0 48 + k * wb) % 2 ^ 48) wb) out with
    | (.error e, s1, _) => cryFail s1 e.1 e.2.1 e.2.2 fl
    | (.ok (bs, bad, _), s1, o1) =>
      match bad with
      | some va => cryFail s1 7 0 va fl
      | none =>
        let x := ofLe bs
        let vals := (List.range 32).map (fun i => decodeF (ffmt w) (bitsOf x (i * fmtBits w) (fmtBits w)))
        let gen := (s1.pan p).gen
        let sc := blockScale mx vals
        let (els, f1, g1) := match sc with
          | some e => quantBlock mx round e gen vals
          | none => (List.replicate 32 0, 1, (vals.foldl (fun g _ => (drawFor round g).2) gen))
        let s2 := s1.setPan p { s1.pan p with gen := g1 }
        match s2.cryWrite p (piecesOf ((wf ws 2 0 48 + k * mb) % 2 ^ 48) mb) (leBytes mb (packBits (fmtBits mx) els)) [] o1 with
        | (.error e, s3, _) => cryFail s3 e.1 e.2.1 e.2.2 (fl ||| f1)
        | (.ok _, s3, o2) =>
          match s3.cryWrite p [((wf ws 3 0 48 + k) % 2 ^ 48, 1)] (leBytes 1 (sc.getD 0xFF)) [] o2 with
          | (.error e, s4, _) => cryFail s4 e.1 e.2.1 e.2.2 (fl ||| f1)
          | (.ok _, s4, o3) => s4.quantRun p ws n (k + 1) (fl ||| f1) o3

/-- R689: the blocks of a dequantization from block k on. -/
def Dev.dequantRun (s : Dev) (p : Nat) (ws : List Word) : Nat → Nat → Nat → List Nat → CryOut
  | 0, _, fl, _ => cryDone s fl
  | n + 1, k, fl, out =>
    let w := wf ws 5 0 8
    let mx := wf ws 5 8 8
    let round := wf ws 0 13 3
    let wb := 32 * fmtBits w / 8
    let mb := 32 * fmtBits mx / 8
    match s.cryRead p (piecesOf ((wf ws 1 0 48 + k * mb) % 2 ^ 48) mb) out with
    | (.error e, s1, _) => cryFail s1 e.1 e.2.1 e.2.2 fl
    | (.ok (bs, bad, _), s1, o1) =>
      match s1.cryRead p [((wf ws 3 0 48 + k) % 2 ^ 48, 1)] o1 with
      | (.error e, s2, _) => cryFail s2 e.1 e.2.1 e.2.2 fl
      | (.ok (sc, bad2, _), s2, o2) =>
        match bad.or bad2 with
        | some va => cryFail s2 7 0 va fl
        | none =>
          let x := ofLe bs
          let r := (List.range 32).foldl (fun (a : List Nat × Nat × Nat) i =>
            let d := drawFor round a.2.2
            let v := scaleUp ((decodeE mx (bitsOf x (i * fmtBits mx) (fmtBits mx))).getD (.nan false)) (ofLe sc)
            let e := encodeE w round d.1 false v
            (a.1 ++ [e.bits], a.2.1 ||| e.flags, d.2)) ([], 0, (s2.pan p).gen)
          let s3 := s2.setPan p { s2.pan p with gen := r.2.2 }
          match s3.cryWrite p (piecesOf ((wf ws 2 0 48 + k * wb) % 2 ^ 48) wb) (leBytes wb (packBits (fmtBits w) r.1)) [] o2 with
          | (.error e, s4, _) => cryFail s4 e.1 e.2.1 e.2.2 (fl ||| r.2.1)
          | (.ok _, s4, o3) => s4.dequantRun p ws n (k + 1) (fl ||| r.2.1) o3

/-- The seed is loaded before the first draw. -/
def Dev.crySeed (s : Dev) (p : Nat) (ws : List Word) : Dev := s.setPan p { s.pan p with gen := seedOf ws (s.pan p).gen }

/-- Elements converted until one is rejected: encodings, flags, generator, and the failure (1 DDATA, 2 DOVF). -/
def convList (src dst round : Nat) : List Nat → Nat → List Nat × Nat × Nat × Nat
  | [], g => ([], 0, g, 0)
  | x :: xs, g =>
    match decodeE src x with
    | none => ([], 0, g, 1)
    | some v =>
      let d := drawFor round g
      let e := encodeE dst round d.1 (isIntFmt src) v
      if e.bad ≠ 0 then ([], 0, g, e.bad)
      else match convList src dst round xs d.2 with
        | (l, f, g', b) => (e.bits :: l, e.flags ||| f, g', b)

/-- R690: the elements of a CCONV in runs of 64 from element k on. -/
def Dev.convRun (s : Dev) (p : Nat) (ws : List Word) (count : Nat) : Nat → Nat → Nat → List Nat → CryOut
  | 0, _, fl, _ => cryDone s fl
  | fuel + 1, k, fl, out =>
    if count ≤ k then cryDone s fl
    else
      let src := wf ws 5 0 8
      let dst := wf ws 5 8 8
      let n := min 64 (count - k)
      let sb := (n * fmtBits src + 7) / 8
      let va := (wf ws 1 0 48 + k * fmtBits src / 8) % 2 ^ 48
      match s.cryRead p (piecesOf va sb) out with
      | (.error e, s1, _) => cryFail s1 e.1 e.2.1 e.2.2 fl
      | (.ok (bs, bad, _), s1, o1) =>
        match bad with
        | some at_ => cryFail s1 7 0 at_ fl
        | none =>
          let x := ofLe bs
          match convList src dst (wf ws 0 13 3) ((List.range n).map (fun i => bitsOf x (i * fmtBits src) (fmtBits src))) (s1.pan p).gen with
          | (els, f1, g1, b) =>
            let s2 := s1.setPan p { s1.pan p with gen := g1 }
            let bits := els.length * fmtBits dst
            let db := (bits + 7) / 8
            -- the rest of a last byte that a failure cuts short is open
            let tail := if bits % 8 = 0 then 0 else (Config.freeByte s2.free k).toNat / 2 ^ (bits % 8) * 2 ^ bits
            let s3 := if bits % 8 = 0 then s2 else s2.tick
            match s3.cryWrite p (piecesOf ((wf ws 2 0 48 + k * fmtBits dst / 8) % 2 ^ 48) db)
                (leBytes db (packBits (fmtBits dst) els + tail % 2 ^ (8 * db))) [] o1 with
            | (.error e, s4, _) => cryFail s4 e.1 e.2.1 e.2.2 (fl ||| f1)
            | (.ok _, s4, o2) =>
              if b ≠ 0 then cryFail s4 (if b = 1 then 0x43 else 0x44) 0 (k + els.length) (fl ||| f1)
              else s4.convRun p ws count fuel (k + n) (fl ||| f1) o2

def Dev.cryConv (p : Nat) (out : List Nat) (ws : List Word) (s : Dev) : CryOut :=
  let n := wf ws 4 0 31
  if n * fmtBits (wf ws 5 0 8) % 8 ≠ 0 || n * fmtBits (wf ws 5 8 8) % 8 ≠ 0 then cryFail s 0x41
  else (s.crySeed p ws).convRun p ws n (n / 64 + 1) 0 0 out

/-! CWAIT and CFENCE (R693, R694) -/

/-- CWAIT: it completes once its tally has reached COUNT. -/
def Dev.cryWait (s : Dev) (p : Nat) : Dev :=
  match (s.pan p).cry with
  | [] => s
  | e :: _ =>
    if wf e.words 0 0 8 ≠ 0x40 || s.stopped then s
    else if (s.pan p).skip then s.cryEnd p 0x46 0 0 0
    else
      let t := tget (fun _ => (0 : Word)) (s.pan p).tally (wf e.words 1 0 4)
      let sum := (getBits t 0 32 + getBits t 32 32) % 2 ^ 32
      let c := wf e.words 1 32 32
      if same sum c 32 || after sum c 32 then s.cryEnd p 0 0 0 0 else s

/-- CWAIT_TIMEOUT. -/
def Dev.cryWaitTimeout (s : Dev) (p : Nat) : Dev :=
  match (s.pan p).cry with
  | [] => s
  | e :: _ =>
    let us := wf e.words 2 0 32
    if wf e.words 0 0 8 ≠ 0x40 || us = 0 || s.stopped then s
    else (s.at (e.headAt - 1 + 1000 * us)).cryEnd p 0x45 0 0 0

/-- R694: CFENCE; the record, then the stream status clears and skipping ends. -/
def Dev.cryFence (s : Dev) (p : Nat) (out : List Nat) : Dev :=
  let q := s.pan p
  match q.cry with
  | [] => s
  | e :: _ =>
    if wf e.words 0 0 8 ≠ 0x41 || !s.cryRuns p || s.stopped then s
    else
      let rec_ := [packW [(0, 32, e.cseq), (32, 32, q.fails)], packW [(0, 5, q.flags)],
        packW [(0, 8, q.fcode), (8, 4, q.fkind), (32, 32, q.fcseq)], BitVec.ofNat 64 q.finfo, BitVec.ofNat 64 s.tide, 0, 0, 0]
      let w := if wf e.words 1 48 1 = 1 then s.cryWrite p [(wf e.words 1 0 48, 64)] (wordBytes rec_) [] out else (.ok (), s, out)
      let bad := q.skip || (match w.1 with | .error _ => true | .ok _ => false)
      let s1 := w.2.1
      let s2 := s1.setPan p { s1.pan p with fcode := 0, fails := 0 }
      let s3 := s2.cryEnd p (if bad then 1 else 0) 0 0 0
      s3.setPan p { s3.pan p with fails := 0, flags := 0, fcode := 0, fkind := 0, fcseq := 0, finfo := 0, skip := false }

/-! Steps (R675, R699, R700) -/

/-- A Pan whose head command may run: CWAIT is passed over. -/
def Dev.cryReady (s : Dev) (p : Nat) : Bool :=
  match (s.pan p).cry with
  | [] => false
  | e :: _ => wf e.words 0 0 8 ≠ 0x40

/-- Pans that have become ready catch up with the smallest V of the others. -/
def Dev.cryCatchUp (s : Dev) (c : Nat) : Dev :=
  let pans := (List.range 8).map (fun j => 8 * c + j)
  let others := (pans.filter (fun p => s.cryReady p && (s.pan p).ready)).map (fun p => (s.pan p).vt)
  pans.foldl (fun s p =>
    let q := s.pan p
    let r := s.cryReady p
    let v := match others with
      | [] => q.vt
      | x :: xs => if r && !q.ready then max q.vt (xs.foldl min x) else q.vt
    s.setPan p { q with ready := r, vt := v }) s

/-- The feed ranges a command names. -/
def cryRanges (ws : List Word) : List (Nat × Nat) :=
  match wf ws 0 0 8 with
  | 0x01 | 0x02 => [(wf ws 2 0 22, wf ws 3 48 16 * wf ws 2 32 23)]
  | 0x10 => [(wf ws 1 0 22, 1), (wf ws 1 32 22, 1), (wf ws 2 0 22, 4 * wf ws 4 0 13 * wf ws 4 16 13)]
  | 0x20 => [(wf ws 1 0 22, 4 * wf ws 2 0 13 * wf ws 2 32 17), (wf ws 1 32 22, 8 * wf ws 2 0 13 * wf ws 3 0 11)]
  | _ => []

/-- A running command whose slice has been withdrawn fails (R700). -/
def Dev.cryWithdrawn (s : Dev) (p : Nat) : Dev :=
  match (s.pan p).cry with
  | e :: _ => if s.cryRuns p && (cryRanges e.words).any (fun r => feedOk r.1 r.2 && !s.sliceOk p r.1 r.2) then s.cryEnd p 0x42 0 0 0 else s
  | [] => s

/-- The ready Pan of smallest V, the lowest slot winning a tie. -/
def Dev.cryBest (s : Dev) (c : Nat) : Option Nat :=
  ((List.range 8).filter (fun j => s.cryReady (8 * c + j))).foldl (fun (b : Option Nat) j =>
    match b with
    | none => some j
    | some k => if (s.pan (8 * c + j)).vt < (s.pan (8 * c + k)).vt then some j else some k) none

/-- The Pan whose V is smallest runs next; none runs when no Pan is ready or the device stops. -/
def Dev.cryChoose (s : Dev) (c : Nat) : Dev :=
  match (if s.stopped || 2 ≤ s.get (Fld.PWR_ISL_STATE (64 + c)) then none else s.cryBest c) with
  | none => s.put (Fld.CRY_STATE_BUSY c) 0
  | some j => (s.put (Fld.CRY_STATE_CUR_SLOT c) j).put (Fld.CRY_STATE_BUSY c) 1

/-- V of the Pan that ran advances by its n cycles over its weight. -/
def Dev.cryCharge (s : Dev) (c p n : Nat) : Dev :=
  let q := s.pan p
  (s.setPan p { q with vt := q.vt + n * cryScale / s.cryWeight p }).wrap (Fld.CRY_BUSY_CYCLES c) n

/-- A step of n cycles ends: V of the Pan that ran advances; the next ready Pan is chosen. -/
def Dev.cryStep (s : Dev) (c n : Nat) : Dev :=
  let p := 8 * c + s.get (Fld.CRY_STATE_CUR_SLOT c)
  (((s.cryCharge c p (min n 4096)).cryWithdrawn p).cryCatchUp c).cryChoose c

/-! The commands -/

/-- CLOAD (R681). -/
def execCload (p : Nat) (out : List Nat) (s : State) : Out := s.dv (·.cryRun p 0x01 (Dev.cryCopy p true out))

/-- CSTORE (R681). -/
def execCstore (p : Nat) (out : List Nat) (s : State) : Out := s.dv (·.cryRun p 0x02 (Dev.cryCopy p false out))

/-- CMMA (R682 to R684). -/
def execCmma (p : Nat) (s : State) : Out := s.dv (·.cryRun p 0x10 (Dev.cryMma p))

/-- CRANK (R686, R687). -/
def execCrank (p : Nat) (s : State) : Out := s.dv (·.cryRun p 0x20 (Dev.cryRank p))

/-- DIR of the head command. -/
def Dev.cryDir (d : Dev) (p : Nat) : Option Nat :=
  match (d.pan p).cry with
  | e :: _ => some (wf e.words 5 16 1)
  | [] => none

/-- CQUANT_QUANTIZE (R688): CQUANT with DIR 0. -/
def execCquantQuantize (p : Nat) (out : List Nat) (s : State) : Out :=
  s.dv fun d =>
    if d.cryDir p = some 0 then
      d.cryRun p 0x30 (fun ws d => (d.crySeed p ws).quantRun p ws (wf ws 4 0 31 / 32) 0 0 out)
    else d

/-- CQUANT_DEQUANTIZE (R689): CQUANT with DIR 1. -/
def execCquantDequantize (p : Nat) (out : List Nat) (s : State) : Out :=
  s.dv fun d =>
    if d.cryDir p = some 1 then
      d.cryRun p 0x30 (fun ws d => (d.crySeed p ws).dequantRun p ws (wf ws 4 0 31 / 32) 0 0 out)
    else d

/-- CCONV (R690). -/
def execCconv (p : Nat) (out : List Nat) (s : State) : Out := s.dv (·.cryRun p 0x31 (Dev.cryConv p out))

/-- CWAIT (R693). -/
def execCwait (p : Nat) (s : State) : Out := s.dv (·.cryWait p)

/-- CWAIT_TIMEOUT (R693). -/
def execCwaitTimeout (p : Nat) (s : State) : Out := s.dv (·.cryWaitTimeout p)

/-- CFENCE (R694). -/
def execCfence (p : Nat) (out : List Nat) (s : State) : Out := s.dv (·.cryFence p out)

/-- CRY_STEP_BOUNDARY (R675): a step of n cycles of Crystallizer c ends. -/
def execCryStepBoundary (c n : Nat) (s : State) : Out := s.dv fun d => if c < 32 then d.cryStep c n else d

end Sys2Proof.Machine
end

