-- ==== Sys2Proof/Machine/Drain.lean ====
section
/-! DEFINITION. The part of the Tide Vault the storage service meets (spec/24): arming, the copy of an image to the vault
drives, hard off. -/

namespace Sys2Proof.Machine

/-- STATE: 0 OFF, 1 UNARMED, 2 ARMED, 3 DRAINING, 4 SEALED, 5 RESTORING. -/
def Dev.vltState (s : Dev) : Nat := s.get Fld.VLT_STATUS_STATE

/-- The vault set, ascending (R821). -/
def Dev.vltDrives (s : Dev) : List Nat := (List.range 8).filter (fun k => s.get Fld.VLT_STATUS_DRIVE_SET / 2 ^ k % 2 = 1)

/-- R828, R831: a drain, or its wait in SEALED, has a drive: new commands for it wait and it enters no power state. -/
def Dev.vltHolds (s : Dev) (k : Nat) : Bool := (s.vltState = 3 || s.vltState = 4) && s.vltDrives.contains k

/-- Every drive of the vault set is READY with the IDHASH recorded at SET. -/
def Dev.vltDrivesOk (s : Dev) : Bool :=
  (List.range s.vltDrives.length).all (fun p =>
    let k := s.vltDrives.getD p 0
    s.get (Fld.STO_DRV_STATE_STATE k) = 2 && s.reg (Reg.STO_DRV_ID k) = s.vlt.ids.getD p 0)

/-- VLT_STATUS [8:3] (Table 24.7). -/
def Dev.vltFlags (s : Dev) : Nat := getBits (s.reg Reg.VLT_STATUS) 3 6

/-- R824: the status bits follow their conditions, and the vault is ARMED while all hold. -/
def Dev.vltSync (s : Dev) : Dev :=
  let cfg := s.on Fld.VLT_STATUS_CFG_OK
  let s1 := (((s.put Fld.VLT_STATUS_DRIVES_OK (if cfg && s.vltDrivesOk then 1 else 0)).put Fld.VLT_STATUS_CELL_OK
    (if s.slip.cellLowHigh then 1 else 0)).put Fld.VLT_STATUS_MAIN_OK (if s.slip.believed then 1 else 0)).put
    Fld.VLT_STATUS_TRIPPED (if s.power.thermTrip then 1 else 0)
  let st := s.vltState
  if 3 ≤ st then s1
  else
    let good := s1.on Fld.VLT_STATUS_DRIVES_OK && s.slip.cellLowHigh && s.slip.believed && !s.power.thermTrip
      && decide (s.get Fld.IDENT_BOOT_STATION = 11) && !s.on Fld.VLT_STATUS_PENDING && s.vlt.armed
    let st' := if !cfg then 0 else if good then 2 else 1
    let s2 := s1.put Fld.VLT_STATUS_STATE st'
    if st = st' then s2
    else if st' = 2 then s2.logAdd 1 0x0400 0xFF s.vlt.nextSeq (s.get Fld.VLT_STATUS_NEXT_SLOT)
    else if st = 2 then s2.logAdd 3 0x0401 0xFF s2.vltFlags 0
    else s2

/-! The image (R822) -/

/-- 128 KiB and 1 MiB. -/
def vltUnitSize : Nat := 131072
def mib : Nat := 1048576
def roundUp (n m : Nat) : Nat := (n + m - 1) / m * m

/-- Table 24.3. -/
def VltExt.bytes (e : VltExt) : List Byte :=
  wordBytes [packW [(0, 48, e.dpa)], packW [(0, 41, e.len)], packW [(0, 8, e.owner), (8, 24, e.index), (32, 8, e.gen)], packW [(0, 48, e.va)]]

/-- Bytes of the padded extent table, of the padded contents, chunks, and bytes of the image. -/
def vltTable (es : List VltExt) : Nat := roundUp (32 * es.length) mib
def vltData (es : List VltExt) : Nat := roundUp (es.map VltExt.len).sum mib
def vltChunks (es : List VltExt) : Nat := (vltTable es + vltData es) / mib
def vltBytes (es : List VltExt) : Nat := vltTable es + vltData es + 48 * vltChunks es
def vltUnits (bytes : Nat) : Nat := (bytes + vltUnitSize - 1) / vltUnitSize

/-- The DPA of an offset in the contents. -/
def extAt : List VltExt → Nat → Option Nat
  | [], _ => none
  | e :: t, o => if o < e.len then some (e.dpa + o) else extAt t (o - e.len)

/-- The encoding of a poisoned granule (R829). -/
def poisonBytes : List Byte := (List.range 64).map Config.poisonByte

/-- R829: a granule of the contents as the copy reads it. -/
def Dev.vltGranule (s : Dev) (o : Nat) : List Byte :=
  match extAt s.vlt.ext o with
  | none => List.replicate 64 0
  | some a => if s.poisonedAt a then poisonBytes else s.bytes a 64

/-- The SHA-384 of a chunk whose units have been copied. -/
def VltS.chunkHash (v : VltS) (c : Nat) : List Byte :=
  Config.sha384 ((List.range 8).flatMap (fun i => tget (fun _ => []) v.copied (8 * c + i)))

/-- The chunk table. -/
def VltS.chunkTable (v : VltS) : List Byte := (List.range (vltChunks v.ext)).flatMap v.chunkHash

/-- The bytes of a unit, its last block filled with zeros. -/
def Dev.vltUnit (s : Dev) (u : Nat) : List Byte :=
  let v := s.vlt
  let o := u * vltUnitSize
  let tab := vltTable v.ext
  if o < tab then
    let bs := ((v.ext.flatMap VltExt.bytes).drop o).take vltUnitSize
    bs ++ List.replicate (vltUnitSize - bs.length) 0
  else if o < tab + vltData v.ext then (List.range 2048).flatMap (fun i => s.vltGranule (o - tab + 64 * i))
  else
    let bs := (v.chunkTable.drop (o - tab - vltData v.ext)).take vltUnitSize
    bs ++ List.replicate (roundUp bs.length 4096 - bs.length) 0

/-- R822, R823: blocks of an image under the vault key, from image offset o. -/
def Dev.vltCrypt (s : Dev) (seq o : Nat) (enc : Bool) (bs : List Byte) : List Byte :=
  let key := Config.derivedKey 1 s.tlhs.debugOpen
  (List.range (bs.length / 4096)).flatMap (fun i =>
    let blk := (bs.drop (4096 * i)).take 4096
    let tweak := seq * 2 ^ 32 + o / 4096 + i
    if enc then Config.xtsEncrypt key tweak blk else Config.xtsDecrypt key tweak blk)

/-- The first block of a slot on each vault drive (R821). -/
def Dev.vltSlotLba (s : Dev) (slot : Nat) : Nat := s.get Fld.VLT_AREA_VAULT_LBA + slot * 256 * s.get Fld.VLT_AREA_SLOT_MIB

/-- A command on the Tide Vault's own queue of a drive (R827): identifiers from 2^32 on. -/
def Dev.vltCmd (s : Dev) (k id op lba blocks fua : Nat) (bs : List Byte) : Dev := s.emit .nvme [k, 2 ^ 32 + id, op, lba, blocks, fua] bs

/-- Step 3 of the route: the next unit of a drive position is read, encrypted and written, where the drive is in power state 0
and, for the chunk table, every chunk has been copied. -/
def Dev.vltIssueAt (s : Dev) (p : Nat) : Dev :=
  let v := s.vlt
  let n := s.vltDrives.length
  let k := s.vltDrives.getD p 0
  let u := v.next.getD p 0
  let dataUnits := 8 * vltChunks v.ext
  let asleep := s.on (Fld.STO_DRV_PM_CUR_PS k) || (tget (fun _ => DrvH.init) s.sto.drv k).phase ≠ 0
  if v.phase ≠ 1 || v.out.any (fun x => x.1 = p) || decide (vltUnits (vltBytes v.ext) ≤ u) || asleep
    || (decide (dataUnits ≤ u) && decide (v.copied.length < dataUnits)) then s
  else
    let bs := s.vltUnit u
    let s1 := { s with vlt := { v with
      next := v.next.set p (u + n), out := v.out ++ [(p, u)], copied := tput (fun _ => []) v.copied u bs } }
    s1.vltCmd k u 1 (s1.vltSlotLba (s1.get Fld.VLT_STATUS_NEXT_SLOT) + 256 + u / n * 32) (bs.length / 4096) 0 (s1.vltCrypt v.seq (u * vltUnitSize) true bs)

/-- Every drive position goes on; when all units are written, each drive is flushed (step 4). -/
def Dev.vltIssue (s : Dev) : Dev :=
  let s1 := (List.range s.vltDrives.length).foldl Dev.vltIssueAt s
  let v := s1.vlt
  if v.phase = 1 && v.out.isEmpty && decide (vltUnits (vltBytes v.ext) ≤ v.copied.length) then
    s1.vltDrives.foldl (fun s k => s.vltCmd k (2 ^ 31) 0 0 0 0 []) { s1 with vlt := { v with phase := 2 } }
  else s1

/-! Hard off -/

/-- What runs on the main tiles ends with them: they are held in reset. -/
def Dev.tilesDown (s : Dev) : Dev :=
  { s with
    tickets := [], work := [], outst := [], ringsOn := [], frames := [], txq := [], rakers := [], pans := [], xing := []
    sto := { s.sto with cmds := [] }, host := { s.host with link := 0, unacked := [], held := [], dropTimer := 0, cfgReady := false } }.put
      Fld.LND_HOST_LINK_DEVICE_READY 0 |>.put Fld.LND_HOST_LINK_LINK_UP 0

/-- R712, R780, R834: every partner's PERST# is asserted and its power enable lowered. -/
def Dev.partnersOff (s : Dev) : Dev :=
  (List.range 12).foldl (fun s p =>
    let h := s.port p
    let s1 := if p < 4 && !h.perst then s.emit .portLink [p, 3] else s
    let s2 := if h.pwren then s1.emit .pin [16 + p, 0] else s1
    s2.setPort p { h with pwren := false, perst := true, pg := false }) s

/-- R834: hard off; `seq` is 0 where the slot is unsealed. -/
def Dev.hardOff (s : Dev) (seq : Nat) : Dev :=
  let s1 := (s.kill.partnersOff).tilesDown
  { s1 with slip := { s1.slip with hardOff := true, gaps := [], starts := [], accelQueue := [], accelWait := [], driveQueue := [] } }.logAdd
    4 0x0406 0xFF seq 0

/-! Registers of a port by its number (Table 9.9) -/

def portCtrl (p : Nat) : Nat := if p < 4 then Reg.LND_AP_CTRL p else Reg.WHF_DP_CTRL (p - 4)
def portStatus (p : Nat) : Nat := if p < 4 then Reg.LND_AP_STATUS p else Reg.WHF_DP_STATUS (p - 4)
def portErr (p : Nat) : Nat := if p < 4 then Reg.LND_AP_ERR p else Reg.WHF_DP_ERR (p - 4)
def portCounts (p : Nat) : Nat := if p < 4 then Reg.LND_AP_COUNTS p else Reg.WHF_DP_COUNTS (p - 4)
/-- STATE. -/
def pState (p : Nat) : Fld := ⟨portStatus p, 9, 3⟩
def pSpeed (p : Nat) : Fld := ⟨portStatus p, 0, 3⟩
def pWidth (p : Nat) : Fld := ⟨portStatus p, 3, 5⟩
def pLinkUp (p : Nat) : Fld := ⟨portStatus p, 8, 1⟩
def pDpcCause (p : Nat) : Fld := ⟨portStatus p, 12, 4⟩
def pClamped (p : Nat) : Fld := ⟨portStatus p, 16, 1⟩
def pBarShort (p : Nat) : Fld := ⟨portStatus p, 18, 1⟩
def pPresent (p : Nat) : Fld := ⟨portStatus p, 19, 1⟩
def pRemoved (p : Nat) : Fld := ⟨portStatus p, 20, 1⟩
def pFuncs (p : Nat) : Fld := ⟨portStatus p, 24, 8⟩
def pEn (p : Nat) : Fld := ⟨portCtrl p, 0, 1⟩
def pCplTo (p : Nat) : Fld := ⟨portCtrl p, 16, 16⟩
/-- A bit of the error register: 0 COR, 1 NONFATAL, 2 FATAL, 3 POISON, 4 CPL_TIMEOUT, 5 UNEXP_CPL, 6 SV_FAIL, 7 MALFORMED. -/
def pErr (p i : Nat) : Fld := ⟨portErr p, i, 1⟩
/-- A counter: 0 CPL_TO, 1 POISON, 2 SV_DROP or DMA_STRAY, 3 CONTAIN. -/
def pCount (p i : Nat) : Fld := ⟨portCounts p, 16 * i, 16⟩

/-- R34: the port's presence bit, and PORT_PRESENCE on each change; the window is LIVE with it (R144). -/
def Dev.setPresent (s : Dev) (p v : Nat) : Dev :=
  let f : Fld := ⟨Reg.IDENT_TRAY, p, 1⟩
  let s0 := if p < 4 then s.put (Fld.LND_AWIN_LIVE p) v else s
  if s0.get f = v then s0
  else
    let s1 := s0.put f v
    s1.signal 0 0x0013 0 (getBits (s1.reg Reg.IDENT_TRAY) 0 14) 0

end Sys2Proof.Machine
end

