-- ==== Sys2Proof/Machine/Raker.lean ====
section
/-! DEFINITION. The Raker (spec/15, spec/16): its registers, fetch, guard and retirement, its loads, stores and atomics, and
what the scalar instructions compute. -/

namespace Sys2Proof.Machine

/-- R587: g0 reads zero. -/
def RakerS.gr (r : RakerS) (n : Nat) : Word := if n = 0 then 0 else tget (fun _ => 0) r.g n
/-- R587: a write to g0 is discarded. -/
def RakerS.setG (r : RakerS) (n : Nat) (v : Word) : RakerS := if n = 0 then r else { r with g := tput (fun _ => 0) r.g n v }
/-- R587: p0 reads all ones. -/
def RakerS.pr (r : RakerS) (n : Nat) : BitVec 16 := if n = 0 then 0xFFFF else tget (fun _ => 0) r.p n
def RakerS.setP (r : RakerS) (n : Nat) (v : BitVec 16) : RakerS := if n = 0 then r else { r with p := tput (fun _ => 0) r.p n v }
def RakerS.vr (r : RakerS) (n : Nat) : BitVec 512 := tget (fun _ => 0) r.v n
def RakerS.setV (r : RakerS) (n : Nat) (v : BitVec 512) : RakerS := { r with v := tput (fun _ => 0) r.v n v }

/-- The rounding mode and the trap enables of s.round (Table 16.1). -/
def RakerS.mode (r : RakerS) : Nat := bitsOf r.round 0 2
def RakerS.traps (r : RakerS) : Nat := bitsOf r.round 4 5

/-- The EXEC section a VA lies in. -/
def Dev.execAt (s : Dev) (p va : Nat) : Option (Nat × Nat) := (s.pan p).exec.find? (fun r => decide (r.1 ≤ va ∧ va < r.2))

/-- A word of the Pan's SRAM at a VA of the Pan window. -/
def Dev.fetch32 (s : Dev) (p va : Nat) : Nat := ofLe (s.bytes (panSram p + (va - panWindow)) 4)

/-- R586, R590: the instruction at a VA; none where a word of it lies outside its EXEC section. -/
def Dev.fetchInsn (s : Dev) (p va : Nat) : Option Insn :=
  match s.execAt p va with
  | none => none
  | some sec =>
    if sec.2 < va + 4 then none
    else
      let w := s.fetch32 p va
      if isLong w then
        if sec.2 < va + 8 then none else some ⟨w, true, signed 32 (s.fetch32 p (va + 4))⟩
      else some ⟨w, false, 0⟩

/-- What an instruction comes to: an exception, or none; the device and the Raker after it. -/
abbrev Ran := Option Exc × Dev × RakerS

/-- R589: the guard of a scalar instruction. -/
def Insn.passes (x : Insn) (r : RakerS) : Bool := (r.pr x.guardReg).getLsbD 0 != x.guardInv

/-- R586: one instruction of Raker i of Pan p, where the word at PC is this instruction (major × 128 + function): fetched,
checked, guarded, performed, retired.  A Raker that runs another instruction, or none, is not concerned. -/
def Dev.insn (s : Dev) (p i key : Nat) (f : Insn → RakerS → Dev → Ran) : Dev :=
  let r := s.rk p i
  if !r.live || s.stopped then s
  else match s.fetchInsn p r.pc with
    | none => s
    | some x =>
      if !x.legal || x.key ≠ key then s
      else
        let r1 := { r with pc := (r.pc + x.size) % 2 ^ 48 }
        if x.major < 0x30 && !x.passes r then s.setRk p i r1
        else match f x r1 s with
          | (none, s1, r2) => (s1.setRk p i r2)
          | (some e, s1, r2) => (s1.setRk p i { r2 with pc := r.pc }).takeExc p i e

/-- R601: flags are recorded, or the lowest enabled one traps. -/
def RakerS.raise (r : RakerS) (fl : Nat) : Except Exc RakerS :=
  match trapCode r.traps fl with
  | some c => .error { code := c }
  | none => .ok { r with dflags := r.dflags ||| fl }

/-- An instruction that writes rd from registers alone. -/
def writesRd (f : Insn → RakerS → Except Exc Word) (x : Insn) (r : RakerS) (s : Dev) : Ran :=
  match f x r with
  | .ok v => (none, s, r.setG x.rd v)
  | .error e => (some e, s, r)

/-! Integer arithmetic (Table 16.4) -/

/-- Leading zeros. -/
def clz (n : Nat) (w : Nat) : Nat := if w = 0 then n else n - 1 - Nat.log2 w
/-- Trailing zeros. -/
def ctz (n : Nat) (w : Nat) : Nat := ((List.range n).find? (fun i => bitsOf w i 1 = 1)).getD n
/-- Ones. -/
def popc (n w : Nat) : Nat := ((List.range n).map (fun i => bitsOf w i 1)).sum

/-- R592, R593: the functions of Table 16.4 and Table 16.3's immediates; none: division by zero. -/
def alu (fn : Nat) (a b : Word) : Option Word :=
  let sh := b.toNat % 64
  let ofI := fun (v : Int) => some (BitVec.ofInt 64 v)
  match fn with
  | 0x00 => some (a + b)
  | 0x01 => some (a - b)
  | 0x02 => some (a * b)
  | 0x03 => ofI (a.toInt * b.toInt / 2 ^ 64)
  | 0x04 => some (BitVec.ofNat 64 (a.toNat * b.toNat / 2 ^ 64))
  | 0x05 => if b = 0 then none else ofI (a.toInt.tdiv b.toInt)
  | 0x06 => if b = 0 then none else some (BitVec.ofNat 64 (a.toNat / b.toNat))
  | 0x07 => if b = 0 then none else ofI (a.toInt.tmod b.toInt)
  | 0x08 => if b = 0 then none else some (BitVec.ofNat 64 (a.toNat % b.toNat))
  | 0x10 => some (a &&& b)
  | 0x11 => some (a ||| b)
  | 0x12 => some (a ^^^ b)
  | 0x13 => some (a &&& ~~~b)
  | 0x14 => some (a <<< sh)
  | 0x15 => some (a >>> sh)
  | 0x16 => some (a.sshiftRight sh)
  | 0x17 => some (a.rotateRight sh)
  | 0x18 => some (if a.toInt < b.toInt then a else b)
  | 0x19 => some (if a.toInt < b.toInt then b else a)
  | 0x1A => some (if a.toNat < b.toNat then a else b)
  | 0x1B => some (if a.toNat < b.toNat then b else a)
  | 0x20 => some (BitVec.ofNat 64 (clz 64 a.toNat))
  | 0x21 => some (BitVec.ofNat 64 (ctz 64 a.toNat))
  | 0x22 => some (BitVec.ofNat 64 (popc 64 a.toNat))
  | 0x23 => some (BitVec.ofNat 64 (ofBe (leBytes 8 a.toNat)))
  | 0x28 => ofI (signed 8 a.toNat)
  | 0x29 => ofI (signed 16 a.toNat)
  | 0x2A => ofI (signed 32 a.toNat)
  | 0x2C => some (BitVec.ofNat 64 (a.toNat % 2 ^ 8))
  | 0x2D => some (BitVec.ofNat 64 (a.toNat % 2 ^ 16))
  | _ => some (BitVec.ofNat 64 (a.toNat % 2 ^ 32))

/-- A function of Table 16.4 on ra and rb. -/
def intR (fn : Nat) : Insn → RakerS → Dev → Ran :=
  writesRd fun x r => match alu fn (r.gr x.ra) (r.gr x.rb) with
    | some v => .ok v
    | none => .error { code := 0x10 }

/-- R594: a function of Table 16.4 on ra and the immediate. -/
def intI (fn : Nat) : Insn → RakerS → Dev → Ran :=
  writesRd fun x r => match alu fn (r.gr x.ra) (BitVec.ofInt 64 x.value) with
    | some v => .ok v
    | none => .error { code := 0x10 }

/-- R594: LIH. -/
def lih : Insn → RakerS → Dev → Ran :=
  writesRd fun x r => .ok (setBits (r.gr x.rd) 32 32 (BitVec.ofInt 64 x.imm).toNat)

/-- Table 16.5: a condition on two words. -/
def cond (fn : Nat) (a b : Word) : Bool :=
  match fn with
  | 0 => a = b
  | 1 => a ≠ b
  | 2 => a.toInt < b.toInt
  | 3 => a.toNat < b.toNat
  | 4 => a.toInt ≤ b.toInt
  | _ => a.toNat ≤ b.toNat

def oneIf (c : Bool) : Word := if c then 1 else 0

/-- R595: a compare of ra with rb, and with the immediate. -/
def compareR (fn : Nat) : Insn → RakerS → Dev → Ran := writesRd fun x r => .ok (oneIf (cond fn (r.gr x.ra) (r.gr x.rb)))
def compareI (fn : Nat) : Insn → RakerS → Dev → Ran :=
  writesRd fun x r => .ok (oneIf (cond fn (r.gr x.ra) (BitVec.ofInt 64 x.value)))

/-! Branches (R602, R603) -/

/-- The address of the next instruction stands in PC already; the instruction's own address. -/
def Insn.at_ (x : Insn) (r : RakerS) : Nat := (r.pc + 2 ^ 48 - x.size) % 2 ^ 48

/-- PC + the branch offset. -/
def Insn.target (x : Insn) (r : RakerS) : Nat := (((x.at_ r : Int) + x.value) % 2 ^ 48).toNat

/-- BZ and BNZ. -/
def branch (onZero : Bool) (x : Insn) (r : RakerS) (s : Dev) : Ran :=
  (none, s, if decide (r.gr x.rd = 0) = onZero then { r with pc := x.target r } else r)

/-- JAL. -/
def jal (x : Insn) (r : RakerS) (s : Dev) : Ran :=
  (none, s, { r.setG x.rd (BitVec.ofNat 64 r.pc) with pc := x.target r })

/-- JALR. -/
def jalr (x : Insn) (r : RakerS) (s : Dev) : Ran :=
  let t := getBits (r.gr x.ra) 0 48
  if t % 4 ≠ 0 then (some { code := 4, access := 3 }, s, r) else (none, s, { r.setG x.rd (BitVec.ofNat 64 r.pc) with pc := t })

/-! Memory (R558 to R560, R596 to R598) -/

/-- R560, R561: bytes through the data cache: lines allocate on loads; a poisoned granule is not allocated. -/
def Dev.cachedRead (s : Dev) (r : RakerS) (a n : Nat) : List Byte × Bool × RakerS :=
  let r1 := (granules a n).foldl (fun (r : RakerS) l =>
    if (tget (fun _ => ([] : List Byte)) r.lines l).isEmpty && !s.poisonedAt (l * 64) then
      { r with lines := tput (fun _ => []) r.lines l (s.bytes (l * 64) 64) }
    else r) r
  let line := fun l => tget (fun _ => ([] : List Byte)) r1.lines l
  ((List.range n).map (fun i => (line ((a + i) / 64)).getD ((a + i) % 64) 0),
    (granules a n).any (fun l => (line l).isEmpty), r1)

/-- R560: a store updates the Raker's own cached line. -/
def RakerS.writeThrough (r : RakerS) (a : Nat) (bs : List Byte) : RakerS :=
  { r with lines := r.lines.map (fun l =>
      (l.1, (List.range l.2.length).map (fun k =>
        if a ≤ l.1 * 64 + k ∧ l.1 * 64 + k < a + bs.length then bs.getD (l.1 * 64 + k - a) 0 else l.2.getD k 0))) }

/-- A load of n bytes that cross no page: the bytes or an exception. -/
def Dev.rkLoad (s : Dev) (p _i : Nat) (r : RakerS) (va n : Nat) (nc : Bool) (out : List Nat) :
    Except Exc (List Byte) × Dev × RakerS × List Nat :=
  match s.panXlate p va n 0 2 p with
  | (.control _, s1) => (.error { code := 9 }, s1, r, out)
  | (.exc c k, s1) => (.error { code := c, kind := k }, s1, r, out)
  | (.mem a, s1) =>
    if !nc && (s1.region a = .hbm || s1.region a = .scratch) then
      match s1.cachedRead r a n with
      | (bs, bad, r1) => if bad then (.error { code := 7 }, s1, r1, out) else (.ok bs, s1, r1, out)
    else if s1.poisoned a n then (.error { code := 7 }, s1, r, out)
    else (.ok (s1.bytes a n), s1, r, out)
  | (.out d, s1) =>
    match linkKind (out.headD 0) with
    | some k => (.error { code := 8, kind := k }, s1, r, out.tail)
    | none => match s1.readOut d n with | (bs, s2) => (.ok bs, s2, r, out.tail)

/-- A store of bytes that cross no page. -/
def Dev.rkStore (s : Dev) (p _i : Nat) (r : RakerS) (va : Nat) (bs : List Byte) (out : List Nat) :
    Option Exc × Dev × RakerS × List Nat :=
  match s.panXlate p va bs.length 1 2 p with
  | (.control _, s1) => (some { code := 9, access := 1 }, s1, r, out)
  | (.exc c k, s1) => (some { code := c, kind := k, access := 1 }, s1, r, out)
  | (.mem a, s1) => (none, s1.writeMem a bs, r.writeThrough a bs, out)
  | (.out d, s1) =>
    match linkKind (out.headD 0) with
    | some k => (some { code := 8, kind := k, access := 1 }, s1, r, out.tail)
    | none =>
      if out.headD 0 = 4 then (none, s1.sat (Fld.PAN_COUNT_STORE_DROPS p), r, out.tail)
      else (none, s1.writeDest d bs false false, r, out.tail)

/-- R596: the effective address. -/
def Insn.ea (x : Insn) (r : RakerS) (n : Nat) : Nat := ((((r.gr x.ra).toNat : Int) + x.offset n) % 2 ^ 48).toNat

/-- Bytes of an access of width W. -/
def accessBytes (w : Nat) : Nat := 2 ^ (w % 4)

/-- LD (R596, R597). -/
def load (p i : Nat) (out : List Nat) (x : Insn) (r : RakerS) (s : Dev) : Ran :=
  let w := bitsOf x.w 8 3
  let n := accessBytes w
  let a := x.ea r n
  if a % n ≠ 0 then (some { code := 4 }, s, r)
  else if inControl a then
    (if n ≠ 8 then (some { code := 9 }, s, r)
     else match s.ctlRead p i (a - controlSpace) with
      | some (v, s1) => (none, s1, r.setG x.rd v)
      | none => (some { code := 9 }, s, r))
  else
    match s.rkLoad p i r a n (bitsOf x.w 7 1 = 1) out with
    | (.error e, s1, r1, _) => (some e, s1, r1)
    | (.ok bs, s1, r1, _) =>
      let v := ofLe bs
      (none, s1, r1.setG x.rd (if 4 ≤ w then BitVec.ofInt 64 (signed (8 * n) v) else BitVec.ofNat 64 v))

/-- ST (R596, R563): to control space it is the register's write; a stalled write retires later. -/
def store (p i : Nat) (out : List Nat) (x : Insn) (r : RakerS) (s : Dev) : Ran :=
  let n := accessBytes (bitsOf x.w 8 3)
  let a := x.ea r n
  let v := r.gr x.rd
  if a % n ≠ 0 then (some { code := 4, access := 1 }, s, r)
  else if inControl a then
    (if n ≠ 8 then (some { code := 9, access := 1 }, s, r)
     else match (s.setRk p i r).ctlWrite p i (a - controlSpace) v with
      | .done s1 => (none, s1, s1.rk p i)
      | .stall s1 => (none, s1, { r with pc := x.at_ r })
      | .exc => (some { code := 9, access := 1 }, s, r))
  else
    match s.rkStore p i r a (leBytes n v.toNat) out with
    | (e, s1, r1, _) => (e, s1, r1)

/-- AADD, ASWAP, ACAS (R598): fn 0, 1, 2. -/
def atomic (p fn : Nat) (out : List Nat) (x : Insn) (r : RakerS) (s : Dev) : Ran :=
  let a := getBits (r.gr x.ra) 0 48
  let b := r.gr x.rb
  let c := r.gr x.rd
  if a % 8 ≠ 0 then (some { code := 4, access := 2 }, s, r)
  else
    match s.panXlate p a 8 2 2 p with
    | (.control _, s1) => (some { code := 9, access := 2 }, s1, r)
    | (.exc k l, s1) => (some { code := k, kind := l, access := 2 }, s1, r)
    | (.mem m, s1) =>
      if s1.poisoned m 8 then (some { code := 7, access := 2 }, s1, r)
      else
        let old : Word := BitVec.ofNat 64 (ofLe (s1.bytes m 8))
        let s2 := match fn with
          | 0 => s1.writeMem m (leBytes 8 (old + b).toNat)
          | 1 => s1.writeMem m (leBytes 8 b.toNat)
          | _ => if old = c then s1.writeMem m (leBytes 8 b.toNat) else s1
        let r1 := { r with lines := tdel (m / 64) r.lines }
        (none, s2, r1.setG x.rd old)
    | (.out d, s1) =>
      match linkKind (out.headD 0) with
      | some k => (some { code := 8, kind := k, access := 2 }, s1, r)
      | none =>
        let f := match d with | .host f h _ => [f, h] | .ap n h => [n, h] | .mem h => [0, h]
        let s2 := { s1.hostSend ⟨.hostAtomic, f ++ [fn, s1.nextTag], leBytes 8 b.toNat ++ leBytes 8 c.toNat⟩ with nextTag := s1.nextTag + 1 }
        match s2.outside (match d with | .host _ h _ => h | .ap _ h => h | .mem h => h) 8 with
        | (bs, s3) => (none, s3, r.setG x.rd (BitVec.ofNat 64 (ofLe bs)))

/-! Floating point (R599 to R601) -/

/-- A value of a format in a g register. -/
def RakerS.fp (r : RakerS) (x : Insn) (n : Nat) : Nat := bitsOf (r.gr n).toNat 0 (fmtBits (bitsOf x.w 0 3))

/-- An operation that writes rd and raises flags. -/
def floatWrites (f : Insn → RakerS → Nat × Nat) (x : Insn) (r : RakerS) (s : Dev) : Ran :=
  match f x r with
  | (v, fl) =>
    match r.raise fl with
    | .error e => (some e, s, r)
    | .ok r1 => (none, s, r1.setG x.rd (BitVec.ofNat 64 v))

/-- The layout fn[2:0] names. -/
def Insn.ffmt (x : Insn) : FFmt := Sys2Proof.Machine.ffmt (bitsOf x.w 0 3)

/-- FADD, FSUB, FMUL, FDIV, FMIN, FMAX: operation 0, 1, 2, 3, 5, 6. -/
def floatR (op : Nat) : Insn → RakerS → Dev → Ran :=
  floatWrites fun x r => floatOp x.ffmt op r.mode (r.fp x x.ra) (r.fp x x.rb)

/-- FCEQ, FCLT, FCLE. -/
def floatTest (c : Nat) : Insn → RakerS → Dev → Ran :=
  floatWrites fun x r =>
    match numTest c (decodeF x.ffmt (r.fp x x.ra)) (decodeF x.ffmt (r.fp x x.rb)) with
    | (v, fl) => (if v then 1 else 0, fl)

/-! Decimal (R605 to R612) -/

/-- DDATA for operand 0 ra, 1 rb, 2 ra + 1 at a nibble (R612). -/
def ddata (operand nibble : Nat) : Exc := { code := 0x16, flane := some (nibble + 32 * operand) }
def dovf : Exc := { code := 0x17 }

/-- `val` of a register's P15. -/
def RakerS.p15 (r : RakerS) (n operand : Nat) : Except Exc Int :=
  match decVal 16 (r.gr n).toNat with
  | .ok v => .ok v
  | .error k => .error (ddata operand k)

/-- `enc` into rd. -/
def encP15 (v : Int) : Except Exc Word :=
  match decEnc 16 v with
  | some w => .ok (BitVec.ofNat 64 w)
  | none => .error dovf

/-- DADD and DSUB. -/
def decimalSum (sub : Bool) : Insn → RakerS → Dev → Ran :=
  writesRd fun x r =>
    match r.p15 x.ra 0 with
    | .error e => .error e
    | .ok a => match r.p15 x.rb 1 with
      | .error e => .error e
      | .ok b => encP15 (if sub then a - b else a + b)

/-- DMULD: the 30-digit product in rd and rd + 1. -/
def decimalMul (x : Insn) (r : RakerS) (s : Dev) : Ran :=
  match r.p15 x.ra 0 with
  | .error e => (some e, s, r)
  | .ok a => match r.p15 x.rb 1 with
    | .error e => (some e, s, r)
    | .ok b =>
      let m := (a * b).natAbs
      let sg := if a * b < 0 then 0xD else 0xC
      (none, s, (r.setG x.rd (BitVec.ofNat 64 (decDigits 16 (m % 10 ^ 15) + sg))).setG (x.rd + 1)
        (BitVec.ofNat 64 (decDigits 16 (m / 10 ^ 15) + sg)))

/-- DCMP. -/
def decimalCmp : Insn → RakerS → Dev → Ran :=
  writesRd fun x r =>
    match r.p15 x.ra 0 with
    | .error e => .error e
    | .ok a => match r.p15 x.rb 1 with
      | .error e => .error e
      | .ok b => .ok (BitVec.ofInt 64 (if a < b then -1 else if a = b then 0 else 1))

/-- The source of DSHR and DRND: one register, or the pair of R608. -/
def decimalPair (x : Insn) (r : RakerS) : Except Exc Int :=
  if bitsOf x.w 4 1 = 0 then r.p15 x.ra 0
  else
    match r.p15 x.ra 0 with
    | .error e => .error e
    | .ok lo => match r.p15 (x.ra + 1) 2 with
      | .error e => .error e
      | .ok hi =>
        let neg := fun n => decide (nib (r.gr n).toNat 0 = 0xD)
        if neg x.ra != neg (x.ra + 1) then .error (ddata 2 0) else .ok (hi * 10 ^ 15 + lo)

/-- DSHR and DRND under a mode; DNX where a digit was lost (R609). -/
def decimalShift (mode : RakerS → Nat) (x : Insn) (r : RakerS) (s : Dev) : Ran :=
  match decimalPair x r with
  | .error e => (some e, s, r)
  | .ok v =>
    match decShift (mode r) v x.rb with
    | (q, ix) =>
      match encP15 q with
      | .error e => (some e, s, r)
      | .ok w => (none, s, { r.setG x.rd w with dflags := r.dflags ||| (if ix then 32 else 0) })

/-- DADJ. -/
def decimalAdj : Insn → RakerS → Dev → Ran :=
  writesRd fun x r =>
    match r.p15 x.ra 0 with
    | .error e => .error e
    | .ok v => match x.rb with
      | 0 => encP15 v
      | 1 => encP15 v.natAbs
      | 2 => encP15 (-v)
      | _ => match encP15 v.natAbs with
        | .ok w => .ok (setBits w 0 4 0xF)
        | .error e => .error e

/-! Special registers (Table 16.1) -/

/-- R588: a special register's value; s.cycle counts a clock whose cycles the model does not count: a free value. -/
def Dev.readSpecial (s : Dev) (r : RakerS) (n : Nat) : Word × Dev :=
  match n with
  | 0 => (r.cause, s)
  | 1 => (BitVec.ofNat 64 r.epc, s)
  | 2 => (BitVec.ofNat 64 r.flane, s)
  | 3 => (BitVec.ofNat 64 r.round, s)
  | 4 => (BitVec.ofNat 64 r.dflags, s)
  | 5 => (BitVec.ofNat 64 (Config.freeNat s.free), s.tick)
  | _ => (BitVec.ofNat 64 s.tide, s)

/-- R588: SWR keeps the defined bits. -/
def RakerS.writeSpecial (r : RakerS) (n : Nat) (v : Word) : RakerS :=
  match n with
  | 0 => { r with cause := v }
  | 1 => { r with epc := getBits v 0 48 }
  | 2 => { r with flane := getBits v 0 8 }
  | 3 => { r with round := getBits v 0 2 + getBits v 4 5 * 16 }
  | _ => { r with dflags := getBits v 0 6 }

end Sys2Proof.Machine
end

