-- ==== Sys2Proof/Machine/Clock.lean ====
section
/-! DEFINITION. Clock islands: frequency changes, locks, references and delay lines (spec/03). -/

namespace Sys2Proof.Machine

/-- Table 3.1: the output range of an adjustable island in kHz. -/
def islandMax (n : Nat) : Nat := if n < 64 then 2200000 else 1600000

/-- R101: whether a setting is valid for an island. -/
def settingOk (n nint frac div : Nat) : Bool :=
  let ratio := nint * 2 ^ 24 + frac
  -- f_pll = 100,000 kHz × ratio / (2^24 × 2 × DIV)
  decide (60 ≤ nint ∧ nint ≤ 119 ∧ 2 ≤ div ∧ div ≤ 15 ∧ 400000 * (2 ^ 24 * 2 * div) ≤ 100000 * ratio ∧
    100000 * ratio ≤ islandMax n * (2 ^ 24 * 2 * div))

/-- A setting as CLK_ISL_TARGET lays it out. -/
def packSetting (nint frac div ref : Nat) : Nat := pack [(0, 24, frac), (24, 7, nint), (32, 4, div), (36, 1, ref)]

/-- A change takes effect: EPOCH advances, BUSY clears, CLOCK_CHANGE is posted (step 6 of the route). -/
def Dev.clockEffect (s : Dev) (n : Nat) : Dev :=
  let c := s.isl n
  let s1 := s.setIsl n { c with inUse := c.target, change := 0, onSafe := false, fails := 0 }
  let s2 := ((s1.wrap (Fld.CLK_ISL_STATUS_EPOCH n)).put (Fld.CLK_ISL_STATUS_BUSY n) 0).syncPath n
  s2.signal 0 0x0011 0 n (s2.get (Fld.CLK_ISL_STATUS_EPOCH n))

/-- The island runs on its PLL again without a new setting. -/
def Dev.clockBack (s : Dev) (n : Nat) : Dev :=
  let s1 := s.setIsl n { s.isl n with change := 0, onSafe := false, fails := 0 }
  (s1.put (Fld.CLK_ISL_STATUS_BUSY n) 0).syncPath n

/-- R762, R131: in Slack the PLL is off, and a change in progress ends: a new setting is loaded at once (DEDUCED). -/
def Dev.pllOff (s : Dev) (n : Nat) : Dev :=
  let c := s.isl n
  let s1 := s.put (Fld.CLK_ISL_STATUS_LOCKED n) 0
  if c.change = 1 || c.change = 2 || c.change = 6 then s1.clockEffect n
  else if c.change = 0 then s1
  else s1.clockBack n

/-- R120: a write to CLK_ISL_TARGET_n. -/
def Dev.clkWrite (s : Dev) (n : Nat) (v : Word) (size off : Nat) : Dev :=
  let k := Reg.CLK_ISL_TARGET n
  let commit := woBits v size off 63 1 = 1
  if 96 ≤ n then (if commit then s.put (Fld.CLK_ISL_STATUS_REFUSED n) 1 else s)
  else if !commit then s.writeReg k v size off
  else
    let f := fun lo len => (woBits v size off lo len) ||| (getBits (s.reg k) lo len &&& ((2 ^ len - 1) ^^^ laneMask size off lo len))
    let frac := f 0 24
    let nint := f 24 7
    let div := f 32 4
    let ref := f 36 1
    if !settingOk n nint frac div || s.on (Fld.CLK_ISL_STATUS_BUSY n) then s.put (Fld.CLK_ISL_STATUS_REFUSED n) 1
    else
      let st := s.get (Fld.PWR_ISL_STATE n)
      let tgt := packSetting nint frac div ref
      let s1 := (s.setReg k (BitVec.ofNat 64 tgt)).put (Fld.CLK_ISL_STATUS_LOCK_FAIL n) 0
      let c := s1.isl n
      let glide := decide (div = (s.inUse n).2.2) && decide (ref = s.get (Fld.CLK_ISL_STATUS_REF_IN_USE n)) && !c.onSafe
        && s.on (Fld.CLK_ISL_STATUS_LOCKED n)
      if st = 3 then
        -- R131: in Slack the setting is loaded at once
        ((s1.setIsl n { c with target := tgt }).put (Fld.CLK_ISL_STATUS_REF_IN_USE n) ref).clockEffect n
      else if glide then
        (s1.setIsl n { c with target := tgt, change := 1, fails := 0 }).put (Fld.CLK_ISL_STATUS_BUSY n) 1
      else
        let s2 := s1.setIsl n { c with target := tgt, change := 2, fails := 0, onSafe := true }
        (((s2.put (Fld.CLK_ISL_STATUS_BUSY n) 1).put (Fld.CLK_ISL_STATUS_LOCKED n) 0).put (Fld.CLK_ISL_STATUS_REF_IN_USE n) ref).syncPath n

/-- The validity of a reference. -/
def Dev.refValid (s : Dev) (r : Nat) : Bool := if r = 0 then s.on Fld.CLK_REF_STATUS_REF0_VALID else s.on Fld.CLK_REF_STATUS_REF1_VALID

/-- R102, R128, R131: the PLL of an island reaches lock. -/
def Dev.pllLocked (s : Dev) (n : Nat) : Dev :=
  let c := s.isl n
  if s.on (Fld.CLK_ISL_STATUS_LOCKED n) || c.change = 0 || c.change = 1
      || (n ≠ 115 && !s.refValid (s.get (Fld.CLK_ISL_STATUS_REF_IN_USE n))) then s
  else
    let s1 := s.put (Fld.CLK_ISL_STATUS_LOCKED n) 1
    let relock := c.change = 3 || c.change = 6
    let s2 := if relock then (s1.sat (Fld.CLK_ISL_STATUS_RELOCKS n)).classified 0x060D n 0xFF 0
      else if c.change = 4 then s1.sat (Fld.CLK_ISL_STATUS_RELOCKS n) else s1
    let stopped := n < 96 ∧ (s2.get (Fld.PWR_ISL_STATE n) = 2 ∨ s2.get (Fld.PWR_ISL_STATE n) = 3)
    if stopped then (if c.change = 2 || c.change = 6 then s2.clockEffect n else s2.clockBack n)
    else s2

/-- R106, R130: the mux move back to the PLL path is over; under the brake the island stays on the safe clock. -/
def Dev.muxDone (s : Dev) (n : Nat) : Dev :=
  let c := s.isl n
  if !s.on (Fld.CLK_ISL_STATUS_LOCKED n) || !c.onSafe || s.cause.kill || (n < 96 && s.on Fld.PWR_STATUS_BRAKE) then s
  else if c.change = 2 || c.change = 6 then s.clockEffect n
  else s.clockBack n

/-- R110, R129: a glide reaches its target; it pauses while the brake is applied. -/
def Dev.glideDone (s : Dev) (n : Nat) : Dev :=
  if (s.isl n).change = 1 && !s.on Fld.PWR_STATUS_BRAKE then s.clockEffect n else s

/-- R128: a PLL loses lock with its reference present. -/
def Dev.lockLost (s : Dev) (n : Nat) : Dev :=
  if !s.on (Fld.CLK_ISL_STATUS_LOCKED n) || s.cause.kill then s
  else
    let c := s.isl n
    let ch := if c.change = 1 || c.change = 2 || c.change = 6 then 6 else 3
    let s1 := s.setIsl n { c with change := ch, fails := 0, onSafe := true }
    (((s1.put (Fld.CLK_ISL_STATUS_LOCKED n) 0).put (Fld.CLK_ISL_STATUS_LOCK_LOST n) 1).put (Fld.CLK_ISL_STATUS_BUSY n) 1).syncPath n

/-- R128: a relock attempt times out; the third sets LOCK_FAIL. -/
def Dev.relockFail (s : Dev) (n : Nat) : Dev :=
  let c := s.isl n
  if s.on (Fld.CLK_ISL_STATUS_LOCKED n) || c.change = 0 || c.change = 1 then s
  else if c.fails + 1 < 3 then s.setIsl n { c with fails := c.fails + 1 }
  else
    let s1 := s.setIsl n { c with change := 0, fails := 0 }
    let s2 := (s1.put (Fld.CLK_ISL_STATUS_LOCK_FAIL n) 1).put (Fld.CLK_ISL_STATUS_BUSY n) 0
    s2.classified (if n < 96 then 0x060E else 0x060F) n 0xFF 0

/-- R125: an island whose PLL takes the lost reference fails over. -/
def Dev.failover (s : Dev) (r n : Nat) : Dev :=
  if s.get (Fld.CLK_ISL_STATUS_REF_IN_USE n) ≠ r then s
  else if n < 96 ∧ s.get (Fld.PWR_ISL_STATE n) = 3 then s.put (Fld.CLK_ISL_STATUS_REF_IN_USE n) (1 - r)
  else
    let c := s.isl n
    let s1 := s.put (Fld.CLK_ISL_STATUS_REF_IN_USE n) (1 - r)
    let ch := if c.change = 1 || c.change = 2 then 2 else if c.change = 6 then 6 else 4
    let s2 := s1.setIsl n { c with change := ch, fails := 0, onSafe := true }
    ((s2.put (Fld.CLK_ISL_STATUS_LOCKED n) 0).put (Fld.CLK_ISL_STATUS_BUSY n) 1).syncPath n

/-- R515: the time base's source: the first valid of REFCLK1, REFCLK0, the standby oscillator; a change makes a LOCKED
servo ACQUIRING. -/
def Dev.syncSource (s : Dev) : Dev :=
  let src := if s.refValid 1 then 0 else if s.refValid 0 then 1 else 2
  if s.get Fld.TID_STATUS_SOURCE = src then s
  else
    let s1 := s.put Fld.TID_STATUS_SOURCE src
    if s1.get Fld.TID_STATUS_SERVO = 2 then
      { s1.put Fld.TID_STATUS_SERVO 1 with time := { s1.time with lockRun := 0 } }
    else s1

/-- R100, R125, R127: a reference is declared lost. -/
def Dev.refLost (s : Dev) (r : Nat) : Dev :=
  if 1 < r || !s.refValid r then s
  else
    let s1 := if r = 0 then (s.put Fld.CLK_REF_STATUS_REF0_VALID 0).put Fld.CLK_REF_STATUS_REF0_LOST 1
      else (s.put Fld.CLK_REF_STATUS_REF1_VALID 0).put Fld.CLK_REF_STATUS_REF1_LOST 1
    if s1.refValid (1 - r) then
      ((List.range 115).foldl (fun s n => s.failover r n) s1).classified 0x060B r 0xFF 0
    else
      let s2 := (s1.put Fld.CLK_REF_STATUS_BOTH_LOST 1).put Fld.CLK_REF_STATUS_SBO_SAFE 1
      let s3 := (List.range 115).foldl (fun s n =>
        let c := s.isl n
        let ch := if c.change = 1 || c.change = 2 then 2 else if c.change = 6 then 6 else 4
        (((s.setIsl n { c with change := ch, fails := 0, onSafe := true }).put (Fld.CLK_ISL_STATUS_LOCKED n) 0).put
          (Fld.CLK_ISL_STATUS_BUSY n) 1).syncPath n) s2
      s3.classified 0x060C 0 0xFF 0

/-- R100, R104, R126: a reference is declared valid again. -/
def Dev.refValidAgain (s : Dev) (r : Nat) : Dev :=
  if 1 < r then s
  else (if r = 0 then s.put Fld.CLK_REF_STATUS_REF0_VALID 1 else s.put Fld.CLK_REF_STATUS_REF1_VALID 1).put Fld.CLK_REF_STATUS_SBO_SAFE 0

/-- ISLAND_ENTRY_DONE (R766): the entry completes; a wake that came meanwhile makes the island exit at once. -/
def execIslandEntryDone (n : Nat) (s : State) : Out :=
  s.dv fun d =>
    let m := tget (fun _ => 0) d.power.moving n
    if n < 96 ∧ (m = 1 ∨ m = 2 ∨ m = 5 ∨ m = 6) then
      let slack := m % 4 = 2
      let d1 := (d.put (Fld.PWR_ISL_STATE n) (if slack then 3 else 2)).put (Fld.PWR_ISL_DIV n) 0
      let d2 := if slack then d1.sat (Fld.PWR_ISL_SLACKS n) else d1.sat (Fld.PWR_ISL_NEAPS n)
      let d3 := if slack then d2.pllOff n else d2
      ({ d3 with power := { d3.power with moving := tput (fun _ => 0) d3.power.moving n (if m < 4 then 0 else 3) } }).syncPath n
    else d

/-! Delay lines -/

/-- A link that exists (Table 2.2). -/
def linkOk (n : Nat) : Bool := n ≤ 13 || (16 ≤ n && n ≤ 20)

/-- R115, R116: a master DLL loses lock: of a strand half of a link (`ch` = 16 × direction + strand), or of a channel of a
stack. -/
def Dev.dllUnlock (s : Dev) (hbm : Bool) (unit ch : Nat) : Dev :=
  if hbm then
    if 8 ≤ unit then s
    else { s.put ⟨Reg.CLK_DLL_FAULT, 21 + unit, 1⟩ 1 with cause := { s.cause with
      dllHbm := if s.cause.dllHbm.any (fun c => c.1 = unit * 64 + ch) then s.cause.dllHbm else (unit * 64 + ch, false) :: s.cause.dllHbm } }
  else if linkOk unit then
    let k := unit * 32 + ch % 32
    { s.put ⟨Reg.CLK_DLL_FAULT, unit, 1⟩ 1 with cause := { s.cause with
      dllLinks := if s.cause.dllLinks.contains k then s.cause.dllLinks else k :: s.cause.dllLinks } }
  else s

/-- R115, R116: the master relocks: a corrected error; an HBM channel past its hold stays lost. -/
def Dev.dllRelock (s : Dev) (hbm : Bool) (unit ch : Nat) : Dev :=
  if hbm then
    if s.cause.dllHbm.contains (unit * 64 + ch, false) then
      { s with cause := { s.cause with dllHbm := s.cause.dllHbm.erase (unit * 64 + ch, false) } }.classified 0x0609 (0x100 + unit) 0xFF 0
    else s
  else if s.cause.dllLinks.contains (unit * 32 + ch % 32) then
    { s with cause := { s.cause with dllLinks := s.cause.dllLinks.erase (unit * 32 + ch % 32) } }.classified 0x0609 unit 0xFF 0
  else s

/-- R116: 2 µs have passed without a relock. -/
def Dev.hbmHoldExpiry (s : Dev) (unit ch : Nat) : Dev :=
  if s.cause.dllHbm.contains (unit * 64 + ch, false) then
    { s with cause := { s.cause with dllHbm := (unit * 64 + ch, true) :: s.cause.dllHbm.erase (unit * 64 + ch, false) } }.classified
      0x060A (0x100 + unit) 0xFF ch
  else s

/-- R113, R114: tracking moves one slave tap by at most one tap; `up` and `down` say which way. -/
def Dev.dllTrack (s : Dev) (hbm : Bool) (unit lane : Nat) (up down : Bool) : Dev :=
  if (hbm && decide (8 ≤ unit)) || (!hbm && !linkOk unit) then s
  else
    let k := (if hbm then 0x100 + unit else unit) * 4096 + lane
    let d := tget (fun _ => 0) s.cause.drift k
    let d' := if up && !down then d + 1 else if down && !up then d - 1 else d
    let s1 := { s with cause := { s.cause with drift := tput (fun _ => 0) s.cause.drift k d' } }
    if d.natAbs ≤ 16 ∧ 16 < d'.natAbs then
      (s1.put ⟨Reg.CLK_DLL_FAULT, (if hbm then 50 else 29) + unit, 1⟩ 1).classified 0x0608 (if hbm then 0x100 + unit else unit) 0xFF 0
    else s1

/-! The commands -/

/-- CLK_COMMIT (R120): a write to CLK_ISL_TARGET_n. -/
def execClkCommit (n : Nat) (v : Word) (s : State) : Out := s.dv fun d => if n < 116 then d.clkWrite n v 8 0 else d

/-- PLL_LOCKED (R102). -/
def execPllLocked (n : Nat) (s : State) : Out := s.dv fun d => if n < 116 then d.pllLocked n else d

/-- MUX_MOVE_DONE (R106). -/
def execMuxMoveDone (n : Nat) (s : State) : Out := s.dv fun d => if n < 116 then d.muxDone n else d

/-- GLIDE_DONE (R110). -/
def execGlideDone (n : Nat) (s : State) : Out := s.dv fun d => if n < 96 then d.glideDone n else d

/-- PLL_LOCK_LOST (R128). -/
def execPllLockLost (n : Nat) (s : State) : Out := s.dv fun d => if n < 116 then d.lockLost n else d

/-- RELOCK_FAIL (R128). -/
def execRelockFail (n : Nat) (s : State) : Out := s.dv fun d => if n < 116 then d.relockFail n else d

/-- REF_LOST (R100, R125, R127). -/
def execRefLost (r : Nat) (s : State) : Out := s.dv fun d => (d.refLost r).syncSource

/-- REF_VALID_AGAIN (R100, R126). -/
def execRefValidAgain (r : Nat) (s : State) : Out := s.dv fun d => (d.refValidAgain r).syncSource

/-- DLL_UNLOCK (R115, R116). -/
def execDllUnlock (hbm : Bool) (unit ch : Nat) (s : State) : Out := s.dv (·.dllUnlock hbm unit ch)

/-- DLL_RELOCK (R115, R116). -/
def execDllRelock (hbm : Bool) (unit ch : Nat) (s : State) : Out := s.dv (·.dllRelock hbm unit ch)

/-- HBM_DLL_HOLD_EXPIRY (R116). -/
def execHbmDllHoldExpiry (unit ch : Nat) (s : State) : Out := s.dv (·.hbmHoldExpiry unit ch)

/-- DLL_TRACK (R113, R114). -/
def execDllTrack (hbm : Bool) (unit lane : Nat) (up down : Bool) (s : State) : Out := s.dv (·.dllTrack hbm unit lane up down)

end Sys2Proof.Machine
end

