-- ==== Sys2Proof/Machine/Causeway.lean ====
section
/-! DEFINITION. The Causeway: flits, replay, spare strands, the alarm ring, and the HBM and Cistern maps (spec/02). -/

namespace Sys2Proof.Machine

/-! CRC (R64) -/

/-- CRC-16, polynomial 0x1021, one bit. -/
def crcBit (crc : Nat) (bit : Nat) : Nat :=
  let top := crc / 32768 % 2
  let sh := crc * 2 % 65536
  if top = bit then sh else Nat.xor sh 0x1021

/-- One byte, most significant bit first. -/
def crcByte (crc : Nat) (b : Nat) : Nat := (List.range 8).foldl (fun c i => crcBit c (b / 2 ^ (7 - i) % 2)) crc

/-- R64: over bytes 0 to 63 and the control word (A[15:2] << 2) | B MARK. -/
def flitCrc (data : List Byte) (actl bctl : Nat) : Nat :=
  let w := actl / 4 * 4 + bctl / 16384
  (data.map (·.toNat) ++ [w / 256, w % 256]).foldl crcByte 0xFFFF

/-! Strand halves: link × 32 + direction × 16 + strand -/

def halfKey (link dir strand : Nat) : Nat := link * 32 + dir * 16 + strand
def Dev.half (s : Dev) (k : Nat) : StrandHalf := tget (fun _ => StrandHalf.init) s.cause.half k
def Dev.setHalf (s : Dev) (k : Nat) (h : StrandHalf) : Dev :=
  { s with cause := { s.cause with half := tput (fun _ => StrandHalf.init) s.cause.half k h } }

/-- Table 2.2: data strands of a link; a tow strand has one. -/
def strandCount (link : Nat) : Nat :=
  if link ≤ 5 then 6 else if link ≤ 9 then 8 else if link ≤ 11 then 3 else if link ≤ 13 then 2 else 1

/-- R71, R73: SWAP: the spare takes the strand's position and the buffered flits are resent on it; with the spare in use,
and on a tow strand, the link is lost. -/
def Dev.strandSwap (s : Dev) (link strand : Nat) : Dev :=
  if 16 ≤ link || s.on (Fld.ERR_GLEDA_SPARE_USED link) then
    if s.on (Fld.ERR_GLEDA_LINK_LOST link) then s
    else (s.put (Fld.ERR_GLEDA_LINK_LOST link) 1).classified 0x0603 link 0xFF 0
  else
    let s1 := (s.put (Fld.ERR_GLEDA_RETIRED link) strand).put (Fld.ERR_GLEDA_SPARE_USED link) 1
    let s2 := s1.emit .gledaCtl [link, 1, strand]
    let s3 := [0, 1].foldl (fun s d =>
      let k := halfKey link d strand
      let h := s.half k
      h.buf.foldl (fun s f => s.emit .flit [link, f.1, f.2.1] f.2.2) (s.setHalf k { h with fails := 0, replayFrom := 0 })) s2
    s3.classified 0x0602 link 0xFF strand

/-- R71: one more replay of the expected flit is asked for; the eighth failure sends SWAP. -/
def Dev.requestReplay (s : Dev) (link dir strand : Nat) : Dev :=
  let k := halfKey link dir strand
  let h := s.half k
  let want := (h.lastGood + 1) % 1024
  let fails := if h.replayFrom = 0 then 0 else h.fails + 1
  if 8 ≤ fails then s.strandSwap link strand
  else
    let s1 := s.setHalf k { h with fails := fails, replayFrom := want + 1 }
    ((s1.sat (Fld.ERR_GLEDA_REPLAYS link)).emit .gledaCtl [link, 0, want]).classified 0x0601 link 0xFF 0

/-- R68 to R70: a link-control payload acts on the strand it names, in the other direction. -/
def Dev.linkControl (s : Dev) (link dir : Nat) (data : List Byte) : Dev :=
  let w := ofLe (data.take 8)
  let strand := bitsOf w 23 4
  if strandCount link ≤ strand then s
  else
    let k := halfKey link (1 - dir) strand
    let h := s.half k
    let ack := bitsOf w 0 10
    let buf := if bitsOf w 10 1 = 1 then h.buf.filter (fun f => !(same f.1 ack 10 || before f.1 ack 10)) else h.buf
    let s1 := s.setHalf k { h with buf := buf }
    let s2 := if bitsOf w 21 1 = 1 then
        let from_ := bitsOf w 11 10
        (buf.filter (fun f => same f.1 from_ 10 || after f.1 from_ 10)).foldl (fun s f => s.emit .flit [link, f.1, f.2.1] f.2.2) s1
      else s1
    if bitsOf w 22 1 = 1 then s2.strandSwap link strand else s2

/-- R74: the strand merge delivers flits in rotation while the position it waits for has one. -/
def Dev.strandMerge : Nat → Dev → Nat → Nat → Dev
  | 0, s, _, _ => s
  | fuel + 1, s, link, dir =>
    let r := tget (fun _ => 0) s.cause.step (link * 2 + dir)
    let k := halfKey link dir (r % strandCount link)
    let h := s.half k
    match h.merge with
    | [] => s
    | f :: rest =>
      let s1 := s.setHalf k { h with merge := rest }
      let s2 := { s1 with cause := { s1.cause with
        step := tput (fun _ => 0) s1.cause.step (link * 2 + dir) (r + 1)
        delivered := (link, f.1, f.2) :: s1.cause.delivered } }
      Dev.strandMerge fuel s2 link dir

/-- R67: a strand half takes two bursts: control words and the 64 data bytes. -/
def Dev.flitReceive (s : Dev) (link dir strand actl bctl : Nat) (data : List Byte) : Dev :=
  if !linkOk link || decide (strandCount link ≤ strand) || s.on (Fld.ERR_GLEDA_LINK_LOST link) then s
  else
    let ma := bitsOf actl 14 2
    let mb := bitsOf bctl 14 2
    if ma = 0 && mb = 0 then s
    else
      let crc := bitsOf actl 0 2 * 2 ^ 14 + bitsOf bctl 0 14
      let lone := ma ≠ 1 || mb ≠ 2 || flitCrc data actl bctl ≠ crc || s.cause.dllLinks.contains (halfKey link dir strand)
      let k := halfKey link dir strand
      let h := s.half k
      let seq := bitsOf actl 4 10
      let type := bitsOf actl 2 2
      if lone then (s.sat (Fld.ERR_GLEDA_LONE link)).requestReplay link dir strand
      else if type = 3 then s.linkControl link dir data
      else if same seq (h.lastGood + 1) 10 then
        let h' := { h with
          lastGood := seq, fails := 0, replayFrom := 0
          merge := (h.merge ++ [(type, data)])
          buf := ((h.buf ++ [(seq, type, data)]).drop (h.buf.length + 1 - 512)) }
        Dev.strandMerge (64 * strandCount link) (s.setHalf k h') link dir
      else s

/-! The HBM map (R79) -/

/-- R79: the quad a VA of a ring's context lies in, by a walk that uses no cache and records nothing; none on a fault. -/
def Dev.quadOf (s : Dev) (ctx va : Nat) : Option Nat :=
  match s.walk ctx va with
  | .ok (e, lvl) =>
    let dpa := leafDpa e lvl va
    if dpa < 0x4000000000 then some (dpa / 2 ^ 35) else none
  | .error _ => none

/-- R79: the quads that hold an array or mirror word of an enabled ring. -/
def Dev.ringQuads (s : Dev) : List Nat :=
  s.ringsOn.flatMap (fun x =>
    let b := x / 64
    let r := x % 64
    let n := s.ringSize b r
    let pages := fun base len => (List.range ((len + 4095) / 4096)).filterMap (fun i => s.quadOf b (base + 4096 * i))
    (if s.isSignal b r then [] else pages (s.get (Fld.RING_DESC_TBASE_TBASE b r)) (64 * n))
      ++ pages (s.get (Fld.RING_DESC_ABASE_ABASE b r)) (32 * n)
      ++ (if s.on (Fld.RING_DESC_MIRROR_MIRROR_EN b r) then (s.quadOf b (s.get (Fld.RING_DESC_MIRROR_MIRROR_VA b r))).toList else []))

/-- R79: whether a mooring's pages lie in a region: quad q, or 8 + 16 k + u for unit u of Cistern k.  The vault region is
made of moorings' pages (R819). -/
def Dev.moorIn (s : Dev) (region : Nat) : Bool := s.moorPages.any (fun m => m.2.any (fun p => p.1 = region && 0 < p.2))

/-- R79: the Toll region lies in a quad. -/
def Dev.tollIn (s : Dev) (q : Nat) : Bool :=
  decide (0 < s.tollSize ∧ s.tollBase < (q + 1) * 2 ^ 35 ∧ q * 2 ^ 35 < s.tollBase + s.tollSize)

/-- R79: a write to IDENT_HBM_MAP. -/
def Dev.hbmMapWrite (s : Dev) (v : Word) (size off : Nat) : Dev :=
  let old := s.get Fld.IDENT_HBM_MAP_QUAD_HOME
  let w := s.writeReg Reg.IDENT_HBM_MAP v size off
  let new := w.get Fld.IDENT_HBM_MAP_QUAD_HOME
  let changed := (List.range 8).filter (fun q => old / 2 ^ q % 2 ≠ new / 2 ^ q % 2)
  let rq := if changed.isEmpty then [] else s.ringQuads
  if changed.any (fun q => s.moorIn q || s.tollIn q || rq.contains q) then
    (w.put Fld.IDENT_HBM_MAP_QUAD_HOME old).put Fld.IDENT_HBM_MAP_MAP_REFUSED 1
  else changed.foldl (fun s q => s.scrambleMem (q * 2 ^ 35) (2 ^ 35)) w

/-! The Cistern split (R81, R82) -/

/-- The scratch units of a die in a register word. -/
def scratchOf (w : Word) (k : Nat) : Nat := getBits w (5 * k) 5

/-- R81, R82: a write to IDENT_CISTERN. -/
def Dev.cisternWrite (s : Dev) (v : Word) (size off : Nat) : Dev :=
  let old := s.reg Reg.IDENT_CISTERN
  let w := s.writeReg Reg.IDENT_CISTERN v size off
  let new := w.reg Reg.IDENT_CISTERN
  let units := (List.range 64).filterMap (fun x =>
    let k := x / 16
    let u := x % 16
    let a := decide (u < scratchOf old k)
    let b := decide (u < scratchOf new k)
    if a = b then none else some (x, b))
  if (s.on Fld.IDENT_CISTERN_BUSY) || units.any (fun u => !u.2 && s.moorIn (8 + u.1)) then
    (w.setReg Reg.IDENT_CISTERN (setBits new 0 20 (getBits old 0 20))).put Fld.IDENT_CISTERN_CIS_REFUSED 1
  else if units.isEmpty then w
  else { w.put Fld.IDENT_CISTERN_BUSY 1 with cause := { w.cause with cisChange := units } }

/-- R82: the change is carried out. -/
def Dev.cisternDone (s : Dev) : Dev :=
  if !s.on Fld.IDENT_CISTERN_BUSY then s
  else
    let s1 := s.cause.cisChange.foldl (fun s u => s.zeroMem (0x4000000000 + u.1 / 16 * 0x4000000 + u.1 % 16 * 0x400000) 0x400000) s
    { s1.put Fld.IDENT_CISTERN_BUSY 0 with cause := { s1.cause with cisChange := [] } }

/-! The commands -/

/-- FLIT_RECEIVE (R67): link and direction, strand, the control words of bursts A and B, the data. -/
def execFlitReceive (link dir strand actl bctl : Nat) (data : List Byte) (s : State) : Out :=
  s.dv (·.flitReceive link (dir % 2) strand actl bctl data)

/-- REPLAY_TIMEOUT (R71): 200 ns without the expected SEQ. -/
def execReplayTimeout (link dir strand : Nat) (s : State) : Out :=
  s.dv fun d =>
    if linkOk link && decide (strand < strandCount link) && decide ((d.half (halfKey link (dir % 2) strand)).replayFrom ≠ 0) then
      d.requestReplay link (dir % 2) strand
    else d

/-- ALARM_PULSE_TOGGLE (R75). -/
def execAlarmPulseToggle (s : State) : Out :=
  s.dv fun d => { d with cause := { d.cause with pulse := !d.cause.pulse } }.emit .alarm [5, if d.cause.pulse then 0 else 1]

/-- ALARM_BREAK_DETECTED (R77, R92, R93): direction 0 clockwise, 1 counter-clockwise. -/
def execAlarmBreakDetected (ccw : Bool) (s : State) : Out :=
  s.dv fun d =>
    let d1 := if ccw then d.put Fld.ERR_ALARM_BREAK_CCW 1 else d.put Fld.ERR_ALARM_BREAK_CW 1
    if d1.on Fld.ERR_ALARM_BREAK_CW && d1.on Fld.ERR_ALARM_BREAK_CCW then
      (if d1.reg Reg.ERR_ALARM = d.reg Reg.ERR_ALARM then d else d1.classified 0x0605 0 0xFF (d1.reg Reg.ERR_ALARM).toNat)
    else if d1.reg Reg.ERR_ALARM = d.reg Reg.ERR_ALARM then d
    else
      let d2 := (d1.put Fld.ERR_ALARM_BRAKE_HELD 1).setBrakeSource 1 true
      d2.classified 0x0604 0 0xFF (d2.reg Reg.ERR_ALARM).toNat

/-- IDENT_HBM_MAP_WRITE (R79). -/
def execIdentHbmMapWrite (v : Word) (s : State) : Out := s.dv (·.hbmMapWrite v 8 0)

/-- IDENT_CISTERN_WRITE (R81, R82). -/
def execIdentCisternWrite (v : Word) (s : State) : Out := s.dv (·.cisternWrite v 8 0)

/-- CISTERN_CHANGE_DONE (R82). -/
def execCisternChangeDone (s : State) : Out := s.dv Dev.cisternDone

end Sys2Proof.Machine
end

