-- ==== Sys2Proof/Machine/Time.lean ====
section
/-! DEFINITION. Tide time, Wall time, PTP and timed operations (spec/14). -/

namespace Sys2Proof.Machine

/-- R516: the gap G in ns. -/
def Dev.gap (s : Dev) : Int := (s.time.wall : Int) - s.time.two - s.tide

/-- R527: a signed change, saturating at ±(2^63 − 1), as a 64-bit number. -/
def satField (x : Int) : Nat := toField 64 (max (-(2 ^ 63 - 1)) (min (2 ^ 63 - 1) x))

/-- R526, R527: TIME_STEP to every berth with an enabled SIGNAL ring. -/
def Dev.timeStepSignal (s : Dev) (source : Nat) (change : Int) : Dev :=
  (List.range 129).foldl (fun s b =>
    if (s.sigRing b).isSome then s.signal b 0x0010 source (s.get Fld.TID_STATUS_WALL_EPOCH) (satField change) else s) s

/-- Every waiting timed operation of the device. -/
def Dev.timers (s : Dev) : List Ticket :=
  s.tickets.filter (fun t => t.started && wf t.words 0 8 4 = 6 && 0x10 ≤ wf t.words 0 0 8)

/-- The target of an AT_WALL ticket in ns. -/
def Ticket.wallTarget (t : Ticket) : Nat := wf t.words 2 0 48 * 1000000000 + wf t.words 3 0 30

/-- A timed operation fires (R533, R534). -/
def Dev.fire (s : Dev) (t : Ticket) : Dev := s.finish t 0 (s.get Fld.TID_STATUS_WALL_EPOCH) s.tide

/-- R534: what a step does to waiting AT_WALL operations: strict ones end, others fire where their target has come. -/
def Dev.stepTimers (s : Dev) : Dev :=
  s.timers.foldl (fun s t =>
    if wf t.words 0 0 8 ≠ 0x11 then s
    else if wf t.words 3 32 1 = 1 then s.fail t 0x0A 0x0905
    else if s.on Fld.TID_STATUS_WALL_VALID && decide (t.wallTarget ≤ s.time.wall) then s.fire t else s) s

/-- R526: a step of Wall time. -/
def Dev.wallStep (s : Dev) (delta : Int) (source : Nat) : Dev :=
  let two := if s.on Fld.TID_CTRL_STEP_REANCHOR then s.time.two + delta else s.time.two
  let s1 := { s with time := { s.time with wall := ((s.time.wall : Int) + delta).toNat, two := two } }
  let s2 := (s1.wrap Fld.TID_STATUS_WALL_EPOCH).sat Fld.TID_PTP_COUNTS_STEPS
  (s2.timeStepSignal source delta).stepTimers

/-- R517: Wall time becomes valid. -/
def Dev.wallValid (s : Dev) (wall : Nat) : Dev :=
  { s.put Fld.TID_STATUS_WALL_VALID 1 with time := { s.time with wall := wall, two := (wall : Int) - s.tide } }

/-- R525: the servo sets FREQ_PPB and follows the lock conditions. -/
def Dev.servo (s : Dev) (offset : Int) : Dev :=
  let f := max (-4000000) (min 4000000 (Config.servoPpb s.free offset))
  let lock := s.get Fld.TID_STEP_LOCK_NS
  let run := if offset.natAbs ≤ lock then s.time.lockRun + 1 else 0
  let s1 := { s.tick.put Fld.TID_FREQ_FREQ_PPB (toField 32 f) with
    time := { s.time with outputs := (f :: s.time.outputs).take 64, lockRun := run } }
  if 4 * lock < offset.natAbs then s1.put Fld.TID_STATUS_SERVO 1
  else if 16 ≤ run then s1.put Fld.TID_STATUS_SERVO 2 else s1

/-- R524: one sample. -/
def Dev.sample (s : Dev) (offset : Int) : Dev :=
  let s0 := s.setReg Reg.TID_PTP_OFFSET (BitVec.ofNat 64 (toField 64 offset))
  if offset.natAbs ≤ s0.get Fld.TID_STEP_THRESH_NS then (s0.put Fld.TID_STATUS_STEP_PENDING 0).servo offset
  else if !s0.on Fld.TID_STATUS_WALL_VALID then s0.wallValid ((s0.time.wall : Int) - offset).toNat
  else if !s0.on Fld.TID_STATUS_STEP_PENDING then s0.put Fld.TID_STATUS_STEP_PENDING 1
  else
    let s1 := s0.put Fld.TID_STATUS_STEP_PENDING 0
    if !s1.on Fld.TID_CTRL_STEP_EN then s1.sat Fld.TID_PTP_COUNTS_REJECTED else s1.wallStep (-offset) 0

/-- R521: a PTP frame that is not used. -/
def Dev.ptpDiscard (s : Dev) : Dev := s.sat Fld.TID_PTP_COUNTS_DISCARDED

/-- R521: whether the PTP port runs and a portIdentity is the selected master's. -/
def Dev.fromMaster (s : Dev) (src : Nat) : Bool := s.on Fld.TID_CTRL_PTP_EN && s.time.master = src + 1

/-- Sync: t2 is captured; a one-step Sync brings t1 and its correction. -/
def Dev.ptpSync (s : Dev) (src seq : Nat) (twoStep : Bool) (t1 : Nat) (corr : Int) : Dev :=
  if !s.fromMaster src then s.ptpDiscard
  else
    { s.sat Fld.TID_PTP_COUNTS_SYNC_USED with
      time := { s.time with syncSeq := seq, t2 := s.time.wall + 1, t1 := if twoStep then 0 else t1 + 1, corr := corr } }

/-- Follow_Up of the Sync in hand: t1 and its correction. -/
def Dev.ptpFollowUp (s : Dev) (src seq t1 : Nat) (corr : Int) : Dev :=
  if !s.fromMaster src || s.time.syncSeq ≠ seq || s.time.t2 = 0 || s.time.t1 ≠ 0 then s.ptpDiscard
  else { s with time := { s.time with t1 := t1 + 1, corr := s.time.corr + corr } }

/-- Delay_Resp: t4; the offset from the master is computed and treated (station 5, 6). -/
def Dev.ptpDelayResp (s : Dev) (src : Nat) (mine : Bool) (seq t4 : Nat) (corr : Int) : Dev :=
  let t := s.time
  if !s.fromMaster src || !mine || seq ≠ t.dreqSeq || t.t3 = 0 then s.ptpDiscard
  else if t.t1 = 0 || t.t2 = 0 then { s with time := { t with t3 := 0 } }
  else
    let ms : Int := (t.t2 : Int) - t.t1 - t.corr
    let sm : Int := (t4 : Int) - (t.t3 - 1 : Nat) - corr
    let delay := (ms + sm) / 2
    { s with time := { t with t3 := 0, t1 := 0, t2 := 0 } }.sample (ms - delay)

/-- Lexicographic order of what the best master clock algorithm compares. -/
def lexLt : List Nat → List Nat → Bool
  | [], [] => false
  | [], _ => true
  | _, [] => false
  | a :: as, b :: bs => if a < b then true else if b < a then false else lexLt as bs

/-- R520, R529, R530: an Announce: the best master among those heard is selected; what is compared: priority1, clockClass,
clockAccuracy, variance, priority2, grandmaster identity, stepsRemoved, then portIdentity. -/
def Dev.ptpAnnounce (s : Dev) (src p1 cls acc var p2 gm steps : Nat) : Dev :=
  if !s.on Fld.TID_CTRL_PTP_EN then s.ptpDiscard
  else
    let me := ([p1, cls, acc, var, p2, gm, steps, src], src)
    let heard := me :: s.time.heard.filter (fun h => h.2 ≠ src)
    let best := heard.foldl (fun b h => if lexLt h.1 b.1 then h else b) me
    let s1 := { s with time := { s.time with heard := heard } }
    if s1.time.master = best.2 + 1 then
      if s1.get Fld.TID_STATUS_SERVO = 3 || s1.get Fld.TID_STATUS_SERVO = 0 then s1.put Fld.TID_STATUS_SERVO 1 else s1
    else
      let s2 := { s1 with time := { s1.time with master := best.2 + 1, t1 := 0, t2 := 0, t3 := 0, lockRun := 0 } }
      ((s2.put Fld.TID_STATUS_SERVO 1).put Fld.TID_STATUS_STEP_PENDING 0).setReg Reg.TID_PTP_MASTER
        (BitVec.ofNat 64 (best.1.getD 5 0))

/-- R522: a Delay_Req is sent; t3 is captured. -/
def Dev.ptpDelayReq (s : Dev) : Dev :=
  if !s.on Fld.TID_CTRL_PTP_EN || s.time.master = 0 then s
  else
    let q := (s.time.dreqSeq + 1) % 65536
    { s with time := { s.time with dreqSeq := q, t3 := s.time.wall + 1 } }.emit .ptp [1, q]

/-- R529: the master is lost: HOLDOVER. -/
def Dev.ptpLost (s : Dev) : Dev :=
  if !s.on Fld.TID_CTRL_PTP_EN || s.time.master = 0 then s
  else
    let o := s.time.outputs
    let mean := if o.isEmpty then signed 32 (s.get Fld.TID_FREQ_FREQ_PPB) else o.sum / (o.length : Int)
    let gone := s.time.master
    let s1 := { s with time := { s.time with
      master := 0, heard := s.time.heard.filter (fun h => h.2 + 1 ≠ gone), holdFrom := s.tide, lockRun := 0, t1 := 0, t2 := 0, t3 := 0 } }
    ((s1.put Fld.TID_STATUS_SERVO 3).put Fld.TID_STATUS_STEP_PENDING 0).put Fld.TID_FREQ_FREQ_PPB (toField 32 mean)

/-- R518: re-anchoring. -/
def Dev.reanchor (s : Dev) : Dev :=
  if !s.on Fld.TID_STATUS_WALL_VALID then s.put Fld.TID_CTRL_TID_REFUSED 1
  else
    let two : Int := (s.time.wall : Int) - s.tide
    { s with time := { s.time with two := two } }.timeStepSignal 1 (two - s.time.two)

/-- R538: a TID_ write refused. -/
def Dev.tidRefused (s : Dev) : Dev := s.put Fld.TID_CTRL_TID_REFUSED 1

/-- The MAC that PTP_MAC names exists in its port's MODE. -/
def Dev.ptpMacThere (s : Dev) : Bool :=
  let n := s.get Fld.TID_PTP_CTRL_PTP_MAC
  s.on (Fld.WHF_MAC_STATUS_PRESENT (n / 4) (n % 4))

/-- A write to TID_CTRL (R518, R538). -/
def Dev.tidCtrlWrite (s : Dev) (v : Word) (size off : Nat) : Dev :=
  let w := s.writeReg Reg.TID_CTRL v size off
  let en := s.on Fld.TID_CTRL_PTP_EN
  let en' := w.on Fld.TID_CTRL_PTP_EN
  let re := woBits v size off 2 1 = 1
  if (!en && en' && !s.ptpMacThere) || (re && !s.on Fld.TID_STATUS_WALL_VALID) then s.tidRefused
  else
    let s1 := if en && !en' then
        { w.put Fld.TID_STATUS_SERVO 0 with time := { w.time with master := 0, heard := [], t1 := 0, t2 := 0, t3 := 0, lockRun := 0 } }
      else w
    if re then s1.reanchor else s1

/-- A write to TID_FREQ (R528, R538); values outside ±4,000,000 are reserved (R7). -/
def Dev.tidFreqWrite (s : Dev) (v : Word) (size off : Nat) : Dev :=
  if s.on Fld.TID_CTRL_PTP_EN then s.tidRefused
  else
    let w := s.writeReg Reg.TID_FREQ v size off
    if (signed 32 (w.get Fld.TID_FREQ_FREQ_PPB)).natAbs ≤ 4000000 then w else s

/-- A write to TID_WALL_SET_NS: GO sets Wall time (R528, R538). -/
def Dev.wallSetWrite (s : Dev) (v : Word) (size off : Nat) : Dev :=
  let w := s.writeReg Reg.TID_WALL_SET_NS v size off
  if woBits v size off 63 1 = 0 then w
  else if s.on Fld.TID_CTRL_PTP_EN || 999999999 < w.get Fld.TID_WALL_SET_NS_NS then s.tidRefused
  else
    let t := w.get Fld.TID_WALL_SET_SEC_SEC * 1000000000 + w.get Fld.TID_WALL_SET_NS_NS
    if w.on Fld.TID_STATUS_WALL_VALID then w.wallStep ((t : Int) - w.time.wall) 2
    else (w.wallValid t).timeStepSignal 2 0

/-- A write to TID_PTP_CTRL (R538). -/
def Dev.ptpCtrlWrite (s : Dev) (v : Word) (size off : Nat) : Dev :=
  let w := s.writeReg Reg.TID_PTP_CTRL v size off
  if s.on Fld.TID_CTRL_PTP_EN && getBits (w.reg Reg.TID_PTP_CTRL) 0 13 ≠ getBits (s.reg Reg.TID_PTP_CTRL) 0 13 then s.tidRefused
  else w

/-- A TID_TIDE read captures Wall time into TID_SNAP. -/
def Dev.tideRead (s : Dev) : Dev :=
  (s.setReg Reg.TID_SNAP_SEC (packW [(0, 48, s.time.wall / 1000000000), (48, 16, s.get Fld.TID_STATUS_WALL_EPOCH)])).setReg
    Reg.TID_SNAP_NS (packW [(0, 30, s.time.wall % 1000000000)])

/-! TIME tickets -/

/-- Table 14.3: the time record. -/
def Dev.timeRecord (s : Dev) : List Byte :=
  wordBytes [BitVec.ofNat 64 s.tide,
    packW [(0, 48, s.time.wall / 1000000000), (48, 16, s.get Fld.TID_STATUS_WALL_EPOCH)],
    packW [(0, 30, s.time.wall % 1000000000), (32, 2, s.get Fld.TID_STATUS_SERVO), (34, 1, s.get Fld.TID_STATUS_WALL_VALID)],
    BitVec.ofNat 64 (satField s.gap)]

/-- R532: READ. -/
def Dev.timeReadStart (s : Dev) (t : Ticket) : Dev :=
  let off := wf t.words 3 0 41
  if !bodyZero t.words [(2, 2 ^ 32 - 1), (3, 2 ^ 41 - 1)] || off % 32 ≠ 0 then s.fail t 3 0x0901
  else
    let key := wf t.words 2 0 32
    match s.placePieces (.loc t.key.b) t key 6 0 [] (s.keyedPieces key off 32) s.timeRecord with
    | (.error e, s1, t1) => s1.fail t1 e.1 e.2
    | (.ok _, s1, t1) => s1.finish t1 0 (s.get Fld.TID_STATUS_WALL_EPOCH) s.tide

/-- R531, R533: AT_TIDE. -/
def Dev.atTideStart (s : Dev) (t : Ticket) : Dev :=
  if !bodyZero t.words [(2, 2 ^ 64 - 1)] then s.fail t 3 0x0901
  else if t.right 11 1 = 0 then (s.rightRefused t.key.b).fail t 3 0x0902
  else if 65536 < s.timers.length then s.fail t 12 0x0903
  else if wf t.words 2 0 64 ≤ s.tide then s.fire t else s

/-- R531, R534: AT_WALL. -/
def Dev.atWallStart (s : Dev) (t : Ticket) : Dev :=
  if !bodyZero t.words [(2, 2 ^ 48 - 1), (3, 2 ^ 30 - 1 + 2 ^ 32 + (2 ^ 16 - 1) * 2 ^ 48)] || 999999999 < wf t.words 3 0 30 then
    s.fail t 3 0x0901
  else if t.right 11 1 = 0 then (s.rightRefused t.key.b).fail t 3 0x0902
  else if 65536 < s.timers.length then s.fail t 12 0x0903
  else if !s.on Fld.TID_STATUS_WALL_VALID then s.fail t 12 0x0904
  else if wf t.words 3 32 1 = 1 && !same (wf t.words 3 48 16) (s.get Fld.TID_STATUS_WALL_EPOCH) 16 then s.fail t 0x0A 0x0905
  else if t.wallTarget ≤ s.time.wall then s.fire t else s

/-- How much Tide time passes until Wall time has advanced by n ns (the inverse of R516). -/
def Dev.tideFor (s : Dev) (n : Nat) : Nat :=
  let g := s.gap
  let p := s.get Fld.TID_STEP_SLEW_PPM
  if g = 0 then n
  else if 0 < g then min ((n * (1000000 + p) + 999999) / 1000000) (n + g.toNat)
  else max ((n * (1000000 - p) + 999999) / 1000000) (n - g.natAbs)

/-- R533, R534: the instant of a waiting timed operation comes. -/
def Dev.timerDue (s : Dev) (b r slot : Nat) : Dev :=
  match s.timers.find? (fun t => t.key.b = b && t.key.r = r && t.key.slot = slot) with
  | none => s
  | some t =>
    if wf t.words 0 0 8 = 0x10 then (s.at (wf t.words 2 0 64)).fire t
    else if !s.on Fld.TID_STATUS_WALL_VALID then s
    else if t.wallTarget ≤ s.time.wall then s.fire t
    else
      let s1 := s.pass (s.tideFor (t.wallTarget - s.time.wall))
      ({ s1 with time := { s1.time with wall := max s1.time.wall t.wallTarget } } : Dev).fire t

/-! The commands -/

/-- PTP_SYNC: the sender's portIdentity, sequenceId, two-step, originTimestamp and correction in ns. -/
def execPtpSync (src seq : Nat) (twoStep : Bool) (t1 : Nat) (corr : Int) (s : State) : Out := s.dv (·.ptpSync src seq twoStep t1 corr)
/-- PTP_FOLLOW_UP. -/
def execPtpFollowUp (src seq t1 : Nat) (corr : Int) (s : State) : Out := s.dv (·.ptpFollowUp src seq t1 corr)
/-- PTP_DELAY_RESP: `mine`: the requestingPortIdentity is the device's. -/
def execPtpDelayResp (src : Nat) (mine : Bool) (seq t4 : Nat) (corr : Int) (s : State) : Out := s.dv (·.ptpDelayResp src mine seq t4 corr)
/-- PTP_ANNOUNCE. -/
def execPtpAnnounce (src p1 cls acc var p2 gm steps : Nat) (s : State) : Out := s.dv (·.ptpAnnounce src p1 cls acc var p2 gm steps)
/-- DELAY_REQ_TIMER (R522). -/
def execDelayReqTimer (s : State) : Out := s.dv Dev.ptpDelayReq
/-- PTP_MASTER_LOST (R529). -/
def execPtpMasterLost (s : State) : Out := s.dv Dev.ptpLost
/-- REANCHOR (R518): REANCHOR is written 1. -/
def execReanchor (s : State) : Out := s.dv Dev.reanchor
/-- WALL_SET (R528): TID_WALL_SET_NS is written. -/
def execWallSet (v : Word) (s : State) : Out := s.dv (·.wallSetWrite v 8 0)
/-- TID_FREQ_WRITE (R528, R538). -/
def execTidFreqWrite (v : Word) (s : State) : Out := s.dv (·.tidFreqWrite v 8 0)
/-- TID_TIDE_READ. -/
def execTidTideRead (s : State) : Out := s.dv Dev.tideRead
/-- TIME_READ (R532). -/
def execTimeRead (b r slot : Nat) (s : State) : Out := s.dv fun d => d.serve b r slot 6 1 Dev.timeReadStart
/-- AT_TIDE (R533). -/
def execAtTide (b r slot : Nat) (s : State) : Out := s.dv fun d => d.serve b r slot 6 0x10 Dev.atTideStart
/-- AT_WALL (R534). -/
def execAtWall (b r slot : Nat) (s : State) : Out := s.dv fun d => d.serve b r slot 6 0x11 Dev.atWallStart
/-- TIMED_OPERATION_FIRE (R533, R534). -/
def execTimedOperationFire (b r slot : Nat) (s : State) : Out := s.dv (·.timerDue b r slot)

end Sys2Proof.Machine
end

