-- ==== Sys2Proof/Machine/Wharf.lean ====
section
/-! DEFINITION. The Wharf (spec/10): MACs and their queues, the parser and its key, the Manifest tables with their epochs,
actions, meters, Deckhand programs, and frame tickets. -/

namespace Sys2Proof.Machine

def Dev.whf (s : Dev) (m : Nat) : WharfS := tget (fun _ => WharfS.init) s.wharf m
def Dev.setWhf (s : Dev) (m : Nat) (w : WharfS) : Dev := { s with wharf := tput (fun _ => WharfS.init) s.wharf m w }

/-! MACs (R367, R368, R374, R396, R402) -/

/-- Table 10.1: whether MAC j exists in a mode. -/
def macInMode (mode j : Nat) : Bool :=
  match mode with
  | 0 => j = 0
  | 1 => j = 0 || j = 2
  | _ => decide (j < 4)

def Dev.macThere (s : Dev) (m j : Nat) : Bool := decide (m < 2) && macInMode (s.get (Fld.WHF_PORT_CTRL_MODE m)) j
def Dev.macUp (s : Dev) (m j : Nat) : Bool := s.on (Fld.WHF_MAC_STATUS_LINK_UP m j)

/-- A bit of a flag field of a MAC. -/
def macBit (f : Fld) (p : Nat) : Fld := ⟨f.key, f.lo + p, 1⟩

/-- LINK_UP of the port and ETH_UP of IDENT_TRAY follow the MACs (R33). -/
def Dev.syncEth (s : Dev) (m : Nat) : Dev :=
  let up := (List.range 4).map (fun j => s.get (Fld.WHF_MAC_STATUS_LINK_UP m j) * 2 ^ j)
  let s1 := s.put (Fld.WHF_PORT_STATUS_LINK_UP m) up.sum
  s1.put ⟨Reg.IDENT_TRAY, 12 + m, 1⟩ (if up.sum = 0 then 0 else 1)

/-- A frame that is not sent: a FRAME_TX among them ends REMOTE_ERROR. -/
def Dev.txDiscard (s : Dev) (f : TxFrame) (detail : Nat) : Dev :=
  match f.source with
  | .ticket tk _ => (s.workOff tk).finishKey tk 7 detail 0
  | _ => s

/-- The frames queued at a MAC that a test selects are discarded. -/
def Dev.txFlush (s : Dev) (m j : Nat) (which : TxFrame → Bool) (detail : Nat) : Dev :=
  let mine := fun (f : TxFrame) => decide (f.m = m) && decide (f.j = j) && which f
  (s.txq.filter mine).foldl (fun s f => s.txDiscard f detail) { s with txq := s.txq.filter (fun f => !mine f) }

/-- R374: a frame is offered to a MAC's queue of its priority. -/
def Dev.offer (s : Dev) (f : TxFrame) : Dev :=
  if !s.macUp f.m f.j then s.txDiscard f 0x0505
  else if s.on (macBit (Fld.WHF_MAC_STATUS_STORM f.m f.j) f.prio) then s.txDiscard f 0x0506
  else { s with txq := s.txq ++ [f] }

/-- R402: a MAC loses link. -/
def Dev.macDown (s : Dev) (m j : Nat) : Dev :=
  if !s.macUp m j then s
  else
    let s1 := ((s.put (Fld.WHF_MAC_STATUS_LINK_UP m j) 0).sat (Fld.WHF_MAC_STATUS_LINK_DOWNS m j)).put (Fld.WHF_MAC_STATUS_PAUSED m j) 0
    let w := s1.whf m
    let s2 := s1.setWhf m { w with pausedAt := tdrop (fun k => decide (k / 8 = j)) w.pausedAt }
    (s2.txFlush m j (fun _ => true) 0x0505).syncEth m

/-- A MAC gains link: its port runs, it exists in the MODE and MAC_EN is 1. -/
def Dev.macGains (s : Dev) (m j : Nat) : Dev :=
  if s.on (Fld.WHF_PORT_CTRL_PORT_EN m) && s.macThere m j && s.on (Fld.WHF_MAC_CTRL_MAC_EN m j) then
    (s.put (Fld.WHF_MAC_STATUS_LINK_UP m j) 1).syncEth m
  else s

/-- PRESENT follows MODE. -/
def Dev.syncPresent (s : Dev) (m : Nat) : Dev :=
  let mode := s.get (Fld.WHF_PORT_CTRL_MODE m)
  let bit := fun j => if macInMode mode j then 1 else 0
  let s1 := s.put (Fld.WHF_PORT_STATUS_PRESENT m) ((List.range 4).map (fun j => bit j * 2 ^ j)).sum
  (List.range 4).foldl (fun s j => s.put (Fld.WHF_MAC_STATUS_PRESENT m j) (bit j)) s1

/-- R396: a write to WHF_PORT_CTRL. -/
def Dev.whfPortWrite (s : Dev) (m : Nat) (v : Word) (size off : Nat) : Dev :=
  let w := s.writeReg (Reg.WHF_PORT_CTRL m) v size off
  let old := s.get (Fld.WHF_PORT_CTRL_MODE m)
  let w1 := if s.on (Fld.WHF_PORT_CTRL_PORT_EN m) && w.get (Fld.WHF_PORT_CTRL_MODE m) ≠ old then
      (w.put (Fld.WHF_PORT_CTRL_MODE m) old).put (Fld.WHF_PORT_CTRL_MODE_REFUSED m) 1
    else w
  let w2 := if w1.on (Fld.WHF_PORT_CTRL_PORT_EN m) then w1 else (List.range 4).foldl (fun s j => s.macDown m j) w1
  w2.syncPresent m

/-- A write to WHF_MAC_CTRL_j: MAC_EN 0 holds the MAC with its link down. -/
def Dev.macCtrlWrite (s : Dev) (m j : Nat) (v : Word) (size off : Nat) : Dev :=
  let w := s.writeReg (Reg.WHF_MAC_CTRL m j) v size off
  if w.on (Fld.WHF_MAC_CTRL_MAC_EN m j) then w else w.macDown m j

/-- R396: a write to WHF_RXPOOL whose XON_KIB is not below its XOFF_KIB changes nothing. -/
def Dev.rxpoolWrite (s : Dev) (m : Nat) (v : Word) (size off : Nat) : Dev :=
  let w := s.writeReg (Reg.WHF_RXPOOL m) v size off
  if w.get (Fld.WHF_RXPOOL_XON_KIB m) < w.get (Fld.WHF_RXPOOL_XOFF_KIB m) then w else s

/-! Pause (R371, R372) -/

/-- Bytes a pool holds. -/
def Dev.poolHeld (s : Dev) (m p : Nat) : Nat := ((s.frames.filter (fun f => f.m = m && f.prio = p)).map (fun f => f.data.length)).sum

/-- Every MAC of a Wharf whose PFC_EN bit p is 1 sends PFC for p. -/
def Dev.sendPfc (s : Dev) (m p quanta : Nat) : Dev :=
  (List.range 4).foldl (fun s j =>
    if s.macUp m j && s.on (macBit (Fld.WHF_MAC_CTRL_PFC_EN m j) p) then s.emit .pfc [4 * m + j, 2 ^ p, quanta] else s) s

/-- R371: the pool of a priority has grown or shrunk. -/
def Dev.syncPool (s : Dev) (m p : Nat) : Dev :=
  let held := s.poolHeld m p
  let w := s.whf m
  let on := bitsOf w.pausing p 1 = 1
  if s.get (Fld.WHF_RXPOOL_XOFF_KIB m) * 1024 < held && !on then
    (s.setWhf m { w with pausing := w.pausing + 2 ^ p }).sendPfc m p 1
  else if held < s.get (Fld.WHF_RXPOOL_XON_KIB m) * 1024 && on then
    (s.setWhf m { w with pausing := w.pausing - 2 ^ p }).sendPfc m p 0
  else s

/-- The MAC's queue of p is released. -/
def Dev.pauseEnds (s : Dev) (m j p : Nat) : Dev :=
  let w := s.whf m
  (s.put (macBit (Fld.WHF_MAC_STATUS_PAUSED m j) p) 0).setWhf m { w with pausedAt := tput (fun _ => 0) w.pausedAt (8 * j + p) 0 }

/-- R372: a PFC pause for p arrives, or one of zero quanta. -/
def Dev.pauseReceived (s : Dev) (m j p : Nat) (zero : Bool) : Dev :=
  if !s.macUp m j || !s.on (macBit (Fld.WHF_MAC_CTRL_PFC_EN m j) p) then s
  else if zero then s.pauseEnds m j p
  else
    let w := s.whf m
    let s1 := s.setWhf m { w with
      lastPause := tput (fun _ => 0) w.lastPause (8 * j + p) (s.tide + 1)
      pausedAt := if tget (fun _ => 0) w.pausedAt (8 * j + p) = 0 && !s.on (macBit (Fld.WHF_MAC_STATUS_STORM m j) p)
        then tput (fun _ => 0) w.pausedAt (8 * j + p) (s.tide + 1) else w.pausedAt }
    if s.on (macBit (Fld.WHF_MAC_STATUS_STORM m j) p) then s1 else s1.put (macBit (Fld.WHF_MAC_STATUS_PAUSED m j) p) 1

/-- R372: p has stayed paused for PFC_WD_MS: the watchdog fires. -/
def Dev.pauseStorm (s : Dev) (m j p : Nat) : Dev :=
  let t := tget (fun _ => 0) (s.whf m).pausedAt (8 * j + p)
  if t = 0 || !s.on (macBit (Fld.WHF_MAC_STATUS_PAUSED m j) p) then s
  else
    let s0 := (s.at (t - 1 + s.get (Fld.WHF_MAC_CTRL_PFC_WD_MS m j) * 1000000)).pauseEnds m j p
    let s1 := (s0.put (macBit (Fld.WHF_MAC_STATUS_STORM m j) p) 1).put (macBit (Fld.WHF_MAC_STATUS_STORM_SEEN m j) p) 1
    (s1.txFlush m j (fun f => decide (f.prio = p)) 0x0506).classified 0x0611 (4 * m + j) 0xFF p

/-- R372: no pause for p has arrived for PFC_WD_MS. -/
def Dev.stormEnds (s : Dev) (m j p : Nat) : Dev :=
  if !s.on (macBit (Fld.WHF_MAC_STATUS_STORM m j) p) then s
  else
    let t := tget (fun _ => 0) (s.whf m).lastPause (8 * j + p)
    (s.at (t - 1 + s.get (Fld.WHF_MAC_CTRL_PFC_WD_MS m j) * 1000000)).put (macBit (Fld.WHF_MAC_STATUS_STORM m j) p) 0

/-! Sending (R374) -/

/-- The source kinds of the route: XCT, storage, Tide clock, frame tickets. -/
def TxSource.kind : TxSource → Nat
  | .xct _ _ => 0
  | .storage _ => 1
  | .ptp => 2
  | .ticket _ _ => 3

/-- R374: the frame a MAC sends next: of the highest priority that has one and is not held, by turns of the sources. -/
def Dev.nextTx (s : Dev) (m j : Nat) : Option TxFrame :=
  [7, 6, 5, 4, 3, 2, 1, 0].findSome? (fun p =>
    if s.on (macBit (Fld.WHF_MAC_STATUS_PAUSED m j) p) then none
    else
      let last := tget (fun _ => 0) (s.whf m).lastSource (8 * j + p)
      [1, 2, 3, 4].findSome? (fun d =>
        s.txq.find? (fun f => f.m = m && f.j = j && f.prio = p && f.source.kind = (last + d) % 4)))

/-- The berth whose traffic a frame is. -/
def Dev.txBerth (_ : Dev) (f : TxFrame) : Nat :=
  match f.source with
  | .ticket tk _ => tk.b
  | .xct b _ => b
  | _ => 0

/-- A MAC sends its next frame; a FRAME_TX completes with its last byte (R391). -/
def Dev.transmit (s : Dev) (m j : Nat) : Dev :=
  if !s.macUp m j then s
  else match s.nextTx m j with
    | none => s
    | some f =>
      let w := s.whf m
      let s1 := ({ s with txq := s.txq.erase f }.setWhf m { w with lastSource := tput (fun _ => 0) w.lastSource (8 * j + f.prio) f.source.kind })
      let s2 := (s1.emit .frame [4 * m + j] f.data).sat (Fld.WHF_MAC_FRAMES_TX_FRAMES m j)
      let b := s2.txBerth f
      let s3 := if b = 0 then s2 else s2.wrap (Fld.CNT_NET_TX_BYTES b) f.data.length
      match f.source with
      | .ticket tk len => (s3.workOff tk).finishKey tk 0 0 len
      | _ => s3

/-! The parser (R370, R375, R398) -/

/-- n bytes of a frame from an offset, as a number, most significant first. -/
def fbe (d : List Byte) (off n : Nat) : Nat := ofBe ((d.drop off).take n)

/-- One's complement sum of 16-bit words. -/
def onesSum : List Byte → Nat
  | [] => 0
  | [a] => a.toNat * 256
  | a :: b :: t => a.toNat * 256 + b.toNat + onesSum t

/-- The sum folded to 16 bits. -/
def fold16 (x : Nat) : Nat :=
  let y := x % 65536 + x / 65536
  y % 65536 + y / 65536

/-- What the parser finds beyond the Ethernet header. -/
structure L3 where
  kind : Nat := 0
  sip : Nat := 0
  dip : Nat := 0
  proto : Nat := 0
  dscp : Nat := 0
  ecn : Nat := 0
  frag : Bool := false
  l4 : Bool := false
  sport : Nat := 0
  dport : Nat := 0
  /-- where the transport header lies -/
  at_ : Nat := 0
  deriving DecidableEq, Repr

def L3.malformed : L3 := { kind := 3 }

/-- R370: tagged; where the L3 header lies. -/
def frameTagged (d : List Byte) : Bool := decide (fbe d 12 2 = 0x8100)
def l3At (d : List Byte) : Nat := if frameTagged d then 18 else 14
def etherType (d : List Byte) : Nat := fbe d (l3At d - 2) 2

/-- R370: the priority. -/
def Dev.framePrio (s : Dev) (m j : Nat) (d : List Byte) : Nat :=
  if frameTagged d then bitsOf (fbe d 14 2) 13 3 else s.get (Fld.WHF_MAC_CTRL_DEF_PRIO m j)

/-- R375: the ports of TCP and UDP, where they lie in the parse window. -/
def parseL4 (d : List Byte) (q : Nat) (nonFirst : Bool) (x : L3) : L3 :=
  if (x.proto = 6 || x.proto = 17) && !nonFirst && decide (q + 4 ≤ min 256 d.length) then
    { x with l4 := true, sport := fbe d q 2, dport := fbe d (q + 2) 2, at_ := q }
  else { x with at_ := q }

/-- R375: IPv4. -/
def parseV4 (d : List Byte) (p : Nat) : L3 :=
  let ihl := 4 * bitsOf (fbe d p 1) 0 4
  if d.length < p + 20 || fbe d p 1 / 16 ≠ 4 || decide (ihl < 20) || decide (d.length < p + ihl)
    || fold16 (onesSum ((d.drop p).take ihl)) ≠ 0xFFFF || decide (d.length < p + fbe d (p + 2) 2) then L3.malformed
  else
    let fo := fbe d (p + 6) 2
    parseL4 d (p + ihl) (bitsOf fo 0 13 ≠ 0)
      { kind := 1, sip := 0xFFFF * 2 ^ 32 + fbe d (p + 12) 4, dip := 0xFFFF * 2 ^ 32 + fbe d (p + 16) 4, proto := fbe d (p + 9) 1,
        dscp := fbe d (p + 1) 1 / 4, ecn := fbe d (p + 1) 1 % 4, frag := bitsOf fo 0 13 ≠ 0 || bitsOf fo 13 1 = 1 }

/-- R375: the IPv6 extension headers the parser follows: Hop-by-Hop, Routing, Fragment, Destination Options. -/
def isExt (nh : Nat) : Bool := nh = 0 || nh = 43 || nh = 44 || nh = 60

/-- R375: up to four extension headers. -/
def parseExt (d : List Byte) : Nat → Nat → Nat → Bool → L3 → L3
  | 0, nh, q, nf, x => if isExt nh then { x with proto := nh, at_ := q } else parseL4 d q nf { x with proto := nh }
  | n + 1, nh, q, nf, x =>
    if !isExt nh then parseL4 d q nf { x with proto := nh }
    else if min 256 d.length < q + 8 then { x with proto := nh, at_ := q }
    else if nh = 44 then
      let fo := fbe d (q + 2) 2
      parseExt d n (fbe d q 1) (q + 8) (fo / 8 ≠ 0) { x with frag := fo / 8 ≠ 0 || fo % 2 = 1 }
    else parseExt d n (fbe d q 1) (q + 8 * (fbe d (q + 1) 1 + 1)) nf x

/-- R375: IPv6. -/
def parseV6 (d : List Byte) (p : Nat) : L3 :=
  if d.length < p + 40 || fbe d p 1 / 16 ≠ 6 || decide (d.length < p + 40 + fbe d (p + 4) 2) then L3.malformed
  else
    let tc := fbe d p 2 / 16 % 256
    parseExt d 4 (fbe d (p + 6) 1) (p + 40) false
      { kind := 2, sip := fbe d (p + 8) 16, dip := fbe d (p + 24) 16, dscp := tc / 4, ecn := tc % 4 }

/-- R375: what the parser reads, for a frame without FCS. -/
def parseL3 (d : List Byte) : L3 :=
  if etherType d = 0x0800 then parseV4 d (l3At d) else if etherType d = 0x86DD then parseV6 d (l3At d) else {}

/-- Table 10.10: the key of a frame. -/
def frameKey (d : List Byte) (macNo : Nat) : List Word :=
  let x := parseL3 d
  let tci := fbe d 14 2
  let t := frameTagged d
  [packW [(0, 48, fbe d 0 6), (48, 16, etherType d)],
   packW [(0, 48, fbe d 6 6), (48, 12, if t then tci else 0), (60, 3, if t then tci / 8192 else 0), (63, 1, if t then 1 else 0)],
   BitVec.ofNat 64 x.sip, BitVec.ofNat 64 (x.sip / 2 ^ 64), BitVec.ofNat 64 x.dip, BitVec.ofNat 64 (x.dip / 2 ^ 64),
   packW [(0, 16, x.sport), (16, 16, x.dport), (32, 8, x.proto), (40, 6, x.dscp), (46, 2, x.ecn), (48, 2, x.kind),
     (50, 1, if x.frag then 1 else 0), (51, 1, if x.l4 then 1 else 0), (52, 3, macNo)]]

/-- Bytes of a frame replaced from an offset. -/
def patch (d : List Byte) (off : Nat) (bs : List Byte) : List Byte := d.take off ++ bs ++ d.drop (off + bs.length)

/-- R373: the frame marked CE, its IPv4 header checksum corrected. -/
def ceMark (d : List Byte) : List Byte :=
  let p := l3At d
  let x := parseL3 d
  if x.ecn ≠ 1 && x.ecn ≠ 2 then d
  else if x.kind = 1 then
    let d1 := patch (patch d (p + 1) (beBytes 1 (fbe d (p + 1) 1 / 4 * 4 + 3))) (p + 10) [0, 0]
    patch d1 (p + 10) (beBytes 2 (0xFFFF - fold16 (onesSum ((d1.drop p).take (4 * bitsOf (fbe d p 1) 0 4)))))
  else if x.kind = 2 then patch d (p + 1) (beBytes 1 (fbe d (p + 1) 1 / 64 * 64 + 48 + fbe d (p + 1) 1 % 16))
  else d

/-! Frames inside, drops (R379, R388, R389) -/

/-- MNF_DROPS, by name. -/
inductive DropKind where
  | miss | meterRed | staleTarget | residence | noRxBuffer | dhFail | dhFull | poolFull
  deriving DecidableEq, Repr

def DropKind.fld (m : Nat) : DropKind → Fld
  | .miss => Fld.MNF_DROPS_LO m 0
  | .meterRed => Fld.MNF_DROPS_HI m 0
  | .staleTarget => Fld.MNF_DROPS_LO m 1
  | .residence => Fld.MNF_DROPS_HI m 1
  | .noRxBuffer => Fld.MNF_DROPS_LO m 2
  | .dhFail => Fld.MNF_DROPS_HI m 2
  | .dhFull => Fld.MNF_DROPS_LO m 3
  | .poolFull => Fld.MNF_DROPS_HI m 3

def Dev.countDrop (s : Dev) (m : Nat) (k : DropKind) : Dev := s.sat (k.fld m)

/-- A frame leaves the Wharf: its pool space is free, and the drain of the epoch before counts down. -/
def Dev.frameGone (s : Dev) (f : FrameS) : Dev :=
  let m := f.m
  let s1 := { s with frames := s.frames.filter (fun g => g.id ≠ f.id) }
  let s2 := if s1.on (Fld.MNF_CTRL_DRAINING m) && f.epoch ≠ s1.get (Fld.MNF_CTRL_EPOCH m) then
      let n := s1.get (Fld.MNF_CTRL_OLD_INFLIGHT m) - 1
      let s2 := s1.put (Fld.MNF_CTRL_OLD_INFLIGHT m) n
      if n = 0 then (s2.put (Fld.MNF_CTRL_DRAINING m) 0).setWhf m { s2.whf m with oldSlots := [] } else s2
    else s1
  s2.syncPool m f.prio

/-- A frame inside a Wharf changed. -/
def Dev.setFrame (s : Dev) (f : FrameS) : Dev := { s with frames := s.frames.map (fun g => if g.id = f.id then f else g) }

/-- A frame is dropped and counted. -/
def Dev.dropFrame (s : Dev) (f : FrameS) (k : DropKind) : Dev := (s.countDrop f.m k).frameGone f

/-! Meters (R382, R383) -/

/-- A meter's rates are written: its settings take effect, its buckets are full. -/
def Dev.meterWrite (s : Dev) (m i : Nat) (v : Word) (size off : Nat) : Dev :=
  let w := s.writeReg (Reg.MNF_METER_RATES m i) v size off
  let h := w.whf m
  let full := (w.get (Fld.MNF_METER_RATES_CBS_KIB m i) * 81920, w.get (Fld.MNF_METER_RATES_PBS_KIB m i) * 81920, w.tide)
  w.setWhf m { h with meters := tput (fun _ => (0, 0, 0)) h.meters i full }

/-- R382: a meter judges n bytes: whether the frame is red. -/
def Dev.meter (s : Dev) (m i n : Nat) : Bool × Dev :=
  if !s.on (Fld.MNF_METER_CTRL_EN m i) then (false, s)
  else
    let h := s.whf m
    let (c, p, t) := tget (fun _ => (0, 0, 0)) h.meters i
    let cir := s.get (Fld.MNF_METER_RATES_CIR m i)
    let pir := max cir (s.get (Fld.MNF_METER_RATES_PIR m i))
    let c1 := min (s.get (Fld.MNF_METER_RATES_CBS_KIB m i) * 81920) (c + cir * (s.tide - t))
    let p1 := min (s.get (Fld.MNF_METER_RATES_PBS_KIB m i) * 81920) (p + pir * (s.tide - t))
    let b := 80 * n
    let red := decide (p1 < b)
    let c2 := if red || decide (c1 < b) then c1 else c1 - b
    let p2 := if red then p1 else p1 - b
    let s1 := s.setWhf m { h with meters := tput (fun _ => (0, 0, 0)) h.meters i (c2, p2, s.tide) }
    (red, if red then s1.sat (Fld.MNF_METER_CTRL_RED m i) else s1)

/-! Lookup and actions (R376, R378, R380 to R382, R385) -/

/-- Words under a mask. -/
def maskWords (k m : List Word) : List Word := (List.range 7).map (fun i => wordAt k i &&& wordAt m i)

/-- R376: the action of a key; whether the miss action was taken. -/
def Dev.lookup (s : Dev) (m : Nat) (key : List Word) : Word × Bool :=
  let w := s.whf m
  let masked := maskWords key ((List.range 7).map (fun i => s.reg (Reg.MNF_EM_MASK m i)))
  match w.exact.find? (fun e => e.1 = masked) with
  | some e => (e.2, false)
  | none =>
    match w.ternary.find? (fun e => maskWords key e.2.2.1 = e.2.1) with
    | some e => (e.2.2.2, false)
    | none => (s.reg (Reg.MNF_MISS_CUR m), true)

/-- The slots of a frame's epoch (R378). -/
def Dev.slotsOf (s : Dev) (f : FrameS) : Tab (Option DhImage) :=
  if f.epoch = s.get (Fld.MNF_CTRL_EPOCH f.m) then (s.whf f.m).slots else (s.whf f.m).oldSlots

/-- The Deckhand slot an action names. -/
def actionSlot (a : Word) : Nat := getBits a 22 4

/-- R382: COUNT and METER of an action: whether the frame is red. -/
def Dev.countMeter (s : Dev) (f : FrameS) : Bool × Dev :=
  let a := f.action
  let n := f.data.length + 4
  let c := getBits a 32 15
  let s1 := if a.getLsbD 4 then (s.wrap (Fld.MNF_COUNTER_COUNT f.m c 0)).wrap (Fld.MNF_COUNTER_COUNT f.m c 1) n else s
  if a.getLsbD 5 then s1.meter f.m (getBits a 48 12) n else (false, s1)

/-- R380, R385: an action takes the frame; `verdict`: a Deckhand program gave it. -/
def Dev.runAction (s : Dev) (f : FrameS) (verdict : Bool) : Dev :=
  match s.countMeter f with
  | (true, s1) => s1.dropFrame f .meterRed
  | (false, s1) =>
    match getBits f.action 0 4 with
    | 0 => s1.frameGone f
    | 1 => s1.setFrame { f with stage := 0 }
    | 2 => s1.setFrame { f with stage := 2 }
    | 3 => s1.frameGone f
    | 4 =>
      if verdict || (tget (fun _ => none) (s1.slotsOf f) (actionSlot f.action)).isNone then s1.dropFrame f .dhFail
      else if 4096 ≤ (s1.frames.filter (fun g => g.m = f.m && g.stage = 1 && g.id ≠ f.id)).length then s1.dropFrame f .dhFull
      else s1.setFrame { f with stage := 1 }
    | _ => s1.dropFrame f .dhFail

/-- A target's connection is open (R497). -/
def Dev.tcpOpen (s : Dev) (t : Nat) : Bool := s.get (Fld.STO_TGT_CTRL_STATE t) = 1 || s.get (Fld.STO_TGT_CTRL_STATE t) = 2

/-- R368 to R378: MAC j of Wharf m receives a frame, given without its FCS.  `target`: one more than the NVMe/TCP target
whose open connection the segment belongs to; 0 none. -/
def Dev.frameReceive (s : Dev) (m j : Nat) (data : List Byte) (fcsOk fecOk : Bool) (target : Nat) : Dev :=
  if !(decide (m < 2) && decide (j < 4) && s.macUp m j) then s
  else if !fecOk then s.sat (Fld.WHF_MAC_ERRS_FEC_UNCORR m j)
  else if data.length + 4 < 64 then s.sat (Fld.WHF_MAC_ERRS_RUNT m j)
  else if s.get (Fld.WHF_MAC_CTRL_MAX_FRAME m j) < data.length + 4 then s.sat (Fld.WHF_MAC_ERRS_OVERSIZE m j)
  else if !fcsOk then s.sat (Fld.WHF_MAC_ERRS_FCS_ERR m j)
  else
    let s1 := s.sat (Fld.WHF_MAC_FRAMES_RX_FRAMES m j)
    let p := s1.framePrio m j data
    let held := s1.poolHeld m p
    if 2097152 < held + data.length then s1.countDrop m .poolFull
    else
      let d := if s1.get (Fld.WHF_RXPOOL_ECN_KIB m) * 1024 < held then ceMark data else data
      if 0 < target && s1.tcpOpen (target - 1) then s1
      else
        let key := frameKey d (4 * m + j)
        let (a, miss) := s1.lookup m key
        let f : FrameS := ⟨s1.nextFrame, m, j, p, d, s1.tide, s1.get (Fld.MNF_CTRL_EPOCH m), key, a, 0, []⟩
        let s2 := ({ s1 with frames := s1.frames ++ [f], nextFrame := s1.nextFrame + 1 } : Dev).syncPool m p
        (if miss then s2.countDrop m .miss else s2).runAction f false

/-! Deckhand programs (R384, R385, R578) -/

/-- Where a Deckhand program's addresses lie: the slot's 64 KiB, the frame, the key, the scratch. -/
inductive DeckAt where
  | slot (off : Nat)
  | frame (off : Nat)
  | key (off : Nat)
  | scratch (off : Nat)
  deriving DecidableEq, Repr

def deckAt (va n : Nat) : Option DeckAt :=
  if panWindow ≤ va ∧ va + n ≤ panWindow + 0x10000 then some (.slot (va - panWindow))
  else if controlSpace ≤ va ∧ va + n ≤ controlSpace + 0x100 then some (.frame (va - controlSpace))
  else if controlSpace + 0x100 ≤ va ∧ va + n ≤ controlSpace + 0x138 then some (.key (va - controlSpace - 0x100))
  else if controlSpace + 0x1000 ≤ va ∧ va + n ≤ controlSpace + 0x2000 then some (.scratch (va - controlSpace - 0x1000))
  else none

/-- A Deckhand run: the slot's memory, the scratch, the registers. -/
structure DeckRun where
  img : DhImage
  scratch : Tab Byte
  r : RakerS
  deriving DecidableEq, Repr

/-- A byte of a Deckhand program's view; past the end of a short frame the byte is left open. -/
def deckByte (free : Nat) (f : FrameS) (x : DeckRun) : DeckAt → Byte
  | .slot o => tget (fun _ => 0) x.img.bytes o
  | .frame o => (f.data[o]?).getD (Config.freeByte free o)
  | .key o => (wordBytes f.key).getD o 0
  | .scratch o => tget (fun _ => 0) x.scratch o

def DeckAt.plus (a : DeckAt) (i : Nat) : DeckAt :=
  match a with
  | .slot o => .slot (o + i)
  | .frame o => .frame (o + i)
  | .key o => .key (o + i)
  | .scratch o => .scratch (o + i)

/-- LD of a Deckhand program: none is an exception. -/
def deckLoad (free : Nat) (f : FrameS) (d : DeckRun) (x : Insn) : Option DeckRun :=
  let w := bitsOf x.w 8 3
  let n := accessBytes w
  let a := x.ea d.r n
  if a % n ≠ 0 then none
  else (deckAt a n).map (fun at_ =>
    let v := ofLe ((List.range n).map (fun i => deckByte free f d (at_.plus i)))
    { d with r := d.r.setG x.rd (if 4 ≤ w then BitVec.ofInt 64 (signed (8 * n) v) else BitVec.ofNat 64 v) })

/-- ST of a Deckhand program: the frame and the key are read-only, and so is an EXEC section. -/
def deckStore (d : DeckRun) (x : Insn) : Option DeckRun :=
  let n := accessBytes (bitsOf x.w 8 3)
  let a := x.ea d.r n
  let bs := leBytes n (d.r.gr x.rd).toNat
  if a % n ≠ 0 then none
  else match deckAt a n with
    | some (.slot o) =>
      if d.img.exec.any (fun r => decide (r.1 < a + n ∧ a < r.2)) then none
      else some { d with img := { d.img with bytes := putBytes (fun _ => 0) d.img.bytes o bs } }
    | some (.scratch o) => some { d with scratch := putBytes (fun _ => 0) d.scratch o bs }
    | _ => none

/-- The instructions a Deckhand runs on registers alone: scalar integer and branches. -/
def deckFn (x : Insn) : Option (Insn → RakerS → Dev → Ran) :=
  match x.major with
  | 1 => some (intR x.fn)
  | 2 => some (intI 0x00)
  | 3 => some (intI 0x10)
  | 4 => some (intI 0x11)
  | 5 => some (intI 0x12)
  | 6 => some lih
  | 7 => some (intI (0x14 + x.sub))
  | 8 => some (compareR x.sub)
  | 9 => some (compareI x.sub)
  | 32 => some (branch true)
  | 33 => some (branch false)
  | 34 => some jal
  | 35 => some jalr
  | _ => none

/-- The instruction at a Deckhand program's PC. -/
def deckFetch (d : DeckRun) : Option Insn :=
  let va := d.r.pc
  match d.img.exec.find? (fun r => decide (r.1 ≤ va ∧ va < r.2)) with
  | none => none
  | some sec =>
    let word := fun a => ofLe ((List.range 4).map (fun i => tget (fun _ => 0) d.img.bytes (a - panWindow + i)))
    if sec.2 < va + 4 then none
    else if isLong (word va) then (if sec.2 < va + 8 then none else some ⟨word va, true, signed 32 (word (va + 4))⟩)
    else some ⟨word va, false, 0⟩

/-- What a Deckhand run comes to: its verdict, an exception, or no end within its budget. -/
inductive DeckEnd where
  | verdict (a : Word)
  | failed
  deriving DecidableEq, Repr

/-- R384: a Deckhand program runs to its first YIELD. -/
def deckRun (s : Dev) (f : FrameS) : Nat → DeckRun → DeckEnd × DhImage
  | 0, d => (.failed, d.img)
  | n + 1, d =>
    match deckFetch d with
    | none => (.failed, d.img)
    | some x =>
      let next := { d with r := { d.r with pc := (d.r.pc + x.size) % 2 ^ 48 } }
      if !x.legal then (.failed, d.img)
      else if !x.passes d.r then deckRun s f n next
      else if x.key = 2 then (.verdict (d.r.gr 1), d.img)
      else if x.major = 16 then
        (match deckLoad s.free f next x with
         | some d1 => deckRun s f n d1
         | none => (.failed, d.img))
      else if x.major = 17 then
        (match deckStore next x with
         | some d1 => deckRun s f n d1
         | none => (.failed, d.img))
      else match deckFn x with
        | none => (.failed, d.img)
        | some fn =>
          match fn x next.r s with
          | (none, _, r) => deckRun s f n { next with r := r }
          | (some _, _, _) => (.failed, d.img)

/-- The instructions a run of a BUDGET can hold: sixteen in 10 ns at the fastest clock of Table 3.1. -/
def deckFuel (budget : Nat) : Nat := 16 * budget

/-- The head of a Wharf's Deckhand queue, with its slot and image. -/
def Dev.deckHead (s : Dev) (m : Nat) : Option (FrameS × Nat × DhImage) :=
  match s.frames.find? (fun f => f.m = m && f.stage = 1) with
  | none => none
  | some f => (tget (fun _ => none) (s.slotsOf f) (actionSlot f.action)).map (fun i => (f, actionSlot f.action, i))

/-- A run of a slot failed: the frame is dropped (R385). -/
def Dev.deckFailed (s : Dev) (f : FrameS) (slot : Nat) : Dev := (s.sat (Fld.MNF_DH_FAILS f.m slot)).dropFrame f .dhFail

/-- The slot's memory after a run, in the epoch of the frame. -/
def Dev.keepImage (s : Dev) (f : FrameS) (slot : Nat) (img : DhImage) : Dev :=
  let w := s.whf f.m
  if f.epoch = s.get (Fld.MNF_CTRL_EPOCH f.m) then s.setWhf f.m { w with slots := tput (fun _ => none) w.slots slot (some img) }
  else s.setWhf f.m { w with oldSlots := tput (fun _ => none) w.oldSlots slot (some img) }

/-- R384, R385: the program of the queue's head runs, and its verdict runs. -/
def Dev.deckhandRun (s : Dev) (m : Nat) : Dev :=
  match s.deckHead m with
  | none => s
  | some (f, slot, img) =>
    let s1 := s.tick.sat (Fld.MNF_DH_RUNS m slot)
    match deckRun s f (deckFuel img.budget) ⟨img, [], { RakerS.init with pc := img.entry }⟩ with
    | (.failed, img') => (s1.keepImage f slot img').deckFailed f slot
    | (.verdict a, img') =>
      let s2 := s1.keepImage f slot img'
      let f' := { f with action := a }
      if 4 ≤ getBits a 0 4 then s2.deckFailed f slot else s2.runAction f' true

/-- R385: the run of the queue's head exceeds its BUDGET. -/
def Dev.deckhandBudget (s : Dev) (m : Nat) : Dev :=
  match s.deckHead m with
  | none => s
  | some (f, slot, _) => (s.sat (Fld.MNF_DH_RUNS m slot)).deckFailed f slot

/-! Edits and commits (R386 to R389, R397, R399) -/

/-- R399, Table 10.7: an action without a reserved encoding. -/
def actionOk (a : Word) : Bool :=
  decide (getBits a 0 4 ≤ 4) && getBits a 6 2 = 0 && decide (getBits a 8 8 ≤ 128) && getBits a 26 6 = 0 && getBits a 47 1 = 0
    && getBits a 60 4 = 0

/-- A staged image: sections placed in the slot's 64 KiB. -/
def imageOf (img : List Byte) (budget : Nat) : DhImage :=
  let secs := imageTable img
  { bytes := secs.foldl (fun b x => if x.2.2.2.1 then b else putBytes (fun _ => 0) b (x.1 - panWindow) ((img.drop x.2.2.1).take x.2.1)) []
    exec := (secs.filter (fun x => x.2.2.2.2)).map (fun x => (x.1, x.1 + x.2.1))
    entry := wf (imageHeader img) 1 0 48
    budget := budget }

/-- R399: the image is copied piece by piece under berth 0's LR key checks; `out` says what pieces over links come to. -/
def Dev.copyImage (s : Dev) (key m : Nat) : List (Nat × Nat) → List Nat → List Byte → Option (List Byte) × Dev
  | [], _, acc => (some acc, s)
  | (off, len) :: ps, out, acc =>
    match s.keyedPiece (.loc 0) key off len 0 15 5 m with
    | (.error _, s1) => (none, s1)
    | (.ok (.mem a), s1) => if s1.poisoned a len then (none, s1) else s1.copyImage key m ps out (acc ++ s1.bytes a len)
    | (.ok d, s1) =>
      if out.headD 0 ≠ 0 then (none, s1)
      else match s1.readOut d len with
        | (bs, s2) => s2.copyImage key m ps out.tail (acc ++ bs)

/-- The words of MNF_EDIT_DATA. -/
def Dev.editData (s : Dev) (m : Nat) : List Word := (List.range 16).map (fun w => s.reg (Reg.MNF_EDIT_DATA m w))

/-- Words i … of a list are zero. -/
def zeroWords (d : List Word) (lo n : Nat) : Bool := (List.range n).all (fun i => wordAt d (lo + i) = 0)

/-- The edit a command stages, or a RESULT other than STAGED: MALFORMED 4, IMAGE_FAULT 5 (R399). -/
def Dev.makeEdit (s : Dev) (m table op index : Nat) (out : List Nat) : Except Nat MnfEdit × Dev :=
  let d := s.editData m
  let key := d.take 7
  let act := wordAt d 14
  let rm := op = 1
  match table with
  | 0 =>
    if !zeroWords d 7 7 || wordAt d 15 ≠ 0 || getBits (wordAt d 6) 55 9 ≠ 0 || (!rm && !actionOk act) then (.error 4, s)
    else (.ok ⟨0, rm, 0, key, [], act, none⟩, s)
  | 1 =>
    let mask := (d.drop 7).take 7
    if wordAt d 15 ≠ 0 || getBits (wordAt d 6) 55 9 ≠ 0 || getBits (wordAt d 13) 55 9 ≠ 0
      || maskWords key mask ≠ key || (!rm && !actionOk act) then (.error 4, s)
    else (.ok ⟨1, rm, index, key, mask, act, none⟩, s)
  | 2 =>
    if 15 < index then (.error 4, s)
    else if rm then (.ok ⟨2, true, index, [], [], 0, none⟩, s)
    else
      let len := wf d 2 0 17
      let bud := wf d 3 0 12
      if getBits (wordAt d 0) 32 32 ≠ 0 || getBits (wordAt d 1) 41 23 ≠ 0 || getBits (wordAt d 2) 17 47 ≠ 0
        || getBits (wordAt d 3) 12 52 ≠ 0 || !zeroWords d 4 12 || decide (len < 4 ∨ 65536 < len) || decide (bud < 1 ∨ 400 < bud) then
        (.error 4, s)
      else
        match s.copyImage (wf d 0 0 32) m (s.keyedPieces (wf d 0 0 32) (wf d 1 0 41) len) out [] with
        | (none, s1) => (.error 5, s1)
        | (some img, s1) =>
          if imageOk img panWindow (panWindow + 0x10000) true then (.ok ⟨2, false, index, [], [], 0, some (imageOf img bud)⟩, s1)
          else (.error 5, s1)
  | _ => (.error 4, s)

/-- Two edits of one entry. -/
def MnfEdit.same (e f : MnfEdit) : Bool := e.table = f.table && (if e.table = 0 then e.key = f.key else e.index = f.index)

/-- Whether the committed tables hold an edit's entry. -/
def WharfS.holds (w : WharfS) (e : MnfEdit) : Bool :=
  match e.table with
  | 0 => w.exact.any (fun x => x.1 = e.key)
  | 1 => w.ternary.any (fun x => x.1 = e.index)
  | _ => (tget (fun _ => none) w.slots e.index).isSome

/-- R386, R387: the RESULT of staging an edit: NOT_FOUND 2, PENDING_FULL 3, FULL 1, STAGED 0. -/
def WharfS.judge (w : WharfS) (e : MnfEdit) : Nat :=
  let old := w.pend.find? e.same
  let live := match old with
    | some o => !o.remove
    | none => w.holds e
  let added := (w.pend.filter (fun o => o.table = 0 && !o.remove && !w.holds o)).length
  if e.remove && !live && !(w.holds e) then 2
  else if old.isNone && decide (1024 ≤ w.pend.length) then 3
  else if e.table = 0 && !e.remove && !(w.holds e) && !(old.any (fun o => !o.remove)) && decide (58982 ≤ w.exact.length + added) then 1
  else 0

/-- R386: one edit is staged. -/
def Dev.stageEdit (s : Dev) (m table op index : Nat) (out : List Nat) : Dev :=
  let r := if 1 < op then (.error 4, s) else s.makeEdit m table op index out
  match r with
  | (.error e, s1) => s1.put (Fld.MNF_EDIT_STATUS_RESULT m) e
  | (.ok e, s1) =>
    let w := s1.whf m
    match w.judge e with
    | 0 =>
      let w' := { w with pend := w.pend.filter (fun o => !e.same o) ++ [e] }
      ((s1.setWhf m w').put (Fld.MNF_EDIT_STATUS_RESULT m) 0).put (Fld.MNF_EDIT_STATUS_PENDING m) w'.pend.length
    | k => s1.put (Fld.MNF_EDIT_STATUS_RESULT m) k

/-- A write to MNF_EDIT_CMD. -/
def Dev.editWrite (s : Dev) (m : Nat) (v : Word) (size off : Nat) (out : List Nat) : Dev :=
  if woBits v size off 63 1 = 1 then s.stageEdit m (woBits v size off 0 2) (woBits v size off 2 2) (woBits v size off 4 12) out else s

/-- One staged edit takes effect. -/
def WharfS.apply (w : WharfS) (e : MnfEdit) : WharfS :=
  match e.table with
  | 0 =>
    let rest := w.exact.filter (fun x => x.1 ≠ e.key)
    { w with exact := if e.remove then rest else rest ++ [(e.key, e.action)] }
  | 1 => { w with ternary := if e.remove then tdel e.index w.ternary else tins e.index (e.key, e.mask, e.action) w.ternary }
  | _ => { w with slots := tput (fun _ => none) w.slots e.index e.image }

/-- R388, R389: a commit. -/
def Dev.mnfCommit (s : Dev) (m : Nat) : Dev :=
  let w := s.whf m
  let e := s.get (Fld.MNF_CTRL_EPOCH m)
  let w1 := w.pend.foldl WharfS.apply { w with oldSlots := w.slots }
  let n := (s.frames.filter (fun f => f.m = m && f.epoch = e)).length
  let w2 := { w1 with pend := [], oldSlots := if n = 0 then [] else w1.oldSlots }
  let s1 := (s.setWhf m w2).setReg (Reg.MNF_MISS_CUR m) (s.reg (Reg.MNF_MISS m))
  let s2 := ((s1.wrap (Fld.MNF_CTRL_EPOCH m)).put (Fld.MNF_CTRL_OLD_INFLIGHT m) n).put (Fld.MNF_CTRL_DRAINING m) (if n = 0 then 0 else 1)
  let s3 := ((s2.put (Fld.MNF_EDIT_STATUS_PENDING m) 0).put (Fld.MNF_USED_EXACT m) w2.exact.length).put (Fld.MNF_USED_TERNARY m) w2.ternary.length
  (List.range 16).foldl (fun s i => s.put (Fld.MNF_DH_LOADED m i) (if (tget (fun _ => none) w2.slots i).isSome then 1 else 0)) s3

/-- R386, R388: a write to MNF_CTRL. -/
def Dev.mnfCtrlWrite (s : Dev) (m : Nat) (v : Word) (size off : Nat) : Dev :=
  let w := s.writeReg (Reg.MNF_CTRL m) v size off
  let c := woBits v size off 16 1 = 1
  let d := woBits v size off 17 1 = 1
  if c && (d || s.on (Fld.MNF_CTRL_DRAINING m)) then w.put (Fld.MNF_CTRL_CMT_REFUSED m) 1
  else if c then w.mnfCommit m
  else if d then (w.setWhf m { w.whf m with pend := [] }).put (Fld.MNF_EDIT_STATUS_PENDING m) 0
  else w

/-- R397: a write to MNF_EM_MASKw. -/
def Dev.maskWrite (s : Dev) (m w : Nat) (v : Word) (size off : Nat) : Dev :=
  if s.on (Fld.MNF_USED_EXACT m) || (s.whf m).pend.any (fun e => e.table = 0) then s.put (Fld.MNF_CTRL_MASK_REFUSED m) 1
  else s.writeReg (Reg.MNF_EM_MASK m w) v size off

/-! Placement (R381, R392) -/

/-- Table 10.6. -/
def rxResult (f : FrameS) (n : Nat) : Nat :=
  pack [(0, 14, n), (14, 1, if n < f.data.length then 1 else 0), (15, 3, 4 * f.m + f.j), (32, 16, f.epoch), (48, 16, f.data.length)]

/-- R381: whether a RING action is dropped at placement. -/
def Dev.ringStale (s : Dev) (f : FrameS) : Bool :=
  let b := getBits f.action 8 8
  let r := getBits f.action 16 6
  f.staleRings.contains (b * 64 + r) || decide (128 < b) || !s.ringsOn.contains (b * 64 + r)
    || (b ≠ 0 && (s.get (Fld.BPLAN_CTRL_STATE b) = 0 || s.get (Fld.BPLAN_CTRL_STATE b) = 3 || !s.on (Fld.CPLAN_RIGHTS_NET b)))

/-- The FRAME_RX of a ring that was taken earliest and waits. -/
def Dev.waitingRx (s : Dev) (b r : Nat) : Option Ticket :=
  s.tickets.find? (fun t => t.key.b = b && t.key.r = r && t.started && wf t.words 0 8 4 = 2 && wf t.words 0 0 8 = 0x11)

/-- R392: a frame fills a FRAME_RX. -/
def Dev.fillRx (s : Dev) (f : FrameS) (t : Ticket) : Dev :=
  let n := min f.data.length (wf t.words 4 0 14)
  let key := wf t.words 2 0 32
  match s.placePieces (.loc t.key.b) t key 5 f.m [] (s.keyedPieces key (wf t.words 3 0 41) n) (f.data.take n) with
  | (.error e, s1, t1) => (s1.fail t1 e.1 e.2).frameGone f
  | (.ok _, s1, t1) => (s1.finish t1 0 0 (rxResult f n)).frameGone f

/-- R381, R392: a frame reaches placement on its ring. -/
def Dev.placeFrame (s : Dev) (f : FrameS) : Dev :=
  let b := getBits f.action 8 8
  if s.ringStale f then s.dropFrame f .staleTarget
  else
    let s1 := if b = 0 then s else s.wrap (Fld.CNT_NET_RX_BYTES b) f.data.length
    match s1.waitingRx b (getBits f.action 16 6) with
    | none => s1.dropFrame f .noRxBuffer
    | some t => s1.fillRx f t

/-- A frame inside, by its number and stage. -/
def Dev.frameAt (s : Dev) (n stage : Nat) : Option FrameS := s.frames.find? (fun f => f.id = n && f.stage = stage)

/-! Frame tickets (R390 to R393) -/

/-- Table 6.7: an Ethernet source and VLAN tag a plan grants. -/
def macGranted (word : Nat → Word) (d : List Byte) : Bool :=
  let v := getBits (word 0x1C0) 0 8
  (List.range 8).any (fun i =>
    let e := word (0x100 + 8 * i)
    v / 2 ^ i % 2 = 1 && getBits e 0 48 = fbe d 6 6 && (getBits e 60 1 = 1) = frameTagged d
      && (!frameTagged d || getBits e 48 12 = fbe d 14 2 % 4096))

/-- The IP source address of a frame, in the form of the plan; none for another type. -/
def frameSrcIp (d : List Byte) : Option Nat :=
  if etherType d = 0x0800 then some (0xFFFF * 2 ^ 32 + fbe d (l3At d + 12) 4)
  else if etherType d = 0x86DD then some (fbe d (l3At d + 8) 16)
  else none

/-- Table 6.7: an IP source address a plan grants. -/
def ipGranted (word : Nat → Word) (ip : Nat) : Bool :=
  let v := getBits (word 0x1C0) 8 8
  (List.range 8).any (fun i =>
    v / 2 ^ i % 2 = 1 && (word (0x140 + 16 * i)).toNat + (word (0x148 + 16 * i)).toNat * 2 ^ 64 = ip)

/-- FRAME_TX with its frame read: source checks, ceiling, queue. -/
def Dev.frameTxQueue (s : Dev) (t : Ticket) : Dev :=
  let n := wf t.words 4 0 14
  let j := wf t.words 4 14 2
  let m := wf t.words 4 16 1
  let d := t.bytesAt 0 n
  let b := t.key.b
  if t.bad then s.fail t 8 0
  else if b ≠ 0 && !macGranted t.planWord d then (s.spoof b).fail t 3 0x0502
  else if b ≠ 0 && (frameSrcIp d).any (fun ip => !ipGranted t.planWord ip) then (s.spoof b).fail t 3 0x0503
  else
    let s1 := (s.rateGate b 0 n (t.ceiling 0)).setTicket { t with left := 0 }
    (s1.workOn t.key).offer ⟨m, j, s1.framePrio m j d, .ticket t.key n, d⟩

/-- R390, R391: FRAME_TX. -/
def Dev.frameTxStart (s : Dev) (t : Ticket) : Dev :=
  let n := wf t.words 4 0 14
  let j := wf t.words 4 14 2
  let m := wf t.words 4 16 1
  let key := wf t.words 2 0 32
  if !bodyZero t.words [(2, 2 ^ 32 - 1), (3, 2 ^ 41 - 1), (4, 2 ^ 17 - 1)] then s.fail t 3 0
  else if t.right 6 1 = 0 then (s.rightRefused t.key.b).fail t 3 0x0504
  else if n < 60 || s.get (Fld.WHF_MAC_CTRL_MAX_FRAME m j) - 4 < n || !s.macThere m j then s.fail t 3 0x0501
  else
    match s.gatherPieces (.loc t.key.b) t key 5 m (s.keyedPieces key (wf t.words 3 0 41) n) 0 with
    | (.error e, s1, t1) => s1.fail t1 e.1 e.2
    | (.ok _, s1, t1) => if 0 < t1.left then s1.setTicket t1 else s1.frameTxQueue t1

/-- R390, R392: FRAME_RX waits. -/
def Dev.frameRxStart (s : Dev) (t : Ticket) : Dev :=
  let c := wf t.words 4 0 14
  if !bodyZero t.words [(2, 2 ^ 32 - 1), (3, 2 ^ 41 - 1), (4, 2 ^ 14 - 1)] then s.fail t 3 0
  else if t.right 6 1 = 0 then (s.rightRefused t.key.b).fail t 3 0x0504
  else if c < 64 || 9216 < c then s.fail t 3 0x0501
  else s

/-! Reset (R400) -/

/-- Cold start and fundamental reset: links fall, the tables, the pending sets and the Deckhand slots are empty, frames
inside are gone; registers apart. -/
def Dev.wharfReset (s : Dev) : Dev :=
  let s1 := { s with frames := [], txq := [], wharf := [] }
  s1.resetRegs (fun k => decide (0x400000 ≤ k ∧ k < 0x700000)) |>.put Fld.IDENT_TRAY_ETH_UP 0

/-! The commands -/

/-- A Wharf, one of its MACs, a priority or a word of the key (below 8) that exists. -/
def wharfThere (m j p : Nat) : Bool := decide (m < 2 ∧ j < 4 ∧ p < 8)

/-- FRAME_RECEIVE (R368 to R382). -/
def execFrameReceive (m j : Nat) (data : List Byte) (fcsOk fecOk : Bool) (target : Nat) (s : State) : Out :=
  s.dv (·.frameReceive m j data fcsOk fecOk target)

/-- PFC_XOFF_REFRESH (R371): the pool is still above XOFF_KIB. -/
def execPfcXoffRefresh (m p : Nat) (s : State) : Out :=
  s.dvIf (wharfThere m 0 p) fun d => if d.get (Fld.WHF_RXPOOL_XOFF_KIB m) * 1024 < d.poolHeld m p then d.sendPfc m p 1 else d

/-- PFC_PAUSE_RECEIVED (R372). -/
def execPfcPauseReceived (m j p : Nat) (zero : Bool) (s : State) : Out := s.dvIf (wharfThere m j p) (·.pauseReceived m j p zero)

/-- MAC_PAUSE_QUANTA_EXPIRY (R372). -/
def execMacPauseQuantaExpiry (m j p : Nat) (s : State) : Out := s.dvIf (wharfThere m j p) (·.pauseEnds m j p)

/-- PFC_WATCHDOG_EXPIRY (R372). -/
def execPfcWatchdogExpiry (m j p : Nat) (s : State) : Out := s.dvIf (wharfThere m j p) (·.pauseStorm m j p)

/-- PFC_WATCHDOG_END (R372). -/
def execPfcWatchdogEnd (m j p : Nat) (s : State) : Out := s.dvIf (wharfThere m j p) (·.stormEnds m j p)

/-- FRAME_RESIDENCE_TIMEOUT (R379): frame n has been inside for 100 µs. -/
def execFrameResidenceTimeout (n : Nat) (s : State) : Out :=
  s.dv fun d =>
    match d.frames.find? (fun f => f.id = n) with
    | some f => (d.at (f.arrived + 100000)).dropFrame f .residence
    | none => d

/-- DECKHAND_RUN (R384). -/
def execDeckhandRun (m : Nat) (s : State) : Out := s.dvIf (wharfThere m 0 0) (·.deckhandRun m)

/-- DECKHAND_BUDGET_EXPIRY (R385). -/
def execDeckhandBudgetExpiry (m : Nat) (s : State) : Out := s.dvIf (wharfThere m 0 0) (·.deckhandBudget m)

/-- FRAME_PLACE (R381, R392): frame n reaches placement. -/
def execFramePlace (n : Nat) (s : State) : Out :=
  s.dv fun d => match d.frameAt n 0 with | some f => d.placeFrame f | none => d

/-- MNF_EDIT_WRITE (R386, R387, R399): a WRITE in the exact (0) or the ternary (1) table. -/
def execMnfEditWrite (m table index : Nat) (s : State) : Out := s.dvIf (wharfThere m 0 0) (·.stageEdit m (table % 2) 0 (index % 4096) [])

/-- MNF_EDIT_REMOVE (R386). -/
def execMnfEditRemove (m table index : Nat) (s : State) : Out := s.dvIf (wharfThere m 0 0) (·.stageEdit m (table % 4) 1 (index % 4096) [])

/-- MNF_DH_SLOT_WRITE (R399). -/
def execMnfDhSlotWrite (m index : Nat) (out : List Nat) (s : State) : Out := s.dvIf (wharfThere m 0 0) (·.stageEdit m 2 0 (index % 4096) out)

/-- MNF_COMMIT (R388): a write of COMMIT 1, with DISCARD as given. -/
def execMnfCommit (m : Nat) (discard : Bool) (s : State) : Out :=
  s.dvIf (wharfThere m 0 0) (·.mnfCtrlWrite m (packW [(16, 1, 1), (17, 1, if discard then 1 else 0)]) 8 0)

/-- MNF_DISCARD (R386). -/
def execMnfDiscard (m : Nat) (s : State) : Out := s.dvIf (wharfThere m 0 0) (·.mnfCtrlWrite m (packW [(17, 1, 1)]) 8 0)

/-- MNF_EM_MASK_WRITE (R397). -/
def execMnfEmMaskWrite (m w : Nat) (v : Word) (s : State) : Out := s.dvIf (wharfThere m 0 (w + 1)) (·.maskWrite m w v 8 0)

/-- WHF_PORT_CTRL_WRITE (R396). -/
def execWhfPortCtrlWrite (m : Nat) (v : Word) (s : State) : Out := s.dvIf (wharfThere m 0 0) (·.whfPortWrite m v 8 0)

/-- MAC_LINK_DOWN (R402). -/
def execMacLinkDown (m j : Nat) (s : State) : Out := s.dvIf (wharfThere m j 0) (·.macDown m j)

/-- MAC_LINK_UP (R33). -/
def execMacLinkUp (m j : Nat) (s : State) : Out := s.dvIf (wharfThere m j 0) (·.macGains m j)

/-- FRAME_TRANSMIT (R374, R391). -/
def execFrameTransmit (m j : Nat) (s : State) : Out := s.dvIf (wharfThere m j 0) (·.transmit m j)

/-- FRAME_TX (R391). -/
def execFrameTx (b r slot : Nat) (s : State) : Out := s.dv fun d => d.serve b r slot 2 0x10 Dev.frameTxStart

/-- FRAME_RX (R392). -/
def execFrameRx (b r slot : Nat) (s : State) : Out := s.dv fun d => d.serve b r slot 2 0x11 Dev.frameRxStart

end Sys2Proof.Machine
end

