-- ==== Sys2Proof/Machine/Xct.lean ====
section
/-! DEFINITION. Crossings (spec/11): allocation, binding, keys, CLOSING, the packet as it is headed, sealed, encapsulated
and queued, and the checks of a received packet. -/

namespace Sys2Proof.Machine

def Dev.xg (s : Dev) (x : Nat) : Xing := tget (fun _ => Xing.init) s.xing x
def Dev.setXg (s : Dev) (x : Nat) (g : Xing) : Dev := { s with xing := tput (fun _ => Xing.init) s.xing x g }
def Dev.xst (s : Dev) (x : Nat) : Nat := s.get (Fld.XCT_XING_STATE x)
def Dev.xowner (s : Dev) (x : Nat) : Nat := s.get (Fld.XCT_XING_OWNER x)
def Dev.xsealed (s : Dev) (x : Nat) : Bool := s.on (Fld.XCT_XING_SEALED x)

/-- Key slot i of a crossing (R429). -/
def Xing.slot (g : Xing) (i : Nat) : Option XKey := if i = 0 then g.slot0 else g.slot1
def Xing.setSlot (g : Xing) (i : Nat) (k : Option XKey) : Xing := if i = 0 then { g with slot0 := k } else { g with slot1 := k }

/-- SLOT0, SLOT1, TX_EPOCH follow the slots. -/
def Dev.syncSlots (s : Dev) (x : Nat) : Dev :=
  let g := s.xg x
  let s1 := (s.put (Fld.XCT_XING_SLOT0 x) (if g.slot0.isSome then 1 else 0)).put (Fld.XCT_XING_SLOT1 x) (if g.slot1.isSome then 1 else 0)
  match g.slot (s.get (Fld.XCT_XING_TX_SLOT x)) with
  | some k => s1.put (Fld.XCT_XING_TX_EPOCH x) k.epoch
  | none => s1.put (Fld.XCT_XING_TX_EPOCH x) 0

/-- R414: a crossing changes into READY, DRAINING or ERROR; `reason` only for PEER_CLOSING. -/
def Dev.xingState (s : Dev) (x st cause reason : Nat) : Dev :=
  ((s.put (Fld.XCT_XING_STATE x) st).put (Fld.XCT_XING_CAUSE x) cause).signal (s.xowner x) 0x0030 0
    (pack [(0, 16, x), (16, 3, st), (20, 4, cause)]) (pack [(0, 12, s.get (Fld.XCT_XING_REMOTE_NODE x)), (12, 8, reason)])

/-! Allocation (R404, R405, R412) -/

/-- What allocating or freeing a crossing counts: ALLOCATED, CROSSINGS_USED, NODE_LOCKED (R31). -/
def Dev.xctCount (s : Dev) (b : Nat) (up : Bool) : Dev :=
  let step := fun (n : Nat) => if up then n + 1 else n - 1
  let s1 := s.put Fld.XCT_USED_ALLOCATED (step (s.get Fld.XCT_USED_ALLOCATED))
  let s2 := if b = 0 then s1 else s1.put (Fld.USAGE_CROSSINGS_USED b) (step (s1.get (Fld.USAGE_CROSSINGS_USED b)))
  s2.put Fld.IDENT_NODE_NODE_LOCKED (if s2.on Fld.XCT_USED_ALLOCATED then 1 else 0)

/-- A crossing becomes FREE, its slots zeroized. -/
def Dev.xctFree (s : Dev) (x : Nat) : Dev :=
  let b := s.xowner x
  let s1 := ((s.setReg (Reg.XCT_XING x) 0).setReg (Reg.XCT_XING_CC x) 0).xctCount b false
  { s1.setXg x Xing.init with xctFreed := tput (fun _ => 0) s1.xctFreed x (s1.tide + 1) }

/-- R405: the first free ID after the one allocated last, skipping those released less than 1 s earlier. -/
def Dev.xctPick (s : Dev) : Nat → Nat → Option Nat
  | 0, _ => none
  | fuel + 1, i =>
    let x := i % 65536
    let f := tget (fun _ => 0) s.xctFreed x
    if s.xst x = 0 && (f = 0 || decide (f - 1 + 1000000000 ≤ s.tide)) then some x else s.xctPick fuel (i + 1)

/-! Sending (R419 to R426, R434) -/

/-- The MAC of a crossing: Wharf, MAC (Table 11.4). -/
def Xing.macOf (g : Xing) : Nat × Nat := (wf g.record 0 38 1, wf g.record 0 39 2)
/-- REMOTE_IP. -/
def Xing.remoteIp (g : Xing) : Nat := (wordAt g.record 2).toNat + (wordAt g.record 3).toNat * 2 ^ 64
def Xing.isV6 (g : Xing) : Bool := wf g.record 0 29 1 = 1

/-- One's complement checksum of bytes. -/
def netSum (bs : List Byte) : Nat := 0xFFFF - fold16 (fold16 (onesSum bs))

/-- R419: the Ethernet frame, without FCS, around a UDP payload of crossing x. -/
def Dev.xctFrame (s : Dev) (x : Nat) (g : Xing) (pay : List Byte) : List Byte :=
  let dport := let p := wf g.record 1 48 16; if p = 0 then s.get Fld.XCT_CTRL_UDP_PORT else p
  let n := 8 + pay.length
  let udp0 := beBytes 2 (0xC000 + x % 0x4000) ++ beBytes 2 dport ++ beBytes 2 n
  let tos := wf g.record 0 44 6 * 4 + 2
  let tag := if getBits g.srcMac 60 1 = 1 then [0x81, 0x00] ++ beBytes 2 (wf g.record 0 41 3 * 8192 + getBits g.srcMac 48 12) else []
  let eth := beBytes 6 (wf g.record 1 0 48) ++ beBytes 6 (getBits g.srcMac 0 48) ++ tag
  let size := if g.isV6 then 16 else 4
  let src := beBytes size g.srcIp
  let dst := beBytes size g.remoteIp
  let pseudo := src ++ dst ++ (if g.isV6 then beBytes 4 n ++ beBytes 4 17 else beBytes 2 17 ++ beBytes 2 n)
  let c := netSum (pseudo ++ udp0 ++ [0, 0] ++ pay)
  let udp := udp0 ++ beBytes 2 (if c = 0 then 0xFFFF else c) ++ pay
  if g.isV6 then
    eth ++ [0x86, 0xDD] ++ beBytes 4 (6 * 2 ^ 28 + tos * 2 ^ 20 + x) ++ beBytes 2 n ++ [17, 64] ++ src ++ dst ++ udp
  else
    let h1 := [0x45] ++ beBytes 1 tos ++ beBytes 2 (20 + n) ++ [0, 0, 0x40, 0, 64, 17]
    eth ++ [0x08, 0x00] ++ h1 ++ beBytes 2 (netSum (h1 ++ src ++ dst)) ++ src ++ dst ++ udp

/-- What the header of a packet says beyond the crossing (Table 11.5). -/
structure XHdr where
  ty : Nat
  ackNow : Bool := false
  first : Bool := false
  last : Bool := false
  psn : Nat
  deriving DecidableEq, Repr

/-- Table 11.5: the base header. -/
def Dev.xctHeader (s : Dev) (x : Nat) (h : XHdr) (plen epoch sctr : Nat) : List Byte :=
  let fl := pack [(7, 1, if s.xsealed x then 1 else 0), (6, 1, if h.ackNow then 1 else 0), (5, 1, if h.first then 1 else 0),
    (4, 1, if h.last then 1 else 0)]
  beBytes 1 (16 + h.ty) ++ beBytes 1 fl ++ beBytes 3 (s.get Fld.IDENT_NODE_NODE_ID * 4096 + s.get (Fld.XCT_XING_REMOTE_NODE x))
    ++ beBytes 1 epoch ++ beBytes 2 x ++ beBytes 2 (s.get (Fld.XCT_XING_REMOTE_XING x)) ++ beBytes 2 plen ++ beBytes 4 h.psn
    ++ beBytes 7 sctr ++ [0]

/-- R425: the IV. -/
def xctIv (salt epoch sctr : Nat) : List Byte := beBytes 4 salt ++ beBytes 1 epoch ++ beBytes 7 sctr

/-- Stations 3 to 5: a packet is headed, sealed and queued; its frame's length with FCS.  A sealed crossing whose slots have
been emptied sends nothing (R433). -/
def Dev.xctSend (s : Dev) (x : Nat) (h : XHdr) (ext pay : List Byte) : Dev × Nat :=
  let g := s.xg x
  let out := fun (s : Dev) (body : List Byte) =>
    let fr := s.xctFrame x g body
    let b := s.xowner x
    let s1 := s.rateGate b 0 fr.length (if b = 0 then 0 else s.get (Fld.CPLAN_RATE_NET_TX b))
    (s1.offer ⟨g.macOf.1, g.macOf.2, wf g.record 0 41 3, .xct b x, fr⟩, fr.length + 4)
  if s.xsealed x then
    let i := s.get (Fld.XCT_XING_TX_SLOT x)
    match g.slot i with
    | none => (s, 0)
    | some k =>
      let hd := s.xctHeader x h pay.length k.epoch k.sctr
      let s1 := s.setXg x (g.setSlot i (some { k with sctr := k.sctr + 1 }))
      out s1 (hd ++ Config.gcmSeal k.key (xctIv k.txSalt k.epoch k.sctr) hd (ext ++ pay))
  else out s (s.xctHeader x h pay.length 0 0 ++ ext ++ pay)

/-! CLOSING and the end of a crossing (R410, R411, R426, R438, R439) -/

/-- One copy of CLOSING. -/
def Dev.closingCopy (s : Dev) (x reason : Nat) : Dev :=
  (s.xctSend x { ty := 0xD, psn := 0 } (beBytes 1 reason ++ beBytes 7 0) []).1

/-- A ticket in flight names a crossing: an operation on it, or a RECV one of its messages has bound. -/
def Ticket.onXing (t : Ticket) (x : Nat) : Bool :=
  wf t.words 0 8 4 = 3 &&
    (let o := wf t.words 0 0 8
     (decide (0x10 ≤ o ∧ o ≤ 0x15) && wf t.words 2 0 16 = x) || (o = 0x18 && t.aux = [x]))

/-- An operation ticket of the crossing's owner that names it (R411). -/
def Dev.xctOps (s : Dev) (x : Nat) : List Ticket :=
  s.tickets.filter (fun t => t.key.b = s.xowner x && t.onXing x && wf t.words 0 0 8 ≠ 0x18)

/-- Nothing more is formed, retransmitted, executed or answered on a crossing; work below its tickets is over. -/
def Dev.xctSilence (s : Dev) (x : Nat) : Dev :=
  let g := s.xg x
  let tks := (g.out.map (fun p => p.tk) ++ g.form.map (fun f => f.tk)).eraseDups
  let s1 := tks.foldl (fun s k => s.workClear k) s
  s1.setXg x { g with
    out := [], form := [], making := none, ready := [], fenced := [], gets := [], proves := [], atoms := [], asm := [] }

/-- Every outstanding ticket on a crossing ends CROSSING_DOWN with its CAUSE (R413, R439), a CLOSE and a RETIRE that wait for
it among them. -/
def Dev.xctFailAll (s : Dev) (x cause : Nat) (andClose : Bool) : Dev :=
  let g := s.xg x
  let mine := s.tickets.filter (fun t => t.key.b = s.xowner x && t.started && t.onXing x)
  let s1 := (s.xctSilence x)
  let s2 := mine.foldl (fun s t => s.fail t 6 (0x0610 + cause)) s1
  let s3 := match g.retireTk with | some k => s2.finishKey k 6 (0x0610 + cause) 0 | none => s2
  let s4 := match g.closeTk with
    | some k => if andClose then s3.finishKey k 6 (0x0610 + cause) 0 else s3
    | none => s3
  s4.setXg x { s4.xg x with retireTk := none, closeTk := if andClose then none else g.closeTk }

/-- A crossing moves to ERROR without CLOSING (R439, R465, R466, R470). -/
def Dev.xingError (s : Dev) (x cause reason : Nat) : Dev := (s.xingState x 4 cause reason).xctFailAll x cause true

/-- Table 11.7: CLOSING is sent on a crossing, which moves to ERROR. -/
def Dev.xctClosing (s : Dev) (x reason cause : Nat) (free : Bool) : Dev :=
  let s1 := s.closingCopy x reason
  let g := s1.xg x
  let s2 := s1.setXg x { g with copies := 2, reason := reason, copyAt := s1.tide + 10000, freeAfter := free }
  (s2.xingState x 4 cause 0).xctFailAll x cause (cause ≠ 1)

/-- R433: both key slots are emptied. -/
def Dev.xctZero (s : Dev) (x : Nat) : Dev :=
  let g := s.xg x
  (s.setXg x { g with slot0 := none, slot1 := none, zeroAfter := false }).syncSlots x

/-- What follows the last copy of CLOSING: the CLOSE arrives, slots are emptied, the crossing is freed. -/
def Dev.closingOver (s : Dev) (x : Nat) : Dev :=
  let g := s.xg x
  let s1 := match g.closeTk with | some k => s.finishKey k 0 0 0 | none => s
  let s2 := s1.setXg x { s1.xg x with closeTk := none, copies := 0 }
  if g.freeAfter then s2.xctFree x else if g.zeroAfter then s2.xctZero x else s2

/-- R438: the next copy of CLOSING is due. -/
def Dev.nextCopy (s : Dev) (x : Nat) : Dev :=
  let g := s.xg x
  if g.copies = 0 then s
  else
    let s1 := (s.at g.copyAt).closingCopy x g.reason
    let g1 := s1.xg x
    let s2 := s1.setXg x { g1 with copies := g.copies - 1, copyAt := g.copyAt + 10000 }
    if g.copies = 1 then s2.closingOver x else s2

/-- R426: the seal counter of a sealed crossing has reached its end. -/
def Dev.xctSpent (s : Dev) (x : Nat) : Bool :=
  s.xsealed x && (match (s.xg x).slot (s.get (Fld.XCT_XING_TX_SLOT x)) with
    | some k => decide (2 ^ 56 - 4 ≤ k.sctr)
    | none => false)

/-- A packet other than CLOSING leaves; where the seal counter is spent, CLOSING with REASON 0x05 leaves instead. -/
def Dev.xctPacket (s : Dev) (x : Nat) (h : XHdr) (ext pay : List Byte) : Dev × Nat :=
  if s.xctSpent x then (s.xctClosing x 5 6 false, 0) else s.xctSend x h ext pay

/-- R433: the owner's keys are zeroized: both slots of its crossings are emptied, after CLOSING copies still to leave. -/
def Dev.xctZeroOwner (s : Dev) (b : Nat) : Dev :=
  ((s.xing.map (·.1)).filter (fun x => s.xst x ≠ 0 && s.xowner x = b)).foldl (fun s x =>
    let g := s.xg x
    if 0 < g.copies then s.setXg x { g with zeroAfter := true } else s.xctZero x) s

/-- The crossings not FREE that a test on the owner selects. -/
def Dev.xingsOf (s : Dev) (p : Nat → Bool) : List Nat :=
  (s.regs.filter (fun e => decide (0x900000 ≤ e.1 ∧ e.1 < 0xA00000 ∧ (e.1 - 0x900000) % 16 = 0) && getBits e.2 0 3 ≠ 0)).map
    (fun e => (e.1 - 0x900000) / 16) |>.filter (fun x => p (s.xowner x))

/-- R438, R442: CLEAR, an FLR or a reset ends the crossings of the owners a test selects; those that are not bound or are in
ERROR without copies to send are freed at once. -/
def Dev.xctEnd (s : Dev) (p : Nat → Bool) (reason : Nat) : Dev :=
  (s.xingsOf p).foldl (fun s x =>
    if s.xst x = 2 || s.xst x = 3 then s.xctClosing x reason 7 true
    else if 0 < (s.xg x).copies then s.setXg x { s.xg x with freeAfter := true }
    else s.xctFree x) s

/-- R442: cold start and fundamental reset free every crossing; registers apart. -/
def Dev.xctReset (s : Dev) : Dev :=
  let s1 := { s with xing := [], xctLast := 0, xctFreed := [] }.resetRegs (fun k => decide (0x800000 ≤ k ∧ k < 0xC00000))
  s1.put Fld.IDENT_NODE_NODE_LOCKED 0

/-! Source entries (R409, R410) -/

/-- The source MAC entry i and source IP i of a berth's committed plan, where valid. -/
def Dev.srcMacAt (s : Dev) (b i : Nat) : Option Word :=
  if b = 0 then (if s.get Fld.BERTH0_SRC_VALID_MAC_VALID / 2 ^ i % 2 = 1 then some (s.reg (Reg.BERTH0_SRC_MAC i)) else none)
  else if getBits (s.reg (Reg.CPLAN_SRC_VALID b)) i 1 = 1 then some (s.reg (Reg.CPLAN_SRC_MAC b i)) else none
def Dev.srcIpAt (s : Dev) (b i : Nat) : Option Nat :=
  if b = 0 then
    (if s.get Fld.BERTH0_SRC_VALID_IP_VALID / 2 ^ i % 2 = 1 then
      some ((s.reg (Reg.BERTH0_SRC_IP i 0)).toNat + (s.reg (Reg.BERTH0_SRC_IP i 1)).toNat * 2 ^ 64) else none)
  else if getBits (s.reg (Reg.CPLAN_SRC_VALID b)) (8 + i) 1 = 1 then
    some ((s.reg (Reg.CPLAN_SRC_IP b i 0)).toNat + (s.reg (Reg.CPLAN_SRC_IP b i 1)).toNat * 2 ^ 64)
  else none

/-- R410: the crossings of a berth whose copied source entries its source table no longer holds are closed. -/
def Dev.xctSources (s : Dev) (b : Nat) : Dev :=
  ((s.xingsOf (fun o => o = b)).filter (fun x =>
    (s.xst x = 2 || s.xst x = 3) &&
      (s.srcMacAt b (wf (s.xg x).record 0 32 3) ≠ some (s.xg x).srcMac || s.srcIpAt b (wf (s.xg x).record 0 35 3) ≠ some (s.xg x).srcIp))).foldl
    (fun s x => s.xctClosing x 2 5 false) s

/-! Management tickets (R407 to R412, R415, R429 to R431) -/

/-- Table 11.1, R408: a management ticket naming crossing x may act: the states it is accepted in; `right`: the XCT right is
needed; outside the states it ends REFUSED with `detail`. -/
def Dev.xctManage (s : Dev) (t : Ticket) (x : Nat) (right : Bool) (states : List Nat) (detail : Nat) (f : Dev → Dev) : Dev :=
  if s.xst x = 0 then s.fail t 3 0x0604
  else if s.xowner x ≠ t.key.b then (s.spoof t.key.b).fail t 3 0x0601
  else if right && t.right 7 1 = 0 then (s.rightRefused t.key.b).fail t 3 0x0602
  else if !states.contains (s.xst x) then s.fail t 3 detail
  else f s

/-- OPEN (R405, R407). -/
def Dev.xctOpen (s : Dev) (t : Ticket) : Dev :=
  let b := t.key.b
  if !bodyZero t.words [] then s.fail t 3 0
  else if !s.on Fld.IDENT_NODE_NODE_VALID || !s.on Fld.XCT_CTRL_ENABLE then s.fail t 3 0x0603
  else if t.right 7 1 = 0 then (s.rightRefused b).fail t 3 0x0602
  else if b ≠ 0 && decide (getBits (t.planWord 0x10) 32 17 < s.get (Fld.USAGE_CROSSINGS_USED b) + 1) then (s.quotaBusy b).fail t 12 0x0608
  else if 65536 ≤ s.get Fld.XCT_USED_ALLOCATED then s.fail t 12 0x0609
  else match s.xctPick 65536 s.xctLast with
    | none => s.fail t 12 0x0609
    | some x =>
      let s1 := ({ s with xctLast := x + 1 }.setReg (Reg.XCT_XING x) (packW [(0, 3, 1), (8, 8, b)])).setReg (Reg.XCT_XING_CC x) 0
      ((s1.setXg x Xing.init).xctCount b true).finish t 0 0 x

/-- R435: RATE_MAX of a crossing in units of 100 MB/s: of the record, no more than the MAC's line rate. -/
def Dev.rateMax (s : Dev) (g : Xing) : Nat :=
  let line := match s.get (Fld.WHF_PORT_CTRL_MODE g.macOf.1) with | 0 => 1000 | 1 => 500 | _ => 250
  let r := wf g.record 6 0 16
  if r = 0 then line else min r line

/-- RATE within its bounds. -/
def Dev.setRate (s : Dev) (x r : Nat) : Dev := s.put (Fld.XCT_XING_CC_RATE x) (max 1 (min r (s.rateMax (s.xg x))))

/-- An address of the form ::ffff:a.b.c.d. -/
def isMapped (a : Nat) : Bool := a / 2 ^ 32 = 0xFFFF

/-- R409: a crossing record the rule refuses, the source address apart. -/
def Dev.recordBad (s : Dev) (x : Nat) (ws : List Word) : Bool :=
  let m := wf ws 0 38 1
  let j := wf ws 0 39 2
  let ip := (wordAt ws 2).toNat + (wordAt ws 3).toNat * 2 ^ 64
  wf ws 0 30 2 ≠ 0 || wf ws 0 50 14 ≠ 0 || wf ws 4 7 57 ≠ 0 || wf ws 6 32 32 ≠ 0 || wordAt ws 7 ≠ 0
    || wf ws 0 0 12 = s.get Fld.IDENT_NODE_NODE_ID || (wf ws 0 29 1 = 0 && !isMapped ip) || !s.macThere m j
    || decide (s.get (Fld.WHF_MAC_CTRL_MAX_FRAME m j) < 4224)
    || (wf ws 0 28 1 = 1 && ((s.xg x).slot (s.get (Fld.XCT_XING_TX_SLOT x))).isNone)

/-- BIND with its record read (R409). -/
def Dev.xctBindGo (s : Dev) (t : Ticket) : Dev :=
  let b := t.key.b
  let x := wf t.words 2 0 16
  let ws := toWords 8 (t.bytesAt 0 64)
  s.xctManage t x true [1] 0x0604 fun s =>
    if t.bad then s.fail t 8 0
    else if s.recordBad x ws then s.fail t 3 0x0605
    else match s.srcMacAt b (wf ws 0 32 3), s.srcIpAt b (wf ws 0 35 3) with
      | some mac, some ip =>
        if wf ws 0 29 1 = 0 && !isMapped ip then s.fail t 3 0x0605
        else
          let g := s.xg x
          let big := s.get (Fld.WHF_MAC_CTRL_MAX_FRAME (wf ws 0 38 1) (wf ws 0 39 2)) = 9216
          let g1 := { Xing.init with
            record := ws, srcMac := mac, srcIp := ip, slot0 := g.slot0, slot1 := g.slot1, pktMax := if big then 8192 else 4096
            nextPsn := wf ws 5 0 32, lastAck := wf ws 5 0 32, exp := wf ws 5 32 32, lastFlush := subMod (wf ws 5 32 32) 1 32
            depart := s.tide * 1000, incAt := s.tide }
          let s1 := (s.setXg x g1).put (Fld.XCT_XING_SEALED x) (wf ws 0 28 1)
          let s2 := (s1.put (Fld.XCT_XING_REMOTE_NODE x) (wf ws 0 0 12)).put (Fld.XCT_XING_REMOTE_XING x) (wf ws 0 12 16)
          let init := wf ws 6 16 16
          let s3 := s2.setRate x (if init = 0 then s2.get Fld.XCT_CC_R_INIT else init)
          (s3.xingState x 2 0 0).finish t 0 0 0
      | _, _ => (s.spoof b).fail t 3 0x0606

/-- BIND (R409): the record is read under LR. -/
def Dev.xctBind (s : Dev) (t : Ticket) : Dev :=
  let x := wf t.words 2 0 16
  if !bodyZero t.words [(2, 2 ^ 16 - 1), (3, 2 ^ 32 - 1), (4, 2 ^ 41 - 1)] then s.fail t 3 0
  else s.xctManage t x true [1] 0x0604 fun s =>
    let key := wf t.words 3 0 32
    match s.gatherPieces (.loc t.key.b) t key 5 0 (s.keyedPieces key (wf t.words 4 0 41) 64) 0 with
    | (.error e, s1, t1) => s1.fail t1 e.1 e.2
    | (.ok _, s1, t1) => if 0 < t1.left then s1.setTicket t1 else s1.xctBindGo t1

/-- R855, R861, R881: the key of a handle that names a CROSSING slot of a berth. -/
def Dev.crossingKey (s : Dev) (b handle : Nat) : Option (List Byte) :=
  let k := tget (fun _ => TlhKey.init) s.tlh handle
  if s.on Fld.TLH_STATUS_ZERO_FAIL || 16384 ≤ handle || k.key.isEmpty || k.owner ≠ b || k.kind ≠ 0 then none else some k.key

/-- KEY (R429). -/
def Dev.xctKey (s : Dev) (t : Ticket) : Dev :=
  let x := wf t.words 2 0 16
  let e := wf t.words 2 16 8
  let txs := wf t.words 4 0 32
  let rxs := wf t.words 4 32 32
  if !bodyZero t.words [(2, 2 ^ 24 - 1), (3, 2 ^ 24 - 1), (4, 2 ^ 64 - 1)] then s.fail t 3 0
  else s.xctManage t x true [1, 2] 0x0607 fun s =>
    let g := s.xg x
    let tx := s.get (Fld.XCT_XING_TX_SLOT x)
    let none_ := g.slot0.isNone && g.slot1.isNone
    let i := if none_ then 0 else 1 - tx
    match s.crossingKey t.key.b (wf t.words 3 0 24) with
    | none => s.fail t 3 0x0607
    | some k =>
      if txs = rxs || (g.slot i).isSome || (g.slot (1 - i)).any (fun o => o.epoch = e) then s.fail t 3 0x0607
      else
        let s1 := s.setXg x (g.setSlot i (some ⟨k, e, txs, rxs, 0, 0⟩))
        ((if none_ then s1.put (Fld.XCT_XING_TX_SLOT x) 0 else s1).syncSlots x).finish t 0 0 i

/-- SWITCH (R430). -/
def Dev.xctSwitch (s : Dev) (t : Ticket) : Dev :=
  let x := wf t.words 2 0 16
  if !bodyZero t.words [(2, 2 ^ 16 - 1)] then s.fail t 3 0
  else s.xctManage t x true [2, 3] 0x0604 fun s =>
    let i := 1 - s.get (Fld.XCT_XING_TX_SLOT x)
    match (s.xg x).slot i with
    | none => s.fail t 3 0x0607
    | some k => ((s.put (Fld.XCT_XING_TX_SLOT x) i).syncSlots x).finish t 0 0 k.epoch

/-- RETIRE (R431): the slot is emptied now; the arrival waits. -/
def Dev.xctRetire (s : Dev) (t : Ticket) : Dev :=
  let x := wf t.words 2 0 16
  if !bodyZero t.words [(2, 2 ^ 24 - 1)] then s.fail t 3 0
  else s.xctManage t x true [2, 3] 0x0604 fun s =>
    let g := s.xg x
    let i := 1 - s.get (Fld.XCT_XING_TX_SLOT x)
    match g.slot i with
    | none => s.fail t 3 0x0607
    | some k =>
      if k.epoch ≠ wf t.words 2 16 8 then s.fail t 3 0x0607
      else (s.setXg x { g.setSlot i none with retireTk := some t.key }).syncSlots x

/-- R431: no packet of the crossing waits in a transmit queue or in the receive engine. -/
def Dev.xctStill (s : Dev) (x : Nat) : Bool :=
  !s.txq.any (fun f => match f.source with | .xct _ y => y = x | _ => false) && !s.frames.any (fun f => f.stage = 2)

/-- The RETIRE that waits arrives. -/
def Dev.retireDone (s : Dev) (x : Nat) : Dev :=
  match (s.xg x).retireTk with
  | none => s
  | some k => if s.xctStill x then (s.setXg x { s.xg x with retireTk := none }).finishKey k 0 0 0 else s

/-- CLOSE (R411). -/
def Dev.xctClose (s : Dev) (t : Ticket) : Dev :=
  let x := wf t.words 2 0 16
  if !bodyZero t.words [(2, 2 ^ 17 - 1)] then s.fail t 3 0
  else s.xctManage t x true [2] 0x0604 fun s =>
    let s1 := (s.setXg x { s.xg x with closeTk := some t.key }).xingState x 3 0 0
    if wf t.words 2 16 1 = 1 then ((s1.xctOps x).foldl (fun s u => s.fail u 2 0) s1).xctClosing x 1 1 false else s1

/-- R411: every in-flight operation ticket of a closing crossing has arrived. -/
def Dev.closeDrained (s : Dev) (x : Nat) : Dev :=
  if s.xst x = 3 && (s.xctOps x).isEmpty then s.xctClosing x 1 1 false else s

/-- RELEASE (R412): copies of CLOSING still to send leave first. -/
def Dev.xctRelease (s : Dev) (t : Ticket) : Dev :=
  let x := wf t.words 2 0 16
  if !bodyZero t.words [(2, 2 ^ 16 - 1)] then s.fail t 3 0
  else s.xctManage t x true [1, 4] 0x0604 fun s =>
    let s1 := (s.nextCopy x).nextCopy x
    (if s1.xst x = 0 then s1 else s1.xctFree x).finish t 0 0 0

/-- QUERY (R415). -/
def Dev.xctQuery (s : Dev) (t : Ticket) : Dev :=
  let x := wf t.words 2 0 16
  if !bodyZero t.words [(2, 2 ^ 16 - 1)] then s.fail t 3 0
  else s.xctManage t x false [1, 2, 3, 4] 0x0604 fun s => s.finish t 0 0 (s.reg (Reg.XCT_XING x)).toNat

/-- R441: a write to XCT_CTRL. -/
def Dev.xctCtrlWrite (s : Dev) (v : Word) (size off : Nat) : Dev :=
  let w := s.writeReg Reg.XCT_CTRL v size off
  let changes := s.get Fld.XCT_CTRL_UDP_PORT ≠ w.get Fld.XCT_CTRL_UDP_PORT || (s.on Fld.XCT_CTRL_ENABLE && !w.on Fld.XCT_CTRL_ENABLE)
  if changes && s.on Fld.XCT_USED_ALLOCATED then s.put Fld.XCT_CTRL_CTRL_REFUSED 1 else w

/-! Receiving (R417, R418, R420 to R428) -/

/-- A packet that has passed the checks: crossing, header, extension, payload. -/
structure XRx where
  x : Nat
  h : XHdr
  ext : List Byte
  pay : List Byte
  ce : Bool
  deriving DecidableEq, Repr

/-- The counters of Table 11.5a, in the order of XCT_RX_DROPS0–3. -/
inductive XDrop where
  | noCrossing | idMismatch | modeMismatch | badEpoch | authFail (x : Nat) | replay | malformed | checksum
  deriving DecidableEq, Repr

def XDrop.fld : XDrop → Fld
  | .noCrossing => Fld.XCT_RX_DROPS_LO 0
  | .idMismatch => Fld.XCT_RX_DROPS_HI 0
  | .modeMismatch => Fld.XCT_RX_DROPS_LO 1
  | .badEpoch => Fld.XCT_RX_DROPS_HI 1
  | .authFail _ => Fld.XCT_RX_DROPS_LO 2
  | .replay => Fld.XCT_RX_DROPS_HI 2
  | .malformed => Fld.XCT_RX_DROPS_LO 3
  | .checksum => Fld.XCT_RX_DROPS_HI 3

/-- A discarded packet is counted. -/
def Dev.xctDrop (s : Dev) (d : XDrop) : Dev :=
  let s1 := s.sat d.fld
  match d with
  | .authFail x => s1.sat (Fld.XCT_XING_CC_AUTH_FAILS x)
  | _ => s1

/-- Table 11.6a: the extension's length by TYPE. -/
def extLen (ty : Nat) : Option Nat :=
  match ty with
  | 1 => some 16 | 2 => some 16 | 3 => some 16 | 4 => some 0 | 5 => some 24 | 6 => some 32 | 7 => some 8 | 8 => some 16
  | 9 => some 0 | 0xA => some 8 | 0xB => some 136 | 0xC => some 8 | 0xD => some 8
  | _ => none

/-- Table 11.6a: whether a payload length fits a TYPE. -/
def plenOk (ty n : Nat) : Bool :=
  match ty with
  | 1 => decide (1 ≤ n ∧ n ≤ 8192)
  | 2 => decide (n ≤ 8192)
  | 4 => decide (1 ≤ n ∧ n ≤ 8192)
  | _ => n = 0

/-- Table 11.6b: zero fields and ranges of an extension. -/
def extOk (ty : Nat) (e : List Byte) : Bool :=
  let a := ty = 1 || ty = 3 || ty = 5 || ty = 6 || ty = 8
  if a then
    let w := fbe e 4 4
    bitsOf (fbe e 8 8) 41 23 = 0 && bitsOf w 14 16 = 0
      && (if ty = 8 then decide (w / 2 ^ 30 < 2) else w / 2 ^ 30 = 0)
      && (if ty = 3 then decide (1 ≤ bitsOf w 0 14 ∧ bitsOf w 0 14 ≤ 8192) else bitsOf w 0 14 = 0)
  else if ty = 2 then decide (1 ≤ fbe e 4 4 ∧ fbe e 4 4 ≤ 2 ^ 30)
  else if ty = 0xC then fbe e 3 5 = 0
  else if ty = 0xD then fbe e 1 7 = 0
  else true

/-- The TYPE a frame's base header spells; none where check 1 cannot find one. -/
def xctType (d : List Byte) : Option Nat :=
  let l := parseL3 d
  if l.l4 && l.proto = 17 && decide (l.at_ + 9 ≤ d.length) then some (fbe d (l.at_ + 8) 1 % 16) else none

/-- R418: checks 1 and 2 of Table 11.5a: the UDP payload. -/
def Dev.xctOuter (s : Dev) (d : List Byte) : Except XDrop (List Byte) :=
  let l := parseL3 d
  let n := fbe d (l.at_ + 4) 2
  let size := if l.kind = 2 then 16 else 4
  let pseudo := beBytes size l.sip ++ beBytes size l.dip ++ (if l.kind = 2 then beBytes 4 n ++ beBytes 4 17 else beBytes 2 17 ++ beBytes 2 n)
  let udp := (d.drop l.at_).take n
  if !l.l4 || l.proto ≠ 17 || l.dport ≠ s.get Fld.XCT_CTRL_UDP_PORT || decide (d.length < l.at_ + n) || decide (n < 8) then .error .malformed
  else if fbe d (l.at_ + 6) 2 ≠ 0 && fold16 (fold16 (onesSum (pseudo ++ udp))) ≠ 0xFFFF then .error .checksum
  else
    let p := udp.drop 8
    let ty := fbe p 0 1 % 16
    let f := fbe p 1 1
    let plen := fbe p 10 2
    match extLen ty with
    | none => .error .malformed
    | some e =>
      if p.length < 24 || fbe p 0 1 / 16 ≠ 1 || f % 16 ≠ 0 || plen / 2 ^ 14 ≠ 0 || fbe p 23 1 ≠ 0 || !plenOk ty plen
        || p.length ≠ 24 + e + plen + (if f / 128 = 1 then 16 else 0) then .error .malformed
      else .ok p

/-- R418: checks 3 to 8 of Table 11.5a, then the extension; the crossing with its replay window moved. -/
def Dev.xctInner (s : Dev) (d p : List Byte) : Except XDrop (XRx × Xing) :=
  let l := parseL3 d
  let f := fbe p 1 1
  let nodes := fbe p 2 3
  let x := fbe p 8 2
  let ep := fbe p 5 1
  let sc := fbe p 16 7
  let g := s.xg x
  let ty := fbe p 0 1 % 16
  let e := (extLen ty).getD 0
  let done := fun (body : List Byte) (g : Xing) =>
    if extOk ty (body.take e) then
      Except.ok ((⟨x, ⟨ty, bitsOf f 6 1 = 1, bitsOf f 5 1 = 1, bitsOf f 4 1 = 1, fbe p 12 4⟩, body.take e, body.drop e, l.ecn = 3⟩ : XRx), g)
    else .error XDrop.malformed
  if nodes % 4096 ≠ s.get Fld.IDENT_NODE_NODE_ID || (s.xst x ≠ 2 && s.xst x ≠ 3) then .error .noCrossing
  else if nodes / 4096 ≠ s.get (Fld.XCT_XING_REMOTE_NODE x) || fbe p 6 2 ≠ s.get (Fld.XCT_XING_REMOTE_XING x)
    || l.sip ≠ g.remoteIp then .error .idMismatch
  else if (f / 128 = 1) ≠ s.xsealed x || (f / 128 = 0 && (ep ≠ 0 || sc ≠ 0)) then .error .modeMismatch
  else if f / 128 = 0 then done (p.drop 24) g
  else
    let i := if g.slot0.any (fun k => k.epoch = ep) then 0 else 1
    match g.slot i with
    | none => .error .badEpoch
    | some k =>
      if k.epoch ≠ ep then .error .badEpoch
      else if sc + 65536 < k.high - 1 then .error .replay
      else match Config.gcmOpen k.key (xctIv k.rxSalt ep sc) (p.take 24) (p.drop 24) with
        | none => .error (.authFail x)
        | some body => done body (g.setSlot i (some { k with high := max k.high (sc + 1) }))

/-- A frame delivered to the XCT engine is taken by the command of its TYPE: checked, counted (R418, R419), handed on. -/
def Dev.xctTake (s : Dev) (n ty : Nat) (f : Dev → XRx → Dev) : Dev :=
  match s.frameAt n 2 with
  | none => s
  | some fr =>
    let t := xctType fr.data
    if t ≠ some ty && t.any (fun u => (extLen u).isSome) then s
    else
      let s0 := s.frameGone fr
      if !s0.on Fld.XCT_CTRL_ENABLE then s0
      else match s0.xctOuter fr.data with
        | .error e => s0.xctDrop e
        | .ok p =>
          match s0.xctInner fr.data p with
          | .error e => s0.xctDrop e
          | .ok (r, g) =>
            let b := s0.xowner r.x
            let s1 := s0.setXg r.x { g with rxCe := if r.ce then (g.rxCe + 1) % 2 ^ 32 else g.rxCe }
            f (if b = 0 then s1 else s1.wrap (Fld.CNT_NET_RX_BYTES b) fr.data.length) r

/-! The commands -/

/-- XCT_OPEN (R405, R407). -/
def execXctOpen (b r slot : Nat) (s : State) : Out := s.dv fun d => d.serve b r slot 3 1 Dev.xctOpen
/-- XCT_BIND (R409). -/
def execXctBind (b r slot : Nat) (s : State) : Out := s.dv fun d => d.serve b r slot 3 2 Dev.xctBind
/-- XCT_KEY (R429). -/
def execXctKey (b r slot : Nat) (s : State) : Out := s.dv fun d => d.serve b r slot 3 3 Dev.xctKey
/-- XCT_SWITCH (R430). -/
def execXctSwitch (b r slot : Nat) (s : State) : Out := s.dv fun d => d.serve b r slot 3 4 Dev.xctSwitch
/-- XCT_RETIRE (R431). -/
def execXctRetire (b r slot : Nat) (s : State) : Out := s.dv fun d => d.serve b r slot 3 5 Dev.xctRetire
/-- RETIRE_QUIESCED (R431). -/
def execRetireQuiesced (x : Nat) (s : State) : Out := s.dvIf (decide (x < 65536)) (·.retireDone x)
/-- XCT_CLOSE (R411). -/
def execXctClose (b r slot : Nat) (s : State) : Out := s.dv fun d => d.serve b r slot 3 6 Dev.xctClose
/-- CLOSE_DRAINED (R411). -/
def execCloseDrained (x : Nat) (s : State) : Out := s.dvIf (decide (x < 65536)) (·.closeDrained x)
/-- XCT_RELEASE (R412). -/
def execXctRelease (b r slot : Nat) (s : State) : Out := s.dv fun d => d.serve b r slot 3 7 Dev.xctRelease
/-- XCT_QUERY (R415). -/
def execXctQuery (b r slot : Nat) (s : State) : Out := s.dv fun d => d.serve b r slot 3 8 Dev.xctQuery
/-- CLOSING_COPY_TIMER (R438). -/
def execClosingCopyTimer (x : Nat) (s : State) : Out := s.dvIf (decide (x < 65536)) (·.nextCopy x)
/-- RATE_INCREASE_TIMER (R435). -/
def execRateIncreaseTimer (x : Nat) (s : State) : Out :=
  s.dvIf (decide (x < 65536)) fun d =>
    if d.xst x = 2 || d.xst x = 3 then
      let t := (d.xg x).incAt + 1000 * d.get Fld.XCT_CC_AI_US
      let d1 := d.at t
      (d1.setXg x { d1.xg x with incAt := t }).setRate x (d1.get (Fld.XCT_XING_CC_RATE x) + d1.get Fld.XCT_CC_AI)
    else d
/-- XCT_CTRL_WRITE (R441). -/
def execXctCtrlWrite (v : Word) (s : State) : Out := s.dv (·.xctCtrlWrite v 8 0)

end Sys2Proof.Machine
end

