-- ==== Sys2Proof/Machine/XctOps.lean ====
section
/-! DEFINITION. Operations over crossings (spec/12): tickets and the forming of their packets, pacing and retransmission,
the target's screening and execution, acknowledgements and responses. -/

namespace Sys2Proof.Machine

/-! Acknowledgement by the target (R437, R462) -/

/-- Table 11.6b: C, and the bitmap where it is a SACK. -/
def Dev.ackExt (s : Dev) (g : Xing) : List Byte :=
  let c := beBytes 4 g.rxCe ++ beBytes 4 (s.tide - g.newest)
  if g.rcv = 0 then c
  else c ++ (List.range 128).map (fun i =>
    BitVec.ofNat 8 (((List.range 8).map (fun j => if 0 < 8 * i + j && bitsOf g.rcv (8 * i + j) 1 = 1 then 2 ^ (7 - j) else 0)).sum))

/-- An ACK or SACK leaves. -/
def Dev.xctAck (s : Dev) (x : Nat) : Dev :=
  let g := s.xg x
  let s1 := s.setXg x { g with unacked := 0, oldest := 0 }
  (s1.xctPacket x { ty := if g.rcv = 0 then 0xA else 0xB, psn := g.exp } (s.ackExt g) []).1

/-- A NAK leaves (R456). -/
def Dev.xctNak (s : Dev) (x psn code detail : Nat) : Dev :=
  (s.xctPacket x { ty := 0xC, psn := psn } (beBytes 1 code ++ beBytes 2 detail ++ beBytes 5 0) []).1

/-- R456: a sequenced packet failed: the failure is kept for a FLUSH and a NAK leaves. -/
def Dev.xctFailed (s : Dev) (x psn code detail : Nat) : Dev :=
  let g := s.xg x
  (s.setXg x { g with fails := g.fails ++ [(psn, code, detail)] }).xctNak x psn code detail

/-- Table 12.6: what a failed remote access reports: the status and DETAIL of a local one mapped. -/
def remoteError (e : Nat × Nat) : Nat × Nat := if e.1 = 4 then e else if e.1 = 8 then (8, 0x0709) else (3, 0x0702)

/-- R470: an answer enters the response cache, replacing the oldest of 16. -/
def Dev.xctCache (s : Dev) (x psn ty : Nat) (ext : List Byte) : Dev :=
  let g := s.xg x
  s.setXg x { g with cache := ((psn, ty, ext) :: g.cache).take 16 }

/-- A response waits for pacing (R434). -/
def Dev.xctRespond (s : Dev) (x ty psn : Nat) (ext pay : List Byte) : Dev :=
  let g := s.xg x
  s.setXg x { g with ready := g.ready ++ [.resp ty psn ext pay] }

/-- A NAK of an atomic or a FLUSH, which enters the response cache. -/
def Dev.xctNakCached (s : Dev) (x psn code detail : Nat) : Dev :=
  (s.xctCache x psn 0xC (beBytes 1 code ++ beBytes 2 detail ++ beBytes 5 0)).xctFailed x psn code detail

/-! Execution at the target (R453 to R458, R474) -/

/-- The remote pieces of an access, all checked and translated before any moves. -/
def Dev.remotePieces (s : Dev) (x key kind : Nat) : List (Nat × Nat) → Except (Nat × Nat) (List (Dest × Nat)) × Dev
  | [] => (.ok [], s)
  | (off, len) :: ps =>
    match s.keyedPiece (.rem x) key off len kind (s.accelOf (s.xowner x)) 5 ((s.xg x).macOf.1) with
    | (.error e, s1) => (.error e, s1)
    | (.ok d, s1) =>
      match s1.remotePieces x key kind ps with
      | (.error e, s2) => (.error e, s2)
      | (.ok ds, s2) => (.ok ((d, len) :: ds), s2)

/-- A placement for a crossing: the owner's ceiling and counters, the last DW on each link (R454). -/
def Dev.xctPlace (s : Dev) (x : Nat) (d : Dest) (bs : List Byte) : Dev :=
  let b := s.xowner x
  let s1 := match d with
    | .ap _ _ =>
      let s0 := s.rateGate b 2 bs.length (if b = 0 then 0 else s.get (Fld.CPLAN_RATE_ACCEL b))
      if b = 0 then s0 else s0.wrap (Fld.CNT_ACCEL_BYTES b) bs.length
    | _ => s
  let s2 := s1.writeDest d bs true false
  match d.link with
  | none => s2
  | some (l, f, a) =>
    let g := s2.xg x
    s2.setXg x { g with placed := tput (fun _ => (0, 0)) g.placed l (f, (a + bs.length - 1) / 4 * 4 + 1) }

/-- PUT: no byte of a packet that fails is placed (R456). -/
def Dev.xctPut (s : Dev) (p : XRx) : Dev :=
  let key := fbe p.ext 0 4
  match s.remotePieces p.x key 1 (s.keyedPieces key (bitsOf (fbe p.ext 8 8) 0 41) p.pay.length) with
  | (.error e, s1) => let (c, d) := remoteError e; s1.xctFailed p.x p.h.psn c d
  | (.ok ds, s1) => (ds.foldl (fun (a : Dev × List Byte) d => (a.1.xctPlace p.x d.1 (a.2.take d.2), a.2.drop d.2)) (s1, p.pay)).1

/-- The earliest-taken waiting RECV on the crossing's RX_RING (R457). -/
def Dev.recvFor (s : Dev) (x : Nat) : Option Ticket :=
  s.tickets.find? (fun t => t.key.b = s.xowner x && t.key.r = wf (s.xg x).record 4 0 6 && t.started && wf t.words 0 8 4 = 3
    && wf t.words 0 0 8 = 0x18 && t.aux.isEmpty)

/-- An assembly entered, or changed. -/
def Xing.setAsm (g : Xing) (a : XAsm) : Xing :=
  if g.asm.any (fun b => b.firstPsn = a.firstPsn) then { g with asm := g.asm.map (fun b => if b.firstPsn = a.firstPsn then a else b) }
  else { g with asm := g.asm ++ [a] }

/-- POST bytes written under the RECV's DST_KEY, at most CAPACITY (R457). -/
def Dev.postWrite (s : Dev) (x : Nat) (t : Ticket) (off : Nat) (bs : List Byte) : Except (Nat × Nat) Unit × Dev :=
  let key := wf t.words 2 0 32
  let cap := wf t.words 4 0 31
  let bs1 := bs.take (cap - off)
  let b := t.key.b
  let doff := wf t.words 3 0 41 + off
  let ps := s.keyedPieces key doff bs1.length
  let chk := ps.foldl (fun (a : Except (Nat × Nat) (List (Dest × Nat)) × Dev) p =>
    match a with
    | (.error e, s) => (.error e, s)
    | (.ok ds, s) =>
      match s.keyedPiece (.loc b) key p.1 p.2 1 t.accel 5 ((s.xg x).macOf.1) with
      | (.error e, s1) => (.error e, s1)
      | (.ok d, s1) => (.ok (ds ++ [(d, p.2)]), s1)) (.ok [], s)
  match chk with
  | (.error e, s1) => (.error e, s1)
  | (.ok ds, s1) => (.ok (), (ds.foldl (fun (a : Dev × List Byte) d => (a.1.xctPlace x d.1 (a.2.take d.2), a.2.drop d.2)) (s1, bs1)).1)

/-- One packet of a message whose RECV is bound. -/
def Dev.postInto (s : Dev) (p : XRx) (a : XAsm) : Dev :=
  let a1 := { a with last := if p.h.last then p.h.psn + 1 else a.last }
  match a1.recv with
  | none => s.setXg p.x ((s.xg p.x).setAsm a1)
  | some k =>
    match s.ticketOf k with
    | none => s.setXg p.x ((s.xg p.x).setAsm { a1 with recv := none })
    | some t =>
      if p.pay.isEmpty then
        if p.h.last then (s.setXg p.x ((s.xg p.x).setAsm { a1 with recv := none })).fail t 7 0x0708
        else s.setXg p.x ((s.xg p.x).setAsm a1)
      else
        let off := fbe p.ext 8 4
        match s.postWrite p.x t off p.pay with
        | (.error e, s1) =>
          let (c, d) := remoteError e
          ((s1.setXg p.x ((s1.xg p.x).setAsm { a1 with recv := none })).fail t e.1 e.2).xctFailed p.x p.h.psn c d
        | (.ok _, s1) =>
          let w := min p.pay.length (wf t.words 4 0 31 - off)
          s1.setXg p.x ((s1.xg p.x).setAsm { a1 with got := a.got + p.pay.length, wrote := a.wrote + w })

/-- POST (R457, R458). -/
def Dev.xctPost (s : Dev) (p : XRx) : Dev :=
  let g := s.xg p.x
  let first := fbe p.ext 12 4
  match g.asm.find? (fun a => a.firstPsn = first) with
  | some a => s.postInto p a
  | none =>
    let a : XAsm := ⟨first, fbe p.ext 4 4, fbe p.ext 0 4, none, 0, 0, if p.h.last then p.h.psn + 1 else 0⟩
    let refuse := fun c d => (s.setXg p.x (g.setAsm a)).xctFailed p.x p.h.psn c d
    if wf g.record 4 6 1 = 0 then refuse 3 0x0707
    else match s.recvFor p.x with
      | none => refuse 12 0x0706
      | some t =>
        if 16 ≤ (g.asm.filter (fun b => b.recv.isSome)).length then refuse 12 0x0706
        else (s.setTicket { t with aux := [p.x] }).postInto p { a with recv := some t.key }

/-- R457: messages whose bytes are all placed and whose last PSN E has passed complete; assemblies that E has passed close. -/
def Dev.asmSettle (s : Dev) (x : Nat) : Dev :=
  let g := s.xg x
  let ended := fun (a : XAsm) => decide (0 < a.last) && after g.exp (a.last - 1) 32 && (a.recv.isNone || decide (a.msgLen ≤ a.got))
  let s1 := s.setXg x { g with asm := g.asm.filter (fun a => !ended a) }
  (g.asm.filter ended).foldl (fun s a =>
    match a.recv with
    | none => s
    | some k =>
      match s.ticketOf k with
      | none => s
      | some t => s.finish t 0 x (a.tag + a.wrote * 2 ^ 32 + (if wf t.words 4 0 31 < a.msgLen then 2 ^ 63 else 0))) s1

/-- GET_REQ, once fenced or again (R453, R469). -/
def Dev.xctGetRun (s : Dev) (x psn : Nat) (ext : List Byte) : Dev :=
  let key := fbe ext 0 4
  let len := bitsOf (fbe ext 4 4) 0 14
  match s.remotePieces x key 0 (s.keyedPieces key (bitsOf (fbe ext 8 8) 0 41) len) with
  | (.error e, s1) => let (c, d) := remoteError e; s1.xctFailed x psn c d
  | (.ok ds, s1) =>
    let (s2, got, _) := ds.foldl (fun (a : Dev × XGet × Nat) d =>
      let (s, got, at_) := a
      match d.1 with
      | .mem m => (s, { got with data := putBytes (fun _ => 0) got.data at_ (s.bytes m d.2), bad := got.bad || s.poisoned m d.2 }, at_ + d.2)
      | .ap n a => (s.sendRead (.ap n a) d.2 (.xctGet x psn at_), { got with left := got.left + 1 }, at_ + d.2)
      | .host f a ns =>
        let cs := chunks (d.2 + 1) s.mrrs a (List.replicate d.2 0)
        (cs.foldl (fun s c => s.sendRead (.host f c.1 ns) c.2.length (.xctGet x psn (at_ + (c.1 - a)))) s,
          { got with left := got.left + cs.length }, at_ + d.2)) (s1, (⟨psn, len, [], 0, false⟩ : XGet), 0)
    if 0 < got.left then s2.setXg x { s2.xg x with gets := (s2.xg x).gets ++ [got] }
    else if got.bad then s2.xctFailed x psn 8 0x0709
    else s2.xctRespond x 4 psn [] ((List.range len).map (fun i => tget (fun _ => 0) got.data i))

/-- One read of a GET served as target has come: its bytes, or the status and DETAIL of its failure. -/
def Dev.xctGot (s : Dev) (x psn off : Nat) (r : Except (Nat × Nat) (List Byte × Bool)) : Dev :=
  let g := s.xg x
  match g.gets.find? (fun q => q.psn = psn) with
  | none => s
  | some q =>
    let rest := g.gets.erase q
    match r with
    | .error e => (s.setXg x { g with gets := rest }).xctFailed x psn e.1 e.2
    | .ok (bs, bad) =>
      let q1 := { q with data := putBytes (fun _ => 0) q.data off bs, bad := q.bad || bad, left := q.left - 1 }
      if 0 < q1.left then s.setXg x { g with gets := rest ++ [q1] }
      else if q1.bad then (s.setXg x { g with gets := rest }).xctFailed x psn 8 0x0709
      else (s.setXg x { g with gets := rest }).xctRespond x 4 psn [] ((List.range q.len).map (fun i => tget (fun _ => 0) q1.data i))

/-- An atomic is answered with OLD. -/
def Dev.xctOld (s : Dev) (x psn : Nat) (old : List Byte) : Dev := (s.xctCache x psn 7 old).xctRespond x 7 psn old []

/-- FADD and CSWAP, once fenced (R453, R474). -/
def Dev.xctAtomicRun (s : Dev) (x psn ty : Nat) (ext : List Byte) : Dev :=
  let key := fbe ext 0 4
  let a := fbe ext 16 8
  let c := fbe ext 24 8
  match s.keyedPiece (.rem x) key (bitsOf (fbe ext 8 8) 0 41) 8 2 (s.accelOf (s.xowner x)) 5 ((s.xg x).macOf.1) with
  | (.error e, s1) => let (c, d) := remoteError e; s1.xctNakCached x psn c d
  | (.ok (.ap _ _), s1) => s1.xctNakCached x psn 7 0x0703
  | (.ok (.mem m), s1) =>
    if m % 8 ≠ 0 then s1.xctNakCached x psn 7 0x0703
    else if s1.poisoned m 8 then s1.xctNakCached x psn 8 0x0709
    else
      let old := ofLe (s1.bytes m 8)
      let new := if ty = 5 then (old + a) % 2 ^ 64 else if old = a then c else old
      (s1.writeMem m (leBytes 8 new)).xctOld x psn (beBytes 8 old)
  | (.ok (.host f m _), s1) =>
    if m % 8 ≠ 0 then s1.xctNakCached x psn 7 0x0703
    else
      let t := s1.nextTag
      let s2 := s1.hostSend ⟨.hostAtomic, [f, m, if ty = 5 then 0 else 1, t], leBytes 8 a ++ (if ty = 5 then [] else leBytes 8 c)⟩
      let s3 := { s2 with outst := s2.outst ++ [(⟨t, 0, f, m, 8, .xctAtomic x psn⟩ : Outst)], nextTag := t + 1 }
      s3.setXg x { s3.xg x with atoms := psn :: (s3.xg x).atoms }

/-- The host's answer to an atomic served as target. -/
def Dev.xctAtomicDone (s : Dev) (x psn : Nat) (r : Except (Nat × Nat) (List Byte)) : Dev :=
  let g := s.xg x
  if !g.atoms.contains psn then s
  else
    let s1 := s.setXg x { g with atoms := g.atoms.erase psn }
    match r with
    | .ok old => s1.xctOld x psn old.reverse
    | .error e => s1.xctNakCached x psn e.1 e.2

/-- FLUSH_RESP. -/
def Dev.xctFlushed (s : Dev) (x psn : Nat) : Dev := (s.xctCache x psn 9 []).xctRespond x 9 psn [] []

/-- A link is up for proving reads: the host link, or a LIVE accelerator port. -/
def Dev.linkLive (s : Dev) (l : Nat) : Bool := l = 0 || s.on (Fld.LND_AWIN_LIVE (l - 1))

/-- FLUSH_REQ, once fenced (R454, R455).  A link of `placed` with function 0xFFFF has gone down since. -/
def Dev.xctFlushRun (s : Dev) (x psn : Nat) (ext : List Byte) : Dev :=
  let key := fbe ext 0 4
  match s.keyedPiece (.rem x) key (bitsOf (fbe ext 8 8) 0 41) 0 1 (s.accelOf (s.xowner x)) 5 ((s.xg x).macOf.1) with
  | (.error e, s1) => let (c, d) := remoteError e; s1.xctNakCached x psn c d
  | (.ok _, s1) =>
    let g := s1.xg x
    let early := g.fails.filter (fun f => before f.1 psn 32 && after f.1 g.lastFlush 32)
    let first := early.foldl (fun (a : Option (Nat × Nat × Nat)) f =>
      match a with | none => some f | some h => if before f.1 h.1 32 then some f else some h) none
    let s2 := s1.setXg x { g with lastFlush := psn, placed := [], fails := g.fails.filter (fun f => after f.1 psn 32) }
    match first with
    | some f => s2.xctNakCached x psn f.2.1 f.2.2
    | none =>
      if fbe ext 4 1 / 64 = 1 && !(wf (s2.moorDesc (keyIndex key)) 0 7 1 = 1 && s2.get Fld.VLT_STATUS_STATE = 2) then
        s2.xctNakCached x psn 7 0x0704
      else if g.placed.isEmpty then s2.xctFlushed x psn
      else if g.placed.any (fun l => l.2.1 = 0xFFFF || !s2.linkLive l.1) then s2.xctNakCached x psn 0xA 0x0303
      else
        let s3 := g.placed.foldl (fun s l => s.sendProve l.1 l.2.1 (l.2.2 - 1) (.xctProve x psn)) s2
        s3.setXg x { s3.xg x with proves := (s3.xg x).proves ++ [(psn, g.placed.length)] }

end Sys2Proof.Machine
end

