-- ==== Sys2Proof/Machine/XctReq.lean ====
section
/-! DEFINITION. The requester's end of a crossing (spec/12): tickets, the forming, pacing and retransmission of packets,
acknowledgements and responses, and the commands of operations and packets. -/

namespace Sys2Proof.Machine

/-! Screening at the target (R452, R469, R470) -/

/-- Table 12.5: a duplicate. -/
def Dev.xctDuplicate (s : Dev) (p : XRx) : Dev :=
  let g := s.xg p.x
  let psn := p.h.psn
  let waits := g.fenced.any (fun q => q.1 = psn) || g.gets.any (fun q => q.psn = psn) || g.proves.any (fun q => q.1 = psn)
    || g.atoms.contains psn
  if p.h.ty = 1 || p.h.ty = 2 || waits then s
  else if p.h.ty = 3 then s.xctGetRun p.x psn p.ext
  else match g.cache.find? (fun c => c.1 = psn) with
    | some c => if c.2.1 = 0xC then (s.xctPacket p.x { ty := 0xC, psn := psn } c.2.2 []).1 else s.xctRespond p.x c.2.1 psn c.2.2 []
    | none => (s.xctNak p.x psn 0xB 0x070A).xingError p.x 4 0

/-- The receive window after bits are set: E passes what has been received in order (R452). -/
def slideWindow : Nat → Nat → Nat → Nat × Nat
  | 0, e, rcv => (e, rcv)
  | n + 1, e, rcv => if rcv % 2 = 1 then slideWindow n ((e + 1) % 2 ^ 32) (rcv / 2) else (e, rcv)

/-- R462: a sequenced packet has arrived; `now`: an event of R462 asks for the acknowledgement. -/
def Dev.xctArrived (s : Dev) (p : XRx) (now : Bool) : Dev :=
  if s.xst p.x ≠ 2 && s.xst p.x ≠ 3 then s
  else
    let g := s.xg p.x
    let s1 := s.setXg p.x { g with
      unacked := g.unacked + 1, oldest := if g.unacked = 0 then s.tide + 1 else g.oldest, newest := s.tide }
    if now || p.h.ackNow || p.h.last || p.ce || decide (16 ≤ g.unacked + 1) then s1.xctAck p.x else s1

/-- R452: a sequenced packet is screened, executed or queued behind the fence, and acknowledged. -/
def Dev.xctSequenced (s : Dev) (p : XRx) : Dev :=
  let g := s.xg p.x
  let psn := p.h.psn
  let d := subMod psn g.exp 32
  if d < 1024 then
    if bitsOf g.rcv d 1 = 1 then (s.xctDuplicate p).xctArrived p true
    else
      let gap := if g.rcv = 0 then decide (0 < d) else decide (g.rcv.log2 + 1 < d)
      let s1 := s.setXg p.x { g with rcv := g.rcv + 2 ^ d }
      let s2 := match p.h.ty with
        | 1 => s1.xctPut p
        | 2 => s1.xctPost p
        | ty => s1.setXg p.x { s1.xg p.x with fenced := (s1.xg p.x).fenced ++ [(psn, ty, p.ext)] }
      let g2 := s2.xg p.x
      let w := slideWindow 1024 g2.exp g2.rcv
      ((s2.setXg p.x { g2 with exp := w.1, rcv := w.2 }).asmSettle p.x).xctArrived p gap
  else if subMod g.exp psn 32 ≤ 65536 then (s.xctDuplicate p).xctArrived p true
  else s.xctAck p.x

/-- R453: the fenced request that comes first starts once E is after its PSN. -/
def Dev.fencedRun (s : Dev) (x : Nat) : Dev :=
  let g := s.xg x
  let open_ := g.fenced.filter (fun q => after g.exp q.1 32)
  match open_.foldl (fun (a : Option (Nat × Nat × List Byte)) q =>
    match a with | none => some q | some h => if before q.1 h.1 32 then some q else some h) none with
  | none => s
  | some q =>
    if !g.atoms.isEmpty || (s.xst x ≠ 2 && s.xst x ≠ 3) then s
    else
      let s1 := s.setXg x { g with fenced := g.fenced.erase q }
      match q.2.1 with
      | 3 => s1.xctGetRun x q.1 q.2.2
      | 8 => s1.xctFlushRun x q.1 q.2.2
      | ty => s1.xctAtomicRun x q.1 ty q.2.2

/-- R454: a proving read made for a FLUSH_REQ has ended. -/
def Dev.xctProved (s : Dev) (x psn : Nat) (e : Option (Nat × Nat)) : Dev :=
  let g := s.xg x
  match g.proves.find? (fun q => q.1 = psn) with
  | none => s
  | some q =>
    let s1 := s.setXg x { g with proves := g.proves.erase q }
    match e with
    | some (c, d) => s1.xctNakCached x psn c d
    | none => if 1 < q.2 then s1.setXg x { s1.xg x with proves := (s1.xg x).proves ++ [(psn, q.2 - 1)] } else s1.xctFlushed x psn

/-! Tickets (R447, R448) -/

/-- Table 12.1: the bits a body uses, and whether its values are in range. -/
def opBody (op : Nat) (ws : List Word) : Bool × Bool :=
  let m16 := 2 ^ 16 - 1
  let hi := (2 ^ 32 - 1) * 2 ^ 32
  let len := decide (1 ≤ wf ws 6 0 31 ∧ wf ws 6 0 31 ≤ 2 ^ 30)
  match op with
  | 0x10 => (bodyZero ws [(2, m16), (3, 2 ^ 64 - 1), (4, 2 ^ 41 - 1), (5, 2 ^ 41 - 1), (6, 2 ^ 31 - 1)], len)
  | 0x11 => (bodyZero ws [(2, m16), (3, 2 ^ 64 - 1), (4, 2 ^ 41 - 1), (5, 2 ^ 41 - 1), (6, 2 ^ 31 - 1)], len)
  | 0x12 => (bodyZero ws [(2, m16 + hi), (3, 2 ^ 32 - 1), (4, 2 ^ 41 - 1), (6, 2 ^ 31 - 1)], len)
  | 0x13 => (bodyZero ws [(2, m16), (3, hi), (5, 2 ^ 41 - 1), (6, 2 ^ 64 - 1)], wf ws 5 0 3 = 0)
  | 0x14 => (bodyZero ws [(2, m16), (3, hi), (5, 2 ^ 41 - 1), (6, 2 ^ 64 - 1), (7, 2 ^ 64 - 1)], wf ws 5 0 3 = 0)
  | _ => (bodyZero ws [(2, 2 ^ 18 - 1), (3, hi), (5, 2 ^ 41 - 1)], decide (wf ws 2 16 2 < 2))

/-- R448: an operation ticket is checked, and its packets wait to be formed in their turn (R449). -/
def Dev.xctStart (s : Dev) (t : Ticket) : Dev :=
  let b := t.key.b
  let op := wf t.words 0 0 8
  let x := wf t.words 2 0 16
  let ok := opBody op t.words
  if !ok.1 then s.fail t 3 0
  else if s.xst x = 0 then s.fail t 3 0x0604
  else if s.xowner x ≠ b then (s.spoof b).fail t 3 0x0601
  else if t.right 7 1 = 0 then (s.rightRefused b).fail t 3 0x0602
  else if s.xst x = 1 then s.fail t 3 0x0604
  else if s.xst x ≠ 2 then s.fail t 6 (0x0610 + s.get (Fld.XCT_XING_CAUSE x))
  else if !ok.2 then s.fail t 3 0x0701
  else
    let data := op = 0x10 || op = 0x11 || op = 0x12
    let len := if data then wf t.words 6 0 31 else 1
    let go := fun (s : Dev) =>
      let g := s.xg x
      (s.workOn t.key).setXg x { g with form := g.form ++ [⟨t.key, op, len, 0, 0, wf t.words 2 32 32⟩] }
    if data then
      match s.keyCheck (.loc b) (wf t.words 3 0 32) (wf t.words 4 0 41) len (if op = 0x11 then 1 else 0) with
      | .error e => (s.keyFault (.loc b) e).fail t e.1 e.2
      | .ok _ => go s
    else go s

/-- RECV waits (R448, R457). -/
def Dev.recvStart (s : Dev) (t : Ticket) : Dev :=
  if !bodyZero t.words [(2, 2 ^ 32 - 1), (3, 2 ^ 41 - 1), (4, 2 ^ 31 - 1)] then s.fail t 3 0
  else if t.right 7 1 = 0 then (s.rightRefused t.key.b).fail t 3 0x0602
  else if wf t.words 4 0 31 = 0 || decide (2 ^ 30 < wf t.words 4 0 31) then s.fail t 3 0x0701
  else s

/-! Forming (R449 to R451, R458, R468) -/

/-- The types that wait for an answer. -/
def needsAnswer (ty : Nat) : Bool := ty = 3 || ty = 5 || ty = 6 || ty = 8

/-- A packet of this end is over: covered and, where it needs one, answered. -/
def XPkt.over (p : XPkt) : Bool := p.covered && (p.answered || !needsAnswer p.ty)

/-- R434: PSNs in flight from the oldest unacknowledged one. -/
def Xing.inFlight (g : Xing) : Nat :=
  match g.out.find? (fun p => !p.covered) with
  | some p => subMod g.nextPsn p.psn 32
  | none => 0

/-- Table 11.6b: the extension of a packet of a ticket at an offset. -/
def opExt (op : Nat) (ws : List Word) (f : XForm) (n : Nat) : List Byte :=
  let rkey := wf ws 3 32 32
  match op with
  | 0x10 => beBytes 4 rkey ++ beBytes 4 0 ++ beBytes 8 (wf ws 5 0 41 + f.off)
  | 0x11 => beBytes 4 rkey ++ beBytes 4 n ++ beBytes 8 (wf ws 5 0 41 + f.off)
  | 0x12 => beBytes 4 f.tag ++ beBytes 4 f.len ++ beBytes 4 f.off ++ beBytes 4 f.firstPsn
  | 0x13 => beBytes 4 rkey ++ beBytes 4 0 ++ beBytes 8 (wf ws 5 0 41) ++ beBytes 8 (wordAt ws 6).toNat
  | 0x14 => beBytes 4 rkey ++ beBytes 4 0 ++ beBytes 8 (wf ws 5 0 41) ++ beBytes 8 (wordAt ws 6).toNat ++ beBytes 8 (wordAt ws 7).toNat
  | _ => beBytes 4 rkey ++ beBytes 4 (wf ws 2 16 2 * 2 ^ 30) ++ beBytes 8 (wf ws 5 0 41)

/-- The TYPE of an operation's packets. -/
def opType (op : Nat) : Nat :=
  match op with | 0x10 => 1 | 0x11 => 3 | 0x12 => 2 | 0x13 => 5 | 0x14 => 6 | _ => 8

/-- R434: when a packet whose frame has n bytes has left, in ps. -/
def Dev.paceAfter (s : Dev) (x n : Nat) : Dev :=
  let g := s.xg x
  s.setXg x { g with depart := s.tide * 1000 + n * 10000 / max 1 (s.get (Fld.XCT_XING_CC_RATE x)) }

/-- R464: what remains below a ticket is over: its packets are forgotten, DEPARTED is reported (Table 12.4); a result whose
ticket has ended is discarded and counted (R197, R468), but for one that a NAK ended (R461). -/
def Dev.xctSettle (s : Dev) (x : Nat) : Dev :=
  let g := s.xg x
  let done := fun (k : TKey) => g.form.all (fun f => f.tk ≠ k) && (g.making.all (fun m => m.pkt.tk ≠ k))
    && (g.out.filter (fun p => p.tk = k)).all XPkt.over
  let tks := ((g.out.filter XPkt.over).map (fun p => p.tk)).eraseDups.filter done
  tks.foldl (fun s k =>
    let g := s.xg x
    let ty := (g.out.find? (fun p => p.tk = k)).elim 0 (fun p => p.ty)
    let s1 := (s.setXg x { g with out := g.out.filter (fun p => p.tk ≠ k) }).workClear k
    if ty = 1 || ty = 2 then
      match s1.ticketOf k with
      | some t => s1.finish t 1 0 (wf t.words 6 0 31)
      | none => if g.out.any (fun p => decide (p.tk = k) && p.answered) then s1 else s1.sat Fld.ERR_LADDER_LATE_DISCARDS
    else s1) s

/-- A packet of a ticket leaves for the first time or again. -/
def Dev.xctEmitPkt (s : Dev) (x : Nat) (p : XPkt) (ackNow : Bool) (pay : List Byte) : Dev :=
  let (s1, n) := s.xctPacket x { ty := p.ty, ackNow := ackNow, first := p.first, last := p.last, psn := p.psn } p.ext pay
  if s1.xst x ≠ 2 && s1.xst x ≠ 3 then s1
  else
    let g := s1.xg x
    let p1 := { p with
      firstSent := if p.firstSent = 0 then s1.tide + 1 else p.firstSent, lastSent := s1.tide + 1, sends := p.sends + 1 }
    (s1.setXg x { g with out := g.out.map (fun q => if q.psn = p.psn then p1 else q) }).paceAfter x n

/-- R449, R450: a formed packet takes the next PSN and leaves. -/
def Dev.xctNew (s : Dev) (x : Nat) (p : XPkt) (pay : List Byte) : Dev :=
  let g := s.xg x
  match g.form with
  | [] => s
  | f :: rest =>
    let n := if p.ty = 3 then p.len else pay.length
    let f1 := { f with off := f.off + n, firstPsn := if f.off = 0 then g.nextPsn else f.firstPsn }
    let p1 := { p with psn := g.nextPsn, first := f.off = 0,
                       ext := if p.ty = 2 && f.off = 0 then p.ext.take 12 ++ beBytes 4 g.nextPsn else p.ext }
    let s1 := s.setXg x { g with nextPsn := (g.nextPsn + 1) % 2 ^ 32, out := g.out ++ [p1], form := if p.last then rest else f1 :: rest }
    s1.xctEmitPkt x p1 p1.ackNow pay

/-- R449, R468: the ticket at the head of the forming queue no longer forms packets; a POST cut short ends its message.  A
ticket that a NAK has taken out of the queue already leaves the head alone (R461). -/
def Dev.xctCut (s : Dev) (x : Nat) (k : TKey) : Dev :=
  let g := s.xg x
  match g.form with
  | [] => s
  | f :: rest =>
    if f.tk ≠ k then s
    else if f.op = 0x12 && 0 < f.off then
      s.xctNew x ⟨0, f.tk, 2, false, true, false,
        beBytes 4 f.tag ++ beBytes 4 f.len ++ beBytes 4 f.off ++ beBytes 4 f.firstPsn, 0, 0, 0, 0, 0, 0, 0, false, false, 0⟩ []
    else
      let s1 := s.setXg x { g with form := rest }
      if g.out.any (fun p => p.tk = f.tk) then s1 else s1.workClear f.tk

/-- The source bytes of a packet are read piece by piece (R450, R465): at once from the device, or over links. -/
def Dev.xctRead (s : Dev) (x : Nat) (b accel key off len : Nat) : Except (Nat × Nat) (XMake × Dev) × Dev :=
  let ps := s.keyedPieces key off len
  let empty : XPkt := ⟨0, ⟨0, 0, 0, 0⟩, 0, false, false, false, [], 0, 0, 0, 0, 0, 0, 0, false, false, 0⟩
  let r := ps.foldl (fun (a : Except (Nat × Nat) XMake × Dev) p =>
    match a with
    | (.error e, s) => (.error e, s)
    | (.ok m, s) =>
      let at_ := p.1 - off
      match s.keyedPiece (.loc b) key p.1 p.2 0 accel 5 ((s.xg x).macOf.1) with
      | (.error e, s1) => (.error e, s1)
      | (.ok (.mem a), s1) =>
        (.ok { m with data := putBytes (fun _ => 0) m.data at_ (s1.bytes a p.2), bad := m.bad || s1.poisoned a p.2 }, s1)
      | (.ok (.ap n a), s1) => (.ok { m with left := m.left + 1 }, s1.sendRead (.ap n a) p.2 (.xctRead x at_))
      | (.ok (.host f a ns), s1) =>
        if s1.ideInsecure f then (.error (7, 0x0403), s1)
        else
          let cs := chunks (p.2 + 1) s1.mrrs a (List.replicate p.2 0)
          (.ok { m with left := m.left + cs.length },
            cs.foldl (fun s c => s.sendRead (.host f c.1 ns) c.2.length (.xctRead x (at_ + (c.1 - a)))) s1))
    (.ok ⟨empty, true, [], 0, false⟩, s)
  match r with
  | (.error e, s1) => (.error e, s1)
  | (.ok m, s1) => (.ok (m, s1), s1)

/-- The bytes a packet's source came to. -/
def XMake.bytes (m : XMake) : List Byte := (List.range m.pkt.len).map (fun i => tget (fun _ => 0) m.data i)

/-- A packet whose source has been read leaves; poisoned data ends its ticket, or, at a retransmission, the crossing (R465). -/
def Dev.xctMade (s : Dev) (x : Nat) (m : XMake) : Dev :=
  let s0 := s.setXg x { s.xg x with making := none }
  if m.isNew then
    if m.bad then
      match s0.ticketOf m.pkt.tk with
      | some t => (s0.fail t 8 0x0709).xctCut x m.pkt.tk
      | none => s0.xctCut x m.pkt.tk
    else if (s0.ticketOf m.pkt.tk).isNone then s0.xctCut x m.pkt.tk
    else s0.xctNew x m.pkt m.bytes
  else if m.bad then s0.xingError x 3 0
  else s0.xctEmitPkt x m.pkt true m.bytes

/-- A read of a packet's source has come, or failed. -/
def Dev.xctReadDone (s : Dev) (x off : Nat) (r : Except (Nat × Nat) (List Byte × Bool)) : Dev :=
  match (s.xg x).making with
  | none => s
  | some m =>
    match r with
    | .error e =>
      let s0 := s.setXg x { s.xg x with making := none }
      if !m.isNew then s0.xingError x 3 0
      else match s0.ticketOf m.pkt.tk with
        | some t => (s0.fail t e.1 e.2).xctCut x m.pkt.tk
        | none => s0.xctCut x m.pkt.tk
    | .ok (bs, bad) =>
      let m1 := { m with data := putBytes (fun _ => 0) m.data off bs, bad := m.bad || bad, left := m.left - 1 }
      if 0 < m1.left then s.setXg x { s.xg x with making := some m1 } else s.xctMade x m1

/-- R450, R451: the next packet of the ticket at the head is formed. -/
def Dev.xctFormOne (s : Dev) (x : Nat) : Dev :=
  let g := s.xg x
  match g.form with
  | [] => s
  | f :: _ =>
    if 1024 ≤ g.inFlight then s
    else match s.ticketOf f.tk with
    | none => s.xctCut x f.tk
    | some t =>
      let single := f.op = 0x13 || f.op = 0x14 || f.op = 0x15
      if single && decide (16 ≤ (g.out.filter (fun p => (p.ty = 5 || p.ty = 6 || p.ty = 8) && !p.answered)).length) then s
      else
        let n := if single then 0 else min g.pktMax (f.len - f.off)
        let p : XPkt := ⟨0, f.tk, opType f.op, false, single || decide (f.len ≤ f.off + n), decide (f.op = 0x15),
          opExt f.op t.words f n, wf t.words 3 0 32, wf t.words 4 0 41 + f.off, n, 0, 0, 0, 0, false, false, 0⟩
        if f.op = 0x10 || f.op = 0x12 then
          match s.xctRead x t.key.b t.accel p.lkey p.loff n with
          | (.error e, s1) => (s1.fail t e.1 (if e.1 = 8 then 0x0709 else e.2)).xctCut x f.tk
          | (.ok (m, _), s1) =>
            let m1 := { m with pkt := p, isNew := true }
            if 0 < m.left then s1.setXg x { s1.xg x with making := some m1 } else s1.xctMade x m1
        else s.xctNew x p []

/-- R464, R465: a packet is sent again. -/
def Dev.xctAgain (s : Dev) (x psn : Nat) : Dev :=
  match (s.xg x).out.find? (fun p => p.psn = psn) with
  | none => s
  | some p =>
    if p.over then s
    else if (p.ty = 1 || p.ty = 2) && 0 < p.len then
      match s.xctRead x p.tk.b (s.accelOf p.tk.b) p.lkey p.loff p.len with
      | (.error _, s1) => s1.xingError x 3 0
      | (.ok (m, _), s1) =>
        let m1 := { m with pkt := p, isNew := false }
        if 0 < m.left then s1.setXg x { s1.xg x with making := some m1 } else s1.xctMade x m1
    else s.xctEmitPkt x p true []

/-- R434, R449: the next paced packet of a crossing: what waits, then a new packet. -/
def Dev.pacedSend (s : Dev) (x : Nat) : Dev :=
  if s.xst x ≠ 2 && s.xst x ≠ 3 then s
  else
    let g := s.xg x
    let isResp := fun (r : XReady) => match r with | .resp _ _ _ _ => true | .retx _ => false
    let pick := if g.making.isSome then g.ready.find? isResp else g.ready.head?
    let s0 := if pick.isSome || (g.making.isNone && !g.form.isEmpty) then s.at ((g.depart + 999) / 1000) else s
    match pick with
    | some (.resp ty psn ext pay) =>
      let s1 := s0.setXg x { g with ready := g.ready.erase (.resp ty psn ext pay) }
      let (s2, n) := s1.xctPacket x { ty := ty, psn := psn } ext pay
      s2.paceAfter x n
    | some (.retx psn) => (s0.setXg x { g with ready := g.ready.erase (.retx psn) }).xctAgain x psn
    | none => if g.making.isSome then s else (s0.xctFormOne x).xctSettle x

/-! Timers of a packet (R464, R466) -/

/-- A packet's timer runs: it is known, sent, and not over. -/
def Dev.xctTimer (s : Dev) (x psn : Nat) : Option XPkt :=
  if s.xst x ≠ 2 && s.xst x ≠ 3 then none
  else (s.xg x).out.find? (fun p => p.psn = psn && 0 < p.sends && !p.over)

/-- R466: F in ns. -/
def Dev.giveUpNs (s : Dev) : Nat := 4 * s.pcieToUs * 1000

/-- R464, R466: an expiry. -/
def Dev.retransmit (s : Dev) (x psn : Nat) : Dev :=
  match s.xctTimer x psn with
  | none => s
  | some p =>
    if 8 ≤ p.expiries then s
    else
      let s1 := s.at (p.lastSent - 1 + s.rto x p.expiries)
      let g := s1.xg x
      let s2 := (s1.setXg x { g with out := g.out.map (fun q => if q.psn = psn then { q with expiries := q.expiries + 1 } else q) }).setRate x
        (s1.get (Fld.XCT_XING_CC_RATE x) / 2)
      if p.expiries = 7 && decide (p.firstSent - 1 + s2.giveUpNs ≤ s2.tide) then s2.xingError x 3 0
      else
        let g2 := s2.xg x
        if g2.ready.contains (.retx psn) then s2 else s2.setXg x { g2 with ready := g2.ready ++ [.retx psn] }

/-- R466: eight expiries have passed; F has elapsed. -/
def Dev.giveUp (s : Dev) (x psn : Nat) : Dev :=
  match s.xctTimer x psn with
  | none => s
  | some p => if p.expiries < 8 then s else (s.at (p.firstSent - 1 + s.giveUpNs)).xingError x 3 0

/-! Acknowledgements (R435, R436, R463, R464) -/

/-- R435: the CE count of an acknowledgement; `newly`: the PSNs ACK_PSN newly covers. -/
def Dev.ceEcho (s : Dev) (x ce newly : Nat) : Dev :=
  let g := s.xg x
  if !after ce g.lastCe 32 then s
  else
    let d := subMod ce g.lastCe 32
    let s1 := s.setXg x { g with lastCe := ce }
    if g.lastDec = 0 || decide (g.lastDec - 1 + s.get (Fld.XCT_XING_CC_SRTT_NS x) ≤ s.tide) then
      let a := if newly = 0 then 1 else newly
      let k := if newly = 0 then 1 else min d newly
      let r := s.get (Fld.XCT_XING_CC_RATE x)
      (s1.setXg x { s1.xg x with lastDec := s.tide + 1, incAt := s.tide }).setRate x (r * (2 * a - k) / (2 * a))
    else s1

/-- R436: one sample. -/
def Dev.srttSample (s : Dev) (x sample : Nat) : Dev :=
  let o := s.get (Fld.XCT_XING_CC_SRTT_NS x)
  let n := if o = 0 then sample else (((o : Int) + ((sample : Int) - o) / 8)).toNat
  s.put (Fld.XCT_XING_CC_SRTT_NS x) n

/-- ACK and SACK. -/
def Dev.xctAcked (s : Dev) (p : XRx) : Dev :=
  let x := p.x
  let g := s.xg x
  let a := p.h.psn
  if after a g.nextPsn 32 then s
  else
    let fresh := after a g.lastAck 32
    let newly := if fresh then subMod a g.lastAck 32 else 0
    let marked := fun psn => p.h.ty = 0xB && decide (subMod psn a 32 < 1024) &&
      bitsOf (fbe p.ext (8 + subMod psn a 32 / 8) 1) (7 - subMod psn a 32 % 8) 1 = 1
    let hit := fun (q : XPkt) => (fresh && before q.psn a 32) || marked q.psn
    let newest := (g.out.filter (fun q => !q.covered && hit q && q.sends = 1)).getLast?
    let top := (g.out.filter (fun q => marked q.psn)).getLast?
    let srtt := s.get (Fld.XCT_XING_CC_SRTT_NS x)
    let fast := fun (q : XPkt) => !q.covered && !hit q && (match top with | some t => before q.psn t.psn 32 | none => false)
      && (q.fastAt = 0 || decide (q.fastAt - 1 + srtt ≤ s.tide)) && 0 < q.sends
    let again := ((g.out.filter fast).map (fun q => XReady.retx q.psn)).filter (fun r => !g.ready.contains r)
    let s1 := s.setXg x { g with
      lastAck := if fresh then a else g.lastAck
      out := g.out.map (fun q => if hit q then { q with covered := true } else if fast q then { q with fastAt := s.tide + 1 } else q)
      ready := again ++ g.ready }
    let s2 := match newest with
      | some q => s1.srttSample x (s.tide - (q.lastSent - 1) - fbe p.ext 4 4)
      | none => s1
    (s2.ceEcho x (fbe p.ext 0 4) newly).xctSettle x

/-! Responses (R460, R461) -/

/-- R460: the outstanding request a response names. -/
def Dev.xctAsked (s : Dev) (x psn : Nat) (types : List Nat) : Option XPkt :=
  (s.xg x).out.find? (fun q => q.psn = psn && !q.answered && 0 < q.sends && types.contains q.ty)

/-- The request is answered. -/
def Dev.xctAnswered (s : Dev) (x psn : Nat) : Dev :=
  let g := s.xg x
  s.setXg x { g with out := g.out.map (fun q => if q.psn = psn then { q with answered := true } else q) }

/-- GET_RESP: its bytes are placed locally; with the last of the ticket's responses the placement is proved (Table 12.4). -/
def Dev.xctGetResp (s : Dev) (p : XRx) : Dev :=
  match s.xctAsked p.x p.h.psn [3] with
  | none => s
  | some q =>
    if q.len ≠ p.pay.length then s
    else
      let s1 := s.xctAnswered p.x p.h.psn
      match s1.ticketOf q.tk with
      | none => (s1.sat Fld.ERR_LADDER_LATE_DISCARDS).xctSettle p.x
      | some t =>
        match s1.placePieces (.loc t.key.b) t q.lkey 5 ((s1.xg p.x).macOf.1) [] (s1.keyedPieces q.lkey q.loff q.len) p.pay with
        | (.error e, s2, t2) => (s2.fail t2 e.1 e.2).xctSettle p.x
        | (.ok _, s2, t2) =>
          let g := s2.xg p.x
          let all := g.form.all (fun f => f.tk ≠ q.tk) && (g.out.filter (fun o => o.tk = q.tk)).all (fun o => o.answered)
          let t3 := { t2 with prove := true, result := wf t2.words 6 0 31 }
          (if all then (s2.setTicket t3).placed t3 else s2.setTicket t3).xctSettle p.x

/-- ATOMIC_RESP and FLUSH_RESP complete their ticket. -/
def Dev.xctResp (s : Dev) (p : XRx) (types : List Nat) (result : Nat) : Dev :=
  match s.xctAsked p.x p.h.psn types with
  | none => s
  | some q => ((s.xctAnswered p.x p.h.psn).finishKey q.tk 0 0 result).xctSettle p.x

/-- NAK (R461, R470). -/
def Dev.xctNaked (s : Dev) (p : XRx) : Dev :=
  match s.xctAsked p.x p.h.psn [1, 2, 3, 5, 6, 8] with
  | none => s
  | some q =>
    let code := fbe p.ext 0 1
    let detail := fbe p.ext 1 2
    let s1 := s.xctAnswered p.x p.h.psn
    let g := s1.xg p.x
    let s2 := (s1.setXg p.x { g with form := g.form.filter (fun f => f.tk ≠ q.tk) }).finishKey q.tk code detail 0
    if code = 0xB then s2.xingError p.x 4 0 else s2.xctSettle p.x

/-! The commands -/

/-- PACED_PACKET_SEND (R434). -/
def execPacedPacketSend (x : Nat) (s : State) : Out := s.dvIf (decide (x < 65536)) (·.pacedSend x)
/-- XCT_PUT_PACKET (R453). -/
def execXctPutPacket (n : Nat) (s : State) : Out := s.dv (·.xctTake n 1 Dev.xctSequenced)
/-- XCT_POST_PACKET (R457). -/
def execXctPostPacket (n : Nat) (s : State) : Out := s.dv (·.xctTake n 2 Dev.xctSequenced)
/-- XCT_GET_REQ_PACKET (R453). -/
def execXctGetReqPacket (n : Nat) (s : State) : Out := s.dv (·.xctTake n 3 Dev.xctSequenced)
/-- R437: a packet that is not sequenced carried a CE mark: an acknowledgement leaves. -/
def Dev.ceAck (s : Dev) (p : XRx) : Dev := if p.ce && (s.xst p.x = 2 || s.xst p.x = 3) then s.xctAck p.x else s
/-- XCT_GET_RESP_PACKET (R460). -/
def execXctGetRespPacket (n : Nat) (s : State) : Out := s.dv (·.xctTake n 4 fun d p => (d.xctGetResp p).ceAck p)
/-- XCT_FADD_PACKET (R453). -/
def execXctFaddPacket (n : Nat) (s : State) : Out := s.dv (·.xctTake n 5 Dev.xctSequenced)
/-- XCT_CSWAP_PACKET (R453). -/
def execXctCswapPacket (n : Nat) (s : State) : Out := s.dv (·.xctTake n 6 Dev.xctSequenced)
/-- XCT_ATOMIC_RESP_PACKET (R460). -/
def execXctAtomicRespPacket (n : Nat) (s : State) : Out :=
  s.dv (·.xctTake n 7 fun d p => (d.xctResp p [5, 6] (fbe p.ext 0 8)).ceAck p)
/-- XCT_FLUSH_REQ_PACKET (R454). -/
def execXctFlushReqPacket (n : Nat) (s : State) : Out := s.dv (·.xctTake n 8 Dev.xctSequenced)
/-- XCT_FLUSH_RESP_PACKET (R460). -/
def execXctFlushRespPacket (n : Nat) (s : State) : Out := s.dv (·.xctTake n 9 fun d p => (d.xctResp p [8] 0).ceAck p)
/-- XCT_ACK_PACKET (R463). -/
def execXctAckPacket (n : Nat) (s : State) : Out := s.dv (·.xctTake n 0xA fun d p => (d.xctAcked p).ceAck p)
/-- XCT_SACK_PACKET (R463, R464). -/
def execXctSackPacket (n : Nat) (s : State) : Out := s.dv (·.xctTake n 0xB fun d p => (d.xctAcked p).ceAck p)
/-- XCT_NAK_PACKET (R461). -/
def execXctNakPacket (n : Nat) (s : State) : Out := s.dv (·.xctTake n 0xC fun d p => (d.xctNaked p).ceAck p)
/-- XCT_CLOSING_PACKET (R439). -/
def execXctClosingPacket (n : Nat) (s : State) : Out := s.dv (·.xctTake n 0xD fun d p => d.xingError p.x 2 (fbe p.ext 0 1))
/-- FENCED_EXECUTE (R453). -/
def execFencedExecute (x : Nat) (s : State) : Out := s.dvIf (decide (x < 65536)) (·.fencedRun x)
/-- XCT_PUT (R450). -/
def execXctPut (b r slot : Nat) (s : State) : Out := s.dv fun d => d.serve b r slot 3 0x10 Dev.xctStart
/-- XCT_GET (R450). -/
def execXctGet (b r slot : Nat) (s : State) : Out := s.dv fun d => d.serve b r slot 3 0x11 Dev.xctStart
/-- XCT_POST (R450). -/
def execXctPost (b r slot : Nat) (s : State) : Out := s.dv fun d => d.serve b r slot 3 0x12 Dev.xctStart
/-- XCT_FADD (R447). -/
def execXctFadd (b r slot : Nat) (s : State) : Out := s.dv fun d => d.serve b r slot 3 0x13 Dev.xctStart
/-- XCT_CSWAP (R447). -/
def execXctCswap (b r slot : Nat) (s : State) : Out := s.dv fun d => d.serve b r slot 3 0x14 Dev.xctStart
/-- XCT_FLUSH (R454). -/
def execXctFlush (b r slot : Nat) (s : State) : Out := s.dv fun d => d.serve b r slot 3 0x15 Dev.xctStart
/-- RECV (R457). -/
def execRecv (b r slot : Nat) (s : State) : Out := s.dv fun d => d.serve b r slot 3 0x18 Dev.recvStart
/-- ACK_DELAY_TIMER (R462). -/
def execAckDelayTimer (x : Nat) (s : State) : Out :=
  s.dvIf (decide (x < 65536)) fun d => if 0 < (d.xg x).unacked && (d.xst x = 2 || d.xst x = 3) then (d.at ((d.xg x).oldest - 1 + 4000)).xctAck x else d
/-- RETRANSMIT_TIMEOUT (R464). -/
def execRetransmitTimeout (x psn : Nat) (s : State) : Out := s.dvIf (decide (x < 65536)) (·.retransmit x psn)
/-- RETRY_GIVE_UP (R466). -/
def execRetryGiveUp (x psn : Nat) (s : State) : Out := s.dvIf (decide (x < 65536)) (·.giveUp x psn)

end Sys2Proof.Machine
end

