-- ==== Sys2Proof/Machine/Storage.lean ====
section
/-! DEFINITION. The storage service (spec/13): volumes, drives as NVMe host, targets over NVMe/TCP, Evaporators, and the
storage tickets. -/

namespace Sys2Proof.Machine

def Dev.drv (s : Dev) (k : Nat) : DrvH := tget (fun _ => DrvH.init) s.sto.drv k
def Dev.setDrv (s : Dev) (k : Nat) (h : DrvH) : Dev := { s with sto := { s.sto with drv := tput (fun _ => DrvH.init) s.sto.drv k h } }
def Dev.tgt (s : Dev) (t : Nat) : TgtH := tget (fun _ => TgtH.init) s.sto.tgt t
def Dev.setTgt (s : Dev) (t : Nat) (h : TgtH) : Dev := { s with sto := { s.sto with tgt := tput (fun _ => TgtH.init) s.sto.tgt t h } }
def Dev.setCmds (s : Dev) (cs : List StoCmd) : Dev := { s with sto := { s.sto with cmds := cs } }
/-- A command outstanding at a unit. -/
def Dev.stoCmd (s : Dev) (u cid : Nat) : Option StoCmd := s.sto.cmds.find? (fun c => c.unit = u && c.cid = cid)
def Dev.putCmd (s : Dev) (c : StoCmd) : Dev := s.setCmds (s.sto.cmds.map (fun d => if d.unit = c.unit && d.cid = c.cid then c else d))

/-! Volumes (R478 to R484, R504, R510) -/

def Dev.volState (s : Dev) (v : Nat) : Nat := s.get (Fld.STO_VOL_CTRL_STATE v)
def Dev.volRemote (s : Dev) (v : Nat) : Bool := s.on (Fld.STO_VOL_CTRL_KIND v)
/-- The drives of a volume's set, ascending. -/
def Dev.volSet (s : Dev) (v : Nat) : List Nat := (List.range 8).filter (fun k => s.get (Fld.STO_VOL_CTRL_DRIVE_SET v) / 2 ^ k % 2 = 1)
/-- Blocks per stripe unit. -/
def Dev.volUnit (s : Dev) (v : Nat) : Nat := 2 ^ (s.get (Fld.STO_VOL_CTRL_SU_LOG2 v) - 12)
/-- The volumes that exist. -/
def Dev.vols (s : Dev) : List Nat :=
  (s.regs.filter (fun e => decide (0xC80000 ≤ e.1 ∧ e.1 < 0xCA0000 ∧ (e.1 - 0xC80000) % 32 = 0) && getBits e.2 2 2 ≠ 0)).map
    (fun e => (e.1 - 0xC80000) / 32)

/-- R482, R861: the XTS key of a volume: a LOADED VOLUME slot of berth 0. -/
def Dev.volKey (s : Dev) (v : Nat) : Option (List Byte) :=
  let i := s.get (Fld.STO_VOL_KEY_KEY_HANDLE v)
  let k := tget (fun _ => TlhKey.init) s.tlh i
  if 16384 ≤ i || k.key.isEmpty || k.owner ≠ 0 || k.kind ≠ 1 then none else some k.key

/-- The STATE a volume that exists has: OFFLINE while a drive or its target is not there, LOCKED without its key, ONLINE. -/
def Dev.volNow (s : Dev) (v : Nat) : Nat :=
  let up :=
    if s.volRemote v then
      let t := s.get (Fld.STO_VOL_CTRL_TARGET v)
      let n := tget (fun _ => (false, 0)) (s.tgt t).ns (s.get (Fld.STO_VOL_KEY_NSID v))
      s.get (Fld.STO_TGT_CTRL_STATE t) = 2 && n.1
        && decide (s.get (Fld.STO_VOL_BASE_START_LBA v) + s.get (Fld.STO_VOL_SIZE_BLOCKS v) ≤ n.2)
    else (s.volSet v).all (fun k => s.get (Fld.STO_DRV_STATE_STATE k) = 2
      && s.reg (Reg.STO_DRV_ID k) = tget (fun _ => 0) s.sto.ids (8 * v + k))
  if !up then 2 else if s.on (Fld.STO_VOL_CTRL_ENCRYPT v) && (s.volKey v).isNone then 3 else 1

/-- The committed plan of a berth names a volume in a VALID slot; or its staged one. -/
def Dev.planNames (s : Dev) (b v : Nat) : Bool :=
  (List.range 16).any (fun i => s.on (Fld.CPLAN_VOL_VALID b i) && s.get (Fld.CPLAN_VOL_VOL_ID b i) = v)
def Dev.stageNames (s : Dev) (b v : Nat) : Bool :=
  (List.range 16).any (fun i => s.on (Fld.BPLAN_VOL_VALID b i) && s.get (Fld.BPLAN_VOL_VOL_ID b i) = v)
def berths : List Nat := (List.range 128).map (· + 1)

/-- R504: a change of a volume's STATE is posted. -/
def Dev.volPost (s : Dev) (v st cause : Nat) : Dev :=
  let s1 := s.put (Fld.STO_VOL_CTRL_STATE v) st
  (0 :: berths.filter (fun b => s1.planNames b v)).foldl (fun s b => s.signal b 0x0040 0 (pack [(0, 12, v), (16, 2, st)]) cause) s1

/-- The volumes follow what changed; `cause`: the drive, or the target + 0x100. -/
def Dev.volSync (s : Dev) (cause : Nat) : Dev :=
  (s.vols.foldl (fun s v => if s.volNow v = s.volState v then s else s.volPost v (s.volNow v) cause) s).vltSync

/-- A volume's extent on each of its drives: first block, blocks (R480). -/
def Dev.volExtent (s : Dev) (v : Nat) : Nat × Nat :=
  let n := max 1 (s.volSet v).length
  let u := s.volUnit v
  let per := (s.get (Fld.STO_VOL_SIZE_BLOCKS v) + n - 1) / n
  (s.get (Fld.STO_VOL_BASE_START_LBA v), (per + u - 1) / u * u)

/-- R821: the vault area on a drive: first block, blocks. -/
def Dev.vaultArea (s : Dev) (k : Nat) : Option (Nat × Nat) :=
  if s.on Fld.VLT_STATUS_CFG_OK && s.get Fld.VLT_STATUS_DRIVE_SET / 2 ^ k % 2 = 1 then
    some (s.get Fld.VLT_AREA_VAULT_LBA, 512 * s.get Fld.VLT_AREA_SLOT_MIB) else none

/-- Two extents share a block. -/
def overlap (a b : Nat × Nat) : Bool := decide (a.1 < b.1 + b.2 ∧ b.1 < a.1 + a.2)

/-- Table 13.6: the cause that refuses CREATE of a volume whose fields stand as in `s`; `su` as written. -/
def Dev.createCause (s : Dev) (v su : Nat) : Option Nat :=
  let ds := s.volSet v
  let e := s.volExtent v
  let remote := s.volRemote v
  if s.volState v ≠ 0 then some 1
  else if !remote && (ds.isEmpty || ds.any (fun k => s.get (Fld.STO_DRV_STATE_STATE k) ≠ 2)) then some 2
  else if !remote && ds.any (fun k => s.get (Fld.STO_DRV_SIZE_BLOCKS k) < e.1 + e.2) then some 3
  else if !remote && ds.any (fun k =>
      s.vols.any (fun w => !s.volRemote w && (s.volSet w).contains k && overlap (s.volExtent w) e)
        || (s.vaultArea k).any (fun a => overlap a e)) then some 4
  else if remote && !s.on (Fld.STO_VOL_CTRL_ENCRYPT v) then some 5
  else if su < 16 || 20 < su || s.get (Fld.STO_VOL_SIZE_BLOCKS v) = 0 then some 6
  else if s.on (Fld.STO_VOL_CTRL_ENCRYPT v) && (s.volKey v).isNone then some 7
  else if remote && !s.on (Fld.STO_TGT_CTRL_ENABLE (s.get (Fld.STO_VOL_CTRL_TARGET v))) then some 8
  else none

/-- What stands behind a volume: its first drive, or 0x100 + its target. -/
def Dev.volSource (s : Dev) (v : Nat) : Nat :=
  if s.volRemote v then 0x100 + s.get (Fld.STO_VOL_CTRL_TARGET v) else (s.volSet v).headD 0

/-- A write of STO_VOL_CTRL_v is refused. -/
def Dev.volRefused (s : Dev) (v cause : Nat) : Dev :=
  (s.put (Fld.STO_VOL_CTRL_VOL_REFUSED v) 1).put (Fld.STO_VOL_CTRL_REFUSE_CAUSE v) cause

/-- R481, R504: a write to STO_VOL_CTRL_v. -/
def Dev.volCtrlWrite (s : Dev) (v : Nat) (w : Word) (size off : Nat) : Dev :=
  let k := Reg.STO_VOL_CTRL v
  let there := s.volState v ≠ 0
  let s1 := if there then s.put (Fld.STO_VOL_CTRL_VOL_REFUSED v)
      (if woBits w size off 6 1 = 1 then 0 else s.get (Fld.STO_VOL_CTRL_VOL_REFUSED v)) else s.writeReg k w size off
  let su := if woBits (BitVec.ofNat 64 (2 ^ 64 - 1)) size off 24 5 = 31 then woBits w size off 24 5 else s.get (Fld.STO_VOL_CTRL_SU_LOG2 v)
  if woBits w size off 0 1 = 1 then
    match (if there then s else s1).createCause v su with
    | some c => s.volRefused v c
    | none =>
      let ids := (s1.volSet v).foldl (fun t k => tput (fun _ => 0) t (8 * v + k) (s1.reg (Reg.STO_DRV_ID k))) s1.sto.ids
      let s2 : Dev := { s1 with sto := { s1.sto with ids := ids } }
      s2.volPost v (s2.volNow v) (s2.volSource v)
  else if woBits w size off 1 1 = 1 then
    if !there then s1
    else if berths.any (fun b => s.planNames b v || s.stageNames b v)
      || s.tickets.any (fun t => wf t.words 0 8 4 = 4 && wf t.words 2 0 12 = v) then s.volRefused v 1
    else s1.volPost v 0 (s1.volSource v)
  else s1

/-- R504: a write to another register of a volume, by its key. -/
def Dev.volFieldWrite (s : Dev) (v k : Nat) (w : Word) (size off : Nat) : Dev := if s.volState v = 0 then s.writeReg k w size off else s

/-! Drives and targets (R479, R496 to R499, R503, R505, R506, R508) -/

/-- A TCP segment of a target's connection leaves and awaits its acknowledgement. -/
def Dev.tcpSend (s : Dev) (t : Nat) (args : List Nat) (data : List Byte) : Dev :=
  let h := s.tgt t
  (s.emit .tcp (t :: args) data).setTgt t { h with unacked := h.unacked ++ [args.flatMap (leBytes 8) ++ data] }

/-- A command goes to its unit. -/
def Dev.stoSend (s : Dev) (c : StoCmd) : Dev :=
  let args := [c.cid, c.op, c.lba, c.n, if c.fua then 1 else 0]
  let s1 := s.putCmd { c with issued := true, at_ := s.tide, aborting := false }
  if c.unit < 8 then s1.emit .nvme (c.unit :: args) else s1.tcpSend (c.unit - 8) args []

/-- A command enters the list. -/
def Dev.stoAdd (s : Dev) (c : StoCmd) : StoCmd × Dev :=
  let c1 := { c with cid := s.sto.nextCid }
  (c1, { s with sto := { s.sto with cmds := s.sto.cmds ++ [c1], nextCid := s.sto.nextCid + 1 } })

/-- An admin command to a unit: opcode + 256, argument, count. -/
def Dev.stoAdmin (s : Dev) (u op arg n : Nat) : Dev :=
  let (c, s1) := s.stoAdd ⟨u, 0, op, none, 0, 0, arg, n, false, [], [], [], 0, false, false, 0, false⟩
  s1.stoSend c

/-- R505, R506: a drive is asked for a power state: phase 1 entering NOPS, 2 returning to state 0. -/
def Dev.setPs (s : Dev) (k ps phase : Nat) : Dev := (s.setDrv k { s.drv k with phase := phase }).stoAdmin k 0x109 2 ps

/-- R832: the hot reset that a drain held back from a vault drive reaches it when the drain ends. -/
def Dev.heldReset (s : Dev) (k : Nat) : Dev :=
  let p := 4 + k
  if tget (fun _ => 0) s.slip.starts p ≠ 7 then s
  else
    let s1 := ((({ s with slip := { s.slip with starts := tdel p s.slip.starts } }.setPresent p 0).put (pState p) 5).put (pLinkUp p) 0).put (pSpeed p) 0
    let s2 := ((s1.put (pWidth p) 0).put (Fld.STO_DRV_STATE_STATE k) 0).put (Fld.STO_DRV_PM_CUR_PS k) 0
    ((s2.setDrv k DrvH.init).setPort p { s2.port p with trainAt := s2.tide + 2001000 }).emit .portLink [p, 0]

/-- The drain is over: what waited for the vault drives goes to them, and their idle timers resume (R828, R831). -/
def Dev.vltRelease (s : Dev) : Dev :=
  (List.range 8).foldl (fun s0 k =>
    let s := s0.heldReset k
    if s.vltHolds k then s0
    else (s.sto.cmds.filter (fun c => c.unit = k && !c.issued && (s.drv k).phase = 0 && s.get (Fld.STO_DRV_PM_CUR_PS k) = 0)).foldl
      Dev.stoSend (s.setDrv k { s.drv k with idleFrom := s.tide })) s

/-- VLT_LAST at the end of a drain: RESULT 1 sealed, 2 aborted. -/
def Dev.vltLast (s : Dev) (result cause : Nat) : Dev :=
  ((s.put Fld.VLT_LAST_DRAIN_US ((s.tide - s.vlt.start) / 1000)).put Fld.VLT_LAST_RESULT result).put Fld.VLT_LAST_CAUSE cause

/-- A drain is aborted, its slot unsealed: 1 cell low, 2 drive, 3 thermal trip (Table 24.2); what follows apart. -/
def Dev.vltAbort (s : Dev) (cause : Nat) : Dev :=
  let v := s.vlt
  let sent := (v.copied.filter (fun c => !v.out.any (fun o => o.2 = c.1))).map (fun c => c.2.length)
  let s1 := (s.vltLast 2 cause).logAdd 4 0x0404 0xFF cause sent.sum
  let s2 := { s1 with vlt := { s1.vlt with phase := 0, out := [], copied := [], ext := [], next := [] } }
  (s2.put Fld.VLT_STATUS_STATE 1).vltRelease

/-- Table 24.2: a vault drive is lost or fails a command of a drain. -/
def Dev.vltDriveFails (s : Dev) (k : Nat) : Dev :=
  if s.vltState = 3 && s.vltDrives.contains k then
    let s1 := s.vltAbort 2
    if s1.slip.believed then s1.vltSync else s1.hardOff 0
  else s.vltSync

/-- ENTRY_US and EXIT_US follow NOPS (R503). -/
def Dev.syncLat (s : Dev) (k : Nat) : Dev :=
  let d := (s.drv k).psd.getD (s.get (Fld.STO_DRV_PM_NOPS k)) (0, 0)
  s.setReg (Reg.STO_DRV_LAT k) (packW [(0, 32, d.1), (32, 32, d.2)])

/-- A write to STO_DRV_PM_k: a state the drive lacks is reserved. -/
def Dev.drvPmWrite (s : Dev) (k : Nat) (w : Word) (size off : Nat) : Dev :=
  let s1 := s.writeReg (Reg.STO_DRV_PM k) w size off
  let n := (s.drv k).psd.length
  (if 0 < n && decide (n ≤ s1.get (Fld.STO_DRV_PM_NOPS k)) then s1.put (Fld.STO_DRV_PM_NOPS k) (s.get (Fld.STO_DRV_PM_NOPS k)) else s1).syncLat k

/-- The Wharf of a unit: DP0–DP3 and DP4–DP7; a target's by its record (R490). -/
def Dev.stoWharf (s : Dev) (u : Nat) : Nat := if u < 8 then u / 4 else bitsOf (ofLe (((s.tgt (u - 8)).record.drop 48).take 8)) 0 1

/-- R503: initialization of a LIVE drive begins. -/
def Dev.drvInit (s : Dev) (k : Nat) : Dev :=
  if s.on Fld.STO_CTRL_ENABLE && s.get (Fld.WHF_DP_STATUS_STATE k) = 3 then
    (((s.put (Fld.STO_DRV_STATE_STATE k) 1).setDrv k { DrvH.init with step := 1 }).put (Fld.STO_DRV_PM_CUR_PS k) 0).stoAdmin k 0x106 1 1
  else s

/-- A write to STO_CTRL. -/
def Dev.stoCtrlWrite (s : Dev) (v : Word) (size off : Nat) : Dev :=
  let w := s.writeReg Reg.STO_CTRL v size off
  if !s.on Fld.STO_CTRL_ENABLE && w.on Fld.STO_CTRL_ENABLE then
    (List.range 8).foldl (fun s k => if s.get (Fld.STO_DRV_STATE_STATE k) = 2 then s else s.drvInit k) w
  else w

/-! Ends of commands and tickets (R485, R501, R509, R510) -/

/-- The ticket a command serves, while it is in flight. -/
def Dev.stoTicket (s : Dev) (c : StoCmd) : Option Ticket := c.tk.bind (fun t => s.ticketOf t.key)

/-- A ticket's first error is kept, with the lowest volume block of a failed command. -/
def Ticket.stoError (t : Ticket) (e : Nat × Nat) (blk : Option Nat) : Ticket :=
  let lo := match blk with | some b => if t.status = 0 || t.aux.getD 1 0 = 0 then b + 1 else min (t.aux.getD 1 0) (b + 1) | none => t.aux.getD 1 0
  { t with status := if t.status = 0 then e.1 else t.status, detail := if t.status = 0 then e.2 else t.detail, aux := [t.aux.getD 0 0, lo] }

/-- The bytes of a range of staging that a ticket used become unspecified (R493). -/
def Dev.scrambleStage (s : Dev) (t : Ticket) : Dev :=
  let key := wf t.words 4 32 32
  (s.keyedPieces key (wf t.words 7 0 41) (wf t.words 6 0 19 * 4096)).foldl (fun s p =>
    match s.keyedPiece (.loc t.key.b) key p.1 p.2 1 t.accel 5 0 with
    | (.ok (.mem a), s1) => s1.scrambleMem a p.2
    | (_, s1) => s1) s

/-- A storage ticket whose commands have all ended: phase 1 it arrives; phase 2 it waits for its Evaporator. -/
def Dev.stoSettle (s : Dev) (k : TKey) : Dev :=
  match s.ticketOf k with
  | none => s
  | some t =>
    if t.aux.getD 0 0 ≠ 1 || t.left ≠ 0 || s.sto.cmds.any (fun c => c.tk.any (fun u => u.key = k)) then s
    else
      let op := wf t.words 0 0 8
      let packed := op = 5 || op = 6
      if t.status ≠ 0 then
        (if packed then s.scrambleStage t else s).finish t t.status t.detail (if t.status = 9 || t.status = 7 then t.aux.getD 1 1 - 1 else 0)
      else if op = 5 then s.setTicket { t with aux := [2] }
      else if t.bad then (if packed then s.scrambleStage t else s).fail t 8 0x080F
      else if op = 1 then s.placed { t with prove := wf t.words 2 16 1 = 1, aux := [3] }
      else (if packed then s.scrambleStage t else s).finish t 0 0 t.result

/-- A command ends with or without an error. -/
def Dev.stoEnd (s : Dev) (c : StoCmd) (e : Option (Nat × Nat)) : Dev :=
  let s1 := s.setCmds (s.sto.cmds.filter (fun d => !(d.unit = c.unit && d.cid = c.cid)))
  let s2 := if c.unit < 8 && !s1.sto.cmds.any (fun d => d.unit = c.unit) then s1.setDrv c.unit { s1.drv c.unit with idleFrom := s1.tide } else s1
  match c.tk with
  | none => s2
  | some t0 =>
    let s3 := s2.workOff t0.key
    match s3.ticketOf t0.key with
    | none => s3.sat Fld.ERR_LADDER_LATE_DISCARDS
    | some t => (match e with | some x => s3.setTicket (t.stoError x (some c.vblk)) | none => s3).stoSettle t0.key

/-- A command is issued, or held while its drive is not in power state 0 (R505, R506); it is work below its ticket.  A
command for a drive or a target that has been lost meanwhile ends as those outstanding did (R499, R510). -/
def Dev.stoIssue (s : Dev) (c : StoCmd) : Dev :=
  let (c1, s1) := s.stoAdd c
  let s2 := match c.tk with | some t => s1.workOn t.key | none => s1
  if c.unit < 8 && s2.get (Fld.STO_DRV_STATE_STATE c.unit) ≠ 2 then s2.stoEnd c1 (some (9, 0x0804))
  else if 8 ≤ c.unit && s2.get (Fld.STO_TGT_CTRL_STATE (c.unit - 8)) ≠ 2 then s2.stoEnd c1 (some (7, 0x0805))
  else if c.unit < 8 && s2.vltHolds c.unit then s2
  else if c.unit < 8 && (s2.on (Fld.STO_DRV_PM_CUR_PS c.unit) || (s2.drv c.unit).phase ≠ 0) then
    if (s2.drv c.unit).phase = 0 then s2.setPs c.unit 0 2 else s2
  else s2.stoSend c1

/-- Blocks of 4,096 bytes. -/
def blocksOf : Nat → List Byte → List (List Byte)
  | 0, _ => []
  | n + 1, bs => bs.take 4096 :: blocksOf n (bs.drop 4096)

/-- R482: blocks encrypted, or decrypted, under a volume's key. -/
def Dev.stoCrypt (s : Dev) (v vblk n : Nat) (enc : Bool) (bs : List Byte) : List Byte :=
  if !s.on (Fld.STO_VOL_CTRL_ENCRYPT v) then bs
  else
    let key := (s.volKey v).getD []
    ((blocksOf n bs).zipIdx.map (fun b => if enc then Config.xtsEncrypt key (vblk + b.2) b.1 else Config.xtsDecrypt key (vblk + b.2) b.1)).flatten

/-- The bytes a command has read; what the unit has not written is open. -/
def StoCmd.bytes (c : StoCmd) (free : Nat) : List Byte := (List.range (c.n * 4096)).map (fun i => tget (fun j => Config.freeByte free j) c.data i)

/-- Bytes entered as they are. -/
def enterBytes (t : Tab Byte) (off : Nat) : List Byte → Tab Byte
  | [] => t
  | b :: bs => enterBytes (tins off b t) (off + 1) bs

/-- The key and the offset where a READ's block goes: its destination, or the staging mooring. -/
def stoDest (t : Ticket) (vblk : Nat) : Nat × Nat :=
  let o := (vblk - wf t.words 3 0 36) * 4096
  if wf t.words 0 0 8 = 5 then (wf t.words 4 32 32, wf t.words 7 0 41 + o) else (wf t.words 4 0 32, wf t.words 5 0 41 + o)

/-- R485: a read command has succeeded: its data is decrypted and placed. -/
def Dev.stoReadDone (s : Dev) (c : StoCmd) : Dev :=
  match c.tk with
  | none => s.stoEnd c none
  | some t0 =>
    if c.dead then s.stoEnd c none
    else
      let live := s.stoTicket c
      let t := live.getD t0
      let bs := s.stoCrypt c.vol c.vblk c.n false (c.bytes s.free)
      let d := stoDest t c.vblk
      match s.tick.placePieces (.loc t.key.b) t d.1 5 (s.stoWharf c.unit) c.marks (s.keyedPieces d.1 d.2 bs.length) bs with
      | (.error e, s1, t1) => ((if live.isSome then s1.setTicket (t1.stoError e none) else s1).stoEnd c none)
      | (.ok _, s1, t1) => ((if live.isSome then s1.setTicket { t1 with bad := t1.bad || !c.marks.isEmpty } else s1).stoEnd c none)

/-- A command is sent again (R508). -/
def Dev.stoResubmit (s : Dev) (c : StoCmd) : Dev := s.stoSend c

/-- An Identify answer: a field of its bytes, least significant byte first. -/
def StoCmd.fld (c : StoCmd) (off n : Nat) : Nat := ofLe ((List.range n).map (fun i => tget (fun _ => 0) c.data (off + i)))
/-- Bytes of an Identify answer. -/
def StoCmd.raw (c : StoCmd) (off n : Nat) : List Byte := (List.range n).map (fun i => tget (fun _ => 0) c.data (off + i))

/-- An Identify Namespace structure: whether its format is 4,096 bytes without metadata, and its blocks. -/
def nsFormat (g : Nat → Nat → Nat) : Bool × Nat :=
  let i := bitsOf (g 26 1) 0 4
  let lbaf := g (128 + 4 * i) 4
  (decide (bitsOf lbaf 16 8 = 12 ∧ bitsOf lbaf 0 16 = 0 ∧ 0 < g 0 8), g 0 8)

/-- An admin command of a drive has ended: initialization steps, power states, Abort. -/
def Dev.stoAdminDone (s : Dev) (c : StoCmd) (ok : Bool) : Dev :=
  let k := c.unit
  let h := s.drv k
  let s1 := s.stoEnd c none
  let h1 := { h with idleFrom := s.tide }
  match c.op with
  | 0x106 =>
    if !ok then (s1.put (Fld.STO_DRV_STATE_STATE k) 4).setDrv k { h1 with step := 0 }
    else if h.step = 1 then
      let npss := c.fld 263 1
      let psd := (List.range (npss + 1)).map (fun i => (c.fld (2048 + 32 * i + 4) 4, c.fld (2048 + 32 * i + 8) 4))
      let m := c.fld 77 1
      ((s1.put (Fld.STO_DRV_STATE_VWC k) (c.fld 525 1 % 2)).setDrv k
        { h1 with step := 2, mdts := if m = 0 then 0 else 2 ^ m, serial := c.raw 4 20, psd := psd }).stoAdmin k 0x106 0 1
    else if h.step = 2 then
      let f := nsFormat c.fld
      if !f.1 then (s1.put (Fld.STO_DRV_STATE_STATE k) 3).setDrv k { h1 with step := 0 }
      else
        let id := BitVec.ofNat 64 (ofBe ((Config.sha384 (h.serial ++ c.raw 104 16)).take 8))
        (((s1.put (Fld.STO_DRV_SIZE_BLOCKS k) f.2).setReg (Reg.STO_DRV_ID k) id).setDrv k { h1 with step := 3 }).stoAdmin k 0x109 0x0C 0
    else s1
  | 0x109 =>
    if h.step = 3 then (((s1.setDrv k { h1 with step := 0 }).put (Fld.STO_DRV_STATE_STATE k) 2).syncLat k).volSync k
    else
      let held := s1.sto.cmds.any (fun d => d.unit = k && !d.issued)
      if h.phase = 1 && ok then
        let s2 := ((s1.put (Fld.STO_DRV_PM_CUR_PS k) c.n).sat (Fld.STO_DRV_COUNTS_PS_ENTRIES k)).setDrv k { h1 with phase := 0 }
        if held || s2.vltHolds k then s2.setPs k 0 2 else s2
      else
        let s2 := (s1.put (Fld.STO_DRV_PM_CUR_PS k) 0).setDrv k { h1 with phase := 0 }
        if s2.vltHolds k then s2.vltIssue else (s2.sto.cmds.filter (fun d => d.unit = k && !d.issued)).foldl (fun s d => s.stoSend d) s2
  | _ =>
    match s1.stoCmd k c.lba with
    | some d => if d.aborting then s1.stoResubmit d else s1
    | none => s1

/-- DRIVE_COMPLETION (R485, R501): an NVMe completion with its Status Code Type and Status Code. -/
def Dev.stoDone (s : Dev) (u cid sct sc : Nat) : Dev :=
  match s.stoCmd u cid with
  | none => s
  | some c =>
    let ok := sct = 0 && sc = 0
    if !c.issued then s
    else if 256 ≤ c.op then s.stoAdminDone c ok
    else if c.aborting && sct = 0 && sc = 7 then s.stoResubmit c
    else if ok then (if c.op = 2 then s.stoReadDone c else s.stoEnd c none)
    else
      let e := if sct = 2 then (9, 0x0801) else if u < 8 then (9, 0x0802) else (7, 0x0806)
      (if sct = 2 && u < 8 then s.sat (Fld.STO_DRV_COUNTS_MEDIA_ERR u) else s).stoEnd c (some e)

/-- R510: a drive is lost: its commands end, its volumes go OFFLINE. -/
def Dev.drvLost (s : Dev) (k : Nat) : Dev :=
  let mine := s.sto.cmds.filter (fun c => c.unit = k)
  let s1 := mine.foldl (fun s c => s.stoEnd c (if c.tk.isSome then some (9, 0x0804) else none)) s
  ((((s1.put (Fld.STO_DRV_STATE_STATE k) 0).put (Fld.STO_DRV_PM_CUR_PS k) 0).setDrv k DrvH.init).volSync k).vltDriveFails k

/-- R499: a target's connection is reset. -/
def Dev.tgtReset (s : Dev) (t : Nat) : Dev :=
  let mine := s.sto.cmds.filter (fun c => c.unit = 8 + t)
  let s1 := (s.put (Fld.STO_TGT_CTRL_STATE t) (if s.on (Fld.STO_TGT_CTRL_ENABLE t) then 1 else 0)).setTgt t
    { s.tgt t with unacked := [], kaOut := false, ns := [], rto := 1000000 }
  let s2 := (mine.foldl (fun s c => s.stoEnd c (if c.tk.isSome then some (7, 0x0805) else none)) s1).emit .tcp [t, 0x200]
  s2.volSync (0x100 + t)

/-- R502: a target record the rule of R498 refuses. -/
def recordRefused (r : List Byte) : Bool :=
  let w := fun i => ofLe ((r.drop (8 * i)).take 8)
  let ioq := bitsOf (w 6) 12 4
  let qd := bitsOf (w 6) 16 12
  let kato := bitsOf (w 6) 28 16
  r.length ≠ 1024 || bitsOf (w 0) 62 2 ≠ 0 || bitsOf (w 6) 44 20 ≠ 0 || ((r.drop 56).take 200).any (· ≠ 0) || (r.drop 768).any (· ≠ 0)
    || !((r.drop 256).take 256).contains 0 || !((r.drop 512).take 256).contains 0
    || ioq = 0 || decide (8 < ioq) || decide (qd < 16) || decide (1024 < qd) || decide (kato < 1000) || decide (60000 < kato)

/-- R498: a write to STO_TGT_CTRL_t; `out`: what pieces of the record over links come to. -/
def Dev.tgtCtrlWrite (s : Dev) (t : Nat) (v : Word) (size off : Nat) (out : List Nat) : Dev :=
  let was := s.on (Fld.STO_TGT_CTRL_ENABLE t)
  let w := s.writeReg (Reg.STO_TGT_CTRL t) v size off
  if !was && w.on (Fld.STO_TGT_CTRL_ENABLE t) then
    let key := w.get (Fld.STO_TGT_CTRL_REC_KEY t)
    let refuse := fun (d : Dev) => ((d.put (Fld.STO_TGT_CTRL_ENABLE t) 0).put (Fld.STO_TGT_CTRL_TGT_REFUSED t) 1).put (Fld.STO_TGT_CTRL_STATE t) 3
    match w.copyImage key 0 (w.keyedPieces key (w.get (Fld.STO_TGT_OFF_REC_OFF t)) 1024) out [] with
    | (none, s1) => refuse s1
    | (some r, s1) =>
      if recordRefused r then refuse s1
      else ((s1.setTgt t { TgtH.init with record := r }).put (Fld.STO_TGT_CTRL_STATE t) 1).tcpSend t [0x201] []
  else if was && !w.on (Fld.STO_TGT_CTRL_ENABLE t) then w.tgtReset t
  else w

/-- KATO of a target, in ns. -/
def Dev.katoNs (s : Dev) (t : Nat) : Nat := bitsOf (ofLe (((s.tgt t).record.drop 48).take 8)) 28 16 * 1000000

/-- R497: a segment of an open connection: segments it acknowledges, and the PDU it completes: 0 none, 1 the connection and its
queues are up, 2 read data of a command from an offset, 3 R2T for n bytes of a command's data, 4 the Keep Alive answer,
5 an Identify Namespace structure (the NSID in `cid`), 6 a malformed PDU. -/
def Dev.tcpSegment (s : Dev) (t acked kind cid off n : Nat) (data : List Byte) (digestOk : Bool) : Dev :=
  if !(decide (t < 64) && s.tcpOpen t) then s
  else
    let h := s.tgt t
    let s0 := if acked = 0 then s else s.setTgt t { h with unacked := h.unacked.drop acked, rto := 1000000 }
    if !digestOk then (s0.sat (Fld.STO_TGT_COUNTS_DIGEST_ERR t)).tgtReset t
    else match kind with
      | 1 =>
        if s0.get (Fld.STO_TGT_CTRL_STATE t) = 1 then
          ((s0.put (Fld.STO_TGT_CTRL_STATE t) 2).setTgt t { s0.tgt t with kaAt := s0.tide }).volSync (0x100 + t)
        else s0
      | 2 => match s0.stoCmd (8 + t) cid with
        | some c => if c.op = 2 && decide (off + data.length ≤ c.n * 4096) then s0.putCmd { c with data := enterBytes c.data off data } else s0.tgtReset t
        | none => s0
      | 3 => match s0.stoCmd (8 + t) cid with
        | some c => if decide (off + n ≤ c.pay.length) then s0.tcpSend t [0x202, cid, off, n] ((c.pay.drop off).take n) else s0.tgtReset t
        | none => s0
      | 4 => s0.setTgt t { s0.tgt t with kaOut := false }
      | 5 =>
        let g := fun o k => ofLe ((data.drop o).take k)
        (s0.setTgt t { s0.tgt t with ns := tput (fun _ => (false, 0)) (s0.tgt t).ns cid (nsFormat g) }).volSync (0x100 + t)
      | 6 => s0.tgtReset t
      | _ => s0

/-! Tickets (R486, R500) -/

/-- A piece of a ticket's range: first volume block, blocks, unit, media LBA. -/
structure StoPiece where
  vblk : Nat
  n : Nat
  unit : Nat
  lba : Nat
  deriving DecidableEq, Repr

/-- R480: where a volume block lies, and how many blocks follow it there in one command. -/
def Dev.volAt (s : Dev) (v x : Nat) : Nat × Nat × Nat :=
  let base := s.get (Fld.STO_VOL_BASE_START_LBA v)
  if s.volRemote v then (8 + s.get (Fld.STO_VOL_CTRL_TARGET v), base + x, 65536)
  else
    let ds := s.volSet v
    let n := max 1 ds.length
    let u := s.volUnit v
    let k := ds.getD (x / u % n) 0
    let m := (s.drv k).mdts
    (k, base + x / u / n * u + x % u, if m = 0 then min 65536 (u - x % u) else min (min 65536 m) (u - x % u))

/-- The pieces of a range, in ascending volume block order. -/
def Dev.stoSplit (s : Dev) (v : Nat) : Nat → Nat → Nat → List StoPiece
  | 0, _, _ => []
  | fuel + 1, x, left =>
    if left = 0 then []
    else
      let (u, lba, most) := s.volAt v x
      let n := min left most
      ⟨x, n, u, lba⟩ :: s.stoSplit v fuel (x + n) (left - n)

/-- R486, in its order. -/
def Dev.stoOpen (s : Dev) (t : Ticket) (write inRange : Bool) (f : Dev → Dev) : Dev :=
  let b := t.key.b
  let v := wf t.words 2 0 12
  let slot := b = 0 || (List.range 16).any (fun i =>
    let e := t.planWord (0x80 + 8 * i)
    getBits e 12 1 = 1 && getBits e 0 12 = v && (!write || getBits e 13 1 = 1))
  if t.right 8 1 = 0 then (s.rightRefused b).fail t 3 0x080B
  else if !slot then (s.spoof b).fail t 3 0x080A
  else if !inRange then s.fail t 3 0x080C
  else if s.volState v ≠ 1 || !s.on Fld.STO_CTRL_ENABLE then s.fail t 12 0x080D
  else f s

/-- Whether a ticket's block range is good. -/
def Dev.stoRange (s : Dev) (t : Ticket) : Bool :=
  let n := wf t.words 6 0 19
  decide (1 ≤ n ∧ n ≤ 262144 ∧ wf t.words 3 0 36 + n ≤ s.get (Fld.STO_VOL_SIZE_BLOCKS (wf t.words 2 0 12)))

/-- R240, R489: bytes released under the STO ceiling and counted. -/
def Dev.stoBytes (s : Dev) (t : Ticket) (n : Nat) : Dev :=
  let s1 := s.rateGate t.key.b 1 n (t.ceiling 1)
  if t.key.b = 0 then s1 else s1.wrap (Fld.CNT_STO_BYTES t.key.b) n

/-- One command of a ticket. -/
def stoCmdOf (t : Ticket) (op : Nat) (fua : Bool) (p : StoPiece) (pay : List Byte) : StoCmd :=
  ⟨p.unit, 0, op, some t, wf t.words 2 0 12, p.vblk, p.lba, p.n, fua, pay, [], [], 0, false, false, 0, false⟩

/-- Commands of a ticket without data to the media: read, Flush, deallocate. -/
def Dev.stoIssueAll (s : Dev) (t : Ticket) (op : Nat) (ps : List StoPiece) : Dev :=
  ps.foldl (fun s p => (if op = 2 then s.stoBytes t (p.n * 4096) else s).stoIssue (stoCmdOf t op false p [])) s

/-- READ (R485). -/
def Dev.stoRead (s : Dev) (t : Ticket) : Dev :=
  let n := wf t.words 6 0 19
  let b := t.key.b
  if !bodyZero t.words [(2, 0x10FFF), (3, 2 ^ 36 - 1), (4, 2 ^ 32 - 1), (5, 2 ^ 41 - 1), (6, 2 ^ 19 - 1)] then s.fail t 3 0
  else s.stoOpen t false (s.stoRange t) fun s =>
    match s.keyCheck (.loc b) (wf t.words 4 0 32) (wf t.words 5 0 41) (n * 4096) 1 with
    | .error e => (s.keyFault (.loc b) e).fail t e.1 e.2
    | .ok _ =>
      let t1 := { t with aux := [1], result := n * 4096 }
      (s.setTicket t1).stoIssueAll t1 2 (s.stoSplit (wf t.words 2 0 12) n (wf t.words 3 0 36) n)

/-- R485, R509: the pieces of a WRITE from one on: each source is read, encrypted and issued; it waits where source bytes come
over a link; a poisoned piece is not issued. -/
def Dev.stoWriteRun (s : Dev) (k : TKey) : List StoPiece → Dev
  | [] =>
    match s.ticketOf k with
    | some t => (s.setTicket { t with aux := [1, t.aux.getD 1 0] }).stoSettle k
    | none => s
  | p :: ps =>
    match s.ticketOf k with
    | none => s
    | some t =>
      let key := wf t.words 4 0 32
      let off := wf t.words 5 0 41 + (p.vblk - wf t.words 3 0 36) * 4096
      match s.gatherPieces (.loc k.b) { t with data := [], left := 0, bad := false, marks := [] } key 5 (s.stoWharf p.unit) (s.keyedPieces key off (p.n * 4096)) 0 with
      | (.error e, s1, t1) =>
        let t2 := { t1 with bad := t.bad, left := 0 }.stoError e none
        (s1.setTicket { t2 with aux := [1, t2.aux.getD 1 0] }).stoSettle k
      | (.ok _, s1, t1) =>
        if 0 < t1.left then s1.setTicket { t1 with step := p.vblk }
        else
          let bs := t1.bytesAt 0 (p.n * 4096)
          let t2 := { t1 with bad := t.bad || t1.bad, data := [] }
          let s2 := s1.setTicket t2
          let s3 := if t1.bad then s2
            else (s2.stoBytes t2 (p.n * 4096)).stoIssue
              (stoCmdOf t2 1 (wf t.words 2 17 1 = 1) p (s2.stoCrypt (wf t.words 2 0 12) p.vblk p.n true bs))
          s3.stoWriteRun k ps

/-- The source bytes of a WRITE's waiting piece have come. -/
def Dev.stoWriteResume (s : Dev) (t : Ticket) : Dev :=
  let n := wf t.words 6 0 19
  let all := s.stoSplit (wf t.words 2 0 12) n (wf t.words 3 0 36) n
  match all.dropWhile (fun p => decide (p.vblk < t.step)) with
  | [] => s
  | p :: ps =>
    let bs := t.bytesAt 0 (p.n * 4096)
    let s1 := s.setTicket { t with data := [] }
    let s2 := if t.bad then s1
      else (s1.stoBytes t (p.n * 4096)).stoIssue
        (stoCmdOf { t with data := [] } 1 (wf t.words 2 17 1 = 1) p (s1.stoCrypt (wf t.words 2 0 12) p.vblk p.n true bs))
    s2.stoWriteRun t.key ps

/-- WRITE (R485). -/
def Dev.stoWrite (s : Dev) (t : Ticket) : Dev :=
  let n := wf t.words 6 0 19
  if !bodyZero t.words [(2, 0x20FFF), (3, 2 ^ 36 - 1), (4, 2 ^ 32 - 1), (5, 2 ^ 41 - 1), (6, 2 ^ 19 - 1)] then s.fail t 3 0
  else s.stoOpen t true (s.stoRange t) fun s =>
    (s.setTicket { t with aux := [0], result := n * 4096 }).stoWriteRun t.key (s.stoSplit (wf t.words 2 0 12) n (wf t.words 3 0 36) n)

/-- SYNC (R485): a Flush to every drive of the set, or to the target. -/
def Dev.stoSync (s : Dev) (t : Ticket) : Dev :=
  let v := wf t.words 2 0 12
  if !bodyZero t.words [(2, 0xFFF)] then s.fail t 3 0
  else s.stoOpen t false true fun s =>
    let units := if s.volRemote v then [8 + s.get (Fld.STO_VOL_CTRL_TARGET v)] else s.volSet v
    let t1 := { t with aux := [1] }
    (s.setTicket t1).stoIssueAll t1 0 (units.map (fun u => ⟨0, 0, u, 0⟩))

/-- DEALLOCATE (R485): Dataset Management over the range. -/
def Dev.stoDealloc (s : Dev) (t : Ticket) : Dev :=
  let n := wf t.words 6 0 19
  if !bodyZero t.words [(2, 0xFFF), (3, 2 ^ 36 - 1), (6, 2 ^ 19 - 1)] then s.fail t 3 0
  else s.stoOpen t true (s.stoRange t) fun s =>
    let t1 := { t with aux := [1] }
    (s.setTicket t1).stoIssueAll t1 9 (s.stoSplit (wf t.words 2 0 12) n (wf t.words 3 0 36) n)

/-- The Wharf of a ticket's Evaporator (R490). -/
def Dev.evapWharf (s : Dev) (t : Ticket) : Nat :=
  let v := wf t.words 2 0 12
  s.stoWharf (if s.volRemote v then 8 + s.get (Fld.STO_VOL_CTRL_TARGET v) else (s.volSet v).headD 0)

/-- R490: both Evaporators of the ticket's Wharf serve other tickets. -/
def Dev.evapBusy (s : Dev) (t : Ticket) : Bool :=
  decide (2 ≤ (s.tickets.filter (fun u => u.started && u.key ≠ t.key && wf u.words 0 8 4 = 4 && (wf u.words 0 0 8 = 5 || wf u.words 0 0 8 = 6)
    && s.evapWharf u = s.evapWharf t)).length)

/-- R493: the staging mooring's checks. -/
def Dev.stageCheck (s : Dev) (t : Ticket) : Option (Nat × Nat) × Dev :=
  let b := t.key.b
  let key := wf t.words 4 32 32
  let off := wf t.words 7 0 41
  let len := wf t.words 6 0 19 * 4096
  match s.keyCheck (.loc b) key off len 0, s.keyCheck (.loc b) key off len 1 with
  | .error e, _ => (some e, s.keyFault (.loc b) e)
  | _, .error e => (some e, s.keyFault (.loc b) e)
  | .ok _, .ok _ =>
    (s.keyedPieces key off len).foldl (fun (a : Option (Nat × Nat) × Dev) p =>
      match a with
      | (some e, s) => (some e, s)
      | (none, s) =>
        match s.keyedPiece (.loc b) key p.1 p.2 1 t.accel 5 (s.evapWharf t) with
        | (.error e, s1) => (some e, s1)
        | (.ok (.mem a), s1) => (match s1.region a with | .feed => (some (3, 0x080E), s1) | _ => (none, s1))
        | (.ok _, s1) => (some (3, 0x080E), s1)) (none, s)

/-- Body and range of READ_EXPAND and WRITE_PACK. -/
def Dev.packRange (s : Dev) (t : Ticket) : Bool :=
  let c := wf t.words 6 32 31
  s.stoRange t && decide (wf t.words 2 18 2 < 2 ∧ 1 ≤ c ∧ c ≤ 2 ^ 30)
def packBody (ws : List Word) (bit : Nat) : Bool :=
  bodyZero ws [(2, 0xFFF + 2 ^ bit + 0xC0000), (3, 2 ^ 36 - 1), (4, 2 ^ 64 - 1), (5, 2 ^ 41 - 1), (6, 2 ^ 19 - 1 + (2 ^ 31 - 1) * 2 ^ 32), (7, 2 ^ 41 - 1)]

/-- READ_EXPAND (R491). -/
def Dev.stoExpand (s : Dev) (t : Ticket) : Dev :=
  let b := t.key.b
  let n := wf t.words 6 0 19
  if !packBody t.words 16 then s.fail t 3 0
  else s.stoOpen t false (s.packRange t) fun s =>
    match s.keyCheck (.loc b) (wf t.words 4 0 32) (wf t.words 5 0 41) (wf t.words 6 32 31) 1 with
    | .error e => (s.keyFault (.loc b) e).fail t e.1 e.2
    | .ok _ =>
      match s.stageCheck t with
      | (some e, s1) => s1.fail t e.1 e.2
      | (none, s1) =>
        let t1 := { t with aux := [1] }
        (s1.setTicket t1).stoIssueAll t1 2 (s1.stoSplit (wf t.words 2 0 12) n (wf t.words 3 0 36) n)

/-- WRITE_PACK (R492): its source is read, then its Evaporator encodes. -/
def Dev.stoPack (s : Dev) (t : Ticket) : Dev :=
  let b := t.key.b
  let key := wf t.words 4 0 32
  if !packBody t.words 17 then s.fail t 3 0
  else s.stoOpen t true (s.packRange t) fun s =>
    match s.stageCheck t with
    | (some e, s1) => s1.fail t e.1 e.2
    | (none, s1) =>
      match s1.gatherPieces (.loc b) { t with aux := [2] } key 5 (s1.evapWharf t) (s1.keyedPieces key (wf t.words 5 0 41) (wf t.words 6 32 31)) 0 with
      | (.error e, s2, t2) => s2.fail t2 e.1 e.2
      | (.ok _, s2, t2) => s2.setTicket t2

/-- The staged bytes of a ticket, and whether any is poisoned. -/
def Dev.staged (s : Dev) (t : Ticket) : List Byte × Bool × Dev :=
  let key := wf t.words 4 32 32
  (s.keyedPieces key (wf t.words 7 0 41) (wf t.words 6 0 19 * 4096)).foldl (fun a p =>
    match a.2.2.keyedPiece (.loc t.key.b) key p.1 p.2 0 t.accel 5 0 with
    | (.ok (.mem m), s1) => (a.1 ++ s1.bytes m p.2, a.2.1 || s1.poisoned m p.2, s1)
    | (_, s1) => (a.1, a.2.1, s1)) ([], false, s)

/-- R491: the frame is decoded and its content placed. -/
def Dev.expandDone (s : Dev) (t : Ticket) : Dev :=
  let (bs, bad, s1) := s.staged t
  if bad || t.bad then (s1.scrambleStage t).fail t 8 0x080F
  else
    let (code, content) := Config.decompress (wf t.words 2 18 2) bs
    let cap := wf t.words 6 32 31
    let out := content.take cap
    let key := wf t.words 4 0 32
    match s1.placePieces (.loc t.key.b) t key 5 (s1.evapWharf t) [] (s1.keyedPieces key (wf t.words 5 0 41) out.length) out with
    | (.error e, s2, t2) => (s2.scrambleStage t).fail t2 e.1 e.2
    | (.ok _, s2, t2) =>
      let s3 := s2.scrambleStage t
      if code = 1 then s3.fail t2 9 0x0807
      else if code = 2 then s3.fail t2 9 0x0808
      else s3.placed { t2 with prove := wf t.words 2 16 1 = 1, aux := [3],
                               result := out.length + (if cap < content.length then 2 ^ 63 else 0) }

/-- R492: the frame is encoded, padded, and written. -/
def Dev.packDone (s : Dev) (t : Ticket) : Dev :=
  if t.left ≠ 0 then s
  else if t.bad then (s.scrambleStage t).fail t 8 0x080F
  else
    let f := Config.compress (wf t.words 2 18 2) (t.bytesAt 0 (wf t.words 6 32 31))
    let n := (f.length + 4095) / 4096
    let v := wf t.words 2 0 12
    if wf t.words 6 0 19 < n then (s.scrambleStage t).fail t 3 0x0809
    else
      let bs := f ++ List.replicate (n * 4096 - f.length) 0
      let t1 := { t with aux := [0], data := [], result := f.length + n * 2 ^ 32 }
      let lba := wf t.words 3 0 36
      let s1 := (s.stoSplit v n lba n).foldl (fun s p =>
        let pay := (bs.drop ((p.vblk - lba) * 4096)).take (p.n * 4096)
        (s.stoBytes t1 (p.n * 4096)).stoIssue (stoCmdOf t1 1 (wf t.words 2 17 1 = 1) p (s.stoCrypt v p.vblk p.n true pay))) (s.setTicket t1)
      match s1.ticketOf t.key with
      | some u => (s1.setTicket { u with aux := [1, u.aux.getD 1 0] }).stoSettle t.key
      | none => s1

/-- EVAPORATOR_DONE (R491, R492). -/
def Dev.evaporated (s : Dev) (b r slot : Nat) : Dev :=
  match s.ticketAt b r slot with
  | none => s
  | some t =>
    if !t.started || wf t.words 0 8 4 ≠ 4 || t.aux.getD 0 0 ≠ 2 then s
    else match wf t.words 0 0 8 with
      | 5 => s.expandDone t
      | 6 => s.packDone t
      | _ => s

/-! Timers (R499, R505, R508) -/

/-- DRIVE_CMD_TIMEOUT (R508, R512). -/
def Dev.stoTimeout (s : Dev) (u cid : Nat) : Dev :=
  match s.stoCmd u cid with
  | none => s
  | some c =>
    if !c.issued || c.op = 0x108 then s
    else
      let s1 := s.at (c.at_ + s.get Fld.STO_CTRL_CMD_TO_MS * 1000000)
      if 8 ≤ u then (s1.sat (Fld.STO_TGT_COUNTS_TIMEOUTS (u - 8))).tgtReset (u - 8)
      else
        let s2 := s1.sat (Fld.STO_DRV_COUNTS_TIMEOUTS u)
        if c.touts = 0 then (s2.putCmd { c with touts := 1, aborting := true }).stoAdmin u 0x108 cid 0
        else if c.tk.isSome then s2.stoEnd c (some (9, 0x0803))
        else (((s2.stoEnd c none).put (Fld.STO_DRV_STATE_STATE u) 4).volSync u).vltDriveFails u

/-- ABORT_TIMEOUT (R508): the controller is reset and what the reset ended is resubmitted. -/
def Dev.abortTimeout (s : Dev) (k cid : Nat) : Dev :=
  match s.stoCmd k cid with
  | none => s
  | some c =>
    if c.op ≠ 0x108 then s
    else
      let s1 := ((s.at (c.at_ + 1000000000)).sat (Fld.STO_DRV_COUNTS_RESETS k)).emit .stoCtl [k, 1]
      let s2 := s1.setCmds (s1.sto.cmds.filter (fun d => !(d.unit = k && d.op = 0x108)))
      (s2.sto.cmds.filter (fun d => d.unit = k && d.issued)).foldl (fun s d => s.stoResubmit d) s2

/-- R511, R222: berths a test selects are reset: the data of their commands is discarded. -/
def Dev.stoBerths (s : Dev) (p : Nat → Bool) : Dev :=
  s.setCmds (s.sto.cmds.map (fun c => if c.tk.any (fun t => p t.key.b) then { c with dead := true } else c))

/-- R511: cold start and fundamental reset. -/
def Dev.stoReset (s : Dev) : Dev :=
  { s with sto := ⟨[], 0, [], [], []⟩ }.resetRegs (fun k => decide (0xC00000 ≤ k ∧ k < 0x1000000))

/-! The commands -/

/-- STORAGE_READ (R485). -/
def execStorageRead (b r slot : Nat) (s : State) : Out := s.dv fun d => d.serve b r slot 4 1 Dev.stoRead
/-- STORAGE_WRITE (R485). -/
def execStorageWrite (b r slot : Nat) (s : State) : Out := s.dv fun d => d.serve b r slot 4 2 Dev.stoWrite
/-- SYNC (R485). -/
def execSync (b r slot : Nat) (s : State) : Out := s.dv fun d => d.serve b r slot 4 3 Dev.stoSync
/-- DEALLOCATE (R485). -/
def execDeallocate (b r slot : Nat) (s : State) : Out := s.dv fun d => d.serve b r slot 4 4 Dev.stoDealloc
/-- R490: a ticket that needs an Evaporator waits for one. -/
def Dev.evapServe (s : Dev) (b r slot op : Nat) (f : Dev → Ticket → Dev) : Dev :=
  match s.ticketAt b r slot with
  | some t => if s.evapBusy t then s else s.serve b r slot 4 op f
  | none => s
/-- READ_EXPAND (R491). -/
def execReadExpand (b r slot : Nat) (s : State) : Out := s.dv (·.evapServe b r slot 5 Dev.stoExpand)
/-- WRITE_PACK (R492). -/
def execWritePack (b r slot : Nat) (s : State) : Out := s.dv (·.evapServe b r slot 6 Dev.stoPack)
/-- EVAPORATOR_DONE (R491, R492). -/
def execEvaporatorDone (b r slot : Nat) (s : State) : Out := s.dv (·.evaporated b r slot)
/-- DRIVE_COMPLETION (R485): unit 0–7 a drive, 8 + t target t. -/
def execDriveCompletion (u cid sct sc : Nat) (s : State) : Out := s.dv (·.stoDone u cid sct sc)
/-- DRIVE_CMD_TIMEOUT (R508). -/
def execDriveCmdTimeout (u cid : Nat) (s : State) : Out := s.dv (·.stoTimeout u cid)
/-- ABORT_TIMEOUT (R508): the identifier is the Abort's. -/
def execAbortTimeout (k cid : Nat) (s : State) : Out := s.dv (·.abortTimeout k cid)
/-- STO_CTRL_ENABLE (R503). -/
def execStoCtrlEnable (v : Word) (s : State) : Out := s.dv (·.stoCtrlWrite v 8 0)
/-- VOLUME_CREATE (R481): a write of STO_VOL_CTRL_v with CREATE 1. -/
def execVolumeCreate (v : Nat) (w : Word) (s : State) : Out := s.dvIf (decide (v < 4096)) (·.volCtrlWrite v (setBits (w ||| 1) 1 1 0) 8 0)
/-- VOLUME_DESTROY (R481): a write with DESTROY 1. -/
def execVolumeDestroy (v : Nat) (s : State) : Out := s.dvIf (decide (v < 4096)) (·.volCtrlWrite v 2 8 0)
/-- TARGET_ENABLE (R498). -/
def execTargetEnable (t : Nat) (v : Word) (out : List Nat) (s : State) : Out := s.dv (·.tgtCtrlWrite (t % 64) (v ||| 1) 8 0 out)
/-- TARGET_DISABLE (R498). -/
def execTargetDisable (t : Nat) (v : Word) (s : State) : Out := s.dv (·.tgtCtrlWrite (t % 64) (setBits v 0 1 0) 8 0 [])
/-- NVME_TCP_SEGMENT (R497). -/
def execNvmeTcpSegment (t acked kind cid off n : Nat) (data : List Byte) (digestOk : Bool) (s : State) : Out :=
  s.dv (·.tcpSegment t acked kind cid off n data digestOk)
/-- TARGET_CONNECTION_RESET (R499). -/
def execTargetConnectionReset (t : Nat) (s : State) : Out := s.dv fun d => if t < 64 && d.tcpOpen t then d.tgtReset t else d
/-- TARGET_RECONNECT_TIMER (R499). -/
def execTargetReconnectTimer (t : Nat) (s : State) : Out :=
  s.dv fun d =>
    if t < 64 && d.on (Fld.STO_TGT_CTRL_ENABLE t) && d.get (Fld.STO_TGT_CTRL_STATE t) = 1 then
      (d.sat (Fld.STO_TGT_COUNTS_RECONNECTS t)).tcpSend t [0x201] []
    else d
/-- KEEP_ALIVE_TIMER (R496, R499). -/
def execKeepAliveTimer (t : Nat) (s : State) : Out :=
  s.dv fun d =>
    if t < 64 && d.get (Fld.STO_TGT_CTRL_STATE t) = 2 then
      let d1 := d.at ((d.tgt t).kaAt + d.katoNs t)
      if (d1.tgt t).kaOut then d1.tgtReset t
      else (d1.setTgt t { d1.tgt t with kaOut := true, kaAt := d1.tide }).tcpSend t [0x203] []
    else d
/-- TCP_RETRANSMIT_TIMEOUT (R497). -/
def execTcpRetransmitTimeout (t : Nat) (s : State) : Out :=
  s.dv fun d =>
    match (d.tgt t).unacked with
    | [] => d
    | seg :: _ =>
      if t < 64 && d.tcpOpen t then
        (d.pass (d.tgt t).rto |>.setTgt t { d.tgt t with rto := min 60000000000 (2 * (d.tgt t).rto) }).emit .tcp [t, 0x204] seg
      else d
/-- DRIVE_IDLE_TIMER (R505). -/
def execDriveIdleTimer (k : Nat) (s : State) : Out :=
  s.dv fun d =>
    let ms := d.get (Fld.STO_DRV_PM_IDLE_MS k)
    if k < 8 && d.get (Fld.STO_DRV_STATE_STATE k) = 2 && ms ≠ 0 && (d.drv k).phase = 0 && !d.on (Fld.STO_DRV_PM_CUR_PS k)
      && !d.sto.cmds.any (fun c => c.unit = k) && !d.vltHolds k then
      (d.at ((d.drv k).idleFrom + ms * 1000000)).setPs k (d.get (Fld.STO_DRV_PM_NOPS k)) 1
    else d

end Sys2Proof.Machine
end

