-- ==== Sys2Proof/Machine/Links.lean ====
section
/-! DEFINITION. What the completion of each outstanding request feeds, and how a request that fails ends (R271, R299, R305,
R355, R943, Table 8.7, Table 9.6). -/

namespace Sys2Proof.Machine

/-- How an outstanding request fails: a completion with Unsupported Request or Completer Abort, its timeout, its port
contained or reset, its IDE stream insecure. -/
inductive LinkFail where
  | error | timeout | stale | insecure
  deriving DecidableEq, Repr

/-- The status and DETAIL of a read made for a service. -/
def LinkFail.read (l : Nat) : LinkFail → Nat × Nat
  | .stale => (0xA, 0x0303)
  | .insecure => (7, 0x0403)
  | .error => (7, if l = 0 then 0x0401 else 0x0301)
  | .timeout => (7, if l = 0 then 0x0402 else 0x0302)

/-- The status and DETAIL of a proving read (R271, R355). -/
def LinkFail.prove (l : Nat) : LinkFail → Nat × Nat
  | .stale => (0xA, 0x0303)
  | .insecure => (7, 0x0403)
  | .error => (7, 0x0301)
  | .timeout => (7, if l = 0 then 0x0402 else 0x0302)

/-- A ticket whose source bytes have all come goes on. -/
def Dev.ticketResume (s : Dev) (t : Ticket) : Dev :=
  match wf t.words 0 8 4, wf t.words 0 0 8 with
  | 2, 1 => s.copyResume t
  | 2, 0x10 => s.frameTxQueue t
  | 3, 2 => s.xctBindGo t
  | 4, 2 => s.stoWriteResume t
  | 5, 1 => s.loadResume t
  | _, _ => s

/-- Source bytes of a ticket have come; `last`: the request is over. -/
def Dev.gathered (s : Dev) (k : TKey) (off : Nat) (bs : List Byte) (bad last : Bool) : Dev :=
  let s1 := if last then s.workOff k else s
  match s1.ticketOf k with
  | none => if last then s1.sat Fld.ERR_LADDER_LATE_DISCARDS else s1
  | some t =>
    let t1 := { t with data := putBytes (fun _ => 0) t.data off bs, bad := t.bad || bad,
                       marks := if bad then t.marks ++ [(off, bs.length)] else t.marks, left := if last then t.left - 1 else t.left }
    let s2 := s1.setTicket t1
    if last && t1.left = 0 then s2.ticketResume t1 else s2

/-- A read of a ticket's source failed: the ticket ends; a WRITE ends once its commands have (R510). -/
def Dev.gatherFailed (s : Dev) (k : TKey) (e : Nat × Nat) : Dev :=
  let s1 := s.workOff k
  match s1.ticketOf k with
  | none => s1.sat Fld.ERR_LADDER_LATE_DISCARDS
  | some t =>
    if wf t.words 0 8 4 = 4 && wf t.words 0 0 8 = 2 then
      let t1 := { t with left := 0 }.stoError e none
      (s1.setTicket { t1 with aux := [1, t1.aux.getD 1 0] }).stoSettle k
    else s1.fail t e.1 e.2

/-- A completion to the host (status 0 SC, 1 UR, 2 CA, 3 RRS). -/
def Dev.hostCpl (s : Dev) (f tag status : Nat) (ep : Bool) (data : List Byte) : Dev :=
  s.hostBusy.emit .hostCpl [f, tag, status, if ep then 1 else 0] data

/-- R297: the completions of a read from an address, split at 128-byte boundaries. -/
def Dev.hostData (s : Dev) (f tag addr : Nat) (ep : Bool) (data : List Byte) : Dev :=
  (chunks (data.length + 1) 128 addr data).foldl (fun s c => s.hostCpl f tag 0 ep c.2) s

/-- An Unsupported Request completion is counted, and reported in the function addressed (Table 8.6). -/
def Dev.hostUr (s : Dev) (f tag : Nat) (report : Bool) : Dev :=
  let s1 := (s.sat Fld.LND_HOST_COUNTS_UR_SENT).hostCpl f tag 1 false []
  if report then s1.aerAdvisory (if s1.funcOn f then f else 0) 20 else s1

/-- Image bytes of an FW_STAGE DATA task have come. -/
def Dev.imageBytes (s : Dev) (off : Nat) (bs : List Byte) (bad last : Bool) : Dev :=
  { s with ferry := { s.ferry with
    stageGot := putBytes (fun _ => 0) s.ferry.stageGot off bs
    stageLeft := if last then s.ferry.stageLeft - 1 else s.ferry.stageLeft
    stageBad := s.ferry.stageBad || bad } }

/-- A completion to an accelerator; to none where its port has gone down since (Table 9.6). -/
def Dev.apCpl (s : Dev) (n tag status : Nat) (ep : Bool) (data : List Byte) : Dev :=
  if 4 ≤ n then s else s.emit .apCpl [n, tag, status, if ep then 1 else 0] data

/-- LND_AP_CFG ends (R355, R943): RESULT, and the data of a read. -/
def Dev.cfgDone (s : Dev) (n result : Nat) (data : List Byte) : Dev :=
  let s1 := (s.put (Fld.LND_AP_CFG_DATA_BUSY n) 0).put (Fld.LND_AP_CFG_DATA_RESULT n) result
  if result = 0 && !s.on (Fld.LND_AP_CFG_ADDR_WRITE n) then s1.put (Fld.LND_AP_CFG_DATA_DATA n) (ofLe data) else s1

/-- A Successful Completion is delivered: `last`, the request is over; a completion may carry a part of the bytes. -/
def Dev.delivered (s : Dev) (o : Outst) (bs : List Byte) (ep last : Bool) : Dev :=
  match o.purpose with
  | .fetch b r => s.fetched b r bs ep
  | .gather k off => s.gathered k off bs ep last
  | .copy _ _ _ => s
  | .prove k => s.proved k (if ep then some (7, 0x0301) else none)
  | .cfg n => s.cfgDone n 0 bs
  | .bar2 f tag => s.hostData f tag o.addr ep bs
  | .peer n tag => s.apCpl n tag 0 ep bs
  | .xctGet x psn off => if last then s.xctGot x psn off (.ok (bs, ep)) else s
  | .xctAtomic x psn => s.xctAtomicDone x psn (if ep then .error (8, 0x0709) else .ok bs)
  | .xctProve x psn => s.xctProved x psn (if ep then some (7, 0x0705) else none)
  | .xctRead x off => if last then s.xctReadDone x off (.ok (bs, ep)) else s
  | .peerAtomic n tag => s.apCpl n tag 0 ep bs
  | .stage off => s.imageBytes off bs ep last

/-- A request ends without a Successful Completion. -/
def Dev.linkFailed (s : Dev) (o : Outst) (e : LinkFail) : Dev :=
  match o.purpose with
  | .fetch b r => if s.ringState b r = 1 then s.fetchFailed b r else s
  | .gather k _ => s.gatherFailed k (e.read o.link)
  | .copy _ _ _ => s
  | .prove k => s.proved k (some (e.prove o.link))
  | .cfg n => s.cfgDone n (if e = .timeout then 2 else 1) []
  | .bar2 f tag => s.hostUr f tag true
  | .peer n tag => s.apCpl n tag 1 false []
  | .xctGet x psn off => s.xctGot x psn off (.error (e.read o.link))
  | .xctAtomic x psn => s.xctAtomicDone x psn (.error (e.read o.link))
  | .xctProve x psn => s.xctProved x psn (some (if e = .stale then (0xA, 0x0303) else (7, 0x0705)))
  | .xctRead x off => s.xctReadDone x off (.error (e.read o.link))
  | .peerAtomic n tag => s.apCpl n tag 1 false []
  | .stage _ => { s with ferry := { s.ferry with stageLeft := s.ferry.stageLeft - 1, stageBad := true } }

/-- What remains of a request after a part of its bytes has come. -/
def Outst.rest (o : Outst) (n : Nat) : Outst :=
  let p := match o.purpose with
    | .gather k off => .gather k (off + n)
    | .stage off => .stage (off + n)
    | p => p
  { o with addr := o.addr + n, len := o.len - n, purpose := p }

/-- Whether a request's completions may be split: the others are taken whole. -/
def Outst.splits (o : Outst) : Bool :=
  match o.purpose with
  | .gather _ _ => true
  | .stage _ => true
  | .bar2 _ _ => true
  | .peer _ _ => true
  | _ => false

/-- A completion for an outstanding request: status 0 SC, 1 UR, 2 CA. -/
def Dev.completed (s : Dev) (o : Outst) (status : Nat) (ep : Bool) (data : List Byte) : Dev :=
  let last := status ≠ 0 || !o.splits || decide (o.len ≤ data.length)
  let s1 := if last then { s with outst := s.outst.erase o }
    else { s with outst := s.outst.map (fun q => if q = o then o.rest data.length else q) }
  if status = 0 then s1.delivered o data ep last else s1.linkFailed o .error

/-- A request is over without a completion. -/
def Dev.abandoned (s : Dev) (o : Outst) (e : LinkFail) : Dev := { s with outst := s.outst.erase o }.linkFailed o e

end Sys2Proof.Machine
end

