-- ==== Sys2Proof/Machine/Ports.lean ====
section
/-! DEFINITION. Downstream ports (spec/09): training, enumeration and BAR assignment, configuration access, upstream traffic,
completion timeouts, containment and reset.  Port p is APp for p below 4, DP(p − 4) from 4 on. -/

namespace Sys2Proof.Machine

/-- The SOURCE of a port's reports (Table 26.2). -/
def portSource (p : Nat) : Nat := if p < 4 then p else 0x10 + (p - 4)

/-! Presence, work in flight, containment (R34, R356, R357) -/

/-- Table 9.6: work in flight on a port ends. -/
def Dev.portWorkEnds (s : Dev) (p : Nat) : Dev :=
  if 4 ≤ p then s.drvLost (p - 4)
  else
    let mine := s.outst.filter (fun o => o.link = 1 + p)
    let s1 := mine.foldl (fun s o => s.abandoned o .stale) s
    let s2 : Dev := { s1 with
      outst := s1.outst.map (fun (o : Outst) => match o.purpose with
        | .peer n t => if n = p then { o with purpose := .peer 99 t } else o
        | .peerAtomic n t => if n = p then { o with purpose := .peerAtomic 99 t } else o
        | _ => o) }
    (s2.xing.map (·.1)).foldl (fun s x =>
      let g := s.xg x
      if (tget (fun _ => (0, 0)) g.placed (1 + p)).2 = 0 then s else s.setXg x { g with placed := tput (fun _ => (0, 0)) g.placed (1 + p) (0xFFFF, 1) }) s2

/-- The link is down; the stream keys of an accelerator port go with it (Table 25.4). -/
def Dev.portLinkDown (s : Dev) (p : Nat) : Dev :=
  let s1 := ((s.put (pLinkUp p) 0).put (pSpeed p) 0).put (pWidth p) 0
  if p < 4 then { s1.put (Fld.TLH_AP_IDE_STATE p) 0 with tlhs := { s1.tlhs with apKeys := tput (fun _ => []) s1.tlhs.apKeys p [] } } else s1

/-- R356: containment. -/
def Dev.contain (s : Dev) (p cause : Nat) : Dev :=
  if s.get (pState p) = 4 then s
  else
    let s1 := (((s.put (pState p) 4).put (pDpcCause p) cause).sat (pCount p 3)).portLinkDown p
    let s2 := (if cause = 3 then s1.put (pRemoved p) 1 else s1).emit .portLink [p, 1]
    let s3 := (s2.setPresent p 0).portWorkEnds p
    let s4 := if cause = 6 then
        { s3 with ferry := { s3.ferry with contained6 := tput (fun _ => 0) s3.ferry.contained6 p (s3.tide + 1) } } else s3
    s4.classified 0x0614 (portSource p) 0xFF cause

/-- A partner is powered and not held in reset. -/
def Dev.portPowered (s : Dev) (p : Nat) : Bool := (s.port p).pwren && !(s.port p).perst

/-- Station 1 of the route: the port trains. -/
def Dev.portTrain (s : Dev) (p : Nat) : Dev :=
  if !s.on (pEn p) then s
  else
    ((((s.put (pState p) 1).put (pDpcCause p) 0).portLinkDown p).setPort p { s.port p with trainAt := s.tide }).emit .portLink [p, 2]

/-- R360, R361: a secondary bus reset, or a drive's hot reset. -/
def Dev.portSbr (s : Dev) (p : Nat) : Dev :=
  if !s.portPowered p || !s.on (pEn p) || s.get (pState p) = 5 then s
  else
    let s1 := (((s.put (pState p) 5).setPresent p 0).portWorkEnds p).portLinkDown p
    ((s1.put (pDpcCause p) 0).setPort p { s1.port p with trainAt := s1.tide + 2001000 }).emit .portLink [p, 0]

/-- R358, R361: a write of DPC_RELEASE. -/
def Dev.dpcRelease (s : Dev) (p : Nat) : Dev := if s.get (pState p) = 4 && s.portPowered p then s.portTrain p else s

/-- A port is off: PORT_EN 0, or its partner loses power. -/
def Dev.portOff (s : Dev) (p : Nat) : Dev :=
  let s1 := ((s.setPresent p 0).portWorkEnds p).portLinkDown p
  (s1.put (pState p) 0).put (pDpcCause p) 0

/-- A write to LND_AP_CTRL or WHF_DP_CTRL (R354, R358, R360, R363). -/
def Dev.portCtrlWrite (s : Dev) (p : Nat) (v : Word) (size off : Nat) : Dev :=
  let w := s.writeReg (portCtrl p) v size off
  let low := decide (w.get (pCplTo p) < 8)
  let w1 := if low then (w.put (pCplTo p) 8).put (pClamped p) 1 else w
  let w2 := if s.on (pEn p) && !w1.on (pEn p) then (w1.portOff p).emit .portLink [p, 1]
    else if !s.on (pEn p) && w1.on (pEn p) && w1.portPowered p then w1.portTrain p else w1
  if woBits v size off 1 1 = 1 then w2.portSbr p
  else if woBits v size off 2 1 = 1 then w2.dpcRelease p else w2

/-! Power of a partner (R338, R339), as the Ferryman and the Slipway drive it -/

/-- APn_PERST_N is asserted: the partner is held in reset. -/
def Dev.perstAssert (s : Dev) (p : Nat) : Dev :=
  if (s.port p).perst then s
  else
    let s1 := (s.setPort p { s.port p with perst := true }).emit .portLink [p, 3]
    s1.portOff p

/-- APn_PERST_N is released: the port trains. -/
def Dev.perstRelease (s : Dev) (p : Nat) : Dev :=
  if !(s.port p).perst then s
  else ((s.setPort p { s.port p with perst := false }).emit .portLink [p, 4]).portTrain p

/-- Power enable raised or lowered; PERST# is asserted before power falls (R338). -/
def Dev.portPower (s : Dev) (p : Nat) (on : Bool) : Dev :=
  if (s.port p).pwren = on then s
  else
    let s1 := if on then s else if p < 4 then s.perstAssert p else s.portOff p
    let s2 := (s1.setPort p { s1.port p with pwren := on, pg := if on then (s1.port p).pg else false }).emit .pin [16 + p, if on then 1 else 0]
    if p < 4 then s2
    else if on then (s2.setPort p { s2.port p with perst := false }).portTrain p else s2.setPort p { s2.port p with perst := true }

/-! Bringing a port up (R340, R341, R342) -/

/-- A memory BAR that enumeration found: function, index, log2 of its size, prefetchable. -/
structure BarInfo where
  func : Nat
  idx : Nat
  log2 : Nat
  pref : Nat
  deriving DecidableEq, Repr

/-- BARs as a flat list of numbers. -/
def barList : Nat → List Nat → List BarInfo
  | 0, _ => []
  | n + 1, l => if l.length < 4 then [] else ⟨l.getD 0 0, l.getD 1 0, l.getD 2 0, l.getD 3 0⟩ :: barList n (l.drop 4)

/-- R341: the order of assignment. -/
def barBefore (a b : BarInfo) : Bool :=
  decide (b.log2 < a.log2) || (a.log2 = b.log2 && (decide (a.func < b.func) || (a.func = b.func && decide (a.idx < b.idx))))

/-- A BAR entered in its place. -/
def barInsert (a : BarInfo) : List BarInfo → List BarInfo
  | [] => [a]
  | b :: t => if barBefore a b then a :: b :: t else b :: barInsert a t

/-- R341: the assignment: entries with their offsets, and whether one was left out. -/
def barAssign (limit : Nat) : List BarInfo → Nat → List (BarInfo × Nat) × Bool
  | [], _ => ([], false)
  | b :: t, next =>
    let sz := 2 ^ b.log2
    let base := (next + sz - 1) / sz * sz
    if limit < base + sz then ((barAssign limit t next).1, true)
    else ((b, base) :: (barAssign limit t (base + sz)).1, (barAssign limit t (base + sz)).2)

/-- Stations 4 to 7: what discovery found: class code, functions, BARs, whether other BARs exist, MSI-X, the largest common
Max_Payload_Size, the device-owned capability fields (function, DW, byte mask). -/
def Dev.portEnumerate (s : Dev) (p cls funcs : Nat) (bars : List Nat) (others msix : Bool) (mps : Nat) (owned : List Nat) : Dev :=
  if s.get (pState p) ≠ 2 then s
  else
    let s1 := s.at ((s.port p).upAt + 100000000)
    let bl := (barList bars.length bars)
    let sorted := bl.foldl (fun l b => barInsert b l) []
    let driveOk := cls = 0x010802 && msix && bl.any (fun b => b.idx = 0 && b.func = 0 && decide (b.log2 ≤ 30))
    if 4 ≤ p && !driveOk then (s1.put (pState p) 6).put (pPresent p) 1
    else
      let (as, short) := barAssign (if p < 4 then 2 ^ 38 else 2 ^ 32) sorted 0
      let s2 := if p < 4 then
          (List.range 24).foldl (fun s i => s.setReg (Reg.LND_AP_BAR p i)
            (match as[i]? with
              | some (b, o) => packW [(12, 26, o / 4096), (38, 6, b.log2), (44, 3, b.func), (47, 3, b.idx), (50, 1, b.pref), (51, 1, 1)]
              | none => 0)) s1
        else s1
      let s3 := if short || others then s2.put (pBarShort p) 1 else s2
      let tri := (List.range (owned.length / 3)).map (fun i => (owned.getD (3 * i) 0, owned.getD (3 * i + 1) 0, owned.getD (3 * i + 2) 0))
      let s4 := s3.setPort p { s3.port p with mps := max 128 (min 512 mps), owned := tri }
      let s5 := ((s4.put (pFuncs p) funcs).put (pState p) 3).setPresent p 1
      if 4 ≤ p then s5.drvInit (p - 4)
      else if s5.on (Fld.TLH_AP_IDE_EN p) then s5.put (Fld.TLH_AP_IDE_STATE p) 1 else s5

/-! Configuration access (R343, R355) -/

/-- Table 9.3: a write to a DW with byte enables touches a field the device owns. -/
def Dev.cfgOwned (s : Dev) (n func dw be : Nat) : Bool :=
  (dw = 1 && be % 2 = 1) || (decide (4 ≤ dw ∧ dw ≤ 9) && be ≠ 0) || (dw = 12 && be ≠ 0)
    || (s.port n).owned.any (fun o => o.1 = func && o.2.1 = dw && (o.2.2 &&& be) ≠ 0)

/-- A write to LND_AP_CFG_ADDR. -/
def Dev.apCfgWrite (s : Dev) (n : Nat) (v : Word) (size off : Nat) : Dev :=
  let w := s.writeReg (Reg.LND_AP_CFG_ADDR n) v size off
  if woBits v size off 63 1 = 0 then w
  else
    let f := w.get (Fld.LND_AP_CFG_ADDR_FUNC n)
    let dw := w.get (Fld.LND_AP_CFG_ADDR_DWORD n)
    let be := w.get (Fld.LND_AP_CFG_ADDR_BE n)
    let wr := w.on (Fld.LND_AP_CFG_ADDR_WRITE n)
    if w.get (pState n) ≠ 3 || w.on (Fld.LND_AP_CFG_DATA_BUSY n) then w.put (Fld.LND_AP_CFG_DATA_RESULT n) 3
    else if wr && w.cfgOwned n f dw be then (w.put (Fld.LND_AP_STATUS_CFG_OWNED n) 1).put (Fld.LND_AP_CFG_DATA_RESULT n) 3
    else
      let t := w.nextTag
      let s1 := (w.put (Fld.LND_AP_CFG_DATA_BUSY n) 1).emit .cfgReq
        [n, f, dw, if wr then 1 else 0, be, if wr then w.get (Fld.LND_AP_CFG_DATA_DATA n) else 0, t]
      { s1 with outst := s1.outst ++ [(⟨t, 1 + n, f, 4 * dw, 4, .cfg n⟩ : Outst)], nextTag := t + 1 }

/-! Completions from partners (R345, R352, R354, R355, R943) -/

/-- A poisoned TLP came from a partner. -/
def Dev.portPoison (s : Dev) (p : Nat) (ep : Bool) : Dev := if ep then (s.put (pErr p 3) 1).sat (pCount p 1) else s

/-- The link number of a port's requests. -/
def portLink (p : Nat) : Nat := if p < 4 then 1 + p else 12 + p

/-- A completion on a port. -/
def Dev.portCompletion (s : Dev) (p tag status : Nat) (ep : Bool) (data : List Byte) : Dev :=
  if !s.on (pLinkUp p) then s
  else
    let s1 := s.portPoison p ep
    match s1.outst.find? (fun o => o.link = portLink p && o.tag = tag) with
    | some o => s1.completed o status ep data
    | none => s1.put (pErr p 5) 1

/-- R355: a request reaches CPL_TO_US. -/
def Dev.portTimeout (s : Dev) (p tag : Nat) : Dev :=
  match s.outst.find? (fun o => o.link = portLink p && o.tag = tag) with
  | none => s
  | some o => ((s.put (pErr p 4) 1).sat (pCount p 0)).abandoned o .timeout

/-! Upstream requests (R345 to R352) -/

/-- R350: bytes toward the host are released at UP_HOST_RATE. -/
def Dev.upRate (s : Dev) (n len : Nat) : Dev :=
  let c := s.get (Fld.LND_AP_CTRL_UP_HOST_RATE n)
  if c = 0 then s
  else
    let s1 := s.at (((s.port n).release + 999) / 1000)
    s1.setPort n { s1.port n with release := rateAfter (s.port n).release (s1.tide * 1000) len c }

/-- What an AtomicOp leaves: 2 FetchAdd, 3 Swap, 4 CAS; operands of n bytes. -/
def atomicNew (kind n old a b : Nat) : Nat :=
  match kind with
  | 2 => (old + a) % 2 ^ (8 * n)
  | 3 => a
  | _ => if old = a then b else old

/-- A fault of an accelerator's request: the write form discarded, the others Unsupported Request (Table 4.8). -/
def Dev.upRefuse (s : Dev) (n kind tag : Nat) : Dev := if kind = 0 then s else s.apCpl n tag 1 false []

/-- One piece of an upstream memory request that passed Table 9.4: kind 0 write, 1 read, 2 to 4 atomics; attr bit 0 Relaxed
Ordering, bit 1 No Snoop, bit 2 EP. -/
def Dev.upPiece (s : Dev) (n kind va len tag attr : Nat) (data : List Byte) : Dev :=
  let ctx := 129 + n
  let acc := if kind = 0 then 1 else if kind = 1 then 0 else 2
  let ep := attr / 4 % 2 = 1
  match s.xlate ctx va acc len { accel := 15 } with
  | (.fault k lvl, s1) => (s1.tollFault ctx va k acc lvl 7 n).upRefuse n kind tag
  | (.ok dpa leaf, s1) =>
    match s1.destOf ctx dpa leaf with
    | .mem a =>
      match kind with
      | 0 => s1.writeMem a data ep
      | 1 => s1.apCpl n tag 0 (s1.poisoned a len) (if len = 0 then [0, 0, 0, 0] else s1.bytes a len)
      | _ =>
        if (len ≠ 4 && len ≠ 8) || a % len ≠ 0 then s1.apCpl n tag 1 false []
        else
          let old := ofLe (s1.bytes a len)
          let bad := s1.poisoned a len
          ((s1.writeMem a (leBytes len (atomicNew kind len old (ofLe (data.take len)) (ofLe ((data.drop len).take len)))) bad).apCpl n tag 0 bad
            (leBytes len old))
    | .ap m a =>
      if s1.apInsecure m then s1.upRefuse n kind tag
      else if m = n then (s1.tollFault ctx va 3 acc 7 7 n).upRefuse n kind tag
      else match kind with
        | 0 => s1.sendAp m a data ep
        | 1 => s1.sendRead (.ap m a) len (.peer n tag)
        | _ => s1.apCpl n tag 1 false []
    | .host f a _ =>
      let ro := attr % 2 = 1 && s1.cfgBits f 0x68 4 1 = 1
      let ns := attr / 2 % 2 = 1 && s1.cfgBits f 0x68 11 1 = 1
      if s1.ideInsecure f then s1.upRefuse n kind tag
      else match kind with
        | 0 =>
          let at_ := (if ro then 1 else 0) + (if ns then 2 else 0) + (if ep then 4 else 0)
          (chunks (data.length + 1) s1.mps a data).foldl (fun s c => s.hostSend ⟨.hostWrite, [f, c.1, at_], c.2⟩) (s1.upRate n data.length)
        | 1 => s1.sendRead (.host f a ns) len (.peer n tag)
        | _ =>
          if len ≠ 8 || kind = 3 || a % 8 ≠ 0 then s1.apCpl n tag 1 false []
          else
            let t := s1.nextTag
            let s2 := (s1.upRate n 8).hostSend ⟨.hostAtomic, [f, a, if kind = 2 then 0 else 1, t], data⟩
            { s2 with outst := s2.outst ++ [(⟨t, 0, f, a, 8, .peerAtomic n tag⟩ : Outst)], nextTag := t + 1 }

/-- R345, R346: a request from an accelerator: requester bus, device and function; kind 0 to 4 memory as above, 5 a message
(`len` its kind: 0 PM or LTR, 1 another), 6 another AtomicOp or a request no function of the port takes; attr bits [4:3] AT. -/
def Dev.upstream (s : Dev) (n rid kind addr len tag attr : Nat) (data : List Byte) : Dev :=
  if !s.on (pLinkUp n) || s.apInsecure n then s
  else
    let posted := kind = 0 || kind = 5
    let drop := fun (d : Dev) => let d1 := d.sat (pCount n 2); if posted then d1 else d1.apCpl n tag 1 false []
    if rid / 256 ≠ 1 + n || rid / 8 % 32 ≠ 0 || s.get (pFuncs n) / 2 ^ (rid % 8) % 2 = 0 then drop (s.put (pErr n 6) 1)
    else if kind = 5 then (if len = 0 then s else s.sat (pCount n 2))
    else if attr / 8 % 4 ≠ 0 then drop s
    else
      let s1 := s.portPoison n (attr / 4 % 2 = 1)
      let size := if kind = 0 then data.length else len
      if 5 < kind then s1.apCpl n tag 1 false []
      else if 4096 < addr % 4096 + size then (s1.put (pErr n 7) 1).contain n 4
      else if size = 0 && kind ≠ 1 then s1
      else s1.upPiece n kind addr size tag attr data

/-- R351, R352: a request from drive k: to offset `off` of the buffer of the command `cid`; a write carries data. -/
def Dev.driveUpstream (s : Dev) (k cid off len tag : Nat) (write ep : Bool) (data : List Byte) : Dev :=
  let p := 4 + k
  let s1 := s.portPoison p (write && ep)
  let stray := fun (d : Dev) => let d1 := d.sat (pCount p 2); if write then d1 else d1.emit .dpCpl [k, tag, 1]
  match s1.stoCmd k cid with
  | none => stray s1
  | some c =>
    let size := if 256 ≤ c.op then 4096 else c.n * 4096
    let inward := c.op = 2 || c.op = 0x106
    if !c.issued || inward ≠ write || (!write && c.op ≠ 1) || decide (size < off + (if write then data.length else len)) then stray s1
    else if write then s1.putCmd { c with data := enterBytes c.data off data, marks := if ep then c.marks ++ [(off, data.length)] else c.marks }
    else if c.dead then s1.emit .dpCpl [k, tag, 1]
    else s1.emit .dpCpl [k, tag, 0] ((c.pay.drop off).take len)

/-! Errors of partners (R356, R359) -/

/-- R359: severity 0 correctable, 1 non-fatal, 2 fatal. -/
def Dev.partnerError (s : Dev) (p sev src : Nat) : Dev :=
  if !s.on (pLinkUp p) then s
  else
    let s1 := (s.put (pErr p (min sev 2)) 1).put ⟨portErr p, 16, 16⟩ src
    match sev with
    | 0 => s1
    | 1 =>
      let s2 := s1.classified 0x0612 (portSource p) 0xFF src
      if s2.on ⟨portCtrl p, 3, 1⟩ then s2.contain p 2 else s2
    | _ => (s1.classified 0x0613 (portSource p) 0xFF src).contain p 1

/-! The commands -/

/-- PORT_LINK_UP (R340): speed code and lanes. -/
def execPortLinkUp (p speed width : Nat) (s : State) : Out :=
  s.dv fun d =>
    if decide (p < 12) && (d.get (pState p) = 1 || d.get (pState p) = 5) then
      let d1 := d.at (d.port p).trainAt
      ((((((d1.put (pLinkUp p) 1).put (pSpeed p) speed).put (pWidth p) width).put (pState p) 2).put (pPresent p) 1).setPort p
        { d1.port p with upAt := d1.tide })
    else d

/-- PORT_TRAIN_TIMEOUT (R340): 100 ms without link up; `detected`: the lanes detect a receiver. -/
def execPortTrainTimeout (p : Nat) (detected : Bool) (s : State) : Out :=
  s.dv fun d =>
    if decide (p < 12) && (d.get (pState p) = 1 || d.get (pState p) = 5) then
      ((d.at ((d.port p).trainAt + 100000000)).put (pState p) (if detected then 6 else 0)).put (pPresent p) (if detected then 1 else 0)
    else d

/-- PORT_ENUMERATE (R341). -/
def execPortEnumerate (p cls funcs : Nat) (bars : List Nat) (others msix : Bool) (mps : Nat) (owned : List Nat) (s : State) : Out :=
  s.dv fun d => if p < 12 then d.portEnumerate p cls funcs bars others msix mps owned else d

/-- ENUM_RRS_TIMEOUT (R340). -/
def execEnumRrsTimeout (p : Nat) (s : State) : Out :=
  s.dv fun d =>
    if decide (p < 12) && d.get (pState p) = 2 then ((d.at ((d.port p).upAt + 1000000000)).put (pState p) 6).put (pPresent p) 1 else d

/-- PORT_SBR (R360). -/
def execPortSbr (p : Nat) (s : State) : Out := s.dv fun d => if p < 12 then d.portSbr p else d

/-- DPC_RELEASE (R358). -/
def execDpcRelease (p : Nat) (s : State) : Out := s.dv fun d => if p < 12 then d.dpcRelease p else d

/-- PORT_EN_WRITE (R363): the control register with PORT_EN as given. -/
def execPortEnWrite (p : Nat) (en : Bool) (s : State) : Out :=
  s.dv fun d => if p < 12 then d.portCtrlWrite p (setBits (d.reg (portCtrl p)) 0 1 (if en then 1 else 0)) 8 0 else d

/-- AP_CFG_GO (R343): a write of LND_AP_CFG_ADDR with GO 1. -/
def execApCfgGo (n : Nat) (v : Word) (s : State) : Out := s.dv fun d => if n < 4 then d.apCfgWrite n (setBits v 63 1 1) 8 0 else d

/-- AP_CFG_COMPLETE (R355): status 0 SC, 1 UR or CA, 2 the timeout. -/
def execApCfgComplete (n status : Nat) (data : List Byte) (s : State) : Out :=
  s.dv fun d =>
    match d.outst.find? (fun o => o.link = 1 + n && o.purpose = Purpose.cfg n) with
    | none => d
    | some o => if status = 2 then d.portTimeout n o.tag else d.completed o status false data

/-- ACCEL_UPSTREAM_REQUEST (R345, R346). -/
def execAccelUpstreamRequest (n rid kind addr len tag attr : Nat) (data : List Byte) (s : State) : Out :=
  s.dv fun d => if n < 4 then d.upstream n rid kind addr len tag attr data else d

/-- DOWNSTREAM_COMPLETION (R345). -/
def execDownstreamCompletion (p tag status : Nat) (ep : Bool) (data : List Byte) (s : State) : Out :=
  s.dv fun d => if p < 12 then d.portCompletion p tag status ep data else d

/-- DOWNSTREAM_CPL_TIMEOUT (R355). -/
def execDownstreamCplTimeout (p tag : Nat) (s : State) : Out := s.dv fun d => if p < 12 then d.portTimeout p tag else d

/-- PARTNER_ERROR_MESSAGE (R359): severity 0 ERR_COR, 1 ERR_NONFATAL, 2 ERR_FATAL; the requester ID. -/
def execPartnerErrorMessage (p sev src : Nat) (s : State) : Out := s.dv fun d => if p < 12 then d.partnerError p sev src else d

/-- SURPRISE_DOWN (R356). -/
def execSurpriseDown (p : Nat) (s : State) : Out := s.dv fun d => if decide (p < 12) && d.on (pLinkUp p) then d.contain p 3 else d

/-- CREDIT_STALL_TIMEOUT (R356). -/
def execCreditStallTimeout (p : Nat) (s : State) : Out := s.dv fun d => if decide (p < 12) && d.on (pLinkUp p) then d.contain p 5 else d

/-- AP_PG_FALL (R356). -/
def execApPgFall (n : Nat) (s : State) : Out :=
  s.dv fun d =>
    if decide (n < 4) && (d.port n).pg then
      let d1 := d.setPort n { d.port n with pg := false }
      if (d1.port n).pwren then d1.contain n 6 else d1
    else d

/-- DRIVE_UPSTREAM_REQUEST (R351). -/
def execDriveUpstreamRequest (k cid off len tag : Nat) (write ep : Bool) (data : List Byte) (s : State) : Out :=
  s.dv fun d => if k < 8 then d.driveUpstream k cid off len tag write ep data else d

/-- PORT_RECEIVER_DETECT (R358, R365). -/
def execPortReceiverDetect (p : Nat) (present : Bool) (s : State) : Out :=
  s.dv fun d =>
    if decide (p < 12) && (d.get (pState p) = 4 || d.get (pState p) = 0) then d.put (pPresent p) (if present then 1 else 0) else d

/-- PROVING_READ_COMPLETE (R271): the completion of the proving read with a tag: status 0 SC, 1 UR, 2 CA; EP. -/
def execProvingReadComplete (tag status : Nat) (ep : Bool) (s : State) : Out :=
  s.dv fun d =>
    match d.outst.find? (fun o => o.tag = tag) with
    | none => d
    | some o =>
      match o.purpose with
      | .prove _ => d.completed o status ep []
      | .xctProve _ _ => d.completed o status ep []
      | _ => d

end Sys2Proof.Machine
end

