-- ==== Sys2Proof/Machine/Tlh.lean ====
section
/-! DEFINITION. The Tollhouse (spec/25): key slots, SPDM, IDE keys, zeroization. -/

namespace Sys2Proof.Machine

/-- A key slot; an EMPTY one has no key material (R856). -/
def Dev.keySlot (s : Dev) (i : Nat) : TlhKey := tget (fun _ => TlhKey.init) s.tlh i
def Dev.setKeySlot (s : Dev) (i : Nat) (k : TlhKey) : Dev := { s with tlh := tput (fun _ => TlhKey.init) s.tlh i k }

/-- LOADED counts the slots; the volumes follow their keys (R862). -/
def Dev.keysChanged (s : Dev) : Dev :=
  let s1 := s.put Fld.TLH_STATUS_LOADED s.tlh.length
  s1.vols.foldl (fun s v => if s.volNow v = s.volState v then s else s.volPost v (s.volNow v) (s.volSource v)) s1

/-- R881: a read-back after zeroization found a bit that is not zero. -/
def Dev.zeroFail (s : Dev) (slot : Nat) : Dev :=
  ((s.put Fld.TLH_STATUS_ZERO_FAIL 1).logAdd 5 0x0501 0xFF slot 0).classified 0x0616 0 0xFF slot

/-- R859: one slot becomes EMPTY; `clean`: the read-back found only zeros. -/
def Dev.keyZero (s : Dev) (i : Nat) (clean : Bool) : Dev :=
  let s1 := (s.setKeySlot i TlhKey.init).keysChanged
  if clean then s1 else s1.zeroFail i

/-- R880: an event of Table 25.4 zeroizes the slots a test selects: 1 CLEAR, 2 VF FLR, 3 hot reset or PF FLR, 4 slack-water,
5 fundamental. -/
def Dev.keysZeroize (s : Dev) (p : TlhKey → Bool) (event berth : Nat) : Dev :=
  let n := (s.tlh.filter (fun e => p e.2)).length
  ({ s with tlh := s.tlh.filter (fun e => !p e.2) }.keysChanged).logAdd 2 0x0500 berth event n

/-- R858: the KEY_ID of key material. -/
def Dev.keyId (s : Dev) (key : List Byte) : Nat := ofBe ((Config.hmac384 (Config.derivedKey 3 s.tlhs.debugOpen) key).take 8)

/-- R857: the key as the fields of a LOAD refuse it: BAD_OWNER, BAD_KEY. -/
def loadCause (owner kind : Nat) (key : List Byte) : Nat :=
  if 128 < owner ∨ (kind = 1 ∧ owner ≠ 0) then 3
  else if key.all (fun b => b = 0) || (kind = 1 && key.take 32 = key.drop 32) then 4
  else 0

/-- R857: LOAD: the RESULT and the state. -/
def Dev.keyLoad (s : Dev) (register : Bool) (handle owner kind : Nat) (key : List Byte) : Nat × Dev :=
  let k := if kind = 1 then key.take 64 else key.take 32
  if s.on Fld.TLH_STATUS_ZERO_FAIL then (6, s)
  else if register && s.on Fld.TLH_CTRL_SESSION_ONLY then (5, s)
  else if 16384 ≤ handle then (2, s)
  else if !(s.keySlot handle).key.isEmpty then (1, s)
  else if loadCause owner kind k ≠ 0 then (loadCause owner kind k, s)
  else
    let id := s.keyId k
    (0, ((s.setKeySlot handle ⟨owner, kind, k, id⟩).keysChanged).logAdd 1 0x0506 0xFF (handle + owner * 2 ^ 24) id)

/-! The register path (R857 to R860, R863) -/

/-- A write to TLH_KEY_DATAw, which no read returns. -/
def Dev.keyDataWrite (s : Dev) (w : Nat) (v : Word) (size off : Nat) : Dev :=
  let m := BitVec.ofNat 64 (laneMask size off 0 64)
  s.setReg (Reg.TLH_KEY_DATA w) ((s.reg (Reg.TLH_KEY_DATA w) &&& ~~~m) ||| (v &&& m))

/-- The staged key bytes, and their end (Table 25.8). -/
def Dev.keyData (s : Dev) : List Byte := (List.range 8).flatMap (fun w => leBytes 8 (s.reg (Reg.TLH_KEY_DATA w)).toNat)
def Dev.keyDataClear (s : Dev) : Dev := (List.range 8).foldl (fun s w => s.setReg (Reg.TLH_KEY_DATA w) 0) s

/-- A write to TLH_SLOT_CMD; `clean` as keyZero takes it.  Commands complete at once, so BUSY never stands. -/
def Dev.tlhCmdWrite (s : Dev) (v : Word) (size off : Nat) (clean : Bool) : Dev :=
  let w := s.writeReg Reg.TLH_SLOT_CMD v size off
  let h := w.get Fld.TLH_SLOT_CMD_HANDLE
  let result := fun (d : Dev) (r : Nat) => (d.put Fld.TLH_SLOT_STATUS_RESULT r).keyDataClear
  if woBits v size off 63 1 = 0 then w
  else match w.get Fld.TLH_SLOT_CMD_OP with
    | 1 =>
      let (r, s1) := w.keyLoad true h (w.get Fld.TLH_SLOT_CMD_OWNER) (w.get Fld.TLH_SLOT_CMD_KIND) w.keyData
      result (if r = 0 then s1.put Fld.TLH_SLOT_KEYID_KEY_ID (s1.keySlot h).id else s1) r
    | 2 => if (w.keySlot h).key.isEmpty then result w 0 else result (w.keyZero h clean) (if clean then 0 else 6)
    | 3 =>
      let k := w.keySlot h
      result ((((w.put Fld.TLH_SLOT_STATUS_Q_LOADED (if k.key.isEmpty then 0 else 1)).put Fld.TLH_SLOT_STATUS_Q_KIND k.kind).put
        Fld.TLH_SLOT_STATUS_Q_OWNER k.owner).put Fld.TLH_SLOT_KEYID_KEY_ID k.id) 0
    | _ => w

/-- A write to TLH_CTRL: SESSION_ONLY shows in TLH_STATUS too (R863). -/
def Dev.tlhCtrlWrite (s : Dev) (v : Word) (size off : Nat) : Dev :=
  let w := s.writeReg Reg.TLH_CTRL v size off
  w.put Fld.TLH_STATUS_SESSION_ONLY (w.get Fld.TLH_CTRL_SESSION_ONLY)

/-- TLH_SLOT_LOAD (R857): TLH_SLOT_CMD is written with GO and OP LOAD. -/
def execTlhSlotLoad (v : Word) (s : State) : Out := s.dv (·.tlhCmdWrite (setBits (setBits v 25 2 1) 63 1 1) 8 0 true)
/-- TLH_SLOT_ZEROIZE (R859). -/
def execTlhSlotZeroize (v : Word) (clean : Bool) (s : State) : Out := s.dv (·.tlhCmdWrite (setBits (setBits v 25 2 2) 63 1 1) 8 0 clean)
/-- TLH_SLOT_QUERY (R860). -/
def execTlhSlotQuery (v : Word) (s : State) : Out := s.dv (·.tlhCmdWrite (setBits (setBits v 25 2 3) 63 1 1) 8 0 true)
/-- SESSION_ONLY_SET (R863). -/
def execSessionOnlySet (s : State) : Out := s.dv (·.tlhCtrlWrite 1 8 0)

/-! The message path (R864, Table 25.5) -/

/-- A secured session of a binding is established. -/
def Dev.secured (s : Dev) (binding sess : Nat) : Bool := s.tlhs.sess.any (fun e => e.id = sess && e.binding = binding && e.up)

/-- The response of Table 25.5. -/
def Dev.keyAnswer (s : Dev) (binding sess op result : Nat) (q : List Byte) (id : Nat) : Dev :=
  let body := [BitVec.ofNat 8 (op + 0x80), BitVec.ofNat 8 result] ++ (q ++ List.replicate (6 - q.length) 0)
  s.emit .mctp [binding, 1, sess] (body ++ leBytes 8 id ++ List.replicate 56 0)

/-- A key command is acted on inside a secured session of the PCIe VDM binding only. -/
def Dev.keyMsg (s : Dev) (binding sess op : Nat) (f : Dev → Dev) : Dev :=
  if binding = 0 && s.secured 0 sess then f s else s.keyAnswer binding sess op 5 [] 0

/-- KEY_MSG_LOAD (R864). -/
def execKeyMsgLoad (binding sess handle owner kind : Nat) (key : List Byte) (s : State) : Out :=
  s.dv fun d => d.keyMsg binding sess 1 fun d =>
    let (r, d1) := d.keyLoad false handle owner (kind % 2) key
    d1.keyAnswer binding sess 1 r [] (if r = 0 then (d1.keySlot handle).id else 0)

/-- KEY_MSG_ZEROIZE (R864, R881). -/
def execKeyMsgZeroize (binding sess handle : Nat) (clean : Bool) (s : State) : Out :=
  s.dv fun d => d.keyMsg binding sess 2 fun d =>
    if 16384 ≤ handle then d.keyAnswer binding sess 2 2 [] 0
    else if (d.keySlot handle).key.isEmpty then d.keyAnswer binding sess 2 0 [] 0
    else (d.keyZero handle clean).keyAnswer binding sess 2 (if clean then 0 else 6) [] 0

/-- KEY_MSG_QUERY (R864). -/
def execKeyMsgQuery (binding sess handle : Nat) (s : State) : Out :=
  s.dv fun d => d.keyMsg binding sess 3 fun d =>
    if 16384 ≤ handle then d.keyAnswer binding sess 3 2 [] 0
    else
      let k := d.keySlot handle
      d.keyAnswer binding sess 3 0 [if k.key.isEmpty then 0 else 1, BitVec.ofNat 8 k.owner, BitVec.ofNat 8 k.kind] k.id

/-! SPDM (R865 to R868); message codes and layouts are those of DSP0274 -/

/-- An SPDM answer: binding, session (0 outside one), response code, parameters. -/
def Dev.spdm (s : Dev) (binding sess code p1 p2 : Nat) (data : List Byte) : Dev := s.emit .mctp [binding, 2, sess, code, p1, p2] data

/-- An SPDM error. -/
def Dev.spdmErr (s : Dev) (binding sess e : Nat) : Dev := s.spdm binding sess 0x7F e 0 []

/-- The connection state of a binding. -/
def Dev.conn (s : Dev) (binding : Nat) : Nat := tget (fun _ => 0) s.tlhs.conn binding
def Dev.setConn (s : Dev) (binding c : Nat) : Dev := { s with tlhs := { s.tlhs with conn := tput (fun _ => 0) s.tlhs.conn binding c } }

/-- A request that needs the negotiated connection, outside a session or inside one that is established. -/
def Dev.spdmOpen (s : Dev) (binding sess : Nat) (f : Dev → Dev) : Dev :=
  if s.conn binding = 3 && (sess = 0 || s.secured binding sess) then f s else s.spdmErr binding sess 4

/-- R853: a random value; the Tollhouse refuses where an entropy test has failed. -/
def Dev.drbg (s : Dev) (binding sess : Nat) (f : List Byte → Dev → Dev) : Dev :=
  if s.on Fld.TLH_STATUS_DRBG_FAIL then s.spdmErr binding sess 5 else f (Config.record 3 s.free) s.tick

/-- R851: the chain of slot 0 with its alias certificate, which the image's digest makes. -/
def Dev.certChain (s : Dev) : List Byte := Config.record 1 (ofLe s.tlhs.keeper)

/-- The sessions changed; SESSIONS counts them. -/
def Dev.setSess (s : Dev) (l : List SpdmSess) : Dev :=
  { s with tlhs := { s.tlhs with sess := l } }.put Fld.TLH_STATUS_SESSIONS l.length

/-- R868: sessions a test on the binding selects end. -/
def Dev.endSessions (s : Dev) (p : Nat → Bool) : Dev := s.setSess (s.tlhs.sess.filter (fun e => !p e.binding))

/-- Table 25.2: the value of a measurement block; whether it is a digest. -/
def Dev.measure (s : Dev) (i : Nat) : List Byte :=
  match i with
  | 1 => Config.record 2 0
  | 2 => s.tlhs.helm
  | 3 => s.tlhs.keeper
  | 4 => leBytes 6 (s.reg Reg.IDENT_FW_ABI).toNat ++ leBytes 2 (s.get Fld.TLH_STATUS_MIN_SVN)
  | 5 => leBytes 8 (pack [(0, 1, s.get Fld.TLH_STATUS_DEBUG_OPEN), (3, 1, s.get Fld.TLH_STATUS_SESSION_ONLY), (4, 4, s.get Fld.TLH_STATUS_REVOKED)])
  | _ => leBytes 8 (s.reg Reg.IDENT_PART).toNat ++ leBytes 8 (s.reg Reg.IDENT_DSN).toNat

/-- A block in the DMTF format: index, specification, size; value type with bit 7 for raw, size, value. -/
def Dev.measureBlock (s : Dev) (i : Nat) : List Byte :=
  let v := s.measure i
  let ty := match i with | 1 => 0 | 2 => 1 | 3 => 1 | 6 => 0x82 | _ => 0x83
  [BitVec.ofNat 8 i, 1] ++ leBytes 2 (v.length + 3) ++ [BitVec.ofNat 8 ty] ++ leBytes 2 v.length ++ v

/-- GET_VERSION: versions 1.1 and 1.2; the connection starts over. -/
def execGetVersion (binding : Nat) (s : State) : Out :=
  s.dv fun d => (d.setConn binding 1).spdm binding 0 0x04 0 0 ([0, 2] ++ leBytes 2 0x1100 ++ leBytes 2 0x1200)

/-- GET_CAPABILITIES: CTExponent 17 and the parts of Table 25.1. -/
def execGetCapabilities (binding : Nat) (s : State) : Out :=
  s.dv fun d =>
    if d.conn binding = 0 then d.spdmErr binding 0 4
    else (d.setConn binding 2).spdm binding 0 0x61 0 0 ([0, 17, 0, 0] ++ leBytes 4 0x462F6)

/-- NEGOTIATE_ALGORITHMS: of the offered sets, the algorithms of Table 25.1. -/
def execNegotiateAlgorithms (binding asym hash dhe aead : Nat) (s : State) : Out :=
  s.dv fun d =>
    if d.conn binding < 2 then d.spdmErr binding 0 4
    else if asym &&& 0x80 = 0 || hash &&& 2 = 0 then d.spdmErr binding 0 1
    else (d.setConn binding 3).spdm binding 0 0x63 0 0
      (leBytes 4 4 ++ leBytes 4 (asym &&& 0x80) ++ leBytes 4 (hash &&& 2) ++ leBytes 2 (dhe &&& 0x10) ++ leBytes 2 (aead &&& 2))

/-- GET_DIGESTS: slot 0 only. -/
def execGetDigests (binding sess : Nat) (s : State) : Out :=
  s.dv fun d => d.spdmOpen binding sess fun d => d.spdm binding sess 0x01 0 1 (Config.sha384 d.certChain)

/-- GET_CERTIFICATE: a part of the slot-0 chain. -/
def execGetCertificate (binding sess slot off len : Nat) (s : State) : Out :=
  s.dv fun d => d.spdmOpen binding sess fun d =>
    let c := d.certChain
    if slot ≠ 0 || c.length ≤ off then d.spdmErr binding sess 1
    else
      let part := (c.drop off).take len
      d.spdm binding sess 0x02 0 0 (leBytes 2 part.length ++ leBytes 2 (c.length - off - part.length) ++ part)

/-- CHALLENGE: the digest of the chain, a nonce, the digest of the measurements, signed by the alias key (R851). -/
def execChallenge (binding slot : Nat) (nonce : List Byte) (s : State) : Out :=
  s.dv fun d => d.spdmOpen binding 0 fun d =>
    if slot ≠ 0 then d.spdmErr binding 0 1
    else d.drbg binding 0 fun r d =>
      let body := Config.sha384 d.certChain ++ r ++ Config.sha384 ((List.range 6).flatMap (fun i => d.measureBlock (i + 1)))
      d.spdm binding 0 0x03 0 1 (body ++ Config.ecdsaSign (nonce ++ body))

/-- GET_MEASUREMENTS (R867): op 0 the number of blocks, 0xFF all, else one; signed or not. -/
def execGetMeasurements (binding sess op : Nat) (sign : Bool) (nonce : List Byte) (s : State) : Out :=
  s.dv fun d => d.spdmOpen binding sess fun d =>
    let is := if op = 0xFF then [1, 2, 3, 4, 5, 6] else if op = 0 then [] else [op]
    let body := is.flatMap d.measureBlock
    if op ≠ 0xFF && 6 < op then d.spdmErr binding sess 1
    else if sign then d.drbg binding sess fun r d =>
      d.spdm binding sess 0x60 (if op = 0 then 6 else 0) 0 ([BitVec.ofNat 8 is.length] ++ leBytes 3 body.length ++ body ++ r ++ Config.ecdsaSign (nonce ++ body ++ r))
    else d.spdm binding sess 0x60 (if op = 0 then 6 else 0) 0 ([BitVec.ofNat 8 is.length] ++ leBytes 3 body.length ++ body)

/-- KEY_EXCHANGE (R866): a session begins, or Busy. -/
def execKeyExchange (binding : Nat) (s : State) : Out :=
  s.dv fun d => d.spdmOpen binding 0 fun d =>
    if 4 ≤ d.tlhs.sess.length then d.spdmErr binding 0 3
    else d.drbg binding 0 fun r d =>
      let id := d.tlhs.nextSess % 0xFFFF + 1
      let d1 := { d with tlhs := { d.tlhs with nextSess := d.tlhs.nextSess + 1 } }.setSess (d.tlhs.sess ++ [SpdmSess.mk id binding false 0])
      d1.spdm binding id 0x64 0 0 (r ++ Config.ecdsaSign r)

/-- FINISH: `good`: its verify data is right. -/
def execFinish (binding sess : Nat) (good : Bool) (s : State) : Out :=
  s.dv fun d =>
    if !d.tlhs.sess.any (fun e => e.id = sess && e.binding = binding && !e.up) then d.spdmErr binding sess 4
    else if !good then (d.setSess (d.tlhs.sess.filter (fun e => e.id ≠ sess))).spdmErr binding sess 6
    else (d.setSess (d.tlhs.sess.map (fun e => if e.id = sess then { e with up := true } else e))).spdm binding sess 0x65 0 0 []

/-- SPDM_HEARTBEAT. -/
def execSpdmHeartbeat (binding sess : Nat) (s : State) : Out :=
  s.dv fun d => if d.secured binding sess then d.spdm binding sess 0x68 0 0 [] else d.spdmErr binding sess 4

/-- KEY_UPDATE: 1 UpdateKey, 2 UpdateAllKeys, 3 VerifyNewKey. -/
def execKeyUpdate (binding sess op : Nat) (s : State) : Out :=
  s.dv fun d =>
    if !d.secured binding sess then d.spdmErr binding sess 4
    else if op = 0 || 3 < op then d.spdmErr binding sess 1
    else (d.setSess (d.tlhs.sess.map (fun e => if e.id = sess && op ≠ 3 then { e with updates := e.updates + 1 } else e))).spdm binding sess 0x69 op 0 []

/-- END_SESSION. -/
def execEndSession (binding sess : Nat) (s : State) : Out :=
  s.dv fun d =>
    if d.secured binding sess then (d.setSess (d.tlhs.sess.filter (fun e => e.id ≠ sess))).spdm binding sess 0x6C 0 0 []
    else d.spdmErr binding sess 4

/-! IDE keys of the host port (R869, R312 to R314) -/

/-- A stream of the host port. -/
def Dev.ideStream (s : Dev) (i : Nat) : IdeStream := tget (fun _ => IdeStream.init) s.host.ide i
def Dev.setIde (s : Dev) (i : Nat) (e : IdeStream) : Dev :=
  { s with host := { s.host with ide := tput (fun _ => IdeStream.init) s.host.ide i e } }

/-- IDE_KM is served inside a secured session of the PCIe VDM binding; anything else is discarded. -/
def Dev.ideKm (s : Dev) (binding sess : Nat) (f : Dev → Dev) : Dev := if binding = 0 && s.secured 0 sess then f s else s

/-- Where a key lies: key set, direction, sub-stream (0 posted, 1 non-posted, 2 completions). -/
def ideKey (set dir sub : Nat) : Nat := set * 6 + dir * 3 + sub

/-- Every key of a key set has been programmed. -/
def IdeStream.full (e : IdeStream) (set : Nat) : Bool := (List.range 6).all (fun i => !(tget (fun _ => []) e.keys (set * 6 + i)).isEmpty)

/-- IDE_KM_QUERY: the port index and the streams' state. -/
def execIdeKmQuery (binding sess : Nat) (s : State) : Out :=
  s.dv fun d => d.ideKm binding sess fun d =>
    d.emit .mctp [binding, 3, sess, 1] ((List.range 8).map (fun i => BitVec.ofNat 8 (d.ideStream i).state))

/-- KEY_PROG: one key of a key set of a stream. -/
def execKeyProg (binding sess stream set dir sub : Nat) (key : List Byte) (s : State) : Out :=
  s.dv fun d => d.ideKm binding sess fun d =>
    if 8 ≤ stream || 2 ≤ set || 2 ≤ dir || 3 ≤ sub || key.length ≠ 32 then d.emit .mctp [binding, 3, sess, 3, 1] []
    else
      let e := d.ideStream stream
      (d.setIde stream { e with keys := tput (fun _ => []) e.keys (ideKey set dir sub) key }).emit .mctp [binding, 3, sess, 3, 0] []

/-- K_SET_GO: the stream uses a key set whose keys are all there, and is Secure. -/
def execKSetGo (binding sess stream set : Nat) (s : State) : Out :=
  s.dv fun d => d.ideKm binding sess fun d =>
    let e := d.ideStream stream
    let d1 := if stream < 8 && set < 2 && e.full set then
        let d0 := d.setIde stream { e with state := 1, setInUse := set }
        if e.state = 2 then ((List.range 129).filter e.covers).foldl (fun d f => d.msixReleaseAll f) d0 else d0
      else d
    d1.emit .mctp [binding, 3, sess, 6, set] []

/-- K_SET_STOP: the key set is no longer used and its keys are gone; a stream that used it leaves Secure. -/
def execKSetStop (binding sess stream set : Nat) (s : State) : Out :=
  s.dv fun d => d.ideKm binding sess fun d =>
    let e := d.ideStream stream
    let d1 := if stream < 8 && set < 2 then
        d.setIde stream { e with keys := tdrop (fun k => k / 6 = set) e.keys, state := if e.setInUse = set && e.state = 1 then 0 else e.state }
      else d
    d1.emit .mctp [binding, 3, sess, 6, set] []

/-! IDE of the accelerator ports (R870, R871) -/

/-- AP_IDE_SETUP (R870): the partner's chain; the device's steps have gone through. -/
def execApIdeSetup (n : Nat) (cert : List Byte) (s : State) : Out :=
  s.dv fun d =>
    if 4 ≤ n || d.get (Fld.TLH_AP_IDE_STATE n) ≠ 1 || d.on Fld.TLH_STATUS_DRBG_FAIL then d
    else
      let h := Config.sha384 cert
      let d1 := (List.range 6).foldl (fun d w => d.setReg (Reg.TLH_AP_CERT n w) (BitVec.ofNat 64 (ofLe ((h.drop (8 * w)).take 8)))) d
      let d2 := { d1.tick with tlhs := { d1.tlhs with apKeys := tput (fun _ => []) d1.tlhs.apKeys n (Config.record 3 d1.free) } }
      d2.put (Fld.TLH_AP_IDE_STATE n) 2

/-- R870, R871: an accelerator stream fails: STATE, AP_FAIL, the record and the report. -/
def Dev.apIdeFail (s : Dev) (n st step : Nat) : Dev :=
  (((s.put (Fld.TLH_AP_IDE_STATE n) st).put (Fld.TLH_AP_IDE_AP_FAIL n) 1).logAdd 3 0x0505 0xFF n step).classified 0x0615 n 0xFF step

/-- AP_IDE_SETUP_TIMEOUT (R870): a step failed, or 2 s have passed. -/
def execApIdeSetupTimeout (n step : Nat) (s : State) : Out :=
  s.dv fun d => if n < 4 && d.get (Fld.TLH_AP_IDE_STATE n) = 1 then d.apIdeFail n 3 step else d

/-- AP_IDE_INTEGRITY_FAIL (R871): work in flight on the port ends as Table 9.6 states. -/
def execApIdeIntegrityFail (n : Nat) (s : State) : Out :=
  s.dv fun d => if n < 4 && d.get (Fld.TLH_AP_IDE_STATE n) = 2 then (d.apIdeFail n 4 4).portWorkEnds n else d

/-- DRBG_HEALTH_FAIL (R853). -/
def execDrbgHealthFail (test : Nat) (s : State) : Out := s.dv fun d => (d.put Fld.TLH_STATUS_DRBG_FAIL 1).logAdd 5 0x0502 0xFF test 0

end Sys2Proof.Machine
end

