-- ==== Sys2Proof/Machine/Berths.lean ====
section
/-! DEFINITION. Berth plans (spec/06): staging, commits, withdrawal, EXPEL, CLEAR, quarantine; the Toll table's control
registers (spec/04) and IDENT_NODE. -/

namespace Sys2Proof.Machine

/-! Plans -/

/-- Plan offsets of the staged fields (R237). -/
def stagedOffs : List Nat := (List.range 127).map (fun i => 8 * (i + 1))

/-- A staged word and a committed one. -/
def Dev.stagedPlan (s : Dev) (b o : Nat) : Word := s.reg (planBase b + o)
def Dev.committed (s : Dev) (b o : Nat) : Word := s.reg (planBase b + 0x400 + o)

/-- R245: the bit of the change mask an offset belongs to. -/
def changeBit (o : Nat) : Nat :=
  if o = 0x08 then 0 else if o = 0x10 then 1 else if o = 0x18 then 2 else if o = 0x20 then 3 else if o = 0x28 then 4
  else if o < 0x60 then 5 else if o < 0x100 then 6 else 7

/-- R245: the change mask of a commit. -/
def Dev.changeMask (s : Dev) (b : Nat) : Nat :=
  stagedOffs.foldl (fun m o => if s.stagedPlan b o = s.committed b o then m else m ||| 2 ^ changeBit o) 0

/-- A field is lowered; a bit of a mask is cleared. -/
def lowered (o n : Word) (lo len : Nat) : Bool := decide (getBits n lo len < getBits o lo len)
def cleared (o n : Word) : Bool := decide ((o &&& ~~~n) ≠ 0)

/-- R944: a rate ceiling is set or lowered. -/
def rateCut (o n : Word) (lo : Nat) : Bool :=
  let a := getBits o lo 16
  let c := getBits n lo 16
  c ≠ 0 && (a = 0 || decide (c < a))

/-- R944: a valid source entry is cleared or changed; `i` is its bit of SRC_VALID, `os` its words. -/
def Dev.sourceCut (s : Dev) (b i : Nat) (os : List Nat) : Bool :=
  (s.committed b 0x1C0).getLsbD i && (!(s.stagedPlan b 0x1C0).getLsbD i || os.any (fun o => s.stagedPlan b o ≠ s.committed b o))

/-- R944: the staged plan withdraws something. -/
def Dev.withdraws (s : Dev) (b : Nat) : Bool :=
  let o := s.committed b
  let n := s.stagedPlan b
  cleared (o 8 &&& 0xFCF) (n 8) || decide (getBits (o 8) 4 2 < getBits (n 8) 4 2)
    || lowered (o 0x10) (n 0x10) 0 7 || lowered (o 0x10) (n 0x10) 8 21 || lowered (o 0x10) (n 0x10) 32 17
    || lowered (o 0x18) (n 0x18) 0 19 || lowered (o 0x18) (n 0x18) 32 9
    || rateCut (o 0x20) (n 0x20) 0 || rateCut (o 0x20) (n 0x20) 16 || rateCut (o 0x20) (n 0x20) 32
    || (List.range 4).any (fun w => cleared (o (0x40 + 8 * w)) (n (0x40 + 8 * w)))
    || (List.range 16).any (fun v =>
      let a := o (0x80 + 8 * v)
      let c := n (0x80 + 8 * v)
      cleared (a &&& 0x3000) c || (a.getLsbD 12 && c.getLsbD 12 && getBits a 0 12 ≠ getBits c 0 12))
    || (List.range 8).any (fun i => s.sourceCut b i [0x100 + 8 * i])
    || (List.range 8).any (fun i => s.sourceCut b (8 + i) [0x140 + 16 * i, 0x148 + 16 * i])

/-- The Pans a word list of a plan names. -/
def pansOf (w : Nat → Word) : List Nat := (List.range 256).filter (fun p => (w (p / 64)).getLsbD (p % 64))
def Dev.stagedPans (s : Dev) (b : Nat) : List Nat := pansOf (fun w => s.stagedPlan b (0x40 + 8 * w))
def Dev.committedPans (s : Dev) (b : Nat) : List Nat := pansOf (fun w => s.committed b (0x40 + 8 * w))

/-- R225: another berth holds a Pan: a tenant, or berth 0 with a program loaded. -/
def Dev.heldElsewhere (s : Dev) (b p : Nat) : Bool :=
  s.holder p ≠ b && (s.holder p ≠ 0 || s.panState p ≠ 0)

/-- R238: a staged register holds a reserved encoding. -/
def Dev.stagedBad (s : Dev) (b o : Nat) : Bool :=
  match findSpec (planBase b + o) with
  | none => false
  | some sp => sp.fields.any (fun f => f.acc = .rw && !f.ok (getBits (s.stagedPlan b o) f.lo f.len))

/-- The VALID volume slots of the staged plan. -/
def Dev.stagedVols (s : Dev) (b : Nat) : List Nat :=
  ((List.range 16).filter (fun v => s.on (Fld.BPLAN_VOL_VALID b v))).map (fun v => s.get (Fld.BPLAN_VOL_VOL_ID b v))

/-- Some element stands twice. -/
def hasTwice : List Nat → Bool
  | [] => false
  | a :: t => t.contains a || hasTwice t

/-- Table 6.4: the cause that refuses a COMMIT; 0 none. -/
def Dev.commitCause (s : Dev) (b : Nat) : Nat :=
  let st := s.get (Fld.BPLAN_CTRL_STATE b)
  if !s.funcOn b then 1
  else if st = 2 then 2
  else if (s.stagedPans b).any (s.heldElsewhere b) then 3
  else if stagedOffs.any (s.stagedBad b) then 4
  else if (List.range 64).any (fun r => s.on (Fld.RING_DESC_CTRL_ENABLE b r) && decide (s.get (Fld.BPLAN_QUOTA_RINGS b) ≤ r)) then 5
  else if hasTwice (s.stagedVols b) || (s.stagedVols b).any (fun v => s.volState v = 0) then 6
  else if st = 3 then 7
  else if s.get (Fld.BPLAN_RIGHTS_CLASS_MIN b) = 0 && getBits (s.stagedPlan b 8) 6 4 = 0 then 9
  else 0

/-- R241: a refused operation. -/
def Dev.commitRefused (s : Dev) (b cause : Nat) : Dev := (s.put (Fld.BPLAN_CTRL_CMT_REFUSED b) 1).put (Fld.BPLAN_CTRL_REFUSE_CAUSE b) cause

/-- BERTH_CHANGE (R245). -/
def Dev.berthChange (s : Dev) (b mask : Nat) : Dev := s.signal b 0x0020 0 (s.get (Fld.BPLAN_CTRL_EPOCH b)) mask

/-- A Pan of a berth waits for its release. -/
def Dev.noteWithdrawn (s : Dev) (b p due : Nat) : Dev :=
  let h := tget (fun _ => BerthH.init) s.berthH b
  { s with berthH := tput (fun _ => BerthH.init) s.berthH b { h with withdrawn := h.withdrawn.filter (fun w => w.1 ≠ p) ++ [(p, due)] } }

/-- R234, R568: a Pan is withdrawn: its program is asked to yield; an idle Pan is scrubbed at once. -/
def Dev.withdrawPan (s : Dev) (b : Nat) (p : Nat) : Dev :=
  let grace := s.get (Fld.CPLAN_SHARE_GRACE_MS b)
  let due := s.tide + grace * 1000000
  let s1 := s.noteWithdrawn b p due
  let st := s1.panState p
  if st = 0 then (s1.signal b 0x0021 0 p due).put (Fld.PAN_STATE_STATE p) 4
  else if st = 4 then s1.signal b 0x0021 0 p due
  else if s1.on (Fld.PAN_STATE_STOP_PEND p) then
    let at_ := min (s1.pan p).stopAt due
    (s1.setPan p { s1.pan p with stopAt := at_ }).signal b 0x0021 0 p at_
  else s1.stopPan p grace false

/-- Step 4 of the route: the accepting instant (R229 to R234, R242, R944). -/
def Dev.commitPlan (s : Dev) (b : Nat) : Dev :=
  let mask := s.changeMask b
  let cut := s.withdraws b
  let old := s.committedPans b
  let new := s.stagedPans b
  let e := (s.get (Fld.BPLAN_CTRL_EPOCH b) + 1) % 65536
  let s1 := stagedOffs.foldl (fun d o => d.setReg (planBase b + 0x400 + o) (d.stagedPlan b o)) s
  let s2 := (s1.put (Fld.BPLAN_CTRL_EPOCH b) e).put (Fld.BPLAN_CTRL_STATE b) (if cut then 2 else 1)
  let s3 := (new.filter (fun p => !old.contains p)).foldl (fun d p => d.put (Fld.PAN_STATE_HOLDER p) b) s2
  let s4 := s3.berthChange b mask
  let s5 := (old.filter (fun p => !new.contains p)).foldl (fun d p => d.withdrawPan b p) s4
  (s5.xctSources b).countOld b

/-- COMMIT (R241). -/
def Dev.commit (s : Dev) (b : Nat) : Dev := if s.commitCause b = 0 then s.commitPlan b else s.commitRefused b (s.commitCause b)

/-- EXPEL (R233). -/
def Dev.expel (s : Dev) (b : Nat) : Dev :=
  if s.get (Fld.BPLAN_CTRL_STATE b) ≠ 2 then s
  else
    let e := s.get (Fld.BPLAN_CTRL_EPOCH b)
    (s.tickets.filter (fun t => t.key.b = b && t.epoch ≠ e)).foldl (fun d t => d.fail t 2 0) s

/-- R570: a Pan's program is stopped by force; an idle Pan is scrubbed all the same. -/
def Dev.panKill (s : Dev) (p : Nat) : Dev :=
  if s.panState p = 0 then s.put (Fld.PAN_STATE_STATE p) 4 else s.stopPan p 0 true

/-- The Pans a berth holds. -/
def Dev.pansHeld (s : Dev) (b : Nat) : List Nat := (List.range 256).filter (fun p => s.holder p = b)

/-- R246: the berth is torn down with no grace, its keys in the Tollhouse apart; `reset`: its rings reset as R222 states;
`reason`: of CLOSING (Table 11.7). -/
def Dev.berthTear (s : Dev) (b : Nat) (reset : Bool) (reason : Nat) : Dev :=
  let s1 := if reset then (s.berthRingsReset b).stoBerths (fun x => x = b)
    else
      let d := (List.range 64).foldl (fun d r => if d.on (Fld.RING_DESC_CTRL_ENABLE b r) then d.ringStop b r else d) s
      d.resetRegs (fun k => decide (ringDesc b 0 ≤ k ∧ k < ringDesc b 0 + 4096))
  let s2 := (s1.revokeAll b).xctEnd (fun o => o = b) reason
  let s3 := (s2.pansHeld b).foldl (fun d p => (d.noteWithdrawn b p d.tide).panKill p) s2
  let e := (s3.get (Fld.BPLAN_CTRL_EPOCH b) + 1) % 65536
  let s4 := s3.resetRegs (fun k => decide (planBase b ≤ k ∧ k < planBase b + 0x800))
  (s4.put (Fld.BPLAN_CTRL_EPOCH b) e).put (Fld.BPLAN_CTRL_STATE b) 3

/-- CLEAR (R246): the berth's keys go too, and its crossings' slots after the CLOSING copies (R433). -/
def Dev.berthClear (s : Dev) (b : Nat) : Dev :=
  ((s.berthTear b false 3).keysZeroize (fun k => k.owner = b) 1 b).xctZeroOwner b

/-- A write to BPLAN_CTRL (R241). -/
def Dev.planCtrlWrite (s : Dev) (b : Nat) (v : Word) (size off : Nat) : Dev :=
  let w := s.writeReg (Reg.BPLAN_CTRL b) v size off
  let lift := s.on (Fld.BPLAN_CTRL_QUARANTINED b) && !w.on (Fld.BPLAN_CTRL_QUARANTINED b)
  let w1 := if lift then w.berthChange b 0x100 else w
  let c := woBits v size off 2 1
  let l := woBits v size off 3 1
  let x := woBits v size off 4 1
  if 1 < c + l + x then w1.commitRefused b 8
  else if c = 1 then w1.commit b
  else if l = 1 then (if w1.get (Fld.BPLAN_CTRL_STATE b) = 3 then w1.commitRefused b 7 else w1.berthClear b)
  else if x = 1 then w1.expel b else w1

/-- A tenant berth. -/
def isTenant (b : Nat) : Bool := decide (1 ≤ b ∧ b ≤ 128)

/-- BPLAN_COMMIT (R241): BPLAN_CTRL is written with COMMIT. -/
def execBplanCommit (b : Nat) (v : Word) (s : State) : Out := s.dv fun d => if isTenant b then d.planCtrlWrite b (setBits v 2 1 1) 8 0 else d
/-- BPLAN_CLEAR (R246). -/
def execBplanClear (b : Nat) (v : Word) (s : State) : Out := s.dv fun d => if isTenant b then d.planCtrlWrite b (setBits v 3 1 1) 8 0 else d
/-- BPLAN_EXPEL (R233). -/
def execBplanExpel (b : Nat) (v : Word) (s : State) : Out := s.dv fun d => if isTenant b then d.planCtrlWrite b (setBits v 4 1 1) 8 0 else d
/-- QUARANTINE_LIFT (R256). -/
def execQuarantineLift (b : Nat) (s : State) : Out := s.dv fun d => if isTenant b then d.planCtrlWrite b 0x40 8 0 else d

/-- BERTH_CLEAR_DONE (R246): every Pan is released and every crossing freed; STATE becomes EMPTY. -/
def execBerthClearDone (b : Nat) (s : State) : Out :=
  s.dv fun d =>
    if isTenant b && d.get (Fld.BPLAN_CTRL_STATE b) = 3 && (tget (fun _ => BerthH.init) d.berthH b).withdrawn.isEmpty
      && (d.xingsOf (fun o => o = b)).isEmpty then d.put (Fld.BPLAN_CTRL_STATE b) 0 else d

/-- BERTH0_SRC_WRITE (R940): a write to the berth-0 source table at an offset. -/
def Dev.src0Write (s : Dev) (o : Nat) (v : Word) (size off : Nat) : Dev := (s.writeReg (0x20000 + o) v size off).xctSources 0
def execBerth0SrcWrite (o : Nat) (v : Word) (s : State) : Out := s.dv fun d => if o < 0xC8 then d.src0Write (o / 8 * 8) v 8 0 else d

/-- RATE_RELEASE (R240): a piece of n bytes of a berth is released at its release time: 0 NET_TX, 1 STO, 2 ACCEL. -/
def execRateRelease (b which n : Nat) (s : State) : Out :=
  s.dv fun d => if isTenant b && which < 3 then d.rateGate b which n (getBits (d.reg (Reg.CPLAN_RATE b)) (16 * which) 16) else d

/-! The Toll table's registers (R158 to R164, R168) -/

/-- A write to TOLL_REGION (R168). -/
def Dev.tollRegionWrite (s : Dev) (v : Word) (size off : Nat) : Dev :=
  let w := s.writeReg Reg.TOLL_REGION v size off
  if s.on Fld.TOLL_CTRL_ENABLE || decide (2 ^ 38 < w.tollBase + w.tollSize) then s.put Fld.TOLL_CTRL_CTRL_REFUSED 1 else w

/-- A write to TOLL_CTRL (R168, R275). -/
def Dev.tollCtrlWrite (s : Dev) (v : Word) (size off : Nat) : Dev :=
  let w := s.writeReg Reg.TOLL_CTRL v size off
  if (w.on Fld.TOLL_CTRL_ENABLE && w.get Fld.TOLL_REGION_SIZE = 0)
      || (s.on Fld.TOLL_CTRL_ENABLE && !w.on Fld.TOLL_CTRL_ENABLE && s.on Fld.TOLL_MOOR_ENABLE) then
    (w.put Fld.TOLL_CTRL_ENABLE (s.get Fld.TOLL_CTRL_ENABLE)).put Fld.TOLL_CTRL_CTRL_REFUSED 1
  else w

/-- A write to TOLL_INV (R158, R162). -/
def Dev.tollInvWrite (s : Dev) (v : Word) (size off : Nat) : Dev :=
  let scope := woBits v size off 0 2
  let ctx := woBits v size off 2 8
  if woBits v size off 63 1 = 0 then s
  else if scope = 3 || 132 < ctx || s.get Fld.TOLL_INV_FLAGS_PENDING = 16 then s.put Fld.TOLL_INV_FLAGS_INV_REFUSED 1
  else
    let n := (s.get Fld.TOLL_INV_STATUS_ISSUED + 1) % 2 ^ 32
    let i : Inval := ⟨scope, ctx, s.get Fld.TOLL_INV_RANGE_BASE * 4096, s.get Fld.TOLL_INV_RANGE_LOG2, n⟩
    (({ s with toll := { s.toll with queue := s.toll.queue ++ [i] } }.put Fld.TOLL_INV_STATUS_ISSUED n).put
      Fld.TOLL_INV_FLAGS_PENDING (s.get Fld.TOLL_INV_FLAGS_PENDING + 1))

/-- Whether an invalidation covers a cached entry. -/
def Inval.covers (i : Inval) (c : CacheEnt) : Bool :=
  match i.scope with
  | 0 => true
  | 1 => c.ctx = i.ctx
  | _ => c.ctx = i.ctx && decide (c.va < i.base + 2 ^ i.log2) && decide (i.base < c.va + 2 ^ c.log2)

/-- The context an outstanding request was translated in. -/
def Dev.outstCtx (s : Dev) (o : Outst) : Option Nat :=
  match o.purpose with
  | .fetch b _ => some b
  | .gather tk _ => some tk.b
  | .copy tk _ _ => some tk.b
  | .prove tk => some tk.b
  | .cfg _ => none
  | .bar2 f _ => some f
  | .peer n _ => some (129 + n)
  | .xctGet x _ _ => some (s.xowner x)
  | .xctAtomic x _ => some (s.xowner x)
  | .xctProve x _ => some (s.xowner x)
  | .xctRead x _ => some (s.xowner x)
  | .peerAtomic n _ => some (129 + n)
  | .stage _ => some 0

/-- R160: the head invalidation is done: covered entries are discarded, and no access in its contexts is outstanding. -/
def Dev.invalDone (s : Dev) : Dev :=
  match s.toll.queue with
  | [] => s
  | i :: q =>
    let busy := s.outst.any (fun o => match s.outstCtx o with
      | some c => i.scope = 0 || c = i.ctx
      | none => false)
    let s1 := { s with toll := { s.toll with cache := s.toll.cache.filter (fun c => !i.covers c) } }
    if busy then s1
    else
      (({ s1 with toll := { s1.toll with queue := q } }.put Fld.TOLL_INV_STATUS_DONE i.issued).put
        Fld.TOLL_INV_FLAGS_PENDING (s1.get Fld.TOLL_INV_FLAGS_PENDING - 1))

/-- TOLL_WALK (R150): one piece of an access in a context; kind 0 read, 1 write, 2 atomic; the source and its unit, as a fault
records them. -/
def execTollWalk (ctx va kind len source unit : Nat) (s : State) : Out :=
  s.dv fun d =>
    if 132 < ctx || 2 < kind then d
    else match d.xlate ctx (va % 2 ^ 48) kind len { accel := if 1 ≤ ctx ∧ ctx ≤ 128 then d.accelOf ctx else 15, hostBar := source = 1 } with
      | (.ok _ _, d1) => d1
      | (.fault k lvl, d1) => d1.tollFault ctx (va % 2 ^ 48) k kind lvl source unit

/-- TOLL_INV_GO (R158). -/
def execTollInvGo (v : Word) (s : State) : Out := s.dv (·.tollInvWrite (setBits v 63 1 1) 8 0)
/-- INVALIDATION_DONE (R160). -/
def execInvalidationDone (s : State) : Out := s.dv Dev.invalDone
/-- TOLL_REGION_WRITE (R168): of TOLL_REGION, or of TOLL_CTRL. -/
def execTollRegionWrite (ctrl : Bool) (v : Word) (s : State) : Out :=
  s.dv fun d => if ctrl then d.tollCtrlWrite v 8 0 else d.tollRegionWrite v 8 0
/-- TOLL_FAULT_PTR_READ (R164): the posting of TOLL_FAULT is armed again. -/
def execTollFaultPtrRead (s : State) : Out := s.dv fun d => { d with toll := { d.toll with signalled := false } }

/-! IDENT_NODE (R31, R245) -/

/-- A write to IDENT_NODE; an accepted change reaches every berth sheet at once. -/
def Dev.nodeWrite (s : Dev) (v : Word) (size off : Nat) : Dev :=
  let w := s.writeReg Reg.IDENT_NODE v size off
  if s.on Fld.IDENT_NODE_NODE_LOCKED then
    ((w.put Fld.IDENT_NODE_NODE_ID (s.get Fld.IDENT_NODE_NODE_ID)).put Fld.IDENT_NODE_NODE_VALID (s.get Fld.IDENT_NODE_NODE_VALID)).put
      Fld.IDENT_NODE_NODE_REFUSED 1
  else if w.get Fld.IDENT_NODE_NODE_ID = s.get Fld.IDENT_NODE_NODE_ID && w.get Fld.IDENT_NODE_NODE_VALID = s.get Fld.IDENT_NODE_NODE_VALID then w
  else berths.foldl (fun d b => d.berthChange b 0x200) w

/-- IDENT_NODE_WRITE (R31). -/
def execIdentNodeWrite (v : Word) (s : State) : Out := s.dv (·.nodeWrite v 8 0)

end Sys2Proof.Machine
end

