-- ==== Sys2Proof/Machine/Resets.lean ====
section
/-! DEFINITION. Hot reset, PF FLR, VF FLR, the slack-water reset and the loss of VFs (R170, R222, R285, R319 to R329, R803, R804,
R807, R808, Table 6.10, Table 25.4).  The teardown happens at the reset's own command; the silence and completion points open the
reset functions to requests again. -/

namespace Sys2Proof.Machine

/-! Functions in FLR (R321, R322, R329) -/

/-- A function, or the PF over it, is between its FLR and its completion point. -/
def Dev.inFlr (s : Dev) (f : Nat) : Bool := s.host.flr.any (fun e => e.1 = f || e.1 = 0)

/-- LND_HOST_FLR shows each VF in FLR. -/
def Dev.showFlr (s : Dev) (f v : Nat) : Dev := if f = 0 then s else s.put ⟨Reg.LND_HOST_FLR ((f - 1) / 64), (f - 1) % 64, 1⟩ v

/-- A function's FLR begins; one of the PF absorbs the others. -/
def Dev.flrBegin (s : Dev) (f : Nat) : Dev :=
  if f = 0 then
    let s1 := s.host.flr.foldl (fun s e => s.showFlr e.1 0) s
    { s1 with host := { s1.host with flr := [(0, false)] } }
  else { s.showFlr f 1 with host := { s.host with flr := s.host.flr ++ [(f, false)] } }

/-! Configuration space (Table 8.11) -/

/-- DWs whose bits are sticky: AER status, masks, severities and logs. -/
def pfSticky (o : Nat) : Bool := decide (0x104 ≤ o ∧ o ≤ 0x128)

/-- The PF's configuration space is cleared, its sticky bits and PME_En and PME_Status kept. -/
def Dev.pfCfgClear (s : Dev) : Dev :=
  let pm := s.cfgBits 0 0x44 8 1
  let st := s.cfgBits 0 0x44 15 1
  let s1 := { s with host := { s.host with cfg := tdrop (fun k => decide (k < 4096) && !pfSticky k) s.host.cfg } }
  (s1.putCfg 0 0x44 8 1 pm).putCfg 0 0x44 15 1 st

/-- A VF's configuration space and MSI-X table return to their Reset values (R323). -/
def Dev.vfClear (s : Dev) (f : Nat) : Dev :=
  let s1 := { s with host := { s.host with cfg := tdrop (fun k => k / 4096 = f) s.host.cfg } }
  s1.resetRegs (fun k => decide (regKey f 0x30000 ≤ k ∧ k < regKey f 0x40000))

/-- The PF's MSI-X table and PBA. -/
def Dev.pfMsixClear (s : Dev) : Dev := s.resetRegs (fun k => decide (0x3880000 ≤ k ∧ k < 0x3890100))

/-! What every reset of the whole function set does -/

/-- R170: no context is valid, no window is open, nothing is cached, no invalidation is pending. -/
def Dev.tollReset (s : Dev) : Dev :=
  let s1 := (List.range 133).foldl (fun s c => s.put (Fld.TOLL_ROOT_VALID c) 0) s
  let s2 := (List.range 4).foldl (fun s n => s.put (Fld.LND_AWIN_ENABLE n) 0) s1
  ({ s2 with toll := { s2.toll with cache := [], queue := [] } }.put Fld.TOLL_INV_STATUS_DONE (s2.get Fld.TOLL_INV_STATUS_ISSUED)).put
    Fld.TOLL_INV_FLAGS_PENDING 0

/-- R804: programs of berth 0 are stopped by force. -/
def Dev.berth0Pans (s : Dev) : Dev :=
  ((List.range 256).filter (fun p => s.holder p = 0 && s.panState p ≠ 0)).foldl (fun s p => s.stopPan p 0 true) s

/-- What waits for the host link goes with the reset. -/
def Dev.hostDrop (s : Dev) : Dev := { s with host := { s.host with unacked := [], held := [], dropTimer := 0 } }

/-- Hot reset, PF FLR and slack-water: every berth is cleared, berth 0's rings, moorings and crossings with them; keys go as Table
25.4 states; `event`: 3 hot reset or PF FLR, 4 slack-water. -/
def Dev.allReset (s : Dev) (event : Nat) : Dev :=
  let s1 := berths.foldl (fun s b => s.berthTear b true 4) s
  let s2 := (((s1.berthRingsReset 0).stoBerths (fun b => b = 0)).revokeAll 0).xctEnd (fun b => b = 0) 4
  let s3 := s2.berth0Pans.tollReset
  let s4 := s3.keysZeroize (fun k => k.owner ≠ 0 || k.kind = 0) event 0xFF
  let s5 := (0 :: berths).foldl (fun s b => s.xctZeroOwner b) s4
  let s6 := s5.endSessions (fun x => x = 0)
  { s6 with host := { s6.host with ide := [] } }.hostDrop

/-- The crossings that CLOSING is sent on. -/
def Dev.closable (s : Dev) : Nat := ((s.xingsOf (fun _ => true)).filter (fun x => s.xst x = 2 || s.xst x = 3)).length

/-- R325, Table 8.11: the functions go back to Reset: no VF is left. -/
def Dev.functionsClear (s : Dev) : Dev := (berths.foldl Dev.vfClear s).pfCfgClear.pfMsixClear

/-- PF FLR (R321, R803). -/
def Dev.pfFlr (s : Dev) : Dev :=
  let s1 := (((s.flrBegin 0).put Fld.LND_HOST_EVENTS_PF_FLR 1).put Fld.IDENT_BOOT_LAST_RESET 3).allReset 3
  s1.functionsClear

/-- The link is down: its status, its count; an L1 ends. -/
def Dev.hostLinkLost (s : Dev) (link : Nat) : Dev :=
  let s1 := if s.on Fld.LND_HOST_LINK_LINK_UP then s.sat Fld.LND_HOST_LINK_DOWN_COUNT else s
  let s2 := ((((s1.put Fld.LND_HOST_LINK_LINK_UP 0).put Fld.LND_HOST_LINK_SPEED 0).put Fld.LND_HOST_LINK_WIDTH 0).put
    Fld.LND_HOST_LINK_FLIT 0).put Fld.LND_HOST_LINK_IN_L1 0
  { s2 with host := { s2.host with link := link } }

/-- Hot reset (R319, R321, R803): the link retrains. -/
def Dev.hotReset (s : Dev) : Dev :=
  let s1 := (((s.flrBegin 0).put Fld.LND_HOST_EVENTS_HOT_RESET 1).put Fld.IDENT_BOOT_LAST_RESET 2).allReset 3
  s1.functionsClear.hostLinkLost 4

/-- The slack-water reset from its recognition (R807); it absorbs every FLR (R816). -/
def Dev.slackWater (s : Dev) : Dev :=
  let n := s.closable
  let s1 := s.host.flr.foldl (fun s e => s.showFlr e.1 0) s
  let s2 := { s1 with
    host := { s1.host with flr := [], link := 4 }
    slip := { s1.slip with slack := true, slackWaits := false, slackCrossings := n } }
  let s3 := ((s2.put Fld.LND_HOST_EVENTS_SLACK_WATER 1).put Fld.LND_HOST_LINK_DEVICE_READY 0).put Fld.IDENT_BOOT_LAST_RESET 4
  (s3.sat Fld.IDENT_BOOT_SLACK_WATERS).allReset 4

/-- Berths in CLEARING whose teardown has finished become EMPTY; none where one has not. -/
def Dev.teardownDone (s : Dev) : Option Dev :=
  let l := berths.filter (fun b => s.get (Fld.BPLAN_CTRL_STATE b) = 3)
  if l.all (fun b => (tget (fun _ => BerthH.init) s.berthH b).withdrawn.isEmpty) && (s.xingsOf (fun b => b = 0 || l.contains b)).isEmpty then
    some (l.foldl (fun s b => s.put (Fld.BPLAN_CTRL_STATE b) 0) s)
  else none

/-- Crossings that are over and wait for their last copies of CLOSING do not hold a reset's completion point: the copies leave now. -/
def Dev.copiesLeave (s : Dev) (p : Nat → Bool) : Dev :=
  (s.xingsOf p).foldl (fun s x => if (s.xg x).copies = 0 then s else ((s.nextCopy x).nextCopy x)) s

/-- Scrubs of Pans a reset has stopped are over at its completion point (R235: 50 µs). -/
def Dev.scrubsEnd (s : Dev) (p : Nat → Bool) : Dev :=
  ((List.range 256).filter (fun i => s.panState i = 4 && p (s.holder i))).foldl (fun s i => s.scrubDone i) s

/-- SLACK_WATER_COMPLETE (R807, R808). -/
def Dev.slackDone (s : Dev) : Dev :=
  if !s.slip.slack then s
  else
    let s0 := (s.copiesLeave (fun _ => true)).scrubsEnd (fun _ => true)
    match s0.teardownDone with
    | none => s0
    | some s1 =>
      let s2 := { s1 with slip := { s1.slip with slack := false, slackWaits := true } }.logAdd 4 0x0205 0xFF 2 s1.slip.slackCrossings
      if s2.linkUp then { s2.put Fld.LND_HOST_LINK_DEVICE_READY 1 with slip := { s2.slip with slackWaits := false } } else s2

/-- VF FLR of VF b (R323); a second one is ignored (R329). -/
def Dev.vfFlr (s : Dev) (b : Nat) : Dev :=
  if !s.funcOn b || s.inFlr b then s
  else
    let s1 := ((((s.flrBegin b).berthRingsReset b).stoBerths (fun x => x = b)).revokeAll b).xctEnd (fun o => o = b) 3
    let s2 := (s1.pansHeld b).foldl (fun d p => d.panKill p) s1
    let s3 := (s2.keysZeroize (fun k => k.owner = b) 2 b).xctZeroOwner b
    let s4 := s3.put (Fld.TOLL_ROOT_VALID b) 0
    let s5 := { s4 with
      toll := { s4.toll with cache := s4.toll.cache.filter (fun c => c.ctx ≠ b) }
      host := { s4.host with ide := s4.host.ide.map (fun (e : Nat × IdeStream) => if e.2.covers b then (e.1, { e.2 with excl := b :: e.2.excl }) else e) } }
    (s5.vfClear b).countOld b

/-- R324: the reset functions have reached their silence point. -/
def Dev.flrSilence (s : Dev) (f : Nat) : Dev :=
  { s with host := { s.host with flr := s.host.flr.map (fun e => if e.1 = f then (f, true) else e) } }

/-- R321: the completion point. -/
def Dev.flrDone (s : Dev) (f : Nat) : Dev :=
  if !s.host.flr.contains (f, true) then s
  else
    let ends := fun (d : Dev) => { d.showFlr f 0 with host := { d.host with flr := d.host.flr.filter (fun e => e.1 ≠ f) } }
    if f = 0 then
      let s0 := (s.copiesLeave (fun _ => true)).scrubsEnd (fun _ => true)
      match s0.teardownDone with
      | some s1 => ends s1
      | none => s0
    else ends ((s.copiesLeave (fun b => b = f)).scrubsEnd (fun b => b = f))

/-- Clearing VF Enable, or lowering NumVFs below b, clears berth b (Table 6.10) and returns the VF to its Reset values. -/
def Dev.vfGone (s : Dev) (b : Nat) : Dev := ((s.berthTear b false 3).keysZeroize (fun k => k.owner = b) 1 b |>.xctZeroOwner b).vfClear b

/-- VF Enable and NumVFs change: berths of the VFs that disappear are cleared. -/
def Dev.setVfs (s : Dev) (enable : Bool) (n : Nat) : Dev :=
  let s1 := (s.putCfg 0 0x170 0 1 (if enable then 1 else 0)).putCfg 0 0x178 0 16 (min n 128)
  (berths.filter (fun b => s.funcOn b && !s1.funcOn b)).foldl (fun s b => s.vfGone b) s1

/-! The commands -/

/-- HOT_RESET (R319). -/
def execHotReset (s : State) : Out :=
  s.dv fun d => if d.host.perstHigh && (d.host.link = 1 || d.host.link = 2 || d.host.link = 3) then d.hotReset else d
/-- PF_FLR (R321). -/
def execPfFlr (s : State) : Out := s.dv fun d => if d.inFlr 0 || d.slip.slack then d else d.pfFlr
/-- VF_FLR (R323). -/
def execVfFlr (b : Nat) (s : State) : Out := s.dv fun d => if isTenant b then d.vfFlr b else d
/-- FLR_SILENCE_POINT (R321). -/
def execFlrSilencePoint (f : Nat) (s : State) : Out := s.dv (·.flrSilence f)
/-- FLR_COMPLETION_POINT (R321). -/
def execFlrCompletionPoint (f : Nat) (s : State) : Out := s.dv (·.flrDone f)
/-- SLACK_WATER_RESET (R807): the link has been down for 2 ms. -/
def execSlackWaterReset (s : State) : Out :=
  s.dv fun d => if d.host.dropTimer ≠ 0 && d.host.perstHigh then (d.at (d.host.dropTimer - 1 + 2000000)).slackWater else d
/-- SLACK_WATER_COMPLETE (R807, R808). -/
def execSlackWaterComplete (s : State) : Out := s.dv Dev.slackDone
/-- VF_ENABLE_CLEAR (R253): VF Enable is cleared, or NumVFs lowered to n. -/
def execVfEnableClear (enable : Bool) (n : Nat) (s : State) : Out := s.dv (·.setVfs enable n)

end Sys2Proof.Machine
end

