-- ==== Sys2Proof/Machine/Gauge.lean ====
section
/-! DEFINITION. The Gauge's converter (spec/21) and the CAN FD controller (spec/20, R730 to R734). -/

namespace Sys2Proof.Machine

def Dev.setGauge (s : Dev) (g : GaugeS) : Dev := { s with gauge := g }

/-! The FIFO (R745 to R747) -/

/-- Table 21.2. -/
def gaugeWord (settling clip : Bool) (ch gain osr value : Nat) : Nat :=
  pack [(31, 1, if settling then 1 else 0), (30, 1, if clip then 1 else 0), (24, 6, ch), (21, 3, gain), (16, 5, osr), (0, 16, value)]

/-- LEVEL follows the FIFO. -/
def Dev.gaugeLevel (s : Dev) : Dev := s.put Fld.GAU_FIFO_LEVEL s.gauge.fifo.length

/-- A word that finds the FIFO full is discarded and counted; a marker is owed. -/
def Dev.gaugeLose (s : Dev) : Dev := (s.sat Fld.GAU_FIFO_LOST).setGauge { s.gauge with owed := true }

/-- The marker of a channel, with the words lost since the last one. -/
def Dev.gaugeMark (s : Dev) (ch : Nat) : Dev :=
  if 1024 ≤ s.gauge.fifo.length then s.gaugeLose
  else
    let w := gaugeWord true true ch (s.get (Fld.GAU_CFG_GAIN ch)) (s.get (Fld.GAU_CFG_OSR ch)) (s.get Fld.GAU_FIFO_LOST)
    ((s.setGauge { s.gauge with fifo := s.gauge.fifo ++ [w], owed := false }).put Fld.GAU_FIFO_LOST 0).gaugeLevel

/-- A sample word enters the FIFO, after the marker that a gap owes. -/
def Dev.gaugePush (s : Dev) (ch w : Nat) : Dev :=
  let s1 := if s.gauge.owed && decide (s.gauge.fifo.length < 1024) then s.gaugeMark ch else s
  if 1024 ≤ s1.gauge.fifo.length then s1.gaugeLose
  else (s1.setGauge { s1.gauge with fifo := s1.gauge.fifo ++ [w] }).gaugeLevel

/-! Visits (R740 to R742) -/

/-- R752: channels that are always enabled. -/
def alwaysOn (ch : Nat) : Bool := decide (ch < 16) || ch = 30 || ch = 31

/-- R742: settings and thresholds that wait take effect at the visit; whether GAIN or OSR changed. -/
def Dev.gaugeApply (s : Dev) (ch : Nat) : Dev × Bool :=
  let old := s.reg (Reg.GAU_CFG ch)
  let s1 := match tget (fun _ => none) s.gauge.want ch with
    | none => s
    | some w => (s.setReg (Reg.GAU_CFG ch) (setBits old 0 24 w.toNat)).setGauge { s.gauge with want := tdel ch s.gauge.want }
  let s2 := match tget (fun _ => none) s1.gauge.wantT ch with
    | none => s1
    | some (c, t) =>
      ((s1.setReg (Reg.GAU_CFG ch) (setBits (s1.reg (Reg.GAU_CFG ch)) 24 8 c.toNat)).setReg (Reg.GAU_THRESH ch) t).setGauge
        { s1.gauge with wantT := tdel ch s1.gauge.wantT, outside := tdel ch s1.gauge.outside }
  (s2, getBits old 1 8 ≠ getBits (s2.reg (Reg.GAU_CFG ch)) 1 8)

/-- The next enabled channel in ascending order, among those still to be looked at. -/
def Dev.gaugeNext (s : Dev) : List Nat → Option (Dev × Nat × Bool)
  | [] => none
  | ch :: t =>
    match s.gaugeApply ch with
    | (s1, changed) => if s1.on (Fld.GAU_CFG_EN ch) then some (s1, ch, changed) else s1.gaugeNext t

/-- A visit begins: select, reset, mark. -/
def Dev.gaugeVisit (s : Dev) : Dev :=
  let cur := s.gauge.cur
  match s.gaugeNext ((List.range 32).map (fun i => (cur + i) % 32)) with
  | none => s
  | some (s1, ch, changed) =>
    let s2 := if cur ≠ 0 && decide (ch + 1 ≤ cur) then s1.wrap Fld.GAU_STATUS_SCANS else s1
    let same := ch + 1 = cur && !changed
    let s3 := s2.setGauge { s2.gauge with cur := ch + 1, pos := if same then 4 else 0 }
    if same then s3 else s3.gaugeMark ch

/-- The visit in progress is over. -/
def Dev.gaugeOver (s : Dev) : Bool :=
  s.gauge.cur = 0 || decide (4 + s.get (Fld.GAU_CFG_DWELL (s.gauge.cur - 1)) ≤ s.gauge.pos)

/-! Accounting (R748 to R752) -/

/-- MEAN. -/
def meanOf (sum : Int) (n : Nat) : Int := if n = 0 then 0 else if 0 ≤ sum then sum / n else -((-sum) / n)

/-- Channel 30 or 31 is out of tolerance. -/
def Dev.refBad (s : Dev) (ch : Nat) : Bool :=
  match s.gaugeN ch with
  | none => false
  | some n => if ch = 30 then decide ((Config.refCheck : Int).natAbs * 5 < (n - Config.refCheck).natAbs * 1000) else decide (524 < n.natAbs)

/-- R752. -/
def Dev.refCheck (s : Dev) (ch : Nat) : Dev :=
  let bad := s.refBad 30 || s.refBad 31
  if bad && !s.on Fld.GAU_STATUS_REF_FAULT then
    (s.put Fld.GAU_STATUS_REF_FAULT 1).logAdd 4 0x0382 0xFF ch (s.get (Fld.GAU_LAST_WORD ch))
  else if bad then s else s.put Fld.GAU_STATUS_REF_FAULT 0

/-- R750: thresholds. -/
def Dev.gaugeThresholds (s : Dev) (ch : Nat) (n : Int) : Dev :=
  let hi := s.on (Fld.GAU_CFG_HI_EN ch) && decide (signed 32 (s.get (Fld.GAU_THRESH_HI ch)) < n)
  let lo := s.on (Fld.GAU_CFG_LO_EN ch) && decide (n < signed 32 (s.get (Fld.GAU_THRESH_LO ch)))
  let k := if hi || lo then tget (fun _ => 0) s.gauge.outside ch + 1 else 0
  let s1 := s.setGauge { s.gauge with outside := tput (fun _ => 0) s.gauge.outside ch k }
  let alert : Fld := ⟨Reg.GAU_STATUS, ch, 1⟩
  if k ≠ 0 && decide (s.get (Fld.GAU_CFG_PERSIST ch) ≤ k) && !s1.on alert then
    (s1.put alert 1).logAdd 3 0x0380 0xFF (ch + if hi then 256 else 0) (toField 64 n)
  else s1

/-- R749: a valid word updates its channel. -/
def Dev.gaugeAccount (s : Dev) (ch w : Nat) (clip : Bool) : Dev :=
  let n := normOf w
  let s1 := (s.put (Fld.GAU_LAST_WORD ch) w).put (Fld.GAU_LAST_TIDE_TIDE ch) s.tide
  let s2 := if n < signed 32 (s1.get (Fld.GAU_MINMAX_MIN ch)) then s1.put (Fld.GAU_MINMAX_MIN ch) (toField 32 n) else s1
  let s3 := if signed 32 (s2.get (Fld.GAU_MINMAX_MAX ch)) < n then s2.put (Fld.GAU_MINMAX_MAX ch) (toField 32 n) else s2
  let s4 := if clip then s3.sat (Fld.GAU_CFG_CLIPS ch)
    else
      let sum := tget (fun _ => 0) s3.gauge.sum ch + n
      let c := s3.get (Fld.GAU_MEAN_COUNT ch) + 1
      ((s3.setGauge { s3.gauge with sum := tput (fun _ => 0) s3.gauge.sum ch sum }).put (Fld.GAU_MEAN_COUNT ch) c).put
        (Fld.GAU_MEAN_MEAN ch) (toField 32 (meanOf sum (c % 2 ^ 32)))
  let s5 := s4.gaugeThresholds ch n
  if ch = 30 || ch = 31 then s5.refCheck ch else s5

/-- The filter delivers a word of the visit in progress: the converter's value, and whether the input exceeded full scale. -/
def Dev.gaugeStep (s0 : Dev) (v : Nat) (clip : Bool) : Dev :=
  let s := if s0.gaugeOver then s0.gaugeVisit else s0
  let g := s.gauge
  if g.cur = 0 then s
  else
    let ch := g.cur - 1
    let osr := s.get (Fld.GAU_CFG_OSR ch)
    let s1 := (s.at (g.lastAt + 5120 * 2 ^ osr)).put Fld.GAU_STATUS_RUNNING 1
    let s2 := s1.setGauge { s1.gauge with pos := g.pos + 1, lastAt := s1.tide }
    let settling := decide (g.pos < 4)
    let cl := clip && !settling
    let value := if cl then (if v / 2 ^ 15 % 2 = 1 then 0x8000 else 0x7FFF) else v
    let w := gaugeWord settling cl ch (s.get (Fld.GAU_CFG_GAIN ch)) osr value
    let s3 := s2.gaugePush ch w
    if settling then s3 else s3.gaugeAccount ch w cl

/-- R749: a clear of a channel's statistics. -/
def Dev.gaugeClearStats (s : Dev) (ch : Nat) : Dev :=
  let s1 := ((s.setReg (Reg.GAU_MINMAX ch) gaugeMinMaxReset).setReg (Reg.GAU_MEAN ch) 0).put (Fld.GAU_CFG_CLIPS ch) 0
  s1.setGauge { s1.gauge with sum := tdel ch s1.gauge.sum }

/-- GAUGE_WORD (R740 to R752). -/
def execGaugeWord (v : Nat) (clip : Bool) (s : State) : Out := s.dv (·.gaugeStep v clip)

/-! CAN FD -/

/-- TASK_CAN shows one controller in both sets. -/
def Dev.canPut (s : Dev) (f : Nat → Fld) (v : Nat) : Dev := (s.put (f 0) v).put (f 1) v
def Dev.canSat (s : Dev) (f : Nat → Fld) : Dev := (s.sat (f 0)).sat (f 1)
def Dev.setCan (s : Dev) (c : CanS) : Dev := { s with can := c }

/-- QUEUED follows the queue. -/
def Dev.canQueued (s : Dev) : Dev := s.canPut Fld.TASK_CAN_QUEUED s.can.txq.length

/-- TEC, REC and FAULT as the standard has them; bus-off once TEC passes 255. -/
def Dev.canErrors (s : Dev) (tec rec : Nat) : Dev :=
  let was := s.get (Fld.TASK_CAN_FAULT 0)
  let fault := if was = 2 || decide (255 < tec) then 2 else if 128 ≤ tec || 128 ≤ rec then 1 else 0
  let s1 := ((s.canPut Fld.TASK_CAN_TEC (min tec 255)).canPut Fld.TASK_CAN_REC (min rec 255)).canPut Fld.TASK_CAN_FAULT fault
  if fault = 2 && was ≠ 2 then s1.logAdd 4 0x0032 0xFF (min rec 255) 0 else s1

/-- R732: what an attempt does to TEC: 0 acknowledged, 1 an ACK error, else another error. -/
def Dev.canTec (s : Dev) (outcome : Nat) : Dev :=
  let t := s.get (Fld.TASK_CAN_TEC 0)
  let r := s.get (Fld.TASK_CAN_REC 0)
  match outcome with
  | 0 => s.canErrors (t - 1) r
  | 1 => if 128 ≤ t then s else s.canErrors (t + 8) r
  | _ => s.canErrors (t + 8) r

/-- The controller may send. -/
def Dev.canOpen (s : Dev) : Bool := s.can.enabled && s.get (Fld.TASK_CAN_FAULT 0) ≠ 2

/-- The head frame goes out. -/
def Dev.canEmit (s : Dev) (f : CanF) : Dev := s.emit .canFrame [f.word] f.data

/-- The head frame has been acknowledged. -/
def Dev.canSent (s : Dev) : Dev := (s.setCan { s.can with txq := s.can.txq.tail, ackCount := 0 }).canQueued

/-- R733: the head frame is abandoned after sixteen ACK errors. -/
def Dev.canAbandon (s : Dev) (f : CanF) : Dev :=
  let s1 := (s.setCan { s.can with
    txq := s.can.txq.tail, ackCount := 0, loneAt := s.tide + 1, probeAt := s.tide + 100000000, dropped := 0 }).canQueued
  ((s1.canSat Fld.TASK_CAN_ABANDONED).canPut Fld.TASK_CAN_LONE 1).logAdd 3 0x0030 0xFF (f.word % 2 ^ 29) (s1.get (Fld.TASK_CAN_TEC 0))

/-- CAN_TX_ATTEMPT_DONE (R732, R733): 0 acknowledged, 1 an ACK error, else another error. -/
def Dev.canAttempt (s : Dev) (outcome : Nat) : Dev :=
  match s.can.txq with
  | [] => s
  | f :: _ =>
    if !s.canOpen || s.on (Fld.TASK_CAN_LONE 0) then s
    else
      let s1 := (s.canEmit f).canTec outcome
      match outcome with
      | 0 => s1.canSent
      | 1 =>
        let n := s1.can.ackCount + 1
        if 16 ≤ n then s1.canAbandon f else s1.setCan { s1.can with ackCount := n }
      | _ => s1
def execCanTxAttemptDone (outcome : Nat) (s : State) : Out := s.dv (·.canAttempt outcome)

/-- CAN_LONE_PROBE_TIMER (R733): the head frame is probed once. -/
def Dev.canProbe (s0 : Dev) (outcome : Nat) : Dev :=
  match s0.can.txq with
  | [] => s0
  | f :: _ =>
    if !s0.canOpen || !s0.on (Fld.TASK_CAN_LONE 0) then s0
    else
      let s := s0.at s0.can.probeAt
      let s1 := ((s.canEmit f).canTec outcome)
      if outcome = 0 then
        let ms := (s1.tide + 1 - s1.can.loneAt) / 1000000
        let n := s1.can.dropped
        let s2 := (s1.canSent).canPut Fld.TASK_CAN_LONE 0
        (s2.setCan { s2.can with loneAt := 0, probeAt := 0, dropped := 0 }).logAdd 2 0x0031 0xFF ms n
      else s1.setCan { s1.can with probeAt := s1.tide + 1000000000 }
def execCanLoneProbeTimer (outcome : Nat) (s : State) : Out := s.dv (·.canProbe outcome)

/-- R730: a frame matches an acceptance filter: identifier with IDE in bit 29. -/
def CanS.accepts (c : CanS) (id : Nat) : Bool :=
  c.filters.any (fun e => match e.2 with
    | some (fid, mask) => id / 2 ^ 29 % 2 = fid / 2 ^ 29 % 2 && ((id ^^^ fid) &&& mask) % 2 ^ 29 = 0
    | none => false)

/-- CAN_FRAME_RECEIVED (R730): a frame's ID, IDE, FDF and BRS as CAN_SEND lays them out; `good`: the controller detected no error
in it. -/
def Dev.canReceive (s : Dev) (word : Nat) (data : List Byte) (good : Bool) : Dev :=
  if !s.can.enabled then s
  else
    let t := s.get (Fld.TASK_CAN_TEC 0)
    let r := s.get (Fld.TASK_CAN_REC 0)
    if !good then s.canErrors t (r + 1)
    else
      let s1 := if 127 < r then (s.canErrors t (119 + Config.freeNat s.free % 9)).tick else s.canErrors t (r - 1)
      if !s1.can.accepts (word % 2 ^ 30) then s1
      else
        let f : CanF := ⟨pack [(0, 32, word), (32, 7, data.length), (39, 1, if 48 < data.length then 1 else 0)], data.take 48, s1.tide⟩
        let l := if 64 ≤ s1.can.fifo.length then s1.can.fifo.tail else s1.can.fifo
        s1.setCan { s1.can with fifo := l ++ [f] }
def execCanFrameReceived (word : Nat) (data : List Byte) (good : Bool) (s : State) : Out := s.dv (·.canReceive word data good)

/-- CAN_BUS_OFF_RECOVERED (R734). -/
def execCanBusOffRecovered (s : State) : Out :=
  s.dv fun d =>
    if d.get (Fld.TASK_CAN_FAULT 0) = 2 then
      ((d.canPut Fld.TASK_CAN_FAULT 0).canPut Fld.TASK_CAN_TEC 0).canPut Fld.TASK_CAN_REC 0
    else d

end Sys2Proof.Machine
end

