-- ==== Sys2Proof/Machine/Tasks.lean ====
section
/-! DEFINITION. The task sets of the Ferryman (spec/20): issue and screening, completion, the persistent store, and the tasks
on caps, policies, the log, CAN FD and the Gauge.  Set 0 is the host's, set 1 the BMC's.  GO screens a task and accepts it;
the row of the task itself executes what its set has accepted. -/

namespace Sys2Proof.Machine

def Dev.setFerry (s : Dev) (f : FerryS) : Dev := { s with ferry := f }
def Dev.setSlip (s : Dev) (p : SlipS) : Dev := { s with slip := p }
/-- A field that both task sets show. -/
def Dev.helmPut (s : Dev) (f : Nat → Fld) (v : Nat) : Dev := (s.put (f 0) v).put (f 1) v

def Dev.arg (s : Dev) (m i : Nat) : Nat := (s.reg (Reg.TASK_ARG m i)).toNat
def Dev.argF (s : Dev) (m i lo len : Nat) : Nat := bitsOf (s.arg m i) lo len
def Dev.taskOp (s : Dev) (m : Nat) : Nat := s.get (Fld.TASK_OP_OP m)
def Dev.taskBusy (s : Dev) (m : Nat) : Bool := s.get (Fld.TASK_STATE_STATE m) = 1
def Dev.prog (s : Dev) (m : Nat) : Nat := tget (fun _ => 0) s.ferry.prog m
def Dev.setProg (s : Dev) (m v : Nat) : Dev := s.setFerry { s.ferry with prog := tput (fun _ => 0) s.ferry.prog m v }
def Dev.flashOf (s : Dev) (m : Nat) : Nat := tget (fun _ => 0) s.ferry.flash m
def Dev.setFlash (s : Dev) (m v : Nat) : Dev := s.setFerry { s.ferry with flash := tput (fun _ => 0) s.ferry.flash m v }

/-! Completion (step 5 of the route) -/

/-- The helm goes down. -/
def Dev.helmDown (s : Dev) (why : Nat) : Dev := (s.helmPut Fld.TASK_STATE_HELM_DOWN 1).setFerry { s.ferry with helmWhy := why }

/-- R806: a switch of image begins once neither set is BUSY. -/
def Dev.helmSwitch (s : Dev) : Dev := if s.ferry.helmWhy = 4 && !s.taskBusy 0 && !s.taskBusy 1 then s.helmDown 3 else s

/-- A task ends: RESULT, DETAIL, TASK_RES; then DONE, DONE_TAG and DONE_NEW.  A task of the other set that waited behind it goes on. -/
def Dev.taskDone (s : Dev) (m result detail : Nat) (res : List Nat) : Dev :=
  let s1 := (List.range 8).foldl (fun s i => s.setReg (Reg.TASK_RES m i) (BitVec.ofNat 64 (res.getD i 0))) s
  let s2 := (s1.put (Fld.TASK_STATE_RESULT m) result).put (Fld.TASK_STATE_DETAIL m) detail
  let s3 := ((s2.put (Fld.TASK_STATE_STATE m) 2).put (Fld.TASK_STATE_DONE_TAG m) (s2.get (Fld.TASK_TAG_TAG m))).put (Fld.TASK_STATE_DONE_NEW m) 1
  let s4 := (s3.setProg m 0).setFlash m 0
  let s5 := if s4.prog (1 - m) = 3 then s4.setProg (1 - m) 1 else s4
  s5.syncAlert.helmSwitch

def Dev.taskOk (s : Dev) (m : Nat) (res : List Nat := []) : Dev := s.taskDone m 0 0 res
def Dev.taskFail (s : Dev) (m result : Nat) (detail : Nat := 0) : Dev := s.taskDone m result detail []

/-! Screening (R704, Table 20.1) -/

/-- Table 20.1: the tasks, and whether the host and the BMC may issue them. -/
def taskRights (op : Nat) : Option (Bool × Bool) :=
  match op with
  | 0x01 => some (true, true) | 0x10 => some (true, true) | 0x11 => some (false, true) | 0x12 => some (false, true)
  | 0x20 => some (false, true) | 0x21 => some (true, true) | 0x22 => some (false, true)
  | 0x30 => some (true, true) | 0x31 => some (true, true) | 0x32 => some (true, true)
  | 0x40 => some (true, true) | 0x41 => some (true, true)
  | 0x50 => some (true, false) | 0x51 => some (true, true)
  | 0x60 => some (false, true) | 0x61 => some (false, true) | 0x70 => some (false, true) | 0x80 => some (false, true)
  | _ => none

/-- No bit of an argument lies outside the masks, one mask an argument. -/
def Dev.argsIn (s : Dev) (m : Nat) (masks : List Nat) : Bool :=
  (List.range 8).all (fun i => s.arg m i ||| masks.getD i 0 = masks.getD i 0)

/-- The eight entries of a cap table: VALID, AT_C, CAP_W. -/
def Dev.capEntries (s : Dev) (m : Nat) : List (Bool × Nat × Nat) :=
  (List.range 8).map (fun e =>
    let lo := 32 * (e % 2)
    (s.argF m (1 + e / 2) (lo + 31) 1 = 1, s.argF m (1 + e / 2) (lo + 16) 8, s.argF m (1 + e / 2) lo 16))

/-- Bits of a word that holds two entries. -/
def entryMask : Nat := 0x80FFFFFF80FFFFFF

/-- Tables 20.6 and 22.3: each valid entry in its ranges. -/
def capsGood (es : List (Bool × Nat × Nat)) (lo hi : Nat) : Bool :=
  es.all (fun e => !e.1 || (decide (320 ≤ e.2.2 ∧ e.2.2 ≤ 750) && decide (lo ≤ e.2.1 ∧ e.2.1 ≤ hi)))

/-- A length CAN_SEND takes. -/
def canLen (n : Nat) : Bool := decide (n ≤ 8) || [12, 16, 20, 24, 32, 48].contains n

def all64 : Nat := 2 ^ 64 - 1

/-- FW_STAGE. -/
def Dev.stageArgs (s : Dev) (m : Nat) : Bool :=
  match s.argF m 0 0 2 with
  | 0 => s.argsIn m [3, 2 ^ 26 - 1] && decide (1 ≤ s.arg m 1 ∧ s.arg m 1 ≤ 0x2000000)
  | 1 =>
    if m = 0 then s.argsIn m [3, 2 ^ 26 - 1, 2 ^ 32 - 1, 2 ^ 41 - 1, 2 ^ 21 - 1] && decide (s.arg m 4 ≤ 0x100000)
    else s.argsIn m ([3, 0x3F03FFFFFF] ++ List.replicate 6 all64) && decide (1 ≤ s.argF m 1 32 6 ∧ s.argF m 1 32 6 ≤ 48)
  | _ => s.argsIn m [3]

/-- CAN_FILTER. -/
def Dev.filterArgs (s : Dev) (m : Nat) : Bool :=
  match s.argF m 0 0 2 with
  | 0 => s.argsIn m [0xF3, 2 ^ 30 - 1, 2 ^ 29 - 1]
  | 1 => s.argsIn m [0xF3]
  | 2 => s.argsIn m [3]
  | _ => s.argsIn m [3, 0x1F]

/-- R753. -/
def Dev.gaugeArgs (s : Dev) (m : Nat) : Bool :=
  match s.argF m 0 0 3 with
  | 0 =>
    s.argsIn m [0xFF01FF1F07] && decide (s.argF m 0 17 3 ≤ 4) && decide (s.argF m 0 20 5 ≤ 7) && s.argF m 0 32 8 ≠ 0
      && !(s.argF m 0 16 1 = 0 && alwaysOn (s.argF m 0 8 5))
  | 1 => s.argsIn m [0xF31F07, all64] && s.argF m 0 20 4 ≠ 0
  | 2 => s.argsIn m [0xF07] && decide (1 ≤ s.argF m 0 8 4 ∧ s.argF m 0 8 4 ≤ 14)
  | 3 => s.argsIn m [0x33F07]
  | 4 => s.argsIn m [0x1F07]
  | _ => false

/-- Table 24.5. -/
def Dev.vaultArgs (s : Dev) (m : Nat) : Bool :=
  match s.argF m 0 0 3 with
  | 0 => s.argsIn m [7, 0x3FFFFFFF00FF, 2 ^ 36 - 1] && decide (2 ≤ s.argF m 1 16 16) && decide (s.argF m 1 32 14 ≤ 8192)
  | 1 => s.argsIn m [7]
  | 2 => s.argsIn m [7]
  | 3 => s.argsIn m [7, 2 ^ 32 - 1, 2 ^ 41 - 1]
  | 4 => s.argsIn m [7]
  | _ => false

/-- R704: whether no argument of a task is reserved or out of range. -/
def Dev.argsGood (s : Dev) (m op : Nat) : Bool :=
  match op with
  | 0x10 => s.argsIn m [0x1FFFF] && decide (320 ≤ s.argF m 0 0 16 ∧ s.argF m 0 0 16 ≤ 750)
  | 0x11 => s.argsIn m ([0xFF] ++ List.replicate 4 entryMask) && decide (100 ≤ s.arg m 0 ∧ s.arg m 0 ≤ 112) && capsGood (s.capEntries m) 60 112
  | 0x12 => s.argsIn m ([0x1F0103FF] ++ List.replicate 4 entryMask) && decide (5 ≤ s.argF m 0 0 10 ∧ s.argF m 0 0 10 ≤ 600) && capsGood (s.capEntries m) 0 255
  | 0x20 => s.argsIn m [0x1F]
  | 0x21 => s.argsIn m [0x3F] && decide (s.argF m 0 4 2 ≤ 1)
  | 0x22 => s.argsIn m [0x1FF]
  | 0x30 => s.stageArgs m
  | 0x31 => s.argsIn m [7] && decide (s.argF m 0 0 2 ≤ 2) && (s.argF m 0 2 1 = 0 || s.argF m 0 0 2 = 0)
  | 0x40 => s.argsIn m [2 ^ 33 - 1]
  | 0x41 => s.argsIn m [2 ^ 32 - 1]
  | 0x50 => s.vaultArgs m
  | 0x60 =>
    s.argsIn m ([2 ^ 39 - 1] ++ List.replicate 6 all64) && canLen (s.argF m 0 32 7) && (decide (s.argF m 0 32 7 ≤ 8) || s.argF m 0 30 1 = 1)
  | 0x61 => s.filterArgs m
  | 0x70 => s.gaugeArgs m
  | 0x80 =>
    s.argsIn m [0xFF0FFFFFFFFFFF] && decide (250 ≤ s.argF m 0 0 16 ∧ s.argF m 0 0 16 ≤ 5000)
      && decide (100 ≤ s.argF m 0 16 16 ∧ s.argF m 0 16 16 ≤ 5000) && decide (2 ≤ s.argF m 0 32 8 ∧ s.argF m 0 32 8 ≤ 100)
  | _ => s.argsIn m []

/-- R707: the objects a task acts on: ports 0–3, drives 16–23, the staging slot 32, the boot slot 33, the CAN controller 34, a
master's log cursor 40 + m and its cap 42 + m. -/
def Dev.taskObjs (s : Dev) (m : Nat) : List Nat :=
  match s.taskOp m with
  | 0x10 => [42 + m]
  | 0x20 => (List.range 4).filter (fun n => s.arg m 0 / 2 ^ n % 2 = 1)
  | 0x21 => (List.range 4).filter (fun n => s.arg m 0 / 2 ^ n % 2 = 1)
  | 0x22 => ((List.range 8).filter (fun k => s.arg m 0 / 2 ^ k % 2 = 1)).map (· + 16)
  | 0x30 => [32]
  | 0x31 => [32, 33]
  | 0x40 => [40 + m]
  | 0x41 => [40 + m]
  | 0x60 => [34]
  | 0x61 => [34]
  | _ => []

/-- R790: what a device in recovery accepts, from the BMC. -/
def recoveryTask (m op : Nat) : Bool := m = 1 && [0x30, 0x31, 0x32, 0x40].contains op

/-- R714, R716: a GO write is speech of its master; autonomous helm ends. -/
def Dev.speech (s : Dev) (m : Nat) : Dev :=
  let s1 := s.setFerry (if m = 0 then { s.ferry with lastGo0 := s.tide } else { s.ferry with lastGo1 := s.tide })
  if s1.on (Fld.TASK_HELM_AUTONOMOUS 0) then
    let s2 := s1.logAdd 2 0x0003 0xFF m ((s1.tide + 1 - s1.ferry.autoSince) / 1000000000)
    let s3 := ((s2.helmPut Fld.TASK_HELM_AUTONOMOUS 0).put Fld.IDENT_TRAY_HELM_AUTONOMOUS 0).put Fld.PWR_CAPS_AUTO_W 750
    (s3.setFerry { s3.ferry with autoSince := 0 }).updateCap
  else s1

/-- R704: a write of GO 1. -/
def Dev.taskGo (s : Dev) (m : Nat) : Dev :=
  let s1 := s.speech m
  if s1.taskBusy m || s1.on (Fld.TASK_STATE_HELM_DOWN m) then s1.put (Fld.TASK_STATE_BUSY_REFUSED m) 1
  else if s1.get (Fld.TASK_STATE_STATE m) = 2 && s1.get (Fld.TASK_TAG_TAG m) = s1.get (Fld.TASK_STATE_DONE_TAG m) then
    ((s1.put (Fld.TASK_STATE_REPEATED m) 1).put (Fld.TASK_STATE_DONE_NEW m) 1).syncAlert
  else
    let s2 := (s1.put (Fld.TASK_STATE_STATE m) 1).put (Fld.TASK_STATE_REPEATED m) 0
    let op := s2.taskOp m
    match taskRights op with
    | none => s2.taskFail m 3
    | some (host, bmc) =>
      if !(if m = 0 then host else bmc) then s2.taskFail m 1
      else if !s2.argsGood m op then s2.taskFail m 2
      else if s2.slip.recovery && !recoveryTask m op then s2.taskFail m 5
      else
        let behind := s2.taskBusy (1 - m) && (s2.taskObjs m).any (fun o => (s2.taskObjs (1 - m)).contains o)
        let s3 := s2.setProg m (if behind then 3 else 1)
        if op = 0x30 && s3.ferry.stageOwner = m + 1 then s3.setFerry { s3.ferry with stageTide := s3.tide } else s3

/-- A set has accepted a task, and it may run. -/
def Dev.accepted (s : Dev) (m op : Nat) : Bool :=
  decide (m < 2) && s.taskBusy m && !s.on (Fld.TASK_STATE_HELM_DOWN m) && s.taskOp m = op && s.prog m = 1

/-- The row of a task executes it where a set has accepted it and `sel` names the form. -/
def Dev.task (s : Dev) (m op : Nat) (sel : Bool) (f : Dev → Dev) : Dev := if s.accepted m op && sel then f s else s

/-- TASK_GO (R704). -/
def execTaskGo (m : Nat) (s : State) : Out := s.dv fun d => if m < 2 then d.taskGo m else d

/-! The persistent store (R703, R711, R738, R845) -/

def bnat (b : Bool) : Nat := if b then 1 else 0

/-- Entries as the store holds them. -/
def packEntries (es : List (Bool × Nat × Nat)) : List Nat := es.flatMap (fun e => [bnat e.1, e.2.1, e.2.2])
def unpackEntries (l : List Nat) : List (Bool × Nat × Nat) :=
  (List.range 8).map (fun e => (l.getD (3 * e) 0 = 1, l.getD (3 * e + 1) 0, l.getD (3 * e + 2) 0))

/-- The copy of a setting the store is to hold: 1 AUTONOMY_POLICY, 2 THERMAL_POLICY, 3 STAGGER_PLAN, 4 the CAN configuration, 5 the
vault configuration and PENDING. -/
def Dev.storeImage (s : Dev) (key : Nat) : List Nat :=
  match key with
  | 1 => [s.get (Fld.TASK_HELM_SILENCE_S 0), bnat s.ferry.restartEn, s.ferry.tempCh] ++ packEntries s.ferry.autoTable
  | 2 => [s.power.thermBrake] ++ packEntries s.power.curve
  | 3 => s.slip.plan
  | 4 => [bnat s.can.enabled, s.can.nominal, s.can.dataRate]
  | _ => [s.get Fld.VLT_STATUS_DRIVE_SET, s.get Fld.VLT_AREA_SLOT_MIB, s.get Fld.VLT_USED_LIMIT_MIB, s.get Fld.VLT_AREA_VAULT_LBA,
      s.get Fld.VLT_STATUS_PENDING] ++ s.vlt.ids.map BitVec.toNat

/-- Both copies of the store take a setting. -/
def Dev.storeKeep (s : Dev) (key : Nat) : Dev :=
  s.setFerry { s.ferry with stored := tput (fun _ => []) s.ferry.stored key (s.storeImage key) }

/-- A task waits for the flash. -/
def Dev.taskFlash (s : Dev) (m what : Nat) : Dev := (s.setProg m 2).setFlash m what

/-! Caps and policies (R710, R711, R774, R801) -/

/-- HEARTBEAT (R709). -/
def execHeartbeat (m : Nat) (s : State) : Out := s.dv fun d => d.task m 0x01 true fun d => d.taskOk m [d.tide]

/-- POWER_CAP (R710, R774): a master's cap, and its hold on the brake. -/
def execPowerCap (m : Nat) (s : State) : Out :=
  s.dv fun d => d.task m 0x10 true fun d =>
    let d1 := (d.put (if m = 0 then Fld.PWR_CAPS_HOST_W else Fld.PWR_CAPS_BMC_W) (d.argF m 0 0 16)).setBrakeSource (3 + m) (d.argF m 0 16 1 = 1)
    let d2 := d1.updateCap
    d2.taskOk m [pack [(0, 16, d2.get Fld.PWR_STATUS_CAP_W), (16, 16, d2.get Fld.PWR_STATUS_POWER_W), (32, 6, d2.get Fld.PWR_STATUS_LEVEL)]]

/-- THERMAL_POLICY (R774). -/
def execThermalPolicy (m : Nat) (s : State) : Out :=
  s.dv fun d => d.task m 0x11 true fun d =>
    { d with power := { d.power with thermBrake := d.arg m 0, curve := d.capEntries m } }.taskFlash m 2

/-- AUTONOMY_POLICY (R714, R715). -/
def execAutonomyPolicy (m : Nat) (s : State) : Out :=
  s.dv fun d => d.task m 0x12 true fun d =>
    ((d.helmPut Fld.TASK_HELM_SILENCE_S (d.argF m 0 0 10)).setFerry { d.ferry with
      restartEn := d.argF m 0 16 1 = 1, tempCh := d.argF m 0 24 5, autoTable := d.capEntries m }).taskFlash m 1

/-- STAGGER_PLAN (R801): it governs the next start. -/
def execStaggerPlan (m : Nat) (s : State) : Out :=
  s.dv fun d => d.task m 0x80 true fun d =>
    (d.setSlip { d.slip with plan := [d.argF m 0 0 16, d.argF m 0 16 16, d.argF m 0 32 8, d.argF m 0 40 4, d.argF m 0 48 8] }).taskFlash m 3

/-! The event log (R718 to R720) -/

/-- Table 20.2. -/
def LogRec.words (r : LogRec) : List Nat :=
  [pack [(0, 16, r.event), (16, 3, r.sev), (24, 8, r.berth), (32, 32, r.seq)], r.tide, r.arg0, r.arg1]

/-- LOG_READ (R709). -/
def execLogRead (m : Nat) (s : State) : Out :=
  s.dv fun d => d.task m 0x40 true fun d =>
    let all := (if d.argF m 0 32 1 = 1 then d.log.pers else d.log.recs).reverse
    let rs := (all.filter (fun r => !before r.seq (d.argF m 0 0 32) 32)).take 2
    d.taskDone m 0 rs.length (rs.flatMap LogRec.words)

/-- LOG_CLEAR (R720): the cursor moves forward only, no further than NEWEST_SEQ + 1. -/
def execLogClear (m : Nat) (s : State) : Out :=
  s.dv fun d => d.task m 0x41 true fun d =>
    let c := d.arg m 0
    if before c (d.get (Fld.TASK_LOG_CURSOR m)) 32 || after c (d.get (Fld.TASK_LOG_NEWEST_SEQ m) + 1) 32 then d.taskFail m 2
    else (d.put (Fld.TASK_LOG_CURSOR m) c).taskOk m

/-! CAN FD (R730, R731) -/

/-- CAN_SEND (R731). -/
def execCanSend (m : Nat) (s : State) : Out :=
  s.dv fun d => d.task m 0x60 true fun d =>
    let data := ((List.range 6).flatMap (fun i => leBytes 8 (d.arg m (1 + i)))).take (d.argF m 0 32 7)
    let full := decide (32 ≤ d.can.txq.length)
    let d1 := if full then
        (d.setCan { d.can with txq := d.can.txq.tail, ackCount := 0, dropped := if d.on (Fld.TASK_CAN_LONE 0) then d.can.dropped + 1 else d.can.dropped }).canSat
          Fld.TASK_CAN_DROPS
      else d
    let d2 := (d1.setCan { d1.can with txq := d1.can.txq ++ [⟨d.arg m 0, data, d.tide⟩] }).canQueued
    d2.taskOk m [d2.can.txq.length]

/-- CAN_FILTER SET: ID with IDE, MASK. -/
def execCanFilterSet (m : Nat) (s : State) : Out :=
  s.dv fun d => d.task m 0x61 (d.argF m 0 0 2 = 0) fun d =>
    (d.setCan { d.can with filters := tput (fun _ => none) d.can.filters (d.argF m 0 4 4) (some (d.arg m 1, d.arg m 2)) }).taskOk m

/-- CAN_FILTER CLEAR. -/
def execCanFilterClear (m : Nat) (s : State) : Out :=
  s.dv fun d => d.task m 0x61 (d.argF m 0 0 2 = 1) fun d => (d.setCan { d.can with filters := tdel (d.argF m 0 4 4) d.can.filters }).taskOk m

/-- CAN_FILTER READ: the oldest received frame. -/
def execCanFilterRead (m : Nat) (s : State) : Out :=
  s.dv fun d => d.task m 0x61 (d.argF m 0 0 2 = 2) fun d =>
    match d.can.fifo with
    | [] => d.taskOk m
    | f :: t =>
      (d.setCan { d.can with fifo := t }).taskDone m 0 1
        ([f.word, f.tide] ++ (List.range 6).map (fun i => ofLe ((f.data.drop (8 * i)).take 8)))

/-- CAN_FILTER CONFIG: enable and bit rates, kept in the store. -/
def execCanFilterConfig (m : Nat) (s : State) : Out :=
  s.dv fun d => d.task m 0x61 (d.argF m 0 0 2 = 3) fun d =>
    (d.setCan { d.can with enabled := d.argF m 1 0 1 = 1, nominal := d.argF m 1 1 2, dataRate := d.argF m 1 3 2 }).taskFlash m 4

/-! The Gauge (R753) -/

/-- GAUGE_CONFIG CHANNEL: the settings wait for the channel's next visit (R742). -/
def execGaugeConfigChannel (m : Nat) (s : State) : Out :=
  s.dv fun d => d.task m 0x70 (d.argF m 0 0 3 = 0) fun d =>
    let w := packW [(0, 1, d.argF m 0 16 1), (1, 3, d.argF m 0 17 3), (4, 5, d.argF m 0 20 5), (16, 8, d.argF m 0 32 8)]
    (d.setGauge { d.gauge with want := tput (fun _ => none) d.gauge.want (d.argF m 0 8 5) (some w) }).taskOk m

/-- GAUGE_CONFIG THRESHOLD. -/
def execGaugeConfigThreshold (m : Nat) (s : State) : Out :=
  s.dv fun d => d.task m 0x70 (d.argF m 0 0 3 = 1) fun d =>
    let c := packW [(0, 1, d.argF m 0 16 1), (1, 1, d.argF m 0 17 1), (4, 4, d.argF m 0 20 4)]
    (d.setGauge { d.gauge with wantT := tput (fun _ => none) d.gauge.wantT (d.argF m 0 8 5) (some (c, BitVec.ofNat 64 (d.arg m 1))) }).taskOk m

/-- GAUGE_CONFIG READ_FIFO: up to MAX words, oldest first. -/
def execGaugeReadFifo (m : Nat) (s : State) : Out :=
  s.dv fun d => d.task m 0x70 (d.argF m 0 0 3 = 2) fun d =>
    let n := d.argF m 0 8 4
    let ws := d.gauge.fifo.take n
    let d1 := (d.setGauge { d.gauge with fifo := d.gauge.fifo.drop n }).gaugeLevel
    d1.taskDone m 0 ws.length (d1.gauge.fifo.length :: (List.range 7).map (fun i => ws.getD (2 * i) 0 + ws.getD (2 * i + 1) 0 * 2 ^ 32))

/-- GAUGE_CONFIG CLEAR (R753, R759): the statistics, the ALERT bits, or both, of a channel or of all. -/
def execGaugeClear (m : Nat) (s : State) : Out :=
  s.dv fun d => d.task m 0x70 (d.argF m 0 0 3 = 3) fun d =>
    let chs := if d.argF m 0 13 1 = 1 then List.range 32 else [d.argF m 0 8 5]
    let d1 := if d.argF m 0 16 1 = 1 then chs.foldl (fun d ch => d.gaugeClearStats ch) d else d
    if d.argF m 0 17 1 = 1 then
      let mask := (chs.map (fun ch => 2 ^ ch)).sum &&& d1.get Fld.GAU_STATUS_ALERT
      let d2 := d1.put Fld.GAU_STATUS_ALERT (d1.get Fld.GAU_STATUS_ALERT - mask)
      (if mask = 0 then d2 else d2.logAdd 2 0x0381 0xFF mask m).taskOk m
    else d1.taskOk m

/-- GAUGE_CONFIG READ_STATS. -/
def execGaugeReadStats (m : Nat) (s : State) : Out :=
  s.dv fun d => d.task m 0x70 (d.argF m 0 0 3 = 4) fun d =>
    let ch := d.argF m 0 8 5
    d.taskOk m [(d.reg (Reg.GAU_LAST ch)).toNat, (d.reg (Reg.GAU_LAST_TIDE ch)).toNat, (d.reg (Reg.GAU_MINMAX ch)).toNat,
      (d.reg (Reg.GAU_MEAN ch)).toNat, d.get (Fld.GAU_CFG_CLIPS ch)]

end Sys2Proof.Machine
end

