-- ==== Sys2Proof/Machine/Ferry.lean ====
section
/-! DEFINITION. The Ferryman (spec/20): partners' power and resets by task, by the Slipway and by autonomous helm (R712, R713, R715,
R798 to R800), firmware images (R722 to R726, R872 to R877), the helm, MCTP and PLDM (R727 to R729). -/

namespace Sys2Proof.Machine

/-! Starting partners -/

/-- The ports, or drives, of a mask. -/
def bitsSet (n mask : Nat) : List Nat := (List.range n).filter (fun i => mask / 2 ^ i % 2 = 1)

/-- Who holds a port while it starts or is held in reset (R800). -/
def Dev.starter (s : Dev) (p : Nat) : Nat := tget (fun _ => 0) s.slip.starts p
def Dev.setStarter (s : Dev) (p w : Nat) : Dev := s.setSlip { s.slip with starts := tput (fun _ => 0) s.slip.starts p w }
/-- The gap timers. -/
def Dev.gapAt (s : Dev) (w : Nat) : Nat := tget (fun _ => 0) s.slip.gaps w
def Dev.setGap (s : Dev) (w v : Nat) : Dev := s.setSlip { s.slip with gaps := tput (fun _ => 0) s.slip.gaps w v }
/-- The gap timer of a sequence starts where something still waits. -/
def Dev.gapFrom (s : Dev) (w : Nat) (rest : Bool) : Dev := if rest then s.setGap w (s.tide + 1) else s

/-- A port's power is enabled by `who`: APn_PG has 1 s. -/
def Dev.startPort (s : Dev) (p who : Nat) : Dev :=
  let s1 := (s.portPower p true).setStarter p who
  s1.setPort p { s1.port p with pgAt := s1.tide }

/-- The power-on task is over when no named port waits, trains its gap, or is held in reset. -/
def Dev.accCheck (s : Dev) : Dev :=
  if s.taskBusy 1 && s.taskOp 1 = 0x20 && s.prog 1 = 2 && s.ferry.accQueue.isEmpty && (List.range 4).all (fun n => s.starter n ≠ 2) then
    s.taskOk 1 [pack [(0, 4, s.ferry.accGood), (4, 4, s.ferry.accBad)]]
  else s

/-- R712: the named ports in ascending order; one that is powered already counts as good and is left alone; none is powered
after a thermal trip. -/
def Dev.accNext (s : Dev) : List Nat → Dev
  | [] => (s.setFerry { s.ferry with accQueue := [] }).accCheck
  | n :: t =>
    if (s.port n).pwren then (s.setFerry { s.ferry with accGood := s.ferry.accGood ||| 2 ^ n }).accNext t
    else if s.power.thermTrip then (s.setFerry { s.ferry with accBad := s.ferry.accBad ||| 2 ^ n }).accNext t
    else (s.setFerry { s.ferry with accQueue := t }).startPort n 2

/-- R798: the Slipway's next port. -/
def Dev.slipPort (s : Dev) : List Nat → Dev
  | [] => s.setSlip { s.slip with accelQueue := [] }
  | n :: t =>
    if (s.port n).pwren || s.starter n ≠ 0 || s.power.thermTrip then s.slipPort t
    else (s.setSlip { s.slip with accelQueue := t }).startPort n 1

/-- R715: autonomous helm's next port: its power goes off and on again. -/
def Dev.autoPort (s : Dev) : List Nat → Dev
  | [] => s.setSlip { s.slip with accelWait := [] }
  | n :: t =>
    if s.starter n ≠ 0 || s.power.thermTrip then s.autoPort t
    else ((s.setSlip { s.slip with accelWait := t }).portPower n false).startPort n 3

/-- Drives of a mask are powered. -/
def Dev.drivesOn (s : Dev) (mask : Nat) : Dev :=
  if s.power.thermTrip then s else (bitsSet 8 mask).foldl (fun s k => s.portPower (4 + k) true) s

/-- A mask of drives as pairs, those without a named drive left out (R713, R799). -/
def drivePairs (mask : Nat) : List Nat := ((List.range 4).map (fun i => mask / 4 ^ i % 4 * 4 ^ i)).filter (· ≠ 0)

/-- PARTNER_START. -/
def Dev.partnerStart (s : Dev) (who result : Nat) : Dev := s.logAdd 2 0x0206 0xFF who result

/-- R799: the Slipway's next pair of drives. -/
def Dev.slipDrives (s : Dev) : Dev :=
  match s.slip.driveQueue with
  | [] => s
  | p :: t =>
    let s1 := (s.setSlip { s.slip with driveQueue := t }).drivesOn p
    let s2 := (bitsSet 8 p).foldl (fun s k => s.partnerStart (0x10 + k) 0) s1
    s2.gapFrom 1 (!t.isEmpty)

/-- R713: the task's next pair of drives. -/
def Dev.taskDrives (s : Dev) : Dev :=
  match s.ferry.drvQueue with
  | [] => s
  | p :: t =>
    let s1 := (s.setFerry { s.ferry with drvQueue := t }).drivesOn p
    if t.isEmpty then (if s1.taskBusy 1 && s1.taskOp 1 = 0x22 && s1.prog 1 = 2 then s1.taskOk 1 else s1) else s1.gapFrom 3 true

/-- R798, R799: the staggered starts of station 11, under the plan as it stands (R801). -/
def Dev.staggered (s : Dev) : Dev :=
  let p := s.slip.plan
  let s1 := s.setSlip { s.slip with
    accelGap := p.getD 0 250, driveGap := p.getD 1 100, autoAccel := p.getD 3 15, autoDrives := p.getD 4 255
    driveQueue := drivePairs (p.getD 4 255) }
  (s1.slipPort (bitsSet 4 (p.getD 3 15))).slipDrives

/-- What follows a port's power-good, or its timeout: the next port of the sequence comes after its gap. -/
def Dev.afterPort (s : Dev) (who : Nat) : Dev :=
  match who with
  | 1 => s.gapFrom 0 (!s.slip.accelQueue.isEmpty)
  | 2 => s.gapFrom 2 (!s.ferry.accQueue.isEmpty)
  | 3 => s.gapFrom 4 (!s.slip.accelWait.isEmpty)
  | _ => s

/-- AP_PG_RISE (R712, R338). -/
def Dev.pgRise (s : Dev) (n : Nat) : Dev :=
  if !(s.port n).pwren || (s.port n).pg then s
  else
    let s1 := s.setPort n { s.port n with pg := true, pgAt := s.tide }
    let w := s.starter n
    let s2 := if w = 1 then s1.partnerStart n 0
      else if w = 2 then s1.setFerry { s1.ferry with accGood := s1.ferry.accGood ||| 2 ^ n } else s1
    s2.afterPort w

/-- AP_PG_TIMEOUT (R712, R798): 1 s without power-good. -/
def Dev.pgTimeout (s : Dev) (n : Nat) : Dev :=
  let w := s.starter n
  if (s.port n).pg || w = 0 || decide (3 < w) then s
  else
    let s1 := ((s.at ((s.port n).pgAt + 1000000000)).portPower n false).setStarter n 0
    let s2 := if w = 1 then s1.partnerStart n 1
      else if w = 2 then s1.setFerry { s1.ferry with accBad := s1.ferry.accBad ||| 2 ^ n } else s1
    (s2.afterPort w).accCheck

/-- ACCEL_RESET of set m goes on to its end when no port of it is held any more. -/
def Dev.resetCheck (s : Dev) (m : Nat) : Dev :=
  if s.taskBusy m && s.taskOp m = 0x21 && s.prog m % 8 = 2 && (List.range 4).all (fun n => s.starter n ≠ 4 + m) then
    s.taskOk m [s.prog m / 16]
  else s

/-- AP_PERST_RELEASE_TIMER (R338, R712, R713, Table 23.7): 100 ms are over. -/
def Dev.perstTimer (s : Dev) (n : Nat) : Dev :=
  let w := s.starter n
  let h := s.port n
  if w = 0 || !h.pwren || !h.perst || (decide (w ≤ 3) && !h.pg) then s
  else
    let s1 := ((s.at ((if w ≤ 3 then h.pgAt else h.trainAt) + 100000000)).perstRelease n).setStarter n 0
    if w = 2 then s1.accCheck else if w = 4 then s1.resetCheck 0 else if w = 5 then s1.resetCheck 1 else s1

/-- The gap of a sequence in ns: the plan's, or Table 20.1's for a task. -/
def Dev.gapNs (s : Dev) (w : Nat) : Nat :=
  (match w with
    | 0 => s.slip.accelGap | 1 => s.slip.driveGap | 2 => 250 | 3 => 100 | _ => s.slip.accelGap) * 1000000

/-- What a gap is followed by. -/
def Dev.gapNext (s : Dev) (w : Nat) : Dev :=
  match w with
  | 0 => s.slipPort s.slip.accelQueue
  | 1 => s.slipDrives
  | 2 => s.accNext s.ferry.accQueue
  | 3 => s.taskDrives
  | _ => s.autoPort s.slip.accelWait

/-- STAGGER_GAP_TIMER (R712, R713, R798, R799): 0 the Slipway's ports, 1 its drives, 2 a task's ports, 3 its drives, 4 autonomous helm's
ports. -/
def Dev.gapTimer (s : Dev) (w : Nat) : Dev :=
  if s.gapAt w = 0 then s else ((s.at (s.gapAt w - 1 + s.gapNs w)).setGap w 0).gapNext w

def execApPgRise (n : Nat) (s : State) : Out := s.dv fun d => if n < 4 then d.pgRise n else d
def execApPgTimeout (n : Nat) (s : State) : Out := s.dv fun d => if n < 4 then d.pgTimeout n else d
def execApPerstReleaseTimer (n : Nat) (s : State) : Out := s.dv fun d => if n < 4 then d.perstTimer n else d
def execStaggerGapTimer (who : Nat) (s : State) : Out := s.dv (·.gapTimer who)

/-- The ports a task names; none of them is being started (R707, R800). -/
def Dev.portsFree (s : Dev) (m : Nat) : Bool := (bitsSet 4 (s.argF m 0 0 4)).all (fun n => s.starter n = 0)

/-- POWER_TASK. -/
def Dev.powerTask (s : Dev) (m : Nat) : Dev := s.logAdd 2 0x0020 0xFF (s.taskOp m) (s.arg m 0)

/-- ACCEL_POWER on (R712). -/
def execAccelPowerOn (m : Nat) (s : State) : Out :=
  s.dv fun d => d.task m 0x20 (d.argF m 0 4 1 = 1 && d.portsFree m) fun d =>
    let d1 := (d.powerTask m).setProg m 2
    (d1.setFerry { d1.ferry with accGood := 0, accBad := 0, accSet := d.argF m 0 0 4 }).accNext (bitsSet 4 (d.argF m 0 0 4))

/-- ACCEL_POWER off (R712). -/
def execAccelPowerOff (m : Nat) (s : State) : Out :=
  s.dv fun d => d.task m 0x20 (d.argF m 0 4 1 = 0 && d.portsFree m) fun d =>
    ((bitsSet 4 (d.argF m 0 0 4)).foldl (fun d n => d.portPower n false) (d.powerTask m)).taskOk m

/-- ACCEL_RESET KIND PERST (R713, R736). -/
def execAccelResetPerst (m : Nat) (s : State) : Out :=
  s.dv fun d => d.task m 0x21 (d.argF m 0 4 2 = 0 && d.portsFree m) fun d =>
    let ps := (bitsSet 4 (d.argF m 0 0 4)).filter (fun n => (d.port n).pwren)
    let d1 := d.powerTask m
    if ps.isEmpty then d1.taskFail m 6
    else
      (ps.foldl (fun d n =>
        let e := (d.perstAssert n).setStarter n (4 + m)
        e.setPort n { e.port n with trainAt := e.tide }) d1).setProg m ((ps.map (fun n => 2 ^ n)).sum * 16 + 2)

/-- ACCEL_RESET KIND SBR (R713, R736). -/
def execAccelResetSbr (m : Nat) (s : State) : Out :=
  s.dv fun d => d.task m 0x21 (d.argF m 0 4 2 = 1 && d.portsFree m) fun d =>
    let ps := (bitsSet 4 (d.argF m 0 0 4)).filter (fun n => (d.port n).pwren)
    let d1 := d.powerTask m
    if ps.isEmpty then d1.taskFail m 6
    else (ps.foldl (fun d n => d.portSbr n) d1).taskOk m [((ps.filter (fun n => d.on (pEn n))).map (fun n => 2 ^ n)).sum]

/-- DRIVE_POWER on (R713). -/
def execDrivePowerOn (m : Nat) (s : State) : Out :=
  s.dv fun d => d.task m 0x22 (d.argF m 0 8 1 = 1) fun d =>
    let d1 := d.powerTask m
    if d.argF m 0 0 8 = 0 then d1.taskOk m
    else ((d1.setProg m 2).setFerry { (d1.setProg m 2).ferry with drvSet := d.argF m 0 0 8, drvQueue := drivePairs (d.argF m 0 0 8) }).taskDrives

/-- DRIVE_POWER off (R713): at once; the loss is logged. -/
def execDrivePowerOff (m : Nat) (s : State) : Out :=
  s.dv fun d => d.task m 0x22 (d.argF m 0 8 1 = 0) fun d =>
    let mask := d.argF m 0 0 8
    let d1 := (bitsSet 8 mask).foldl (fun d k => d.portPower (4 + k) false) (d.powerTask m)
    (if mask = 0 then d1 else d1.logAdd 2 0x0021 0xFF mask 0).taskOk m

/-! Firmware images -/

/-- Slot A or B. -/
def Dev.fw (s : Dev) (i : Nat) : FwSlot := if i = 0 then s.ferry.slotA else s.ferry.slotB
def Dev.setFw (s : Dev) (i : Nat) (x : FwSlot) : Dev := s.setFerry (if i = 0 then { s.ferry with slotA := x } else { s.ferry with slotB := x })
/-- The boot slot; the staging slot is the other (R722). -/
def Dev.bootSlot (s : Dev) : Nat := s.get (Fld.TASK_HELM_BOOT_SLOT 0)
def Dev.stageSlot (s : Dev) : Nat := 1 - s.bootSlot
def Dev.trial (s : Dev) : Bool := s.on (Fld.TASK_HELM_TRIAL 0)

/-- R872, R873: the header of an image that the Tollhouse accepts. -/
def Dev.imageOk (s : Dev) (bs : List Byte) : Option (Nat × Nat × Nat × Bool) :=
  match Config.imageHeader bs with
  | none => none
  | some h =>
    let signed := (List.range 4).any (fun k => s.tlhs.revoked / 2 ^ k % 2 = 0 && Config.imageSigned k bs)
    if signed && decide (s.tlhs.minSvn ≤ h.2.2.1) then some h else none

/-- Another master, or a PLDM session, owns the staging slot (R723): owner 1 the host, 2 the BMC, 3 PLDM. -/
def Dev.stageHeld (s : Dev) : Bool := s.ferry.stageOwner ≠ 0 && decide (s.tide < s.ferry.stageTide + 600000000000)

/-- BEGIN: the slot is erased. -/
def Dev.stageBegin (s : Dev) (owner len : Nat) : Dev :=
  (s.setFw s.stageSlot FwSlot.init).setFerry { (s.setFw s.stageSlot FwSlot.init).ferry with
    stageOwner := owner, stageLen := len, stageTide := s.tide, stageBytes := [], stageGot := [], stageLeft := 0, stageBad := false }

/-- FW_STAGE BEGIN (R723). -/
def execFwStageBegin (m : Nat) (s : State) : Out :=
  s.dv fun d => d.task m 0x30 (d.argF m 0 0 2 = 0) fun d =>
    if d.stageHeld then d.taskFail m 4 else (d.stageBegin (m + 1) (d.arg m 1)).taskFlash m 7

/-- One piece of the image in the host's memory or the device's: gathered, or asked for. -/
def Dev.stagePiece (s : Dev) (dst : Dest) (off len : Nat) : Dev :=
  let ask := fun (d : Dev) => d.setFerry { d.ferry with stageLeft := d.ferry.stageLeft + 1 }
  match dst with
  | .mem a => s.setFerry { s.ferry with
      stageGot := putBytes (fun _ => 0) s.ferry.stageGot off (s.bytes a len), stageBad := s.ferry.stageBad || s.poisoned a len }
  | .ap n a => ask (s.sendRead (.ap n a) len (.stage off))
  | .host f a ns =>
    if s.ideInsecure f then s.setFerry { s.ferry with stageBad := true }
    else (chunks (len + 1) s.mrrs a (List.replicate len 0)).foldl (fun s c => ask (s.sendRead (.host f c.1 ns) c.2.length (.stage (off + (c.1 - a))))) s

/-- The pieces of a DATA step of the host: a key or a translation that fails ends it. -/
def Dev.stagePieces (s : Dev) (key : Nat) : List (Nat × Nat) → Nat → Bool × Dev
  | [], _ => (true, s)
  | (off, len) :: t, at_ =>
    match s.keyedPiece (.loc 0) key off len 0 15 6 0 with
    | (.error _, s1) => (false, s1)
    | (.ok d, s1) => (s1.stagePiece d at_ len).stagePieces key t (at_ + len)

/-- The gathered bytes are programmed. -/
def Dev.stageProgram (s : Dev) (m : Nat) : Dev := if s.ferry.stageBad then s.taskFail m 5 else s.taskFlash m 8

/-- How many bytes a DATA step brings. -/
def Dev.stageCount (s : Dev) (m : Nat) : Nat := if m = 0 then s.argF m 4 0 21 else s.argF m 1 32 6

/-- FW_STAGE DATA (R723).  The host's bytes come from a berth-0 mooring; where links bring them, the row executes again. -/
def Dev.stageData (s : Dev) (m : Nat) : Dev :=
  let f := s.ferry
  let n := s.stageCount m
  if f.stageOwner ≠ m + 1 then s.taskFail m 4
  else if s.argF m 1 0 26 ≠ f.stageBytes.length || decide (f.stageLen < f.stageBytes.length + n) then s.taskFail m 2
  else
    let s1 := s.setFerry { f with stageGot := [], stageLeft := 0, stageBad := false }
    if m = 0 then
      let (ok, s2) := s1.stagePieces (s.argF m 2 0 32) (s.keyedPieces (s.argF m 2 0 32) (s.argF m 3 0 41) n) 0
      if !ok then s2.taskFail m 5
      else if s2.ferry.stageLeft = 0 then s2.stageProgram m else s2.setProg m 2
    else
      let bs := ((List.range 6).flatMap (fun i => leBytes 8 (s.arg m (2 + i)))).take n
      (s1.setFerry { s1.ferry with stageGot := putBytes (fun _ => 0) [] 0 bs }).stageProgram m

def execFwStageData (m : Nat) (s : State) : Out :=
  s.dv fun d =>
    if decide (m < 2) && d.taskBusy m && !d.on (Fld.TASK_STATE_HELM_DOWN m) && d.taskOp m = 0x30 && d.argF m 0 0 2 = 1 && d.prog m = 2
      && d.flashOf m = 0 && d.ferry.stageLeft = 0 then d.stageProgram m
    else d.task m 0x30 (d.argF m 0 0 2 = 1) fun d => d.stageData m

/-- END (R723, R872): verification of the staged image. -/
def Dev.stageEnd (s : Dev) : Option (Nat × Nat) × Dev :=
  let bs := s.ferry.stageBytes
  match (if bs.length = s.ferry.stageLen then s.imageOk bs else none) with
  | some (ver, abi, svn, live) =>
    (some (ver, abi), (s.setFw s.stageSlot ⟨true, true, ver, abi, svn, live, bs⟩).logAdd 1 0x0010 0xFF ver s.ferry.stageOwner)
  | none => (none, s.setFw s.stageSlot FwSlot.init)

/-- FW_STAGE END. -/
def execFwStageEnd (m : Nat) (s : State) : Out :=
  s.dv fun d => d.task m 0x30 (d.argF m 0 0 2 = 2) fun d =>
    if d.ferry.stageOwner ≠ m + 1 then d.taskFail m 4
    else match d.stageEnd with
      | (some (v, a), d1) => d1.taskOk m [v, a]
      | (none, d1) => d1.taskFail m 7

/-- The staging owner lets go. -/
def Dev.stageRelease (s : Dev) : Dev := s.setFerry { s.ferry with stageOwner := 0, stageLen := 0, stageBytes := [], stageGot := [], stageLeft := 0 }

/-- FW_STAGE CANCEL (R723). -/
def execFwStageCancel (m : Nat) (s : State) : Out :=
  s.dv fun d => d.task m 0x30 (d.argF m 0 0 2 = 3) fun d =>
    if d.ferry.stageOwner ≠ m + 1 then d.taskFail m 4 else ((d.setFw d.stageSlot FwSlot.init).stageRelease).taskOk m

/-- The staged slot becomes the boot slot in TRIAL; the staging is over. -/
def Dev.activate (s : Dev) (when_ : Nat) : Dev :=
  let slot := s.stageSlot
  let s1 := (s.stageRelease.helmPut Fld.TASK_HELM_BOOT_SLOT slot).helmPut Fld.TASK_HELM_TRIAL 1
  (s1.setFerry { s1.ferry with trialStarts := 0 }).logAdd 2 0x0011 0xFF slot when_

/-- R790: an activation in recovery restarts the Slipway at station 2. -/
def Dev.leaveRecovery (s : Dev) : Dev :=
  if s.slip.recovery then (s.setSlip { s.slip with recovery := false, stationStart := s.tide }).put Fld.IDENT_BOOT_STATION 2 else s

/-- FW_ACTIVATE NEXT_RESET (R725). -/
def execFwActivateNextReset (m : Nat) (s : State) : Out :=
  s.dv fun d => d.task m 0x31 (d.arg m 0 = 0) fun d =>
    if !(d.fw d.stageSlot).staged then d.taskFail m 5 else (d.activate 0).leaveRecovery.taskOk m

/-- R725, R872, R875: why HELM_NOW ends at once; 0 where it does not. -/
def Dev.helmNowCause (s : Dev) : Nat :=
  let x := s.fw s.stageSlot
  if !x.staged then 5
  else if !x.helmLive || x.abi ≠ getBits (s.reg Reg.IDENT_FW_ABI) 0 32 then 8
  else if (s.imageOk x.bytes).isNone then 7 else 0

/-- HELM_NOW: the helm restarts on the new image; `who` is the activating set plus 1, 3 a PLDM session. -/
def Dev.helmNow (s : Dev) (who : Nat) : Dev :=
  let s1 := s.activate 1
  (s1.setFerry { s1.ferry with helmTask := who }).helmDown 3

/-- FW_ACTIVATE HELM_NOW (R725, R875). -/
def execFwActivateHelmNow (m : Nat) (s : State) : Out :=
  s.dv fun d => d.task m 0x31 (d.arg m 0 = 1) fun d =>
    if d.helmNowCause ≠ 0 then d.taskFail m d.helmNowCause else (d.setProg m 2).helmNow (m + 1)

/-- FW_ACTIVATE CONFIRM (R725, R873). -/
def execFwActivateConfirm (m : Nat) (s : State) : Out :=
  s.dv fun d => d.task m 0x31 (d.arg m 0 = 2) fun d =>
    if !d.trial then d.taskOk m
    else
      let d1 := d.helmPut Fld.TASK_HELM_TRIAL 0
      let svn := (d1.fw d1.bootSlot).svn
      let d2 := if d1.tlhs.minSvn < svn ∧ d1.tlhs.advances < 63 then
          (({ d1 with tlhs := { d1.tlhs with minSvn := svn, advances := d1.tlhs.advances + 1 } }.put Fld.TLH_STATUS_MIN_SVN svn).logAdd
            2 0x0504 0xFF svn (d1.tlhs.advances + 1))
        else d1
      (d2.logAdd 1 0x0012 0xFF d2.bootSlot 0).taskOk m

/-- FW_ACTIVATE REVERT (R725, R873). -/
def execFwActivateRevert (m : Nat) (s : State) : Out :=
  s.dv fun d => d.task m 0x31 (d.arg m 0 = 4) fun d =>
    let slot := 1 - d.bootSlot
    if !(d.fw slot).valid || decide ((d.fw slot).svn < d.tlhs.minSvn) then d.taskFail m 5
    else
      (((d.helmPut Fld.TASK_HELM_BOOT_SLOT slot).helmPut Fld.TASK_HELM_TRIAL 0).logAdd 4 0x0013 0xFF slot 3).leaveRecovery.taskOk m

/-- FW_STATUS. -/
def execFwStatus (m : Nat) (s : State) : Out :=
  s.dv fun d => d.task m 0x32 true fun d =>
    d.taskOk m
      [pack [(0, 1, d.ferry.running), (1, 1, d.bootSlot), (2, 1, bnat d.trial), (3, 1, bnat (d.fw d.stageSlot).staged), (4, 2, d.ferry.stageOwner)],
        d.ferry.slotA.version, d.ferry.slotB.version, d.ferry.stageBytes.length, getBits (d.reg Reg.IDENT_FW_ABI) 0 32]

/-- SPI_FLASH_OPERATION_DONE (R738): what set m's task waits for is over; `cs` is the chip select of a failed write. -/
def Dev.flashDone (s : Dev) (m : Nat) (ok : Bool) (cs : Nat) : Dev :=
  let w := s.flashOf m
  if w = 0 || !s.taskBusy m || s.on (Fld.TASK_STATE_HELM_DOWN m) then s
  else if 7 ≤ w then
    if !ok then s.taskFail m 5
    else if w = 7 then s.taskOk m
    else
      let n := s.stageCount m
      (s.setFerry { s.ferry with
        stageBytes := s.ferry.stageBytes ++ (List.range n).map (fun i => tget (fun _ => 0) s.ferry.stageGot i), stageGot := [] }).taskOk m
  else
    let key := min w 5
    if ok then (s.storeKeep key).taskOk m
    else (s.logAdd 4 0x0040 0xFF cs 0).taskFail m 5 (if key = 5 then 9 else 0)

def execSpiFlashOperationDone (m : Nat) (ok : Bool) (cs : Nat) (s : State) : Out := s.dv fun d => if m < 2 then d.flashDone m ok cs else d

/-! Autonomous helm -/

/-- The Tide time at which both silence timers have run out (R714). -/
def Dev.silenceEnd (s : Dev) : Nat := max s.ferry.lastGo0 s.ferry.lastGo1 + s.get (Fld.TASK_HELM_SILENCE_S 0) * 1000000000

/-- AUTONOMY_ENTER (R714). -/
def Dev.autonomy (s0 : Dev) : Dev :=
  if s0.on (Fld.TASK_HELM_AUTONOMOUS 0) || s0.on (Fld.TASK_STATE_HELM_DOWN 0) then s0
  else
    let s := s0.at s0.silenceEnd
    let cap := curveCap s.ferry.autoTable (s.chanTemp s.ferry.tempCh)
    let s1 := (((s.helmPut Fld.TASK_HELM_AUTONOMOUS 1).put Fld.IDENT_TRAY_HELM_AUTONOMOUS 1).put Fld.PWR_CAPS_AUTO_W cap).setFerry
      { s.ferry with autoSince := s.tide + 1, restarts := [] }
    (s1.logAdd 3 0x0002 0xFF cap
      (pack [(0, 32, (s.tide - s.ferry.lastGo0) / 1000000000), (32, 32, (s.tide - s.ferry.lastGo1) / 1000000000)])).updateCap

def execAutonomyEnter (s : State) : Out := s.dv Dev.autonomy

/-- AUTO_RESTART (R715): 10 s after a containment with cause 6; the power-on keeps STAGGER_PLAN (R714). -/
def Dev.autoRestart (s0 : Dev) (p : Nat) : Dev :=
  let since := tget (fun _ => 0) s0.ferry.contained6 p
  let n := tget (fun _ => 0) s0.ferry.restarts p
  if !s0.on (Fld.TASK_HELM_AUTONOMOUS 0) || !s0.ferry.restartEn || since = 0 || decide (3 ≤ n) || s0.starter p ≠ 0 || s0.get (pState p) ≠ 4 then s0
  else
    let s := s0.at (since - 1 + 10000000000)
    let s1 := (s.setFerry { s.ferry with
      contained6 := tdel p s.ferry.contained6, restarts := tput (fun _ => 0) s.ferry.restarts p (n + 1) }).logAdd 3 0x0005 0xFF p (n + 1)
    let busy := s1.gapAt 4 ≠ 0 || (List.range 4).any (fun q => s1.starter q = 3)
    if busy then s1.setSlip { s1.slip with accelWait := s1.slip.accelWait ++ [p] }
    else (s1.setSlip { s1.slip with accelGap := s1.slip.plan.getD 0 250 }).autoPort [p]

def execAutoRestart (p : Nat) (s : State) : Out := s.dv fun d => if p < 4 then d.autoRestart p else d

/-! The helm (R701, R708, R726) -/

/-- HELM_LOCKSTEP_MISMATCH (R701). -/
def Dev.lockstep (s : Dev) : Dev :=
  if s.on (Fld.TASK_STATE_HELM_DOWN 0) then s
  else (((s.logAdd 5 0x0001 0xFF 1 (s.fw s.ferry.running).version).classified 0x0617 0 0xFF 0)).helmDown 1

def execHelmLockstepMismatch (s : State) : Out := s.dv Dev.lockstep

/-- R726: the previous slot is the boot slot again: 1 watchdog, 2 boot count. -/
def Dev.rollback (s : Dev) (why : Nat) : Dev :=
  let slot := 1 - s.bootSlot
  let s1 := (s.helmPut Fld.TASK_HELM_BOOT_SLOT slot).helmPut Fld.TASK_HELM_TRIAL 0
  (s1.setFerry { s1.ferry with trialStarts := 0 }).logAdd 4 0x0013 0xFF slot why

/-- HELM_WATCHDOG (R726). -/
def Dev.watchdog (s : Dev) : Dev :=
  if s.on (Fld.TASK_STATE_HELM_DOWN 0) then s
  else
    let s1 := s.logAdd 5 0x0001 0xFF 2 (s.fw s.ferry.running).version
    (if s1.trial then s1.rollback 1 else s1).helmDown 2

def execHelmWatchdog (s : State) : Out := s.dv Dev.watchdog

/-- A task a helm restart interrupted ends HELM_RESTART (R708); what it had queued goes no further. -/
def Dev.helmEnds (s : Dev) (m : Nat) : Dev :=
  if !s.taskBusy m then s
  else
    let s1 := if m = 1 then
        ((s.setFerry { s.ferry with accQueue := [], drvQueue := [] }).setGap 2 0).setGap 3 0
      else if s.vltState = 5 then ({ s with vlt := { s.vlt with rphase := 0 } }.put Fld.VLT_STATUS_STATE 1).vltSync
      else s
    s1.taskFail m 9

/-- HELM_RESTART_DONE (R708, R725, R806): the helm is back; `ok`: on the image of the boot slot, where it was to change. -/
def Dev.helmBack (s : Dev) (ok : Bool) : Dev :=
  let why := s.ferry.helmWhy
  let who := s.ferry.helmTask
  if why = 0 || why = 4 then s
  else
    let s0 := (s.helmPut Fld.TASK_STATE_HELM_DOWN 0).setFerry { s.ferry with helmWhy := 0, helmTask := 0 }
    let s1 := s0.endSessions (fun _ => true)
    let moved := ok && (why = 3 || (why = 2 && s1.bootSlot ≠ s1.ferry.running))
    let s2 := if moved then
        let s' := s1.setFerry { s1.ferry with running := s1.bootSlot }
        { s' with tlhs := { s'.tlhs with helm := Config.sha384 (s'.fw s'.bootSlot).bytes } }
      else s1
    let s3 := if why = 3 then s2.logAdd 5 0x0001 0xFF 3 (s2.fw s2.ferry.running).version else s2
    let s4 := if ok && why = 3 && (who = 1 || who = 2) then s3.taskOk (who - 1) else s3
    (s4.helmEnds 0).helmEnds 1

def execHelmRestartDone (ok : Bool) (s : State) : Out := s.dv (·.helmBack ok)

/-! MCTP and PLDM (R727, R728) -/

/-- An answer on a binding: kind 0 MCTP control, 2 PLDM monitoring, 3 PLDM firmware update, 4 Gledrex task message. -/
def Dev.mctpAnswer (s : Dev) (binding kind : Nat) (bs : List Byte) : Dev := s.emit .mctp [binding, kind] bs

def bytes8 (l : List Nat) : List Byte := l.map (BitVec.ofNat 8)

/-- MCTP_CONTROL_MESSAGE (R727): command and its EID. -/
def execMctpControlMessage (binding cmd eid : Nat) (s : State) : Out :=
  s.dv fun d =>
    if 2 ≤ binding then d
    else
      let have_ := tget (fun _ => 0) d.ferry.eid binding
      match cmd with
      | 1 =>
        if eid = 0 ∨ 255 ≤ eid then d.mctpAnswer binding 0 (bytes8 [1, 2])
        else (d.setFerry { d.ferry with eid := tput (fun _ => 0) d.ferry.eid binding eid }).mctpAnswer binding 0 (bytes8 [1, 0, 0, eid, 0])
      | 2 => d.mctpAnswer binding 0 (bytes8 [2, 0, have_, 0, 0])
      | 4 => d.mctpAnswer binding 0 (bytes8 [4, 0, 1, 0xF1, 0xF3, 0xF1, 0])
      | 5 => d.mctpAnswer binding 0 (bytes8 [5, 0, 4, 0, 1, 5, 0x7E])
      | c => d.mctpAnswer binding 0 (bytes8 [c, 5])

/-- PLDM_SENSOR_READ (R728, R757): a numeric sensor by its ID, or the state sensor of HELM_AUTONOMOUS.  The answer names the
completion code, the operational state (0 enabled, 1 unavailable) and the latest normalized value. -/
def execPldmSensorRead (binding id : Nat) (state : Bool) (s : State) : Out :=
  s.dv fun d =>
    if 2 ≤ binding then d
    else if state then d.mctpAnswer binding 2 (bytes8 [0, 0, if d.on (Fld.TASK_HELM_AUTONOMOUS 0) then 2 else 1])
    else if id < 0x100 ∨ 0x11D < id then d.mctpAnswer binding 2 (bytes8 [0x80])
    else
      let ch := id - 0x100
      match d.gaugeN ch with
      | some n =>
        if d.on (Fld.GAU_CFG_EN ch) && decide (d.gaugeAge ch ≤ 1000000000) then d.mctpAnswer binding 2 (bytes8 [0, 0] ++ leBytes 4 (toField 32 n))
        else d.mctpAnswer binding 2 (bytes8 [0, 1, 0, 0, 0, 0])
      | none => d.mctpAnswer binding 2 (bytes8 [0, 1, 0, 0, 0, 0])

/-- PLDM_REQUEST_FIRMWARE_DATA (R723, R724): bytes of an image of `total` bytes at an offset.  The first transfer begins the
session, the last one ends it with verification. -/
def execPldmRequestFirmwareData (off total : Nat) (data : List Byte) (s : State) : Out :=
  s.dv fun d =>
    if off = 0 && d.ferry.stageOwner ≠ 3 && d.stageHeld || decide (0x2000000 < total) || decide (1024 < data.length) then d.mctpAnswer 0 3 (bytes8 [4])
    else
      let d1 := if off = 0 then d.stageBegin 3 total else d
      if d1.ferry.stageOwner ≠ 3 || d1.ferry.stageBytes.length ≠ off || decide (total < off + data.length) then d.mctpAnswer 0 3 (bytes8 [2])
      else
        let d2 := d1.setFerry { d1.ferry with stageBytes := d1.ferry.stageBytes ++ data, stageTide := d1.tide }
        if off + data.length = total then
          match d2.stageEnd with
          | (some _, d3) => d3.mctpAnswer 0 3 (bytes8 [0])
          | (none, d3) => d3.mctpAnswer 0 3 (bytes8 [7])
        else d2.mctpAnswer 0 3 (bytes8 [0])

/-- PLDM_ACTIVATE_FIRMWARE (R724, R875). -/
def execPldmActivateFirmware (selfContained : Bool) (s : State) : Out :=
  s.dv fun d =>
    if d.ferry.stageOwner ≠ 3 || !(d.fw d.stageSlot).staged || d.on (Fld.TASK_STATE_HELM_DOWN 0) then d.mctpAnswer 0 3 (bytes8 [5])
    else if selfContained && (d.fw d.stageSlot).helmLive then
      (if d.helmNowCause = 0 then (d.helmNow 3).mctpAnswer 0 3 (bytes8 [0]) else d.mctpAnswer 0 3 (bytes8 [d.helmNowCause]))
    else (d.activate 0).leaveRecovery.mctpAnswer 0 3 (bytes8 [0])

end Sys2Proof.Machine
end

