-- ==== Sys2Proof/Machine/Vault.lean ====
section
/-! DEFINITION. The Tide Vault's tasks, drain and restore (spec/24): what begins a drain, and hard off, are the Slipway's. -/

namespace Sys2Proof.Machine

def Dev.setVlt (s : Dev) (v : VltS) : Dev := { s with vlt := v }
/-- VAULT_CONFIG is the host's task, of set m. -/
def Dev.vaultTask (s : Dev) (m action : Nat) (f : Dev → Dev) : Dev := s.task m 0x50 (s.argF m 0 0 3 = action) f

/-! Configuration (R845, R846) -/

/-- Table 24.6: why SET of a configuration fails; 0 where it does not. -/
def Dev.setCause (s : Dev) (set slot limit lba : Nat) : Nat :=
  let ds := bitsSet 8 set
  let area := (lba, 512 * slot)
  if 3 ≤ s.vltState || s.vlt.armed then 1
  else if ds.any (fun k => decide (s.get (Fld.STO_DRV_SIZE_BLOCKS k) < area.1 + area.2)
      || s.vols.any (fun v => !s.volRemote v && (s.volSet v).contains k && overlap (s.volExtent v) area)) then 2
  else if ds.length * (slot - 1) < limit + 4 then 3
  else if limit < s.get Fld.VLT_USED_USED_MIB then 4
  else 0

/-- VAULT_SET. -/
def execVaultSet (m : Nat) (s : State) : Out :=
  s.dv fun d => d.vaultTask m 0 fun d =>
    let set := d.argF m 1 0 8
    let slot := d.argF m 1 16 16
    let limit := d.argF m 1 32 14
    let lba := d.argF m 2 0 36
    let c := d.setCause set slot limit lba
    if c ≠ 0 then d.taskFail m 5 c
    else
      let d1 := ((((d.put Fld.VLT_STATUS_DRIVE_SET set).put Fld.VLT_AREA_SLOT_MIB slot).put Fld.VLT_USED_LIMIT_MIB limit).put
        Fld.VLT_AREA_VAULT_LBA lba).put Fld.VLT_STATUS_CFG_OK 1
      ((d1.setVlt { d1.vlt with ids := (bitsSet 8 set).map (fun k => d1.reg (Reg.STO_DRV_ID k)) }).vltSync).taskFlash m 5

/-! Headers (Table 24.4, R838) -/

/-- Words of a header copy. -/
def headWords (bs : List Byte) : List Word := toWords 26 bs

/-- The seal over words 0 to 19. -/
def Dev.sealOf (s : Dev) (bs : List Byte) : List Byte := Config.hmac384 (Config.derivedKey 2 s.tlhs.debugOpen) (bs.take 160)

/-- A slot share is valid. -/
def Dev.headValid (s : Dev) (bs : List Byte) : Bool :=
  wf (headWords bs) 0 0 32 = 0x564C5431 && wf (headWords bs) 0 32 8 = 1 && s.sealOf bs = ((bs.drop 160).take 48)

/-- The header of drive position p in a slot: `heads` holds the copies read, slot A then slot B of each position. -/
def headOf (heads : List (List Byte)) (slot p : Nat) : List Byte := heads.getD (2 * p + slot) []

/-- Words 0 to 19 without DRIVE_POS. -/
def headCommon (bs : List Byte) : List Word := ((headWords bs).take 20).modify 0 (fun w => setBits w 41 3 0)

/-- R838: a slot is sealed. -/
def Dev.slotSealed (s : Dev) (heads : List (List Byte)) (slot : Nat) : Bool :=
  let ds := s.vltDrives
  let ref := headCommon (headOf heads slot 0)
  !ds.isEmpty && (List.range ds.length).all (fun p =>
    let h := headOf heads slot p
    s.headValid h && headCommon h = ref && wf (headWords h) 0 41 3 = p && wordAt (headWords h) (6 + p) = s.reg (Reg.STO_DRV_ID (ds.getD p 0)))

/-- The sealed slot with the highest SEQ, and its header words. -/
def Dev.bestSlot (s : Dev) (heads : List (List Byte)) : Option (Nat × List Word) :=
  let a := headWords (headOf heads 0 0)
  let b := headWords (headOf heads 1 0)
  let okA := s.slotSealed heads 0
  let okB := s.slotSealed heads 1
  if okA && okB then (if wf a 1 0 64 < wf b 1 0 64 then some (1, b) else some (0, a))
  else if okA then some (0, a) else if okB then some (1, b) else none

/-- VAULT_ARM (R827): next slot and SEQ from the headers. -/
def execVaultArm (m : Nat) (heads : List (List Byte)) (s : State) : Out :=
  s.dv fun d => d.vaultTask m 1 fun d =>
    if d.on Fld.VLT_STATUS_PENDING then d.taskFail m 5 5
    else
      let d1 := if 3 ≤ d.vltState then d
        else match d.bestSlot heads with
          | some (slot, h) =>
            ((d.put Fld.VLT_STATUS_NEXT_SLOT (1 - slot)).put Fld.VLT_SEQ_SEQ (wf h 1 0 64)).setVlt { d.vlt with nextSeq := wf h 1 0 64 + 1 }
          | none => ((d.put Fld.VLT_STATUS_NEXT_SLOT 0).put Fld.VLT_SEQ_SEQ 0).setVlt { d.vlt with nextSeq := 1 }
      ((d1.setVlt { d1.vlt with armed := true }).vltSync).taskOk m [d1.vlt.nextSeq]

/-- VAULT_DISARM (R824). -/
def execVaultDisarm (m : Nat) (s : State) : Out :=
  s.dv fun d => d.vaultTask m 2 fun d => ((d.setVlt { d.vlt with armed := false }).vltSync).taskOk m

/-- VAULT_DISCARD (R841). -/
def execVaultDiscard (m : Nat) (s : State) : Out :=
  s.dv fun d => d.vaultTask m 4 fun d =>
    let d1 := if d.on Fld.VLT_STATUS_PENDING then (d.put Fld.VLT_STATUS_PENDING 0).logAdd 3 0x0408 0xFF (d.get Fld.VLT_SEQ_SEQ) 0 else d
    d1.vltSync.taskFlash m 6

/-- VAULT_STATUS (Table 24.5). -/
def execVaultStatus (m : Nat) (s : State) : Out :=
  s.dv fun d => d.task m 0x51 true fun d =>
    d.taskOk m [(d.reg Reg.VLT_STATUS).toNat, (d.reg Reg.VLT_SEQ).toNat, (d.reg Reg.VLT_USED).toNat, (d.reg Reg.VLT_LAST).toNat,
      (d.reg Reg.VLT_AREA).toNat]

/-! The drain -/

/-- R831: a vault drive that is not in power state 0, and is not on its way there, is called back. -/
def Dev.vltWake (s : Dev) (k : Nat) : Dev :=
  if s.on (Fld.STO_DRV_PM_CUR_PS k) && (s.drv k).phase = 0 then s.setPs k 0 2 else s

/-- Steps 1 to 3 of the route. -/
def Dev.drainBegin (s : Dev) : Dev :=
  let es := s.extents []
  let s1 := s.setVlt { s.vlt with
    start := s.tide, freeze := s.tide, ext := es, seq := s.vlt.nextSeq, phase := 1, next := List.range s.vltDrives.length, out := [], copied := [] }
  let s2 := ((s1.put Fld.VLT_STATUS_STATE 3).put Fld.VLT_FREEZE_TIDE s.tide).logAdd 3 0x0402 0xFF s1.vlt.seq (vltBytes es)
  (s2.vltDrives.foldl Dev.vltWake (s2.setLevel 32)).vltIssue

/-- R835: resume. -/
def Dev.vltResume (s : Dev) : Dev :=
  let seq := s.vlt.seq
  let s1 := ((s.put Fld.VLT_STATUS_PENDING 0).put Fld.VLT_STATUS_NEXT_SLOT (1 - s.get Fld.VLT_STATUS_NEXT_SLOT)).put Fld.VLT_STATUS_STATE 1
  let s2 := s1.setVlt { s1.vlt with phase := 0, nextSeq := seq + 1, ext := [], copied := [], next := [] }
  ((s2.storeKeep 5).vltRelease.logAdd 2 0x0405 0xFF seq 0).vltSync

/-- VAULT_WRITE_COMPLETE (R830): a write of drive k is over. -/
def Dev.vltWritten (s : Dev) (k : Nat) (ok : Bool) : Dev :=
  let p := s.vltDrives.findIdx (· = k)
  if s.vlt.phase ≠ 1 || !s.vlt.out.any (fun o => o.1 = p) then s
  else if !ok then s.vltDriveFails k
  else (s.setVlt { s.vlt with out := s.vlt.out.filter (fun o => o.1 ≠ p) }).vltIssue

def execVaultWriteComplete (k : Nat) (ok : Bool) (s : State) : Out := s.dv (·.vltWritten k ok)

/-- Table 24.4: the header copy of a drive position. -/
def Dev.vltHeader (s : Dev) (p : Nat) : List Byte :=
  let v := s.vlt
  let w0 := packW [(0, 32, 0x564C5431), (32, 8, 1), (40, 1, s.get Fld.VLT_STATUS_NEXT_SLOT), (41, 3, p), (44, 4, s.vltDrives.length)]
  let ws := [w0, BitVec.ofNat 64 v.seq, BitVec.ofNat 64 v.freeze, BitVec.ofNat 64 (vltBytes v.ext),
    packW [(0, 32, v.ext.length), (32, 32, vltChunks v.ext)], 0] ++ (List.range 8).map (fun i => v.ids.getD i 0)
  let body := wordBytes ws ++ (Config.sha384 v.chunkTable).take 48
  let h := body ++ s.sealOf body
  h ++ List.replicate (4096 - h.length) 0

/-- VAULT_FLUSH_COMPLETE (step 5): every drive has flushed, or drive k failed. -/
def Dev.vltFlushed (s : Dev) (k : Nat) (ok : Bool) : Dev :=
  if s.vlt.phase ≠ 2 then s
  else if !ok then s.vltDriveFails k
  else
    let lba := s.vltSlotLba (s.get Fld.VLT_STATUS_NEXT_SLOT)
    (List.range s.vltDrives.length).foldl (fun s p => s.vltCmd (s.vltDrives.getD p 0) (2 ^ 31 + 1) 1 lba 1 1 (s.vltHeader p))
      (s.setVlt { s.vlt with phase := 3 })

def execVaultFlushComplete (k : Nat) (ok : Bool) (s : State) : Out := s.dv (·.vltFlushed k ok)

/-- VAULT_SEAL_COMPLETE (R833): every header copy is written, or drive k failed. -/
def Dev.vltSealed (s : Dev) (k : Nat) (ok : Bool) : Dev :=
  if s.vlt.phase ≠ 3 then s
  else if !ok then s.vltDriveFails k
  else
    let s1 := ((s.vltLast 1 0).put Fld.VLT_SEQ_SEQ s.vlt.seq).put Fld.VLT_STATUS_PENDING 1
    let s2 := (s1.put Fld.VLT_STATUS_STATE 4).setVlt { s1.vlt with phase := 4 }
    let s3 := (s2.storeKeep 5).logAdd 2 0x0403 0xFF s.vlt.seq ((s.tide - s.vlt.start) / 1000)
    if !s3.slip.mainPg then s3.hardOff s3.vlt.seq
    else if s3.slip.believed then s3.vltResume else s3

def execVaultSealComplete (k : Nat) (ok : Bool) (s : State) : Out := s.dv (·.vltSealed k ok)

/-! Restore (R838 to R842) -/

/-- Image bytes, extents and chunks the header gives. -/
def VltS.rBytes (v : VltS) : Nat := wf v.rhead 3 0 64
def VltS.rExtents (v : VltS) : Nat := wf v.rhead 4 0 32
def VltS.rChunks (v : VltS) : Nat := wf v.rhead 4 32 32

/-- A unit of the image is read from its drive. -/
def Dev.restoreAsk (s : Dev) : Dev :=
  let v := s.vlt
  let n := max 1 s.vltDrives.length
  let left := v.rBytes - v.runit * vltUnitSize
  s.vltCmd (s.vltDrives.getD (v.runit % n) 0) v.runit 2 (s.vltSlotLba v.rslot + 256 + v.runit / n * 32) (min 32 ((left + 4095) / 4096)) 0 []

/-- The restore is over. -/
def Dev.restoreEnd (s : Dev) : Dev :=
  ((s.setVlt { s.vlt with rphase := 0, rgot := [], rtable := [], rext := [] }).put Fld.VLT_STATUS_STATE 1).vltSync

/-- R840: it ends FAILED. -/
def Dev.restoreFail (s : Dev) : Dev := s.restoreEnd.taskFail 0 5 8

/-- R840: the image is verified and written back. -/
def Dev.restoreDone (s : Dev) : Dev :=
  let v := s.vlt
  let s1 := ((s.put Fld.VLT_STATUS_PENDING 0).storeKeep 5).logAdd 2 0x0407 0xFF (wf v.rhead 1 0 64) v.rExtents
  s1.restoreEnd.taskOk 0 [wf v.rhead 1 0 64, v.rBytes, v.rExtents]

/-- The records of an extent table (Table 24.3). -/
def extRecords : Nat → List Byte → List VltExt
  | 0, _ => []
  | n + 1, bs =>
    let w := toWords 4 bs
    ⟨wf w 0 0 48, wf w 1 0 41, wf w 2 0 8, wf w 2 8 24, wf w 2 32 8, wf w 3 0 48⟩ :: extRecords n (bs.drop 32)

/-- Bytes written under a key of berth 0 (R839). -/
def Dev.restorePieces (s : Dev) (key : Nat) : List (Nat × Nat) → List Byte → Bool × Dev
  | [], _ => (true, s)
  | (off, len) :: t, bs =>
    match s.keyedPiece (.loc 0) key off len 1 15 6 0 with
    | (.error _, s1) => (false, s1)
    | (.ok d, s1) => (s1.writeDest d (bs.take len) true false).restorePieces key t (bs.drop len)

/-- A granule of the contents goes back to its DPA (R829). -/
def Dev.restoreGranule (s : Dev) (o : Nat) (bs : List Byte) : Dev :=
  match extAt s.vlt.rext o with
  | none => s
  | some a => if bs = poisonBytes then s.writeMem a bs true else s.writeMem a bs

/-- A verified chunk: a part of the extent table, or contents. -/
def Dev.restoreChunk (s : Dev) (c : Nat) (bs : List Byte) : Bool × Dev :=
  let v := s.vlt
  let tab := roundUp (32 * v.rExtents) mib
  let o := c * mib
  if o < tab then
    let n := min mib (32 * v.rExtents - o)
    let s1 := s.setVlt { v with rext := v.rext ++ extRecords (n / 32) bs }
    s1.restorePieces v.rkey (s1.keyedPieces v.rkey (v.roff + o) n) (bs.take n)
  else (true, (List.range (mib / 64)).foldl (fun s i => s.restoreGranule (o - tab + 64 * i) ((bs.drop (64 * i)).take 64)) s)

/-- The next part of a restore: the chunk table is complete, or a chunk is. -/
def Dev.restoreStep (s : Dev) : Dev :=
  let v := s.vlt
  let chunks := v.rChunks
  if v.rphase = 1 then
    if v.runit * vltUnitSize < v.rBytes then s.restoreAsk
    else
      let table := v.rgot.take (48 * chunks)
      if Config.sha384 table ≠ wordBytes ((v.rhead.drop 14).take 6) then s.restoreFail
      else
        let s1 := s.setVlt { v with rphase := 2, runit := 0, rgot := [], rtable := table }
        if chunks = 0 then s1.restoreDone else s1.restoreAsk
  else if v.runit % 8 ≠ 0 then s.restoreAsk
  else
    let c := v.runit / 8 - 1
    if Config.sha384 v.rgot ≠ (v.rtable.drop (48 * c)).take 48 then s.restoreFail
    else
      let (ok, s1) := s.restoreChunk c v.rgot
      let s2 := s1.setVlt { s1.vlt with rgot := [] }
      if !ok then s2.restoreFail else if chunks ≤ c + 1 then s2.restoreDone else s2.restoreAsk

/-- RESTORE_READ_COMPLETE (R840, R842): a read from drive k is over. -/
def Dev.restoreRead (s : Dev) (k : Nat) (ok : Bool) (data : List Byte) : Dev :=
  let v := s.vlt
  if v.rphase = 0 || s.vltState ≠ 5 || s.vltDrives.getD (v.runit % max 1 s.vltDrives.length) 8 ≠ k then s
  else if !ok then s.restoreFail
  else
    let bs := s.vltCrypt (wf v.rhead 1 0 64) (v.runit * vltUnitSize) false data
    (s.setVlt { v with runit := v.runit + 1, rgot := v.rgot ++ bs }).restoreStep

def execRestoreReadComplete (k : Nat) (ok : Bool) (data : List Byte) (s : State) : Out := s.dv (·.restoreRead k ok data)

/-- VAULT_RESTORE (R839): `heads` as ARM reads them. -/
def execVaultRestore (m : Nat) (heads : List (List Byte)) (s : State) : Out :=
  s.dv fun d => d.vaultTask m 3 fun d =>
    if (List.range 128).any (fun b => d.get (Fld.BPLAN_CTRL_STATE (b + 1)) ≠ 0) || !d.on Fld.VLT_STATUS_PENDING || decide (3 ≤ d.vltState) then d.taskFail m 5 6
    else if !d.vltDrivesOk then d.taskFail m 6 7
    else match d.bestSlot heads with
      | none => d.taskFail m 5 7
      | some (slot, h) =>
        let d1 := (d.setProg m 2).put Fld.VLT_STATUS_STATE 5
        (d1.setVlt { d1.vlt with
          rphase := 1, rslot := slot, rhead := h, runit := 8 * wf h 4 32 32, rgot := [], rtable := [], rext := []
          rkey := d.argF m 1 0 32, roff := d.argF m 2 0 41 }).restoreStep

end Sys2Proof.Machine
end

