-- ==== Sys2Proof/Machine/Slipway.lean ====
section
/-! DEFINITION. The Slipway (spec/23): cold start, the stations, the staggered starts, the fundamental reset, main power and the
backup cell (spec/24), the thermal trip (R780). -/

namespace Sys2Proof.Machine

/-! Cold start -/

/-- The settings the persistent store keeps are in force again (R711, R847), as station 1 reads the store. -/
def Dev.storeLoad (s : Dev) : Dev :=
  let st := fun k => tget (fun _ => ([] : List Nat)) s.ferry.stored k
  let s1 := match st 1 with
    | sil :: en :: ch :: es =>
      (s.helmPut Fld.TASK_HELM_SILENCE_S sil).setFerry { s.ferry with restartEn := en = 1, tempCh := ch, autoTable := unpackEntries es }
    | _ => s
  let s2 := match st 2 with
    | b :: es => { s1 with power := { s1.power with thermBrake := b, curve := unpackEntries es } }
    | _ => s1
  let s3 := match st 3 with
    | [] => s2
    | p => s2.setSlip { s2.slip with plan := p }
  let s4 := match st 4 with
    | [e, n, r] => s3.setCan { s3.can with enabled := e = 1, nominal := n, dataRate := r }
    | _ => s3
  match st 5 with
  | set :: slot :: limit :: lba :: pend :: ids =>
    let d := ((((s4.put Fld.VLT_STATUS_DRIVE_SET set).put Fld.VLT_AREA_SLOT_MIB slot).put Fld.VLT_USED_LIMIT_MIB limit).put
      Fld.VLT_AREA_VAULT_LBA lba).put Fld.VLT_STATUS_PENDING pend
    ((d.put Fld.VLT_STATUS_CFG_OK 1).setVlt { d.vlt with ids := ids.map (BitVec.ofNat 64) }).vltSync
  | _ => s4

/-- R789, R539, Table 23.6: a cold start.  What the pins show, what the flash holds and what the fuses hold stay; everything else takes
its Reset value. -/
def Dev.coldStart (s0 : Dev) : Dev :=
  let s := s0.partnersOff
  let s1 := if s.cause.kill then s.emit .alarm [3, 0] else s
  let s2 := if s.power.thermTrip then s1.emit .pin [5, 1] else s1
  let r := Dev.reset
  let d : Dev := { r with
    free := s2.free, sent := s2.sent
    log := { r.log with seq := s2.log.seq, pers := s2.log.pers, alertN := s2.log.alertN }
    ferry := { FerryS.init with
      slotA := s2.ferry.slotA, slotB := s2.ferry.slotB, running := s2.ferry.running, trialStarts := s2.ferry.trialStarts, stored := s2.ferry.stored }
    tlhs := { r.tlhs with minSvn := s2.tlhs.minSvn, advances := s2.tlhs.advances, revoked := s2.tlhs.revoked, debugOpen := s2.tlhs.debugOpen }
    slip := { r.slip with standby := true, mainPg := s2.slip.mainPg, believed := s2.slip.believed, cellLowHigh := s2.slip.cellLowHigh }
    host := { r.host with perstHigh := s2.host.perstHigh } }
  let d1 := (d.helmPut Fld.TASK_HELM_BOOT_SLOT s2.bootSlot).helmPut Fld.TASK_HELM_TRIAL (bnat s2.trial)
  let d2 := ((d1.put Fld.TLH_STATUS_DEBUG_OPEN (bnat s2.tlhs.debugOpen)).put Fld.TLH_STATUS_REVOKED s2.tlhs.revoked).put
    Fld.TLH_STATUS_MIN_SVN s2.tlhs.minSvn
  let d3 := if s2.power.brakePinLow then { d2 with power := { d2.power with brakePinLow := true } }.setBrakeSource 0 true else d2
  d3.syncAlert

/-- STANDBY_POWER_RISE (R789). -/
def execStandbyPowerRise (s : State) : Out :=
  s.dv fun d => if d.slip.standby then d else { d with slip := { d.slip with mainPg := false, believed := false } }.coldStart

/-- STANDBY_POWER_FALL (R916): the main tiles are held in reset; the Ferryman is off. -/
def execStandbyPowerFall (s : State) : Out :=
  s.dv fun d => let e := d.partnersOff.tilesDown; e.setSlip { e.slip with standby := false, gaps := [], starts := [] }

/-! Stations -/

/-- The Slipway runs: standby power is there, and it has neither halted nor gone into recovery nor hard off. -/
def Dev.slipRuns (s : Dev) : Bool := s.slip.standby && !s.on Fld.IDENT_BOOT_HALTED && !s.slip.recovery && !s.slip.hardOff

/-- A station begins. -/
def Dev.station (s : Dev) (n : Nat) : Dev := (s.put Fld.IDENT_BOOT_STATION n).setSlip { s.slip with stationStart := s.tide }

/-- Station 4: the islands' PLLs have locked at Table 3.7 (R102). -/
def Dev.clocksLock (s : Dev) : Dev :=
  (List.range 116).foldl (fun s n =>
    ((s.put (Fld.CLK_ISL_STATUS_LOCKED n) (if n < 96 ∧ s.get (Fld.PWR_ISL_STATE n) = 3 then 0 else 1)).setIsl n
      { ClkIsl.init with onSafe := false }).syncIsland n) s

/-- Station 11 begins (R792, R811, R903). -/
def Dev.ready (s : Dev) : Dev :=
  let cold := s.slip.run = 0
  let us := if s.slip.run = 1 then 0 else (s.tide - s.slip.stationStart) / 1000
  let s1 := (s.station 11).put Fld.IDENT_BOOT_READY_TIDE s.tide
  let s2 := (s1.put Fld.ERR_STATUS_UNCONTAINED 0).put Fld.ERR_STATUS_STOPPED 0
  let s3 := if s2.cause.stop then { s2 with cause := { s2.cause with stop := false } }.emit .alarm [1, 0] else s2
  let s4 := { s3 with host := { s3.host with cfgReady := true } }.put Fld.LND_HOST_LINK_DEVICE_READY 1
  let s5 := if s4.linkUp then s4.emit .hostMsg [5] else s4
  let s6 := s5.logAdd 1 0x0201 0xFF ((s.tide - s.slip.runStart) / 1000000) us
  (if cold then s6.staggered else s6).vltSync

/-- R795: a halt. -/
def Dev.slipHalt (s : Dev) (cause index : Nat) : Dev :=
  let s1 := ((s.put Fld.IDENT_BOOT_HALTED 1).put Fld.IDENT_BOOT_HALT_CAUSE cause).logAdd 5 0x0202 0xFF cause index
  { s1 with host := { s1.host with cfgReady := true } }

/-- HALT_CAUSE of a station that fails; 0 where none may. -/
def haltCause (station : Nat) : Nat :=
  match station with
  | 5 => 3 | 6 => 1 | 7 => 2 | 8 => 2 | 9 => 3 | _ => 0

/-- R854: a part whose debug fuse is not blown says so in the log at every start. -/
def Dev.debugLog (s : Dev) : Dev := if s.tlhs.debugOpen then s.logAdd 5 0x0503 0xFF 0 0 else s

/-- Main power is believed and REFCLK0 is valid: station 3 is over. -/
def Dev.mainReady (s : Dev) : Bool := s.slip.believed && s.refValid 0

/-- SLIPWAY_STATION_COMPLETE (R789, R795): the station in progress is over; where it failed, the index of what failed. -/
def Dev.stationDone (s : Dev) (ok : Bool) (index : Nat) : Dev :=
  let n := s.get Fld.IDENT_BOOT_STATION
  if !s.slipRuns then s
  else if !ok then (if haltCause n = 0 then s else s.slipHalt (haltCause n) index)
  else match n with
    | 1 => (s.storeLoad.logAdd 1 0x0200 0xFF 0 s.bootSlot).debugLog.station 2
    | 3 => if s.mainReady then s.station 4 else s
    | 4 => if s.slip.run ≠ 0 && s.bootSlot ≠ s.ferry.running then s.clocksLock.station 2 else s.clocksLock.station 5
    | 5 => s.station (if s.slip.run = 1 then 9 else 6)
    | 6 => s.station 7
    | 7 => s.station 8
    | 8 => (s.zeroMem 0 0x4000000000).station 9
    | 9 =>
      if s.slip.run = 1 then s.ready
      else (s.setSlip { s.slip with cryGroups := 4, cryGap := s.slip.plan.getD 2 2 }).station 10
    | 10 => if s.slip.cryGroups = 0 then s.ready else s
    | _ => s

def execSlipwayStationComplete (ok : Bool) (index : Nat) (s : State) : Out := s.dv (·.stationDone ok index)

/-- CRYSTALLIZER_GROUP_EXIT (R797): the next group leaves Slack. -/
def Dev.groupExit (s0 : Dev) : Dev :=
  if s0.get Fld.IDENT_BOOT_STATION ≠ 10 || !s0.slipRuns || s0.slip.cryGroups = 0 then s0
  else
    let g := 4 - s0.slip.cryGroups
    let s := s0.at (s0.slip.stationStart + g * s0.slip.cryGap * 1000000)
    ((List.range 8).foldl (fun s i => s.exitIsland (64 + 8 * g + i)) s).setSlip { s.slip with cryGroups := s.slip.cryGroups - 1 }

def execCrystallizerGroupExit (s : State) : Out := s.dv Dev.groupExit

/-! The boot image (R726, R790, R806, R877) -/

/-- What the flash of a slot reads as: what was staged there, or what the reader found where the model holds nothing. -/
def Dev.slotBytes (s : Dev) (i : Nat) (found : List Byte) : List Byte := if (s.fw i).bytes.isEmpty then found else (s.fw i).bytes

/-- R872, Table 23.11: why a slot's image is not taken: 1 signature or security version, 2 header, 3 read error; 0 it is. -/
def Dev.imageCause (s : Dev) (read : Bool) (bs : List Byte) : Nat :=
  if !read then 3 else if (Config.imageHeader bs).isNone then 2 else if (s.imageOk bs).isNone then 1 else 0

/-- The image of the boot slot is in effect. -/
def Dev.imageTake (s : Dev) (bs : List Byte) : Dev :=
  match s.imageOk bs with
  | none => s
  | some (ver, abi, svn, live) =>
    let i := s.bootSlot
    let s1 := s.setFw i { s.fw i with valid := true, version := ver, abi := abi, svn := svn, helmLive := live, bytes := bs }
    let s2 := (((s1.put Fld.IDENT_FW_ABI_MINOR (bitsOf abi 0 16)).put Fld.IDENT_FW_ABI_MAJOR (bitsOf abi 16 16)).put Fld.IDENT_FW_ABI_SVN svn).put
      Fld.IDENT_FW_VERSION_VERSION ver
    let h := Config.sha384 bs
    let s3 := { s2 with tlhs := { s2.tlhs with keeper := h } }
    if s3.slip.run = 0 then
      ({ s3 with tlhs := { s3.tlhs with helm := h } }.setFerry { s3.ferry with running := i }).station 3
    else ((s3.setFerry { s3.ferry with helmWhy := if s3.ferry.helmWhy = 0 then 4 else s3.ferry.helmWhy }).station 5).helmSwitch

/-- R726: a start of the trial image is counted; the third rolls back. -/
def Dev.trialStart (s : Dev) : Dev :=
  if !s.trial then s
  else if 3 ≤ s.ferry.trialStarts + 1 then s.rollback 2
  else s.setFerry { s.ferry with trialStarts := s.ferry.trialStarts + 1 }

/-- SLIPWAY_IMAGE_VERIFIED (R790): what reading slots A and B gave; the boot slot is verified, then the other one. -/
def Dev.imageVerified (s0 : Dev) (readA : Bool) (a : List Byte) (readB : Bool) (b : List Byte) : Dev :=
  if s0.get Fld.IDENT_BOOT_STATION ≠ 2 || !s0.slipRuns then s0
  else
    let s := s0.trialStart
    let of := fun (i : Nat) => if i = 0 then (readA, s.slotBytes 0 a) else (readB, s.slotBytes 1 b)
    let i := s.bootSlot
    let c := s.imageCause (of i).1 (of i).2
    if c = 0 then s.imageTake (of i).2
    else if s.imageCause (of (1 - i)).1 (of (1 - i)).2 = 0 then
      let s1 := (s.helmPut Fld.TASK_HELM_BOOT_SLOT (1 - i)).helmPut Fld.TASK_HELM_TRIAL 0
      (s1.logAdd 4 0x0203 0xFF i c).imageTake (of (1 - i)).2
    else (s.setSlip { s.slip with recovery := true }).logAdd 5 0x0204 0xFF 0 0

def execSlipwayImageVerified (readA : Bool) (a : List Byte) (readB : Bool) (b : List Byte) (s : State) : Out := s.dv (·.imageVerified readA a readB b)

/-! The fundamental reset (R319, R796, R803, R805, R806, R832) -/

/-- The host port at cold start and at a fundamental reset (Table 8.11). -/
def Dev.hostPortReset (s : Dev) : Dev :=
  let s1 := s.functionsClear.hostDrop.resetRegs (fun k => decide (0x3810000 ≤ k ∧ k < 0x3820000))
  { s1 with host := { s1.host with link := 0, flr := [], ltrActive := false, ide := [] } }

/-- A vault drive that a drain holds (R832). -/
def Dev.drainDrive (s : Dev) (k : Nat) : Bool := (s.vltState = 3 || s.vltState = 4) && s.vltDrives.contains k

/-- Registers a fundamental reset keeps (Table 23.6, R702, R760, R784, R811, R883, R904); `held`: the drives of a drain. -/
def fundKeeps (held : Nat → Bool) (k : Nat) : Bool :=
  k / 2 ^ 26 = 129
    || (decide (k < 2 ^ 26)
      && ((decide (k < 0x10100) && k ≠ 0x40 && k ≠ 0x80 && k ≠ 0x88)
        || (decide (0x308000 ≤ k ∧ k < 0x340000) && k ≠ 0x308000 && k ≠ 0x308028 && k ≠ 0x308030)
        || decide (0x3000000 ≤ k ∧ k < 0x3800000)
        || (decide (0x700000 ≤ k ∧ k < 0x700800) && held ((k - 0x700000) / 0x100))
        || (decide (0xC01000 ≤ k ∧ k < 0xC01200) && held ((k - 0xC01000) / 0x40))))

/-- Memory whose places the reset moves: quads whose home changes, and Cistern scratch that becomes cache (R79, R83). -/
def Dev.mapReset (s : Dev) : Dev :=
  let home := s.get Fld.IDENT_HBM_MAP_QUAD_HOME
  ((List.range 8).filter (fun q => home / 2 ^ q % 2 = 1)).foldl (fun s q => s.scrambleMem (q * 2 ^ 35) (2 ^ 35)) s

/-- Every agent of the main tiles stops, and its state takes its Reset value; the drain's drives are left alone. -/
def Dev.fundTiles (s : Dev) : Dev :=
  let held := fun k => s.drainDrive k
  let refs := getBits (s.reg Reg.CLK_REF_STATUS) 0 2
  let s0 := if s.vltState = 5 then s.restoreFail else s
  let s1 := (s0.keysZeroize (fun _ => true) 5 0xFF).endSessions (fun x => x = 0)
  let cmds := s1.sto.cmds.filter (fun c => decide (c.unit < 8) && held c.unit && decide (256 ≤ c.op))
  let s2 := ((s1.mapReset).wharfReset).xctReset
  let s3 : Dev := { s2 with
    clk := [], toll := ⟨[], [], false⟩, tickets := [], work := [], ringH := [], berthH := [], moor := ⟨0, [], []⟩, moorPages := [], moorExt := []
    outst := [], ringsOn := [], credits := [4, 2, 1], lastServed := [], tlh := [], rakers := [], pans := [], cryStall := []
    sto := { s2.sto with cmds := cmds, drv := s2.sto.drv.filter (fun e => held e.1), ids := [], tgt := [] }
    cause := { s2.cause with cisChange := [], dllLinks := [], dllHbm := [], drift := [] } }
  let s4 := (s3.resetRegs (fun k => !fundKeeps held k)).setReg Reg.CLK_REF_STATUS (setBits 0 0 2 refs)
  let s5 := (List.range 4).foldl (fun s n => s.setReg (Reg.TLH_AP_IDE n) 0) s4
  (s5.put Fld.TLH_STATUS_LOADED 0).ptpLost.vaultUse

/-- Partners: every powered accelerator is held in reset for 100 ms, every drive hot-reset (Table 23.7). -/
def Dev.fundPorts (s0 : Dev) : Dev :=
  let s1 := (List.range 4).foldl (fun s n =>
    let p := (s.perstAssert n).portOff n
    if (p.port n).pwren then
      let q := p.setPort n { p.port n with trainAt := p.tide, owned := [], release := 0 }
      if q.starter n = 0 || q.starter n = 6 then q.setStarter n 6 else q
    else p) s0
  (List.range 8).foldl (fun s k =>
    if !(s.port (4 + k)).pwren then s
    else if s.drainDrive k then s.setStarter (4 + k) 7
    else (s.portOff (4 + k)).portSbr (4 + k)) s1

/-- R319, R805: a fundamental reset from its recognition. -/
def Dev.fundamental (s : Dev) : Dev :=
  let full := s.on Fld.IDENT_BOOT_HALTED || s.on Fld.ERR_STATUS_UNCONTAINED
  let s1 := { s with cause := { s.cause with stop := true, resetPulses := s.cause.resetPulses + 1 } }
  let s2 := ((if s.cause.stop then s1 else s1.emit .alarm [1, 1]).emit .alarm [2, 1])
  let s3 := s2.hostLinkLost 0
  let s4 := s3.fundTiles.hostPortReset.fundPorts
  let s5 := { s4 with host := { s4.host with cfgReady := false } }
  let s6 := s5.setSlip { s5.slip with
    run := if full then 2 else 1, runStart := s5.tide, slack := false, slackWaits := false, cryGroups := 0 }
  let s7 := ((s6.put Fld.IDENT_BOOT_HALTED 0).put Fld.IDENT_BOOT_HALT_CAUSE 0).put Fld.IDENT_BOOT_LAST_RESET 1
  (((s7.sat Fld.IDENT_BOOT_FUNDAMENTALS).logAdd 1 0x0200 0xFF 1 s7.bootSlot).station 4).vltSync

/-- PERST_ASSERT (R319, R813): PERST_N has been low for `ns`; shorter than 1 µs is ignored. -/
def Dev.perst (s : Dev) (ns : Nat) : Dev :=
  if ns < 1000 then s
  else
    let s1 := { s with host := { s.host with perstHigh := false } }
    if !s1.slip.standby || s1.slip.recovery || s1.slip.hardOff
        || (s1.slip.run = 0 && decide (s1.get Fld.IDENT_BOOT_STATION < 11) && !s1.on Fld.IDENT_BOOT_HALTED) then
      (s1.hostLinkLost 0).hostPortReset
    else s1.fundamental

def execPerstAssert (ns : Nat) (s : State) : Out := s.dv (·.perst ns)

/-- PERST_DEASSERT (R308, R320): the port goes to Detect once R791 holds; WAKE_N is released. -/
def execPerstDeassert (s : State) : Out :=
  s.dv fun d =>
    if d.host.perstHigh then d
    else
      let d1 := { d with host := { d.host with perstHigh := true, link := 4 } }
      if d1.cfgBits 0 0x44 15 1 = 1 then d1.emit .pin [4, 1] else d1

/-! Main power and the cell (R815, R825, R833 to R837) -/

/-- R815: the main tiles go back to reset; the Slipway goes on from station 3 once main power is believed. -/
def Dev.backToMain (s : Dev) : Dev :=
  let s1 := s.partnersOff.tilesDown
  let s2 := { s1 with clk := [], mem := [], poison := [], stale := [] }
  let s3 := (s2.resetRegs (fun k => decide (0x301000 ≤ k ∧ k < 0x302000))).setSlip { s2.slip with run := 0, cryGroups := 0, starts := [], gaps := [] }
  let s4 := (List.range 96).foldl (fun s n => s.setReg (Reg.PWR_ISL n) (resetReg (Reg.PWR_ISL n))) s3
  ((s4.put Fld.IDENT_BOOT_HALTED 0).put Fld.IDENT_BOOT_HALT_CAUSE 0).station 3

/-- MAIN_POWER_BELIEVED (R825, R833, R834): MAIN_PG has been high for 20 ms. -/
def Dev.mainBelieved (s : Dev) : Dev :=
  if !s.slip.standby || s.power.thermTrip then s
  else
    let s1 := s.setSlip { s.slip with mainPg := true, believed := true }
    if s1.slip.hardOff then s1.coldStart
    else if s1.vltState = 4 then s1.vltResume
    else if s1.get Fld.IDENT_BOOT_STATION = 3 && s1.slipRuns && s1.mainReady then s1.vltSync.station 4
    else s1.vltSync

def execMainPowerBelieved (s : State) : Out := s.dv Dev.mainBelieved

/-- MAIN_PG_FALL (R825): `short`: it rises again within 50 µs.  The vault stays ARMED through a low run until the run has begun a
drain or ended (step 1 of the route). -/
def Dev.mainFall (s : Dev) (short : Bool) : Dev :=
  let s1 := s.setSlip { s.slip with mainPg := short, believed := false, pgSince := s.tide }
  if short || s1.vltState ≠ 2 || !s.slip.believed then s1.vltSync else s1.put Fld.VLT_STATUS_MAIN_OK 0

def execMainPgFall (short : Bool) (s : State) : Out := s.dv (·.mainFall short)

/-- MAIN_PG_LOW_TIMER (R815, R827, R833): MAIN_PG has been low for more than 50 µs. -/
def Dev.mainLow (s0 : Dev) : Dev :=
  if s0.slip.mainPg || !s0.slip.standby || s0.slip.hardOff || s0.slip.recovery then s0
  else
    let s := s0.at (s0.slip.pgSince + 50000)
    if s.vltState = 2 then s.drainBegin
    else if s.vltState = 4 then s.hardOff s.vlt.seq
    else if 3 ≤ s.get Fld.IDENT_BOOT_STATION && decide (s.get Fld.IDENT_BOOT_STATION < 11) then s.backToMain
    else s

def execMainPgLowTimer (s : State) : Out := s.dv Dev.mainLow

/-- CELL_LOW_FALL (R833, R836, R837): `pgHigh` is the level of MAIN_PG. -/
def Dev.cellFalls (s0 : Dev) (pgHigh : Bool) : Dev :=
  let pg := s0.slip.believed || pgHigh
  let s := s0.setSlip { s0.slip with cellLowHigh := false, mainPg := pg }
  if !s.slip.standby || s.slip.hardOff || !s0.slip.cellLowHigh then s
  else if s.slip.believed then s.vltSync
  else if s.vltState = 3 then (if pg then (s.vltAbort 1).coldStart else (s.vltAbort 1).hardOff 0)
  else s.coldStart

def execCellLowFall (pgHigh : Bool) (s : State) : Out := s.dv (·.cellFalls pgHigh)

/-- CELL_LOW_RISE (R824). -/
def execCellLowRise (s : State) : Out := s.dv fun d => (d.setSlip { d.slip with cellLowHigh := true }).vltSync

/-- THERMAL_TRIP (R780, R781, R833): the tile index of R43, or 0x100 + k for stack k. -/
def Dev.trip (s : Dev) (index : Nat) : Dev :=
  if s.power.thermTrip || !s.slip.standby then s
  else
    let s0 := if s.vltState = 3 then s.vltAbort 3 else s
    let s1 := { s0 with power := { s0.power with thermTrip := true } }.emit .pin [5, 0]
    let s2 := s1.kill.partnersOff
    ((s2.put Fld.PWR_STATUS_TRIPPED 1).logAdd 5 0x0302 0xFF index 0).vltSync

def execThermalTrip (index : Nat) (s : State) : Out := s.dv (·.trip index)

end Sys2Proof.Machine
end

