-- ==== Sys2Proof/Machine/BarAccess.lean ====
section
/-! DEFINITION. An access that has reached a register: what a write starts and what a read returns and clears, by BAR0 offset
(spec/00 R6, R12, R17; Tables 4.2 and 4.3), and the BMC's task messages (R729). -/

namespace Sys2Proof.Machine

/-! Task sets -/

/-- The key of task set m's offset 0. -/
def taskBase (m : Nat) : Nat := Reg.TASK_OP m

/-- A write to a register of task set m (R704, R705): OP, TAG and the arguments are discarded while the set is BUSY. -/
def Dev.taskWrite (s : Dev) (m x : Nat) (v : Word) (size off : Nat) : Dev :=
  if x = 0x10 then (if woBits v size off 0 1 = 1 then s.taskGo m else s)
  else if s.taskBusy m && (decide (x < 0x10) || decide (0x40 ≤ x ∧ x < 0x80)) then s
  else s.writeReg (taskBase m + x) v size off

/-- R714: whole seconds of Tide time since an instant, saturating. -/
def Dev.silentS (s : Dev) (t : Nat) : Nat := min ((s.tide - t) / 1000000000) 0xFFFF

/-- The value of a register of task set m. -/
def Dev.taskValue (s : Dev) (m x : Nat) : Word :=
  let w := s.readReg (taskBase m + x)
  if x = 0x20 then setBits (setBits w 32 16 (s.silentS s.ferry.lastGo0)) 48 16 (s.silentS s.ferry.lastGo1) else w

/-- What a read of a register of task set m clears: TASK_CAN clears for both sets. -/
def Dev.taskRead (s : Dev) (m x size off : Nat) : Dev :=
  if x = 0x30 then (s.rcClear (taskBase 0 + x) size off).rcClear (taskBase 1 + x) size off
  else (s.rcClear (taskBase m + x) size off).syncAlert

/-! Writes -/

/-- IDENT and the Tollhouse.  `out`: [1] where the read-back after a ZEROIZE fails (R859). -/
def Dev.identWrite (s : Dev) (o : Nat) (v : Word) (size off : Nat) (out : List Nat) : Dev :=
  if o = 0x40 then s.nodeWrite v size off
  else if o = 0x80 then s.hbmMapWrite v size off
  else if o = 0x88 then s.cisternWrite v size off
  else if o = 0x2000 then s.tlhCtrlWrite v size off
  else if o = 0x2010 then s.tlhCmdWrite v size off (out ≠ [1])
  else if 0x2040 ≤ o ∧ o < 0x2080 then s.keyDataWrite ((o - 0x2040) / 8) v size off
  else s.writeReg o v size off

/-- Berth b's plan and its ring descriptors (R237, R205). -/
def Dev.planWrite (s : Dev) (b x : Nat) (v : Word) (size off : Nat) : Dev :=
  if x = 0 then s.planCtrlWrite b v size off
  else if 0x1000 ≤ x then s.ringDescWrite b ((x - 0x1000) / 64) (x % 64 / 8) v size off
  else s.writeReg (planBase b + x) v size off

/-- Wharf m and its Manifest tables.  `out`: what reading a Deckhand image comes to (R387). -/
def Dev.wharfWrite (s : Dev) (m x : Nat) (v : Word) (size off : Nat) (out : List Nat) : Dev :=
  if x = 0 then s.whfPortWrite m v size off
  else if x = 0x10 then s.rxpoolWrite m v size off
  else if 0x100 ≤ x ∧ x < 0x200 ∧ x % 0x40 = 0 then s.macCtrlWrite m ((x - 0x100) / 0x40) v size off
  else if x = 0x1000 then s.mnfCtrlWrite m v size off
  else if 0x1040 ≤ x ∧ x < 0x1078 then s.maskWrite m ((x - 0x1040) / 8) v size off
  else if x = 0x1080 then s.editWrite m v size off out
  else if 0x2000 ≤ x ∧ x < 0x12000 ∧ x % 16 = 0 then s.meterWrite m ((x - 0x2000) / 16) v size off
  else s.writeReg (0x400000 + 0x100000 * m + x) v size off

/-- The storage service.  `out`: what reading a target record comes to. -/
def Dev.stoRegWrite (s : Dev) (o : Nat) (v : Word) (size off : Nat) (out : List Nat) : Dev :=
  if o = 0xC00000 then s.stoCtrlWrite v size off
  else if 0xC01000 ≤ o ∧ o < 0xC01200 ∧ o % 0x40 = 0x10 then s.drvPmWrite ((o - 0xC01000) / 0x40) v size off
  else if 0xC20000 ≤ o ∧ o < 0xC20800 ∧ o % 0x20 = 0 then s.tgtCtrlWrite ((o - 0xC20000) / 0x20) v size off out
  else if 0xC80000 ≤ o ∧ o < 0xCA0000 then
    (if o % 0x20 = 0 then s.volCtrlWrite ((o - 0xC80000) / 0x20) v size off else s.volFieldWrite ((o - 0xC80000) / 0x20) o v size off)
  else s.writeReg o v size off

/-- LND: the accelerator ports, the PF's MSI-X table. -/
def Dev.lndWrite (s : Dev) (o : Nat) (v : Word) (size off : Nat) : Dev :=
  if 0x3820000 ≤ o ∧ o < 0x3824000 ∧ o % 0x1000 = 0 then s.portCtrlWrite ((o - 0x3820000) / 0x1000) v size off
  else if 0x3820000 ≤ o ∧ o < 0x3824000 ∧ o % 0x1000 = 0x10 then s.apCfgWrite ((o - 0x3820000) / 0x1000) v size off
  else if 0x3880000 ≤ o ∧ o < 0x3888000 then (s.writeReg o v size off).msixRelease 0 ((o - 0x3880000) / 16)
  else s.writeReg o v size off

/-- CLK, PWR and TID. -/
def Dev.clkRegWrite (s : Dev) (o : Nat) (v : Word) (size off : Nat) : Dev :=
  if 0x301000 ≤ o ∧ o < 0x301740 ∧ o % 16 = 0 then s.clkWrite ((o - 0x301000) / 16) v size off
  else if o = 0x308000 then s.pwrCtrlWrite v size off
  else if o = 0x310000 then s.tidCtrlWrite v size off
  else if o = 0x310040 then s.tidFreqWrite v size off
  else if o = 0x310058 then s.wallSetWrite v size off
  else if o = 0x310060 then s.ptpCtrlWrite v size off
  else s.writeReg o v size off

/-- TOLL. -/
def Dev.tollWrite (s : Dev) (o : Nat) (v : Word) (size off : Nat) : Dev :=
  if o = 0x3900000 then s.tollCtrlWrite v size off
  else if o = 0x3900008 then s.tollRegionWrite v size off
  else if o = 0x3900010 then s.tollInvWrite v size off
  else if o = 0x3900038 then s.moorWrite v size off
  else s.writeReg o v size off

/-- Table 4.2: a write to the 8-byte register of the PF at offset o.  `v` is in register position, `off` 0 or 4. -/
def Dev.pfWrite (s : Dev) (o : Nat) (v : Word) (size off : Nat) (out : List Nat) : Dev :=
  if o < 0x10000 then s.identWrite o v size off out
  else if o < 0x20000 then (if o < 0x100C0 then s.taskWrite 0 (o - 0x10000) v size off else s)
  else if o < 0x100000 then (if o < 0x200C8 then s.src0Write (o - 0x20000) v size off else s)
  else if o < 0x200000 then s.planWrite ((o - 0x100000) / 0x2000 + 1) (o % 0x2000) v size off
  else if o < 0x210000 then s.ringPageWrite 0 ((o - 0x200000) / 1024) (o % 1024) v size off
  else if o < 0x211000 then s.ringDescWrite 0 ((o - 0x210000) / 64) (o % 64 / 8) v size off
  else if o < 0x400000 then s.clkRegWrite o v size off
  else if o < 0x600000 then s.wharfWrite ((o - 0x400000) / 0x100000) (o % 0x100000) v size off out
  else if o < 0x800000 then
    (if 0x700000 ≤ o ∧ o < 0x700800 ∧ o % 0x100 = 0 then s.portCtrlWrite (4 + (o - 0x700000) / 0x100) v size off else s.writeReg o v size off)
  else if o = 0x800000 then s.xctCtrlWrite v size off
  else if o < 0xC00000 then s.writeReg o v size off
  else if o < 0x1000000 then s.stoRegWrite o v size off out
  else if o < 0x2000000 then s.writeReg o v size off
  else if o < 0x3000000 then (if o < 0x2040000 ∧ o % 4096 = 0 then s.doorbell 0 ((o - 0x2000000) / 4096) (v.toNat % 2 ^ 32) (size = 8) else s)
  else if o < 0x3800000 then s.writeReg o v size off
  else if o < 0x3900000 then s.lndWrite o v size off
  else s.tollWrite o v size off

/-- Table 4.3: a write to the 8-byte register of VF b at offset o; the sheet is read-only. -/
def Dev.vfWrite (s : Dev) (b o : Nat) (v : Word) (size off : Nat) : Dev :=
  if o < 0x10000 then s
  else if o < 0x20000 then (if o % 1024 = 0 then s.doorbell b ((o - 0x10000) / 1024) (v.toNat % 2 ^ 32) (size = 8) else s)
  else if o < 0x30000 then s.ringPageWrite b ((o - 0x20000) / 1024) (o % 1024) v size off
  else if o < 0x30400 then (s.writeReg (regKey b o) v size off).msixRelease b ((o - 0x30000) / 16)
  else s

/-- The bytes an access of size n at an offset may take in a BAR0 register: 4 or 8, naturally aligned (R294). -/
def barAligned (off n : Nat) : Bool := (n = 4 || n = 8) && off % n = 0

/-- The size of a function's BAR0. -/
def bar0Size (f : Nat) : Nat := if f = 0 then 0x4000000 else 0x40000

/-- A write of `size` bytes at a BAR0 offset of function f; `v` holds the bytes from bit 0. -/
def Dev.barWrite (s : Dev) (f off : Nat) (v : Word) (size : Nat) (out : List Nat) : Dev :=
  let o := off / 8 * 8
  let w := v <<< (8 * (off % 8))
  if f = 0 then s.pfWrite o w size (off % 8) out else s.vfWrite f o w size (off % 8)

/-! Reads -/

/-- A TID_ register that follows the running clocks. -/
def Dev.tidWord (s : Dev) (o : Nat) : Word :=
  let w := s.readReg o
  if o = 0x310008 then
    setBits (setBits w 21 1 (if s.on Fld.TID_STATUS_WALL_VALID && s.gap ≠ 0 then 1 else 0)) 32 32
      (if s.get Fld.TID_STATUS_SERVO = 3 then min ((s.tide - s.time.holdFrom) / 1000000000) (2 ^ 32 - 1) else 0)
  else if o = 0x310010 then BitVec.ofNat 64 s.tide
  else if o = 0x310028 then packW [(0, 49, toField 49 (s.time.two / 1000000000))]
  else if o = 0x310030 then packW [(0, 30, toField 30 (s.time.two % 1000000000))]
  else if o = 0x310038 then BitVec.ofNat 64 (if s.on Fld.TID_STATUS_WALL_VALID then satField s.gap else 0)
  else w

/-- The value of the 8-byte register of function f at offset o; reserved offsets and write-only registers read zero. -/
def Dev.barValue (s : Dev) (f o : Nat) : Word :=
  if f ≠ 0 then (if o < 0x10000 then s.sheetWord f o else s.readReg (regKey f o))
  else if 0x10000 ≤ o ∧ o < 0x100C0 then s.taskValue 0 (o - 0x10000)
  else if 0x308000 ≤ o ∧ o < 0x309000 then s.countBrake.readReg o
  else if 0x310000 ≤ o ∧ o < 0x320000 then s.tidWord o
  else s.readReg o

/-- What a read of `size` bytes of the register of the PF at offset o changes. -/
def Dev.pfRead (s : Dev) (o size off : Nat) : Dev :=
  if 0x10000 ≤ o ∧ o < 0x100C0 then s.taskRead 0 (o - 0x10000) size off
  else if 0x100000 ≤ o ∧ o < 0x200000 ∧ o % 0x2000 = 0x828 then
    let b := (o - 0x100000) / 0x2000 + 1
    let h := tget (fun _ => BerthH.init) s.berthH b
    { s.rcClear o size off with berthH := tput (fun _ => BerthH.init) s.berthH b { h with spoofReported := false } }
  else if 0x200000 ≤ o ∧ o < 0x210000 then s.ringPageRead 0 ((o - 0x200000) / 1024) (o % 1024) size off
  else if 0x308000 ≤ o ∧ o < 0x309000 then s.countBrake.rcClear o size off
  else if o = 0x310010 then s.tideRead
  else if o = 0x3000010 then (if size = 8 then { s with err := { s.err with reported := [] } } else s)
  else if o = 0x3900030 then { s with toll := { s.toll with signalled := false } }
  else s.rcClear o size off

/-- What a read of `size` bytes of the register of function f at offset o changes. -/
def Dev.barReadEffect (s : Dev) (f o size off : Nat) : Dev :=
  if f = 0 then s.pfRead o size off
  else if 0x20000 ≤ o ∧ o < 0x30000 then s.ringPageRead f ((o - 0x20000) / 1024) (o % 1024) size off
  else s.rcClear (regKey f o) size off

/-- A read of `size` bytes at a BAR0 offset of function f: its bytes, and the state after it. -/
def Dev.barRead (s : Dev) (f off size : Nat) : List Byte × Dev :=
  let o := off / 8 * 8
  (leBytes size ((s.barValue f o).toNat / 2 ^ (8 * (off % 8))), s.barReadEffect f o size (off % 8))

/-! The commands -/

/-- REGISTER_WRITE (R6, R12): a write of 4 or 8 aligned bytes reaches the register of function f (0 the PF, 1 to 128 a VF) at
a BAR0 offset.  `out` holds what reads the write starts come to, and [1] for a read-back that fails. -/
def execRegisterWrite (f off : Nat) (v : Word) (size : Nat) (out : List Nat) (s : State) : Out :=
  s.dv fun d => if f ≤ 128 && decide (off < bar0Size f) && barAligned off size then d.barWrite f off v size out else d

/-- RC_REGISTER_READ (R6, R17, R295): a read of 4 or 8 aligned bytes of a register, answered to the host. -/
def execRcRegisterRead (f off size tag : Nat) (s : State) : Out :=
  s.dv fun d =>
    if f ≤ 128 && decide (off < bar0Size f) && barAligned off size then
      let r := d.barRead f off size
      r.2.hostCpl f tag 0 false r.1
    else d

/-- Table 20.5: the answer to a task message. -/
def Dev.taskAnswer (s : Dev) (binding cmd inst code : Nat) (value : List Byte) : Dev :=
  s.mctpAnswer binding 4 (bytes8 [0x7E, 0x1F, 0x3C, cmd + 0x80, inst, code] ++ value)

/-- R729: a task message reaches the BMC set only over I3C0 and at an offset of the set. -/
def Dev.taskMessage (s : Dev) (binding cmd inst off : Nat) (f : Dev → Dev × List Byte) : Dev :=
  if binding ≠ 1 then s.taskAnswer binding cmd inst 2 []
  else if off % 8 ≠ 0 || 0xC0 ≤ off || (findSpec (taskBase 1 + off)).isNone then s.taskAnswer binding cmd inst 1 []
  else
    let r := f s
    r.1.taskAnswer binding cmd inst 0 r.2

/-- TASK_MESSAGE_READ (R729): binding 0 PCIe VDM, 1 I3C0; instance ID; offset. -/
def execTaskMessageRead (binding inst off : Nat) (s : State) : Out :=
  s.dv fun d => if 2 ≤ binding then d else
    d.taskMessage binding 1 inst off fun d => (d.taskRead 1 off 8 0, leBytes 8 (d.taskValue 1 off).toNat)

/-- TASK_MESSAGE_WRITE (R729). -/
def execTaskMessageWrite (binding inst off : Nat) (v : Word) (s : State) : Out :=
  s.dv fun d => if 2 ≤ binding then d else d.taskMessage binding 2 inst off fun d => (d.taskWrite 1 off v 8 0, [])

end Sys2Proof.Machine
end

