-- ==== Sys2Proof/Machine/HostPort.lean ====
section
/-! DEFINITION. The host port: configuration requests, BAR accesses, what the host answers, MSI-X enables, power states, IDE
failures and the link (spec/08). -/

namespace Sys2Proof.Machine

/-! Configuration space (R289 to R293); the places of the fields, and which bits are writable, are those of the PCIe base
specification -/

/-- The selective IDE stream whose register block holds a DW, and the DW within the block. -/
def ideBlock (o : Nat) : Option (Nat × Nat) := if 0x30C ≤ o ∧ o < 0x46C then some ((o - 0x30C) / 44, (o - 0x30C) % 44) else none

/-- The RW bits of a DW of the PF. -/
def pfRw (o : Nat) : Nat :=
  match o with
  | 0x04 => 0x146 | 0x10 => 0xFC000000 | 0x14 => 0xFFFFFFFF | 0x1C => 0xFFFFFF00 | 0x3C => 0xFF
  | 0x44 => 0x103 | 0x50 => 0xC0000000 | 0x68 => 0x7FFF | 0x70 => 0x3CB | 0x88 => 0x145F | 0x90 => 0xFFBF
  | 0x108 => 0x1FFFF030 | 0x10C => 0x1FFFF030 | 0x114 => 0xF1C1 | 0x118 => 0x140
  | 0x170 => 0x19 | 0x178 => 0xFFFF | 0x188 => 0x55 | 0x18C => 0xFFFC0000 | 0x190 => 0xFFFFFFFF | 0x198 => 0xFFFFFFFE
  | 0x1AC => 0x1FFF1FFF | 0x1B8 => 0xE3FFFF0F | 0x1BC => 0xFB | 0x1C4 => 0xFE03 | 0x308 => 0x4
  | _ =>
    if 0x2A8 ≤ o ∧ o < 0x2E8 then 0xFF7F
    else match ideBlock o with
      | some (_, 4) => 0xFF3F81FF
      | some (_, 12) => 0x00FFFF00
      | some (_, 16) => 0x00FFFF01
      | some (_, r) => if 20 ≤ r then (if (r - 20) % 12 = 0 then 0xFFFFFF01 else 0xFFFFFFFF) else 0
      | none => 0

/-- The RW bits of a DW of a VF. -/
def vfRw (o : Nat) : Nat :=
  match o with
  | 0x04 => 0x4 | 0x50 => 0xC0000000 | 0x88 => 0x40 | _ => 0

/-- The W1C bits of a DW. -/
def cfgW1c (f o : Nat) : Nat :=
  match o with
  | 0x04 => 0xF9000000 | 0x68 => 0xF0000 | 0x104 => 0x1FFFF030 | 0x110 => 0xF1C1
  | 0x44 => if f = 0 then 0x8000 else 0
  | _ => if f = 0 then (match ideBlock o with | some (_, 8) => 0x80000000 | _ => 0) else 0

/-- The bits four byte enables cover. -/
def beMask (be : Nat) : Nat := ((List.range 4).map (fun i => if be / 2 ^ i % 2 = 1 then 0xFF * 256 ^ i else 0)).sum

/-- What a read of a configuration DW returns.  The TLP a header log holds is in no command, so its bytes are free. -/
def Dev.cfgValue (s : Dev) (f o : Nat) : BitVec 32 :=
  let w := s.cfg f o
  if o = 0x68 then (if s.outst.any (fun x => x.link = 0 && x.func = f) then w ||| 0x200000 else w)
  else if 0x11C ≤ o ∧ o < 0x12C then
    (if s.cfg f 0x104 = 0 then 0 else BitVec.ofNat 32 (ofLe ((List.range 4).map (fun i => Config.freeByte (s.cfg f 0x104).toNat (f * 4096 + o + i)))))
  else if f ≠ 0 then w
  else if o = 0x70 then w ||| BitVec.ofNat 32 (pack [(16, 4, s.get Fld.LND_HOST_LINK_SPEED), (20, 6, s.get Fld.LND_HOST_LINK_WIDTH)])
  else if o = 0x15C then BitVec.ofNat 32 (s.reg Reg.IDENT_DSN).toNat
  else if o = 0x160 then BitVec.ofNat 32 ((s.reg Reg.IDENT_DSN).toNat / 2 ^ 32)
  else match ideBlock o with
    | some (i, 8) => if (s.ideStream i).state = 1 then w ||| 2 else w
    | _ => w

/-- R301, R330: Bus Master Enable of a function changes. -/
def Dev.setBme (s : Dev) (f : Nat) (on : Bool) : Dev :=
  let s1 := s.putCfg f 4 2 1 (if on then 1 else 0)
  if on then s1.msixReleaseAll f else s1

/-- R307: PF0 enters D3hot. -/
def Dev.d3Enter (s : Dev) : Dev := s.putCfg 0 0x44 0 2 3

/-- R307: PF0 returns to D0, and what was held is sent in order. -/
def Dev.d0Return (s : Dev) : Dev :=
  let s1 := s.putCfg 0 0x44 0 2 0
  s.host.held.foldl Dev.hostSend { s1 with host := { s1.host with held := [] } }

/-- Initiate FLR is written in a function (R319, R329). -/
def Dev.flrWrite (s : Dev) (f : Nat) : Dev :=
  if f = 0 then (if s.inFlr 0 || s.slip.slack then s else s.pfFlr) else s.vfFlr f

/-- A stream's control or RID association has been written: disabling it ends its state; a range replaces the old one. -/
def Dev.ideWritten (s : Dev) (i : Nat) : Dev :=
  let b := 0x30C + 44 * i
  let e := s.ideStream i
  let lo := if s.cfgBits 0 (b + 16) 0 1 = 1 then s.cfgBits 0 (b + 16) 8 8 else 1
  let hi := if s.cfgBits 0 (b + 16) 0 1 = 1 then s.cfgBits 0 (b + 12) 8 8 else 0
  s.setIde i { e with
    state := if s.cfgBits 0 (b + 4) 0 1 = 0 then 0 else e.state
    ridLo := lo
    ridHi := hi
    excl := if lo = e.ridLo ∧ hi = e.ridHi then e.excl else [] }

/-- A configuration write reaches function f: bits written, and what they start.  `old` holds the DW before. -/
def Dev.cfgWritten (s : Dev) (f o : Nat) (old new data : BitVec 32) : Dev :=
  let s1 := s.setCfg f o new
  if o = 0x04 then (if old.getLsbD 2 = new.getLsbD 2 then s1 else s1.setBme f (new.getLsbD 2))
  else if o = 0x50 then s1.msixReleaseAll f
  else if o = 0x68 then (if data.getLsbD 15 then s1.flrWrite f else s1)
  else if f ≠ 0 then s1
  else if o = 0x44 then
    let ps := new.toNat % 4
    let s2 := s1.putCfg 0 0x44 0 2 (old.toNat % 4)
    if ps = 3 then s2.d3Enter else if ps = 0 && old.toNat % 4 = 3 then s2.d0Return else s2
  else if o = 0x170 then (s1.putCfg 0 0x170 0 1 (old.toNat % 2)).setVfs (new.getLsbD 0) (s.cfgBits 0 0x178 0 16)
  else if o = 0x178 then (s.setVfs (s.cfgBits 0 0x170 0 1 = 1) (new.toNat % 65536))
  else match ideBlock o with
    | some (i, _) => s1.ideWritten i
    | none => s1

/-- A configuration write with its byte enables. -/
def Dev.cfgWrite (s : Dev) (f o be : Nat) (v : BitVec 32) : Dev :=
  let m := BitVec.ofNat 32 (beMask be)
  let rw := BitVec.ofNat 32 (if f = 0 then pfRw o else vfRw o) &&& m
  let old := s.cfg f o
  let new := ((old &&& ~~~rw) ||| (v &&& rw)) &&& ~~~(BitVec.ofNat 32 (cfgW1c f o) &&& m &&& v)
  s.cfgWritten f o old new (v &&& m)

/-- R320, R322, R808: configuration requests are answered with Request Retry Status. -/
def Dev.cfgRetry (s : Dev) (f : Nat) : Bool := !s.host.cfgReady || s.slip.slack || s.inFlr f

/-- R313: a TLP for a function of a Secure stream came outside a Secure stream. -/
def Dev.ideWrong (s : Dev) (f : Nat) (sec : Bool) : Bool := s.ideSecure f && !sec

/-- HOST_CONFIG_REQUEST (R293, R320, R322): function, DW offset, read or write, byte enables, data, tag; `sec`: it came in a
Secure IDE stream. -/
def execHostConfigRequest (f dw : Nat) (write : Bool) (be : Nat) (v : BitVec 32) (tag : Nat) (sec : Bool) (s : State) : Out :=
  s.dv fun d =>
    let o := dw / 4 * 4 % 4096
    if !d.linkUp then d
    else if d.ideWrong f sec then d.hostUr f tag true
    else if d.cfgRetry f then d.hostCpl f tag 3 false []
    else if !d.funcOn f then d.hostUr f tag true
    else if write then (d.cfgWrite f o be v).hostCpl f tag 0 false []
    else d.hostCpl f tag 0 false (leBytes 4 (d.cfgValue f o).toNat)

/-! BAR accesses -/

/-- A poisoned TLP has been received (R318, Table 8.6). -/
def Dev.poisonRx (s : Dev) (f : Nat) : Dev :=
  ((s.put Fld.LND_HOST_EVENTS_POISON_RX 1).sat Fld.LND_HOST_COUNTS_POISON_RX).aerAdvisory (if s.funcOn f then f else 0) 12

/-- R298: a posted request that no BAR takes is discarded and reported. -/
def Dev.postedUr (s : Dev) (f : Nat) : Dev := s.aerUncor (if s.funcOn f then f else 0) 20

/-- R294: an access of a size or alignment BAR0 does not take is recorded. -/
def Dev.badAccess (s : Dev) (f off : Nat) (write : Bool) : Dev :=
  (s.put Fld.LND_HOST_EVENTS_BAD_ACCESS 1).setReg Reg.LND_HOST_BADADDR
    (packW [(0, 26, off), (26, 8, f), (34, 1, if write then 1 else 0)])

/-- R320, R902: BAR0 offsets of the PF served while DEVICE_READY is 0. -/
def Dev.bar0Served (s : Dev) (f off : Nat) : Bool :=
  s.on Fld.LND_HOST_LINK_DEVICE_READY ||
    (f = 0 && (decide (off < 0x10000) || decide (0x3800000 ≤ off ∧ off < 0x3900000) ||
      (s.stopped && (decide (0x10000 ≤ off ∧ off < 0x20000) || decide (0x3000000 ≤ off ∧ off < 0x3800000) || decide (0x3900000 ≤ off)))))

/-- What every memory request to a BAR of function f meets first (R313, R322, R298, R296): none where it goes on. -/
def Dev.memGate (s : Dev) (f : Nat) (write : Bool) (len tag : Nat) (sec : Bool) : Option Dev :=
  if !s.linkUp then some s
  else if s.ideWrong f sec then some (if write then s else s.hostUr f tag true)
  else if s.inFlr f then some (if write then s else s.hostUr f tag false)
  else if !s.funcOn f || !s.mse f then some (if write then s.postedUr f else s.hostUr f tag true)
  else if len = 0 then some (if write then s else s.hostCpl f tag 0 false [0, 0, 0, 0])
  else none

/-- HOST_BAR0_ACCESS (R294, R296, R298, R318, R320, R322): function, offset, read or write, bytes, data, tag, poisoned, `sec`
as above; `out` as REGISTER_WRITE takes it. -/
def execHostBar0Access (f off : Nat) (write : Bool) (size : Nat) (v : Word) (tag : Nat) (ep sec : Bool) (out : List Nat) (s : State) : Out :=
  s.dv fun d =>
    if bar0Size f < off + size then d
    else match d.memGate f write size tag sec with
    | some d1 => d1
    | none =>
      let d1 := if ep then d.poisonRx f else d
      if !barAligned off size then
        let d2 := d1.badAccess f off write
        if write then d2 else d2.hostUr f tag true
      else if write then (if ep || !d1.bar0Served f off then d1 else d1.barWrite f off v size out)
      else if !d1.bar0Served f off then d1.hostCpl f tag 0 false (leBytes size 0)
      else
        let r := d1.barRead f off size
        r.2.hostCpl f tag 0 false r.1

/-- Where a piece of a BAR2 access goes (R139, R141, R175): none past the Toll region's end; a fault is recorded (R317). -/
def Dev.bar2Piece (s : Dev) (f va len kind : Nat) : Option Dest × Dev :=
  if f = 0 && decide (0xFE00000000 ≤ va) then
    (if va - 0xFE00000000 + len ≤ s.tollSize then some (.mem (s.tollBase + (va - 0xFE00000000))) else none, s)
  else match s.xlate f va kind len { accel := s.accelOf f, hostBar := true } with
    | (.ok dpa leaf, s1) => (some (s1.destOf f dpa leaf), s1)
    | (.fault k lvl, s1) => (none, s1.tollFault f va k kind lvl 1 0)

/-- R155, R297: the pieces of a BAR2 write, up to the first that is refused. -/
def Dev.bar2Write (f : Nat) (bad : Bool) : List (Nat × Nat) → List Byte → Dev → Dev
  | [], _, s => s
  | (va, n) :: ps, bs, s =>
    match s.bar2Piece f va n 1 with
    | (some dst, s1) => Dev.bar2Write f bad ps (bs.drop n) (s1.writeDest dst (bs.take n) false bad)
    | (none, s1) => s1

/-- The data of one piece of a BAR2 read from the device's memory: each completion carries EP where it holds poison (R318). -/
def Dev.bar2Data (s : Dev) (f tag a n : Nat) : Dev :=
  (chunks (n + 1) 128 a (s.bytes a n)).foldl (fun s c => s.hostCpl f tag 0 (s.poisoned c.1 c.2.length) c.2) s

/-- R155, R297, R299: the pieces of a BAR2 read; one in an accelerator window goes to its port and completes from there. -/
def Dev.bar2Read (f tag : Nat) : List (Nat × Nat) → Dev → Dev
  | [], s => s
  | (va, n) :: ps, s =>
    match s.bar2Piece f va n 0 with
    | (some (.mem a), s1) => Dev.bar2Read f tag ps (s1.bar2Data f tag a n)
    | (some (.ap p a), s1) => if s1.apInsecure p then s1.hostUr f tag true else Dev.bar2Read f tag ps (s1.sendRead (.ap p a) n (.bar2 f tag))
    | (some (.host _ _ _), s1) => s1.hostUr f tag true
    | (none, s1) => s1.hostUr f tag true

/-- The size of a function's BAR2. -/
def bar2Size (f : Nat) : Nat := if f = 0 then 0x10000000000 else 0x200000000

/-- HOST_BAR2_REQUEST (R139, R141, R297, R299, R317, R318, R902). -/
def execHostBar2Request (f off : Nat) (write : Bool) (len tag : Nat) (ep sec : Bool) (data : List Byte) (s : State) : Out :=
  s.dv fun d =>
    let n := if write then data.length else len
    if bar2Size f < off + n then d
    else match d.memGate f write n tag sec with
    | some d1 => d1
    | none =>
      if write then
        let d1 := if ep then d.poisonRx f else d
        if d1.stopped then d1 else Dev.bar2Write f ep (piecesOf off n) data d1
      else if d.stopped then d.hostUr f tag true
      else Dev.bar2Read f tag (piecesOf off n) d

/-- HOST_UNSUPPORTED_REQUEST (R298): kind 0 AtomicOp, 1 I/O, 2 a memory read in no BAR, 3 a memory write in no BAR. -/
def execHostUnsupportedRequest (kind f tag : Nat) (sec : Bool) (s : State) : Out :=
  s.dv fun d =>
    if !d.linkUp then d
    else if kind = 3 then (if d.ideWrong f sec then d else d.postedUr f)
    else d.hostUr f tag true

/-- HOST_MALFORMED_TLP (R315, R332, Table 8.6): 0 Malformed TLP, 1 Receiver Overflow, 2 Flow Control Protocol Error, 3 Data Link
Protocol Error, 4 ECRC Error in function f, 5 Receiver Error, 6 Bad TLP, 7 Bad DLLP, 8 REPLAY_NUM Rollover, 9 Replay Timer
Timeout. -/
def execHostMalformedTlp (kind f : Nat) (s : State) : Out :=
  s.dv fun d =>
    if d.host.link = 0 || d.host.link = 4 then d
    else match kind with
    | 0 => d.aerUncor 0 18
    | 1 => d.aerUncor 0 17
    | 2 => d.aerUncor 0 13
    | 3 => d.aerUncor 0 4
    | 4 => if d.cfgBits 0 0x118 8 1 = 1 then d.aerUncor (if d.funcOn f then f else 0) 19 else d
    | 5 => d.aerCor 0 0
    | 6 => d.aerCor 0 6
    | 7 => d.aerCor 0 7
    | 8 => d.aerCor 0 8
    | 9 => d.aerCor 0 12
    | _ => d

/-! What the host answers (R305, R324, Table 8.7) -/

/-- The outstanding host-link request with a tag. -/
def Dev.hostOutst (s : Dev) (tag : Nat) : Option Outst := s.outst.find? (fun o => o.link = 0 && o.tag = tag)

/-- A completion that matches no request (R315, Table 8.13). -/
def Dev.unexpected (s : Dev) : Dev := (s.put Fld.LND_HOST_EVENTS_UNEXPECTED_CPL 1).aerAdvisory 0 16

/-- HOST_COMPLETION_RECEIVED (R305): status 0 SC, 1 UR, 2 CA. -/
def execHostCompletionReceived (tag status : Nat) (ep sec : Bool) (data : List Byte) (s : State) : Out :=
  s.dv fun d =>
    if !d.linkUp then d
    else match d.hostOutst tag with
    | none => d.unexpected
    | some o =>
      if d.ideWrong o.func sec then d
      else (if ep then d.poisonRx o.func else d).completed o status ep (data.take o.len)

/-- HOST_CPL_TIMEOUT (R305, R315, R895). -/
def execHostCplTimeout (tag : Nat) (s : State) : Out :=
  s.dv fun d => match d.hostOutst tag with
    | none => d
    | some o => ((d.sat Fld.LND_HOST_COUNTS_CPL_TIMEOUT).aerAdvisory o.func 14).abandoned o .timeout

/-- UNEXPECTED_COMPLETION (R315). -/
def execUnexpectedCompletion (tag : Nat) (s : State) : Out :=
  s.dv fun d => if !d.linkUp || (d.hostOutst tag).isSome then d else d.unexpected

/-! MSI-X and Bus Master Enable -/

/-- MSIX_UNMASK (R300): the host clears a vector's mask bit. -/
def execMsixUnmask (f v : Nat) (s : State) : Out :=
  s.dv fun d =>
    if d.funcOn f && decide (v < vectorsOf f) then (d.put (if f = 0 then Fld.MSIX_PF_DATA_MASK v else Fld.MSIX_VF_DATA_MASK f v) 0).msixRelease f v
    else d

/-- MSIX_ENABLE_SET (R301). -/
def execMsixEnableSet (f : Nat) (s : State) : Out :=
  s.dv fun d => if d.funcOn f then (d.putCfg f 0x50 31 1 1).msixReleaseAll f else d

/-- BUS_MASTER_ENABLE_CHANGE (R301, R330). -/
def execBusMasterEnableChange (f : Nat) (on : Bool) (s : State) : Out := s.dv fun d => if d.funcOn f then d.setBme f on else d

/-! Power management -/

/-- D3HOT_ENTRY (R307). -/
def execD3hotEntry (s : State) : Out := s.dv Dev.d3Enter

/-- D0_RETURN (R307). -/
def execD0Return (s : State) : Out := s.dv fun d => if d.d3hot then d.d0Return else d

/-- Nothing waits for the host link and nothing is outstanding on it. -/
def Dev.hostIdle (s : Dev) : Bool := s.host.held.isEmpty && s.host.unacked.isEmpty && !s.outst.any (fun o => o.link = 0)

/-- L1_IDLE_TIMER (R310): `ack`: the host grants the request. -/
def execL1IdleTimer (ack : Bool) (s : State) : Out :=
  s.dv fun d =>
    if d.host.link = 1 && d.cfgBits 0 0x70 1 1 = 1 && d.on Fld.LND_HOST_ASPM_L1_IDLE_US && d.hostIdle && ack then
      { d.put Fld.LND_HOST_LINK_IN_L1 1 with host := { d.host with link := 2 } }
    else d

/-- R311: a ring with arrays in host memory has tickets in flight. -/
def Dev.hostRingBusy (s : Dev) : Bool := s.ringsOn.any (fun x => s.on (Fld.RING_STATE_INFLIGHT (x / 64) (x % 64)) && s.ringInHost (x / 64) (x % 64))

/-- LTR_IDLE_TIMER (R311). -/
def execLtrIdleTimer (s : State) : Out :=
  s.dv fun d =>
    if d.ltrOn && d.host.ltrActive && d.hostIdle && !d.hostRingBusy && !d.d3hot && (d.host.link = 1 || d.host.link = 2) then
      ({ d.put Fld.LND_HOST_LINK_IN_L1 0 with host := { d.host with link := 1 } }).sendLtr false
    else d

/-! IDE -/

/-- IDE_CHECK_FAIL (R314): requests of the covered functions end as Table 8.7 states. -/
def execIdeCheckFail (stream : Nat) (s : State) : Out :=
  s.dv fun d =>
    let e := d.ideStream stream
    if 8 ≤ stream || e.state ≠ 1 then d
    else
      let d1 := (((d.setIde stream { e with state := 2 }).put Fld.LND_HOST_EVENTS_IDE_INSECURE 1).sat Fld.LND_HOST_COUNTS_IDE_FAIL).aerUncor 0 28
      (d1.outst.filter (fun o => o.link = 0 && e.covers o.func)).foldl (fun d o => d.abandoned o .insecure) d1

/-! The link (R319, R328, R808, R814) -/

/-- HOST_LINK_DOWN (R319): from station 11 on, the 2 ms of the slack-water reset begin. -/
def execHostLinkDown (s : State) : Out :=
  s.dv fun d =>
    if d.host.link = 1 || d.host.link = 2 || d.host.link = 3 then
      let d1 := d.hostLinkLost 4
      if d1.host.perstHigh && d1.get Fld.IDENT_BOOT_STATION = 11 && !d1.slip.slack then { d1 with host := { d1.host with dropTimer := d1.tide + 1 } } else d1
    else d

/-- The link has trained: 1 to 6 name its rate. -/
def Dev.hostTrained (s : Dev) (speed width : Nat) (flit : Bool) : Dev :=
  let s1 := (((s.put Fld.LND_HOST_LINK_SPEED speed).put Fld.LND_HOST_LINK_WIDTH width).put Fld.LND_HOST_LINK_FLIT (if flit then 1 else 0)).put
    Fld.LND_HOST_LINK_LINK_UP 1
  { s1 with host := { s1.host with link := 1, dropTimer := 0 } }

/-- What waited for the link leaves in order. -/
def Dev.hostFlush (s : Dev) : Dev :=
  s.host.unacked.foldl Dev.hostSend { s with host := { s.host with unacked := [] } }

/-- R320, R815: the port may train. -/
def Dev.mayTrain (s : Dev) : Bool :=
  s.host.perstHigh && s.slip.standby && s.slip.believed && !s.slip.recovery && !s.slip.hardOff && decide (6 ≤ s.get Fld.IDENT_BOOT_STATION)

/-- HOST_LINK_UP (R320, R808): the link trains after a reset or at the start. -/
def execHostLinkUp (speed width : Nat) (flit : Bool) (s : State) : Out :=
  s.dv fun d =>
    if !d.mayTrain || d.linkUp || d.host.dropTimer ≠ 0 || speed = 0 || 6 < speed || !([1, 4, 8, 16].contains width) then d
    else
      let d1 := (d.hostTrained speed width flit).hostFlush
      let d2 := if d1.slip.slackWaits then { d1.put Fld.LND_HOST_LINK_DEVICE_READY 1 with slip := { d1.slip with slackWaits := false } } else d1
      if d2.host.cfgReady && !d2.slip.slack && !d2.inFlr 0 then d2.emit .hostMsg [5] else d2

/-- What a short drop sends again, newest first: the last n posted TLPs and the reads not completed. -/
def Dev.resendList (s : Dev) : Nat → List Nat → List Emit → List Emit
  | _, _, [] => []
  | n, done, e :: es =>
    if e.kind = .hostWrite || e.kind = .msix then
      (match n with
      | 0 => s.resendList 0 done es
      | k + 1 => e :: s.resendList k done es)
    else if e.kind = .hostRead then
      let t := e.args.getD 3 0
      (match s.hostOutst t with
      | some o => if done.contains t then s.resendList n done es else ⟨.hostRead, [o.func, o.addr, o.len, o.tag], []⟩ :: s.resendList n (t :: done) es
      | none => s.resendList n done es)
    else s.resendList n done es

/-- SHORT_DROP_RETURN (R328): the link is back within 2 ms; the host has not acknowledged the last n posted TLPs. -/
def execShortDropReturn (n speed width : Nat) (flit : Bool) (s : State) : Out :=
  s.dv fun d =>
    if d.host.dropTimer = 0 || !d.host.perstHigh || decide (d.host.dropTimer - 1 + 2000000 < d.tide) || speed = 0 || 6 < speed || !([1, 4, 8, 16].contains width) then d
    else
      let d1 := (d.hostTrained speed width flit).put Fld.LND_HOST_EVENTS_SHORT_DROP 1
      (d1.host.unacked.reverse ++ d1.resendList n [] d1.sent).reverse.foldl Dev.hostSend { d1 with host := { d1.host with unacked := [] } }

end Sys2Proof.Machine
end

