-- ==== Sys2Proof/Machine/Scalar.lean ====
section
/-! DEFINITION. The scalar instructions of Adeat (spec/16), one meaning each: Raker i of Pan p executes the instruction at
its PC.  `out` says what its accesses over links come to. -/

namespace Sys2Proof.Machine

/-- R569: a stop point. -/
def yieldPoint (p i : Nat) (_ : Insn) (r : RakerS) (s : Dev) : Ran :=
  if s.on (Fld.PAN_STATE_STOP_PEND p) then
    let s1 := (s.setRk p i { r with live := false }).checkRun p
    (none, s1, s1.rk p i)
  else (none, s, r)

/-- FENCE.S: in this model every store is performed in program order, so nothing is waited for (Table 15.2). -/
def fenceStores (_ : Insn) (r : RakerS) (s : Dev) : Ran := (none, s, r)

/-- FENCE.L: the Raker discards every line of its data cache (Table 15.2). -/
def fenceLoads (_ : Insn) (r : RakerS) (s : Dev) : Ran := (none, s, { r with lines := [] })

/-- ILLEGAL_INSTRUCTION (R586, R590): the word at PC is undefined or malformed. -/
def execIllegalInstruction (p i : Nat) (s : State) : Out :=
  s.dv fun d =>
    let r := d.rk p i
    if !r.live || d.stopped then d
    else match d.fetchInsn p r.pc with
      | some x => if x.legal then d else d.takeExc p i { code := 2 }
      | none => d

/-- FETCH_FAULT (R586, R603): PC, or the instruction's long word, lies outside an EXEC section. -/
def execFetchFault (p i : Nat) (s : State) : Out :=
  s.dv fun d =>
    let r := d.rk p i
    if !r.live || d.stopped then d
    else match d.fetchInsn p r.pc with
      | some _ => d
      | none => d.takeExc p i { code := 1, access := 3 }

/-- ADD (R592, Table 16.4). -/
def execAddI (p i : Nat) (s : State) : Out := s.dv (·.insn p i (1 * 128 + 0) (intR 0x00))

/-- SUB (R592, Table 16.4). -/
def execSubI (p i : Nat) (s : State) : Out := s.dv (·.insn p i (1 * 128 + 1) (intR 0x01))

/-- MUL (R592, Table 16.4). -/
def execMulI (p i : Nat) (s : State) : Out := s.dv (·.insn p i (1 * 128 + 2) (intR 0x02))

/-- MULH (R592, Table 16.4). -/
def execMulh (p i : Nat) (s : State) : Out := s.dv (·.insn p i (1 * 128 + 3) (intR 0x03))

/-- MULHU (R592, Table 16.4). -/
def execMulhu (p i : Nat) (s : State) : Out := s.dv (·.insn p i (1 * 128 + 4) (intR 0x04))

/-- DIV (R592, R593, Table 16.4). -/
def execDivI (p i : Nat) (s : State) : Out := s.dv (·.insn p i (1 * 128 + 5) (intR 0x05))

/-- DIVU (R592, R593, Table 16.4). -/
def execDivu (p i : Nat) (s : State) : Out := s.dv (·.insn p i (1 * 128 + 6) (intR 0x06))

/-- REM (R592, R593, Table 16.4). -/
def execRem (p i : Nat) (s : State) : Out := s.dv (·.insn p i (1 * 128 + 7) (intR 0x07))

/-- REMU (R592, R593, Table 16.4). -/
def execRemu (p i : Nat) (s : State) : Out := s.dv (·.insn p i (1 * 128 + 8) (intR 0x08))

/-- AND (R592, Table 16.4). -/
def execAndI (p i : Nat) (s : State) : Out := s.dv (·.insn p i (1 * 128 + 16) (intR 0x10))

/-- OR (R592, Table 16.4). -/
def execOrI (p i : Nat) (s : State) : Out := s.dv (·.insn p i (1 * 128 + 17) (intR 0x11))

/-- XOR (R592, Table 16.4). -/
def execXorI (p i : Nat) (s : State) : Out := s.dv (·.insn p i (1 * 128 + 18) (intR 0x12))

/-- ANDN (R592, Table 16.4). -/
def execAndn (p i : Nat) (s : State) : Out := s.dv (·.insn p i (1 * 128 + 19) (intR 0x13))

/-- SHL (R592, Table 16.4). -/
def execShl (p i : Nat) (s : State) : Out := s.dv (·.insn p i (1 * 128 + 20) (intR 0x14))

/-- SHR (R592, Table 16.4). -/
def execShr (p i : Nat) (s : State) : Out := s.dv (·.insn p i (1 * 128 + 21) (intR 0x15))

/-- SAR (R592, Table 16.4). -/
def execSar (p i : Nat) (s : State) : Out := s.dv (·.insn p i (1 * 128 + 22) (intR 0x16))

/-- ROR (R592, Table 16.4). -/
def execRor (p i : Nat) (s : State) : Out := s.dv (·.insn p i (1 * 128 + 23) (intR 0x17))

/-- MIN (R592, Table 16.4). -/
def execMinI (p i : Nat) (s : State) : Out := s.dv (·.insn p i (1 * 128 + 24) (intR 0x18))

/-- MAX (R592, Table 16.4). -/
def execMaxI (p i : Nat) (s : State) : Out := s.dv (·.insn p i (1 * 128 + 25) (intR 0x19))

/-- MINU (R592, Table 16.4). -/
def execMinu (p i : Nat) (s : State) : Out := s.dv (·.insn p i (1 * 128 + 26) (intR 0x1A))

/-- MAXU (R592, Table 16.4). -/
def execMaxu (p i : Nat) (s : State) : Out := s.dv (·.insn p i (1 * 128 + 27) (intR 0x1B))

/-- CLZ (R592, Table 16.4). -/
def execClz (p i : Nat) (s : State) : Out := s.dv (·.insn p i (1 * 128 + 32) (intR 0x20))

/-- CTZ (R592, Table 16.4). -/
def execCtz (p i : Nat) (s : State) : Out := s.dv (·.insn p i (1 * 128 + 33) (intR 0x21))

/-- POPC (R592, Table 16.4). -/
def execPopc (p i : Nat) (s : State) : Out := s.dv (·.insn p i (1 * 128 + 34) (intR 0x22))

/-- BSWAP (R592, Table 16.4). -/
def execBswap (p i : Nat) (s : State) : Out := s.dv (·.insn p i (1 * 128 + 35) (intR 0x23))

/-- SEXT8 (R592, Table 16.4). -/
def execSext8 (p i : Nat) (s : State) : Out := s.dv (·.insn p i (1 * 128 + 40) (intR 0x28))

/-- SEXT16 (R592, Table 16.4). -/
def execSext16 (p i : Nat) (s : State) : Out := s.dv (·.insn p i (1 * 128 + 41) (intR 0x29))

/-- SEXT32 (R592, Table 16.4). -/
def execSext32 (p i : Nat) (s : State) : Out := s.dv (·.insn p i (1 * 128 + 42) (intR 0x2A))

/-- ZEXT8 (R592, Table 16.4). -/
def execZext8 (p i : Nat) (s : State) : Out := s.dv (·.insn p i (1 * 128 + 44) (intR 0x2C))

/-- ZEXT16 (R592, Table 16.4). -/
def execZext16 (p i : Nat) (s : State) : Out := s.dv (·.insn p i (1 * 128 + 45) (intR 0x2D))

/-- ZEXT32 (R592, Table 16.4). -/
def execZext32 (p i : Nat) (s : State) : Out := s.dv (·.insn p i (1 * 128 + 46) (intR 0x2E))

/-- ADDI (R594). -/
def execAddi (p i : Nat) (s : State) : Out := s.dv (·.insn p i (2 * 128 + 0) (intI 0x00))

/-- ANDI (R594). -/
def execAndi (p i : Nat) (s : State) : Out := s.dv (·.insn p i (3 * 128 + 0) (intI 0x10))

/-- ORI (R594). -/
def execOri (p i : Nat) (s : State) : Out := s.dv (·.insn p i (4 * 128 + 0) (intI 0x11))

/-- XORI (R594). -/
def execXori (p i : Nat) (s : State) : Out := s.dv (·.insn p i (5 * 128 + 0) (intI 0x12))

/-- LIH (R594). -/
def execLih (p i : Nat) (s : State) : Out := s.dv (·.insn p i (6 * 128 + 0) lih)

/-- SHLI (R594). -/
def execShli (p i : Nat) (s : State) : Out := s.dv (·.insn p i (7 * 128 + 0) (intI 0x14))

/-- SHRI (R594). -/
def execShri (p i : Nat) (s : State) : Out := s.dv (·.insn p i (7 * 128 + 1) (intI 0x15))

/-- SARI (R594). -/
def execSari (p i : Nat) (s : State) : Out := s.dv (·.insn p i (7 * 128 + 2) (intI 0x16))

/-- RORI (R594). -/
def execRori (p i : Nat) (s : State) : Out := s.dv (·.insn p i (7 * 128 + 3) (intI 0x17))

/-- CSEQ (R595, Table 16.5). -/
def execCseq (p i : Nat) (s : State) : Out := s.dv (·.insn p i (8 * 128 + 0) (compareR 0))

/-- CSNE (R595, Table 16.5). -/
def execCsne (p i : Nat) (s : State) : Out := s.dv (·.insn p i (8 * 128 + 1) (compareR 1))

/-- CSLT (R595, Table 16.5). -/
def execCslt (p i : Nat) (s : State) : Out := s.dv (·.insn p i (8 * 128 + 2) (compareR 2))

/-- CSLTU (R595, Table 16.5). -/
def execCsltu (p i : Nat) (s : State) : Out := s.dv (·.insn p i (8 * 128 + 3) (compareR 3))

/-- CSLE (R595, Table 16.5). -/
def execCsle (p i : Nat) (s : State) : Out := s.dv (·.insn p i (8 * 128 + 4) (compareR 4))

/-- CSLEU (R595, Table 16.5). -/
def execCsleu (p i : Nat) (s : State) : Out := s.dv (·.insn p i (8 * 128 + 5) (compareR 5))

/-- CSEQ_IMM (R595, Table 16.5). -/
def execCseqImm (p i : Nat) (s : State) : Out := s.dv (·.insn p i (9 * 128 + 0) (compareI 0))

/-- CSNE_IMM (R595, Table 16.5). -/
def execCsneImm (p i : Nat) (s : State) : Out := s.dv (·.insn p i (9 * 128 + 1) (compareI 1))

/-- CSLT_IMM (R595, Table 16.5). -/
def execCsltImm (p i : Nat) (s : State) : Out := s.dv (·.insn p i (9 * 128 + 2) (compareI 2))

/-- CSLTU_IMM (R595, Table 16.5). -/
def execCsltuImm (p i : Nat) (s : State) : Out := s.dv (·.insn p i (9 * 128 + 3) (compareI 3))

/-- CSLE_IMM (R595, Table 16.5). -/
def execCsleImm (p i : Nat) (s : State) : Out := s.dv (·.insn p i (9 * 128 + 4) (compareI 4))

/-- CSLEU_IMM (R595, Table 16.5). -/
def execCsleuImm (p i : Nat) (s : State) : Out := s.dv (·.insn p i (9 * 128 + 5) (compareI 5))

/-- LD (R596, R597). -/
def execLd (p i : Nat) (out : List Nat) (s : State) : Out := s.dv (·.insn p i (16 * 128 + 0) (load p i out))

/-- ST (R596, R597). -/
def execSt (p i : Nat) (out : List Nat) (s : State) : Out := s.dv (·.insn p i (17 * 128 + 0) (store p i out))

/-- AADD (R598). -/
def execAadd (p i : Nat) (out : List Nat) (s : State) : Out := s.dv (·.insn p i (18 * 128 + 0) (atomic p 0 out))

/-- ASWAP (R598). -/
def execAswap (p i : Nat) (out : List Nat) (s : State) : Out := s.dv (·.insn p i (18 * 128 + 1) (atomic p 1 out))

/-- ACAS (R598). -/
def execAcas (p i : Nat) (out : List Nat) (s : State) : Out := s.dv (·.insn p i (18 * 128 + 2) (atomic p 2 out))

/-- FADD (R599, Table 16.7). -/
def execFadd (p i : Nat) (s : State) : Out := s.dv (·.insn p i (24 * 128 + 0) (floatR 0))

/-- FSUB (R599, Table 16.7). -/
def execFsub (p i : Nat) (s : State) : Out := s.dv (·.insn p i (24 * 128 + 1) (floatR 1))

/-- FMUL (R599, Table 16.7). -/
def execFmul (p i : Nat) (s : State) : Out := s.dv (·.insn p i (24 * 128 + 2) (floatR 2))

/-- FDIV (R599, Table 16.7). -/
def execFdiv (p i : Nat) (s : State) : Out := s.dv (·.insn p i (24 * 128 + 3) (floatR 3))

/-- FSQRT (R599). -/
def execFsqrt (p i : Nat) (s : State) : Out := s.dv (·.insn p i (24 * 128 + 4) (floatWrites fun x r => floatSqrt x.ffmt r.mode (r.fp x x.ra)))

/-- FMIN (R599, Table 16.7). -/
def execFmin (p i : Nat) (s : State) : Out := s.dv (·.insn p i (24 * 128 + 5) (floatR 5))

/-- FMAX (R599, Table 16.7). -/
def execFmax (p i : Nat) (s : State) : Out := s.dv (·.insn p i (24 * 128 + 6) (floatR 6))

/-- FMA (R599). -/
def execFma (p i : Nat) (s : State) : Out := s.dv (·.insn p i (24 * 128 + 7) (floatWrites fun x r => floatFma x.ffmt r.mode (r.fp x x.ra) (r.fp x x.rb) (r.fp x x.rd)))

/-- FCEQ (R599, R600). -/
def execFceq (p i : Nat) (s : State) : Out := s.dv (·.insn p i (24 * 128 + 8) (floatTest 0))

/-- FCLT (R599, R600). -/
def execFclt (p i : Nat) (s : State) : Out := s.dv (·.insn p i (24 * 128 + 9) (floatTest 2))

/-- FCLE (R599, R600). -/
def execFcle (p i : Nat) (s : State) : Out := s.dv (·.insn p i (24 * 128 + 10) (floatTest 3))

/-- FCVT (R599). -/
def execFcvt (p i : Nat) (s : State) : Out := s.dv (·.insn p i (24 * 128 + 11) (floatWrites fun x r =>
    encodeF x.ffmt r.mode 0 (decodeF (ffmt (x.rb % 8)) (bitsOf (r.gr x.ra).toNat 0 (fmtBits (x.rb % 8))))))

/-- FTOI (R599, R600). -/
def execFtoi (p i : Nat) (s : State) : Out := s.dv (·.insn p i (24 * 128 + 12) (floatWrites fun x r => encodeI 64 true false r.mode 0 (decodeF x.ffmt (r.fp x x.ra))))

/-- ITOF (R599). -/
def execItof (p i : Nat) (s : State) : Out := s.dv (·.insn p i (24 * 128 + 13) (floatWrites fun x r =>
    let v := (r.gr x.ra).toInt
    encodeF x.ffmt r.mode 0 (.fin (decide (v < 0)) v.natAbs 1 0)))

/-- FCLASS (R599). -/
def execFclass (p i : Nat) (s : State) : Out := s.dv (·.insn p i (24 * 128 + 14) (floatWrites fun x r => (floatClass x.ffmt (r.fp x x.ra), 0)))

/-- BZ (R602). -/
def execBz (p i : Nat) (s : State) : Out := s.dv (·.insn p i (32 * 128 + 0) (branch true))

/-- BNZ (R602). -/
def execBnz (p i : Nat) (s : State) : Out := s.dv (·.insn p i (33 * 128 + 0) (branch false))

/-- JAL (R602). -/
def execJal (p i : Nat) (s : State) : Out := s.dv (·.insn p i (34 * 128 + 0) jal)

/-- JALR (R602). -/
def execJalr (p i : Nat) (s : State) : Out := s.dv (·.insn p i (35 * 128 + 0) jalr)

/-- NOP (Table 16.9). -/
def execNop (p i : Nat) (s : State) : Out := s.dv (·.insn p i (0 * 128 + 1) fun _ r s => (none, s, r))

/-- YIELD (R569). -/
def execYield (p i : Nat) (s : State) : Out := s.dv (·.insn p i (0 * 128 + 2) (yieldPoint p i))

/-- FENCE_S (R562: earlier stores have been performed). -/
def execFenceS (p i : Nat) (s : State) : Out := s.dv (·.insn p i (0 * 128 + 3) fenceStores)

/-- FENCE_L (R562). -/
def execFenceL (p i : Nat) (s : State) : Out := s.dv (·.insn p i (0 * 128 + 4) fenceLoads)

/-- FENCE_SL (R562). -/
def execFenceSl (p i : Nat) (s : State) : Out := s.dv (·.insn p i (0 * 128 + 5) fun x r s => (match fenceStores x r s with | (_, s1, r1) => fenceLoads x r1 s1))

/-- SRD (R588). -/
def execSrd (p i : Nat) (s : State) : Out := s.dv (·.insn p i (0 * 128 + 8) fun x r s =>
    match s.readSpecial r x.ra with | (v, s1) => (none, s1, r.setG x.rd v))

/-- SWR (R588, R566). -/
def execSwr (p i : Nat) (s : State) : Out := s.dv (·.insn p i (0 * 128 + 9) fun x r s => (none, s, r.writeSpecial x.rd (r.gr x.ra)))

/-- PMOVG (Table 16.9). -/
def execPmovg (p i : Nat) (s : State) : Out := s.dv (·.insn p i (0 * 128 + 10) fun x r s => (none, s, r.setP x.rd (BitVec.ofNat 16 (r.gr x.ra).toNat)))

/-- GMOVP (Table 16.9). -/
def execGmovp (p i : Nat) (s : State) : Out := s.dv (·.insn p i (0 * 128 + 11) fun x r s => (none, s, r.setG x.rd (BitVec.ofNat 64 (r.pr x.ra).toNat)))

/-- DADD (R607, R611). -/
def execDadd (p i : Nat) (s : State) : Out := s.dv (·.insn p i (40 * 128 + 0) (decimalSum false))

/-- DSUB (R607, R611). -/
def execDsub (p i : Nat) (s : State) : Out := s.dv (·.insn p i (40 * 128 + 1) (decimalSum true))

/-- DMULD (R607, R610). -/
def execDmuld (p i : Nat) (s : State) : Out := s.dv (·.insn p i (40 * 128 + 2) decimalMul)

/-- DCMP (R607, R614). -/
def execDcmp (p i : Nat) (s : State) : Out := s.dv (·.insn p i (40 * 128 + 3) decimalCmp)

/-- DSHL (R607). -/
def execDshl (p i : Nat) (s : State) : Out := s.dv (·.insn p i (40 * 128 + 4) (writesRd fun x r =>
    match r.p15 x.ra 0 with
    | .error e => .error e
    | .ok v => encP15 (v * 10 ^ x.rb)))

/-- DSHR (R607 to R609). -/
def execDshr (p i : Nat) (s : State) : Out := s.dv (·.insn p i (40 * 128 + 5) (decimalShift fun _ => 1))

/-- DRND (R607 to R609). -/
def execDrnd (p i : Nat) (s : State) : Out := s.dv (·.insn p i (40 * 128 + 6) (decimalShift fun r => r.mode))

/-- DADJ (R607). -/
def execDadj (p i : Nat) (s : State) : Out := s.dv (·.insn p i (40 * 128 + 7) decimalAdj)

/-- DVAL (R607). -/
def execDval (p i : Nat) (s : State) : Out := s.dv (·.insn p i (40 * 128 + 8) (writesRd fun x r => .ok (oneIf (decBad 16 (r.gr x.ra).toNat).isNone)))

/-- DTOB (R607). -/
def execDtob (p i : Nat) (s : State) : Out := s.dv (·.insn p i (40 * 128 + 9) (writesRd fun x r =>
    match r.p15 x.ra 0 with
    | .error e => .error e
    | .ok v => .ok (BitVec.ofInt 64 v)))

/-- BTOD (R607). -/
def execBtod (p i : Nat) (s : State) : Out := s.dv (·.insn p i (40 * 128 + 10) (writesRd fun x r => encP15 (r.gr x.ra).toInt))

end Sys2Proof.Machine
end

