-- ==== Sys2Proof/Machine/Tap.lean ====
section
/-! DEFINITION. The test access port (R923).  The chain's order and the levels it samples are the tester's: operands. -/

namespace Sys2Proof.Machine

/-- A partner is powered: a PWREN pin is high. -/
def Dev.anyPwren (s : Dev) : Bool := (List.range 12).any (fun p => (s.port p).pwren)

/-- Bits shifted out, first bit first. -/
def tapBits (l : List Bool) : List Byte := l.map (fun b => if b then 1 else 0)

/-- BYPASS: the one-bit register captures 0, and what is shifted in leaves one bit later. -/
def Dev.tapBypass (s : Dev) (tdi : List Bool) : Dev :=
  let line := false :: tdi
  { s with tap := { s.tap with ir := 0, bypass := line.getLastD false, driving := false } }.emit .tap [0] (tapBits line.dropLast)

/-- TAP_BYPASS. -/
def execTapBypass (tdi : List Bool) (s : State) : Out := s.dv (·.tapBypass tdi)

/-- TAP_IDCODE. -/
def execTapIdcode (s : State) : Out :=
  s.dv fun d => { d with tap := { d.tap with ir := 1, driving := false } }.emit .tap [1, 0x05020E3D]

/-- SAMPLE_PRELOAD: the pins' levels leave, and the cells take what is shifted in. -/
def execSamplePreload (levels preload : List Bool) (s : State) : Out :=
  s.dv fun d => { d with tap := { d.tap with ir := 2, cells := preload, driving := false } }.emit .tap [2] (tapBits levels)

/-- R923: the cells drive the pins: never while a partner is powered. -/
def Dev.tapDrives (s : Dev) : Bool := s.tap.driving && !s.anyPwren

/-- EXTEST: the pins follow the cells; BYPASS while any partner is powered. -/
def execExtest (levels preload : List Bool) (s : State) : Out :=
  s.dv fun d =>
    if d.anyPwren then d.tapBypass preload
    else { d with tap := { d.tap with ir := 3, cells := preload, driving := true } }.emit .tap [3] (tapBits levels)

end Sys2Proof.Machine
end

