-- ==== Sys2Proof/Machine/Vector.lean ====
section
/-! DEFINITION. The vector and predicate instructions of Adeat (spec/17), one meaning each: Raker i of Pan p executes the
instruction at its PC.  `out` says what its accesses over links come to. -/

namespace Sys2Proof.Machine

/-- R616: element j of width E. -/
def velem (v : BitVec 512) (E j : Nat) : Nat := bitsOf v.toNat (E * j) E

/-- R618: the guard mask. -/
def Insn.mask (x : Insn) (r : RakerS) : BitVec 16 := if x.guardInv then ~~~(r.pr x.guardReg) else r.pr x.guardReg

/-- R618: whether element i of n is active. -/
def isActive (m : BitVec 16) (n i : Nat) : Bool := m.getLsbD (16 * i / n)

/-- The active elements in ascending order. -/
def actives (m : BitVec 16) (n : Nat) : List Nat := (List.range n).filter (isActive m n)

/-- R619: a register whose active elements are new and whose inactive ones keep their value. -/
def vmerge (m : BitVec 16) (E : Nat) (old : BitVec 512) (f : Nat → Nat) : BitVec 512 :=
  let n := 512 / E
  BitVec.ofNat 512 ((List.range n).map (fun j => (if isActive m n j then f j % 2 ^ E else velem old E j) * 2 ^ (E * j))).sum

/-- The element width T names (R621). -/
def Insn.elemBits (x : Insn) : Nat := match bitsOf x.w 0 2 with | 0 => 32 | 1 => 16 | _ => 8

/-- The layout T names for floating point. -/
def vlayout (t : Nat) : FFmt := match t with | 0 => ffmt 1 | 1 => ffmt 2 | _ => ffmt 3
def vfBits (t : Nat) : Nat := if t = 0 then 32 else 16

/-- R622, Table 17.4: an element's result. -/
def valu (op E a b : Nat) : Nat :=
  let M : Nat := 2 ^ E
  let put := fun (v : Int) => (v % (M : Int)).toNat
  let sa := signed E a
  let sb := signed E b
  let lo : Int := -(2 ^ (E - 1) : Nat)
  let hi : Int := (2 ^ (E - 1) - 1 : Nat)
  let sh := b % E
  match op with
  | 0 => (a + b) % M
  | 1 => (a + M - b) % M
  | 2 => a * b % M
  | 3 => put (sa * sb / M)
  | 4 => a * b / M
  | 5 => put (max lo (min hi (sa + sb)))
  | 6 => min (M - 1) (a + b)
  | 7 => put (max lo (min hi (sa - sb)))
  | 8 => a - b
  | 9 => if sa < sb then a else b
  | 10 => if sa < sb then b else a
  | 11 => min a b
  | 12 => max a b
  | 13 => a &&& b
  | 14 => a ||| b
  | 15 => a ^^^ b
  | 16 => a &&& (b ^^^ (M - 1))
  | 17 => a * 2 ^ sh % M
  | 18 => a / 2 ^ sh
  | 19 => put (sa / (2 ^ sh : Nat))
  | 20 => popc E a
  | 21 => put (if a = M / 2 then sa else sa.natAbs)
  | _ => ofBe (leBytes (E / 8) a)

/-- An integer instruction of major 0x30. -/
def vint (op : Nat) (x : Insn) (r : RakerS) (s : Dev) : Ran :=
  let E := x.elemBits
  (none, s, r.setV x.rd (vmerge (x.mask r) E (r.vr x.rd) (fun j => valu op E (velem (r.vr x.ra) E j) (velem (r.vr x.rb) E j))))

/-- R623: the flags of the active elements are recorded, or the lowest enabled one traps with the lowest element that raised
it. -/
def raiseAll (r : RakerS) (els : List Nat) (fl : Nat → Nat) : Except Exc RakerS :=
  let all := els.foldl (fun a j => a ||| fl j) 0
  match trapCode r.traps all with
  | some c => .error { code := c, flane := els.find? (fun j => bitsOf (fl j) (c - 0x11) 1 = 1) }
  | none => .ok { r with dflags := r.dflags ||| all }

/-- A floating-point instruction that writes vd element by element. -/
def vfloat (f : Nat → FFmt → RakerS → Insn → Nat × Nat) (x : Insn) (r : RakerS) (s : Dev) : Ran :=
  let t := bitsOf x.w 0 2
  let E := vfBits t
  let m := x.mask r
  let g := fun j => f j (vlayout t) r x
  match raiseAll r (actives m (512 / E)) (fun j => (g j).2) with
  | .error e => (some e, s, r)
  | .ok r1 => (none, s, r1.setV x.rd (vmerge m E (r.vr x.rd) (fun j => (g j).1)))

/-- VFADD, VFSUB, VFMUL, VFDIV, VFMIN, VFMAX (Table 17.5). -/
def vfloat2 (op : Nat) : Insn → RakerS → Dev → Ran :=
  vfloat fun j f r x => let E := vfBits (bitsOf x.w 0 2); floatOp f op r.mode (velem (r.vr x.ra) E j) (velem (r.vr x.rb) E j)

/-- VFABS and VFNEG. -/
def vfsign (neg : Bool) : Insn → RakerS → Dev → Ran :=
  vfloat fun j f r x =>
    let a := velem (r.vr x.ra) (vfBits (bitsOf x.w 0 2)) j
    let top := 2 ^ (f.e + f.m)
    (if neg then (if a / top = 1 then a - top else a + top) else a % top, 0)

/-- VFRMAXA. -/
def vfMaxAbs (x : Insn) (r : RakerS) (s : Dev) : Ran :=
  let t := bitsOf x.w 0 2
  let E := vfBits t
  let f := vlayout t
  let els := (actives (x.mask r) (512 / E)).map (fun j => velem (r.vr x.ra) E j)
  if els.isEmpty then (none, s, r)
  else
    let v := if els.any (fun a => (decodeF f a).isNan) then f.qnan else (els.map (fun a => a % 2 ^ (f.e + f.m))).foldl max 0
    (none, s, r.setG x.rd (BitVec.ofNat 64 v))

/-- R624: the element width and the test of a compare: whether it holds, and the flags. -/
def Insn.cmpBits (x : Insn) : Nat :=
  let t := bitsOf x.w 0 3
  if bitsOf x.w 3 1 = 1 then vfBits t else match t with | 0 => 32 | 1 => 16 | _ => 8
def Insn.cmpTest (x : Insn) (a b : Nat) : Bool × Nat :=
  let c := bitsOf x.w 4 3
  let E := x.cmpBits
  if bitsOf x.w 3 1 = 1 then
    let f := vlayout (bitsOf x.w 0 3)
    numTest (match c with | 0 => 0 | 1 => 1 | 2 => 2 | _ => 3) (decodeF f a) (decodeF f b)
  else
    (match c with
      | 0 => a = b
      | 1 => a ≠ b
      | 2 => signed E a < signed E b
      | 3 => a < b
      | 4 => signed E a ≤ signed E b
      | _ => a ≤ b, 0)

/-- The element results of a compare, with its flags taken. -/
def compareAll (x : Insn) (r : RakerS) : Except Exc (RakerS × List Nat) :=
  let E := x.cmpBits
  let els := actives (x.mask r) (512 / E)
  let g := fun j => x.cmpTest (velem (r.vr x.ra) E j) (velem (r.vr x.rb) E j)
  match raiseAll r els (fun j => (g j).2) with
  | .error e => .error e
  | .ok r1 => .ok (r1, els.filter (fun j => (g j).1))

/-- Bits of a list of positions. -/
def bitsAt (l : List Nat) : Nat := (l.map (fun j => 2 ^ j)).sum

/-- Compare into a predicate (major 0x32); no active element: no effect (R619). -/
def vcmpP (x : Insn) (r : RakerS) (s : Dev) : Ran :=
  let k := 32 / x.cmpBits
  let m := x.mask r
  if m = 0 then (none, s, r)
  else match compareAll x r with
    | .error e => (some e, s, r)
    | .ok (r1, ts) =>
      let hit := fun q => let es := (List.range k).map (fun u => q * k + u)
        if x.rd / 8 = 0 then es.all (fun j => ts.contains j) else es.any (fun j => ts.contains j)
      (none, s, r1.setP (x.rd % 8) (BitVec.ofNat 16 (bitsAt ((List.range 16).filter (fun q => m.getLsbD q && hit q)))))

/-- Compare into a g register (major 0x37). -/
def vcmpG (x : Insn) (r : RakerS) (s : Dev) : Ran :=
  if x.mask r = 0 then (none, s, r)
  else match compareAll x r with
    | .error e => (some e, s, r)
    | .ok (r1, ts) => (none, s, r1.setG x.rd (BitVec.ofNat 64 (bitsAt ts)))

/-! Decimal on lane pairs (R631, R632) -/

/-- The values of va and vb of the active elements, in order; the first invalid nibble. -/
def p31Pairs (r : RakerS) (x : Insn) : List Nat → Except Exc (List (Nat × Int × Int))
  | [] => .ok []
  | k :: ks =>
    match decVal 32 (velem (r.vr x.ra) 128 k) with
    | .error nb => .error { code := 0x16, flane := some (nb + 64 * k) }
    | .ok a => match decVal 32 (velem (r.vr x.rb) 128 k) with
      | .error nb => .error { code := 0x16, flane := some (nb + 32 + 64 * k) }
      | .ok b => match p31Pairs r x ks with
        | .error e => .error e
        | .ok l => .ok ((k, a, b) :: l)

/-- The sums of the elements in ascending order: invalid digits and overflow as R632 checks them. -/
def p31Sums (sub : Bool) (r : RakerS) (x : Insn) : List Nat → Except Exc (List (Nat × Nat))
  | [] => .ok []
  | k :: ks =>
    match p31Pairs r x [k] with
    | .error e => .error e
    | .ok l =>
      let z := match l with | (_, a, b) :: _ => if sub then a - b else a + b | [] => 0
      match decEnc 32 z with
      | none => .error { code := 0x17, flane := some (64 * k) }
      | some w => match p31Sums sub r x ks with
        | .error e => .error e
        | .ok l => .ok ((k, w) :: l)

/-- VDADD and VDSUB. -/
def vdecSum (sub : Bool) (x : Insn) (r : RakerS) (s : Dev) : Ran :=
  let m := x.mask r
  match p31Sums sub r x (actives m 4) with
  | .error e => (some e, s, r)
  | .ok l => (none, s, r.setV x.rd (vmerge m 128 (r.vr x.rd) (fun k => tget (fun _ => 0) l k)))

/-- VDCMP. -/
def vdecCmp (x : Insn) (r : RakerS) (s : Dev) : Ran :=
  let els := actives (x.mask r) 4
  if els.isEmpty then (none, s, r)
  else match p31Pairs r x els with
    | .error e => (some e, s, r)
    | .ok l =>
      let hit := l.filter (fun t => match bitsOf x.w 0 2 with
        | 0 => t.2.1 = t.2.2 | 1 => t.2.1 ≠ t.2.2 | 2 => t.2.1 < t.2.2 | _ => t.2.1 ≤ t.2.2)
      (none, s, r.setP x.rd (BitVec.ofNat 16 (hit.map (fun t => 15 * 2 ^ (4 * t.1))).sum))

/-! Conversions (R628 to R630) -/

/-- A conversion instruction of major 0x34 or 0x35. -/
def vconv (narrowing : Bool) (k : Nat) (x : Insn) (r : RakerS) (s : Dev) : Ran :=
  match convKind narrowing k with
  | none => (none, s, r)
  | some (nb, wb, sc, src, dst) =>
    let n := 512 / wb
    let base := bitsOf x.w 0 3 * n * nb
    let e := if sc then (if x.rb = 0 then 127 else getBits (r.gr x.rb) 0 8) else 127
    let m := x.mask r
    let va := (r.vr x.ra).toNat
    let g := fun i =>
      let a := if narrowing then bitsOf va (wb * i) wb else bitsOf va (base + nb * i) nb
      match decodeE src a with
      | none => ((0 : Nat), (0 : Nat))
      | some v =>
        if dst = 15 then (if 0 < signed 8 a then 1 else 0, 0)
        else
          let q := encodeE dst r.mode 0 (isIntFmt src) (if !sc then v else if narrowing then scaleDown v e else scaleUp v e)
          (q.bits, q.flags)
    let els := actives m n
    match raiseAll r els (fun i => (g i).2) with
    | .error ex => (some ex, s, r)
    | .ok r1 =>
      let old := (r.vr x.rd).toNat
      let ob := if narrowing then nb else wb
      let o := if narrowing then base else 0
      let v := els.foldl (fun w i => w - bitsOf w (o + ob * i) ob * 2 ^ (o + ob * i) + (g i).1 % 2 ^ ob * 2 ^ (o + ob * i)) old
      (none, s, r1.setV x.rd (BitVec.ofNat 512 v))

/-! Moves and reductions (Table 17.6) -/

/-- VEXT and VINS: VINDEX where the index is out of range (R626). -/
def vindexed (x : Insn) (r : RakerS) (s : Dev) (f : Nat → RakerS) : Ran :=
  let n := 512 / x.elemBits
  let i := (r.gr x.rb).toNat
  let m := x.mask r
  if m = 0 then (none, s, r)
  else if n ≤ i then (some { code := 0x20, flane := some 0 }, s, r)
  else if isActive m n i then (none, s, f i) else (none, s, r)

/-- A reduction over the active elements, from the first on. -/
def vreduce (signedEl : Bool) (f : Int → Int → Int) (x : Insn) (r : RakerS) (s : Dev) : Ran :=
  let E := x.elemBits
  let els := (actives (x.mask r) (512 / E)).map (fun j =>
    let a := velem (r.vr x.ra) E j
    if signedEl then signed E a else (a : Int))
  match els with
  | [] => (none, s, r)
  | a :: l => (none, s, r.setG x.rd (BitVec.ofInt 64 (l.foldl f a)))

/-! Predicate logic (R627) -/

/-- pd := value, cleared by the guard mask. -/
def predLogic (f : BitVec 16 → BitVec 16 → BitVec 16) (x : Insn) (r : RakerS) (s : Dev) : Ran :=
  (none, s, r.setP x.rd (f (r.pr x.ra) (r.pr x.rb) &&& x.mask r))

/-- PSPAN. -/
def predSpan (x : Insn) (r : RakerS) (s : Dev) : Ran :=
  let n := (r.gr x.rb).toNat - (r.gr x.ra).toNat
  let v : BitVec 16 := if 16 ≤ n then 0xFFFF else BitVec.ofNat 16 (2 ^ n - 1)
  (none, s, r.setP x.rd (v &&& x.mask r))

/-! Contiguous load and store (R633) -/

/-- The parts of the active slots of a 64-byte access: slot, VA, offset in the register, bytes; none crosses a page. -/
def slotParts (ea : Nat) (m : BitVec 16) : List (Nat × Nat × Nat × Nat) :=
  (actives m 16).flatMap (fun k =>
    let a := (ea + 4 * k) % 2 ^ 48
    let n := min 4 (4096 - a % 4096)
    if n = 4 then [(k, a, 4 * k, 4)] else [(k, a, 4 * k, n), (k, (a + n) % 2 ^ 48, 4 * k + n, 4 - n)])

/-- Every part is translated and checked first; a failure names the slot. -/
def Dev.checkParts (s : Dev) (p kind : Nat) : List (Nat × Nat × Nat × Nat) → List Nat → Option Exc × Dev
  | [], _ => (none, s)
  | (k, a, _, n) :: ps, out =>
    match s.panXlate p a n kind 2 p with
    | (.control _, s1) => (some { code := 9, access := kind, flane := some k }, s1)
    | (.exc c q, s1) => (some { code := c, kind := q, access := kind, flane := some k }, s1)
    | (.mem _, s1) => s1.checkParts p kind ps out
    | (.out _, s1) =>
      match linkKind (out.headD 0) with
      | some q => (some { code := 8, kind := q, access := kind, flane := some k }, s1)
      | none => s1.checkParts p kind ps out.tail

/-- The bytes of the parts, by their offset in the register. -/
def Dev.loadParts (s : Dev) (p i : Nat) (nc : Bool) : RakerS → List (Nat × Nat × Nat × Nat) → List Nat →
    Except Exc (List (Nat × Byte)) × Dev × RakerS
  | r, [], _ => (.ok [], s, r)
  | r, (k, a, o, n) :: ps, out =>
    match s.rkLoad p i r a n nc out with
    | (.error e, s1, r1, _) => (.error { e with flane := some k }, s1, r1)
    | (.ok bs, s1, r1, out1) =>
      match s1.loadParts p i nc r1 ps out1 with
      | (.error e, s2, r2) => (.error e, s2, r2)
      | (.ok l, s2, r2) => (.ok ((bs.zipIdx.map (fun b => (o + b.2, b.1))) ++ l), s2, r2)

/-- Bytes put into a register. -/
def putReg (v : BitVec 512) (l : List (Nat × Byte)) : BitVec 512 :=
  BitVec.ofNat 512 (l.foldl (fun w b => w - bitsOf w (8 * b.1) 8 * 2 ^ (8 * b.1) + b.2.toNat * 2 ^ (8 * b.1)) v.toNat)

/-- VLD. -/
def vload (p i : Nat) (out : List Nat) (x : Insn) (r : RakerS) (s : Dev) : Ran :=
  let ps := slotParts (x.ea r 64) (x.mask r)
  match s.checkParts p 0 ps out with
  | (some e, s1) => (some e, s1, r)
  | (none, s1) =>
    match s1.loadParts p i (bitsOf x.w 7 1 = 1) r ps out with
    | (.error e, s2, r2) => (some e, s2, r2)
    | (.ok l, s2, r2) => (none, s2, r2.setV x.rd (putReg (r.vr x.rd) l))

/-- The stores of the parts. -/
def Dev.storeParts (s : Dev) (p i : Nat) (v : BitVec 512) : RakerS → List (Nat × Nat × Nat × Nat) → List Nat → Dev × RakerS
  | r, [], _ => (s, r)
  | r, (_, a, o, n) :: ps, out =>
    match s.rkStore p i r a (leBytes n (bitsOf v.toNat (8 * o) (8 * n))) out with
    | (_, s1, r1, out1) => s1.storeParts p i v r1 ps out1

/-- VST. -/
def vstore (p i : Nat) (out : List Nat) (x : Insn) (r : RakerS) (s : Dev) : Ran :=
  let ps := slotParts (x.ea r 64) (x.mask r)
  match s.checkParts p 1 ps out with
  | (some e, s1) => (some e, s1, r)
  | (none, s1) => match s1.storeParts p i (r.vr x.rd) r ps out with | (s2, r2) => (none, s2, r2)

/-! Gather and scatter (R635 to R640) -/

/-- The address of element k. -/
def Insn.gatherAddr (x : Insn) (r : RakerS) (k : Nat) : Nat :=
  ((((r.gr x.ra).toNat : Int) + signed 32 (velem (r.vr x.rb) 32 k) * 2 ^ bitsOf x.w 3 2) % 2 ^ 48).toNat

/-- The loads of the active elements in ascending order: what was loaded, and the element that faulted with its exception. -/
def Dev.gather (s : Dev) (p i : Nat) (x : Insn) (addr : Nat → Nat) : RakerS → List Nat → List Nat → List (Nat × Nat) →
    List (Nat × Nat) × Option (Nat × Exc) × Dev × RakerS
  | r, [], _, acc => (acc, none, s, r)
  | r, k :: ks, out, acc =>
    let n := 2 ^ bitsOf x.w 5 2
    let a := addr k
    if a % n ≠ 0 then (acc, some (k, { code := 4 }), s, r)
    else
      match s.rkLoad p i r a n false out with
      | (.error e, s1, r1, _) => (acc, some (k, e), s1, r1)
      | (.ok bs, s1, r1, out1) => s1.gather p i x addr r1 ks out1 (acc ++ [(k, ofLe bs)])

/-- The slots a gather wrote. -/
def putSlots (v : BitVec 512) (l : List (Nat × Nat)) : BitVec 512 :=
  BitVec.ofNat 512 (l.foldl (fun w b => w - bitsOf w (32 * b.1) 32 * 2 ^ (32 * b.1) + b.2 % 2 ^ 32 * 2 ^ (32 * b.1)) v.toNat)

/-- VLDG. -/
def vgather (p i : Nat) (out : List Nat) (x : Insn) (r : RakerS) (s : Dev) : Ran :=
  match s.gather p i x (x.gatherAddr r) r (actives (x.mask r) 16) out [] with
  | (l, e, s1, r1) =>
    (e.map (fun f => { f.2 with flane := some f.1 }), s1, r1.setV x.rd (putSlots (r.vr x.rd) l))

/-- VLDG.FF. -/
def vgatherFF (p i : Nat) (out : List Nat) (x : Insn) (r : RakerS) (s : Dev) : Ran :=
  if x.mask r = 0 then (none, s, r)
  else match s.gather p i x (x.gatherAddr r) r (actives (x.mask r) 16) out [] with
    | (l, _, s1, r1) =>
      (none, s1, (r1.setV x.rd (putSlots (r.vr x.rd) l)).setP (bitsOf x.w 0 3) (BitVec.ofNat 16 (bitsAt (l.map (·.1)))))

/-- The stores of a scatter in ascending order. -/
def Dev.scatter (s : Dev) (p i : Nat) (x : Insn) (addr : Nat → Nat) (v : BitVec 512) : RakerS → List Nat → List Nat → Ran
  | r, [], _ => (none, s, r)
  | r, k :: ks, out =>
    let n := 2 ^ bitsOf x.w 5 2
    let a := addr k
    if a % n ≠ 0 then (some { code := 4, access := 1, flane := some k }, s, r)
    else
      match s.rkStore p i r a (leBytes n (velem v 32 k)) out with
      | (some e, s1, r1, _) => (some { e with flane := some k }, s1, r1)
      | (none, s1, r1, out1) => s1.scatter p i x addr v r1 ks out1

/-- VSTS. -/
def vscatter (p i : Nat) (out : List Nat) (x : Insn) (r : RakerS) (s : Dev) : Ran :=
  s.scatter p i x (x.gatherAddr r) (r.vr x.rd) r (actives (x.mask r) 16) out

/-! The commands -/

/-- VADD (R622, Table 17.4). -/
def execVadd (p i : Nat) (s : State) : Out := s.dv (·.insn p i (0x30 * 128 + 0) (vint 0))

/-- VSUB (R622, Table 17.4). -/
def execVsub (p i : Nat) (s : State) : Out := s.dv (·.insn p i (0x30 * 128 + 1) (vint 1))

/-- VMUL (R622, Table 17.4). -/
def execVmul (p i : Nat) (s : State) : Out := s.dv (·.insn p i (0x30 * 128 + 2) (vint 2))

/-- VMULH (R622, Table 17.4). -/
def execVmulh (p i : Nat) (s : State) : Out := s.dv (·.insn p i (0x30 * 128 + 3) (vint 3))

/-- VMULHU (R622, Table 17.4). -/
def execVmulhu (p i : Nat) (s : State) : Out := s.dv (·.insn p i (0x30 * 128 + 4) (vint 4))

/-- VADDS (R622, Table 17.4). -/
def execVadds (p i : Nat) (s : State) : Out := s.dv (·.insn p i (0x30 * 128 + 5) (vint 5))

/-- VADDSU (R622, Table 17.4). -/
def execVaddsu (p i : Nat) (s : State) : Out := s.dv (·.insn p i (0x30 * 128 + 6) (vint 6))

/-- VSUBS (R622, Table 17.4). -/
def execVsubs (p i : Nat) (s : State) : Out := s.dv (·.insn p i (0x30 * 128 + 7) (vint 7))

/-- VSUBSU (R622, Table 17.4). -/
def execVsubsu (p i : Nat) (s : State) : Out := s.dv (·.insn p i (0x30 * 128 + 8) (vint 8))

/-- VMIN (R622, Table 17.4). -/
def execVmin (p i : Nat) (s : State) : Out := s.dv (·.insn p i (0x30 * 128 + 9) (vint 9))

/-- VMAX (R622, Table 17.4). -/
def execVmax (p i : Nat) (s : State) : Out := s.dv (·.insn p i (0x30 * 128 + 10) (vint 10))

/-- VMINU (R622, Table 17.4). -/
def execVminu (p i : Nat) (s : State) : Out := s.dv (·.insn p i (0x30 * 128 + 11) (vint 11))

/-- VMAXU (R622, Table 17.4). -/
def execVmaxu (p i : Nat) (s : State) : Out := s.dv (·.insn p i (0x30 * 128 + 12) (vint 12))

/-- VAND (R622, Table 17.4). -/
def execVand (p i : Nat) (s : State) : Out := s.dv (·.insn p i (0x30 * 128 + 13) (vint 13))

/-- VOR (R622, Table 17.4). -/
def execVor (p i : Nat) (s : State) : Out := s.dv (·.insn p i (0x30 * 128 + 14) (vint 14))

/-- VXOR (R622, Table 17.4). -/
def execVxor (p i : Nat) (s : State) : Out := s.dv (·.insn p i (0x30 * 128 + 15) (vint 15))

/-- VANDN (R622, Table 17.4). -/
def execVandn (p i : Nat) (s : State) : Out := s.dv (·.insn p i (0x30 * 128 + 16) (vint 16))

/-- VSHL (R622, Table 17.4). -/
def execVshl (p i : Nat) (s : State) : Out := s.dv (·.insn p i (0x30 * 128 + 17) (vint 17))

/-- VSHR (R622, Table 17.4). -/
def execVshr (p i : Nat) (s : State) : Out := s.dv (·.insn p i (0x30 * 128 + 18) (vint 18))

/-- VSAR (R622, Table 17.4). -/
def execVsar (p i : Nat) (s : State) : Out := s.dv (·.insn p i (0x30 * 128 + 19) (vint 19))

/-- VPOPC (R622, Table 17.4). -/
def execVpopc (p i : Nat) (s : State) : Out := s.dv (·.insn p i (0x30 * 128 + 20) (vint 20))

/-- VABS (R622, Table 17.4). -/
def execVabs (p i : Nat) (s : State) : Out := s.dv (·.insn p i (0x30 * 128 + 21) (vint 21))

/-- VBSWAP (R622, Table 17.4). -/
def execVbswap (p i : Nat) (s : State) : Out := s.dv (·.insn p i (0x30 * 128 + 22) (vint 22))

/-- VFADD (R623, Table 17.5). -/
def execVfadd (p i : Nat) (s : State) : Out := s.dv (·.insn p i (0x31 * 128 + 0) (vfloat2 0))

/-- VFSUB (R623, Table 17.5). -/
def execVfsub (p i : Nat) (s : State) : Out := s.dv (·.insn p i (0x31 * 128 + 1) (vfloat2 1))

/-- VFMUL (R623, Table 17.5). -/
def execVfmul (p i : Nat) (s : State) : Out := s.dv (·.insn p i (0x31 * 128 + 2) (vfloat2 2))

/-- VFDIV (R623, Table 17.5). -/
def execVfdiv (p i : Nat) (s : State) : Out := s.dv (·.insn p i (0x31 * 128 + 3) (vfloat2 3))

/-- VFSQRT (R623). -/
def execVfsqrt (p i : Nat) (s : State) : Out := s.dv (·.insn p i (0x31 * 128 + 4) (vfloat fun j f r x => floatSqrt f r.mode (velem (r.vr x.ra) (vfBits (bitsOf x.w 0 2)) j)))

/-- VFMIN (R623, Table 17.5). -/
def execVfmin (p i : Nat) (s : State) : Out := s.dv (·.insn p i (0x31 * 128 + 5) (vfloat2 5))

/-- VFMAX (R623, Table 17.5). -/
def execVfmax (p i : Nat) (s : State) : Out := s.dv (·.insn p i (0x31 * 128 + 6) (vfloat2 6))

/-- VFMA (R623). -/
def execVfma (p i : Nat) (s : State) : Out := s.dv (·.insn p i (0x31 * 128 + 7) (vfloat fun j f r x =>
    let E := vfBits (bitsOf x.w 0 2)
    floatFma f r.mode (velem (r.vr x.ra) E j) (velem (r.vr x.rb) E j) (velem (r.vr x.rd) E j)))

/-- VFABS (R623). -/
def execVfabs (p i : Nat) (s : State) : Out := s.dv (·.insn p i (0x31 * 128 + 8) (vfsign false))

/-- VFNEG (R623). -/
def execVfneg (p i : Nat) (s : State) : Out := s.dv (·.insn p i (0x31 * 128 + 9) (vfsign true))

/-- VFRMAXA (R623, R625). -/
def execVfrmaxa (p i : Nat) (s : State) : Out := s.dv (·.insn p i (0x31 * 128 + 10) vfMaxAbs)

/-- VCMP_PREDICATE (R624). -/
def execVcmpPredicate (p i : Nat) (s : State) : Out := s.dv (·.insn p i (0x32 * 128 + 0) vcmpP)

/-- VCMP_GREG (R624). -/
def execVcmpGreg (p i : Nat) (s : State) : Out := s.dv (·.insn p i (0x37 * 128 + 0) vcmpG)

/-- VDADD (R631, R632). -/
def execVdadd (p i : Nat) (s : State) : Out := s.dv (·.insn p i (0x33 * 128 + 0) (vdecSum false))

/-- VDSUB (R631, R632). -/
def execVdsub (p i : Nat) (s : State) : Out := s.dv (·.insn p i (0x33 * 128 + 1) (vdecSum true))

/-- VDCMP (R631, R632). -/
def execVdcmp (p i : Nat) (s : State) : Out := s.dv (·.insn p i (0x33 * 128 + 2) vdecCmp)

/-- VDREV (R631). -/
def execVdrev (p i : Nat) (s : State) : Out := s.dv (·.insn p i (0x33 * 128 + 3) fun x r s =>
    (none, s, r.setV x.rd (vmerge (x.mask r) 128 (r.vr x.rd) (fun k => ofBe (leBytes 16 (velem (r.vr x.ra) 128 k))))))

/-- VDBSR (R631). -/
def execVdbsr (p i : Nat) (s : State) : Out := s.dv (·.insn p i (0x33 * 128 + 4) fun x r s =>
    (none, s, r.setV x.rd (vmerge (x.mask r) 128 (r.vr x.rd) (fun k => velem (r.vr x.ra) 128 k / 256 ^ x.rb))))

/-- VCVT_E4M3_TO_FP32 (R628 to R630, Table 17.7). -/
def execVcvtE4m3ToFp32 (p i : Nat) (s : State) : Out := s.dv (·.insn p i (0x34 * 128 + 0) (vconv false 0))

/-- VCVT_E5M2_TO_FP32 (R628 to R630, Table 17.7). -/
def execVcvtE5m2ToFp32 (p i : Nat) (s : State) : Out := s.dv (·.insn p i (0x34 * 128 + 1) (vconv false 1))

/-- VCVT_E3M2_TO_FP32 (R628 to R630, Table 17.7). -/
def execVcvtE3m2ToFp32 (p i : Nat) (s : State) : Out := s.dv (·.insn p i (0x34 * 128 + 2) (vconv false 2))

/-- VCVT_E2M3_TO_FP32 (R628 to R630, Table 17.7). -/
def execVcvtE2m3ToFp32 (p i : Nat) (s : State) : Out := s.dv (·.insn p i (0x34 * 128 + 3) (vconv false 3))

/-- VCVT_E2M1_TO_FP32 (R628 to R630, Table 17.7). -/
def execVcvtE2m1ToFp32 (p i : Nat) (s : State) : Out := s.dv (·.insn p i (0x34 * 128 + 4) (vconv false 4))

/-- VCVT_INT8_TO_FP32 (R628 to R630, Table 17.7). -/
def execVcvtInt8ToFp32 (p i : Nat) (s : State) : Out := s.dv (·.insn p i (0x34 * 128 + 5) (vconv false 5))

/-- VCVT_E8M0_TO_FP32 (R628 to R630, Table 17.7). -/
def execVcvtE8m0ToFp32 (p i : Nat) (s : State) : Out := s.dv (·.insn p i (0x34 * 128 + 6) (vconv false 6))

/-- VCVT_BF16_TO_FP32 (R628 to R630, Table 17.7). -/
def execVcvtBf16ToFp32 (p i : Nat) (s : State) : Out := s.dv (·.insn p i (0x34 * 128 + 7) (vconv false 7))

/-- VCVT_FP16_TO_FP32 (R628 to R630, Table 17.7). -/
def execVcvtFp16ToFp32 (p i : Nat) (s : State) : Out := s.dv (·.insn p i (0x34 * 128 + 8) (vconv false 8))

/-- VCVT_INT4_TO_INT8 (R628 to R630, Table 17.7). -/
def execVcvtInt4ToInt8 (p i : Nat) (s : State) : Out := s.dv (·.insn p i (0x34 * 128 + 9) (vconv false 9))

/-- VCVT_INT8_TO_INT32 (R628 to R630, Table 17.7). -/
def execVcvtInt8ToInt32 (p i : Nat) (s : State) : Out := s.dv (·.insn p i (0x34 * 128 + 10) (vconv false 10))

/-- VCVT_UINT8_TO_INT32 (R628 to R630, Table 17.7). -/
def execVcvtUint8ToInt32 (p i : Nat) (s : State) : Out := s.dv (·.insn p i (0x34 * 128 + 11) (vconv false 11))

/-- VCVT_INT16_TO_INT32 (R628 to R630, Table 17.7). -/
def execVcvtInt16ToInt32 (p i : Nat) (s : State) : Out := s.dv (·.insn p i (0x34 * 128 + 12) (vconv false 12))

/-- VCVT_BIN1_TO_INT8 (R628 to R630, Table 17.7). -/
def execVcvtBin1ToInt8 (p i : Nat) (s : State) : Out := s.dv (·.insn p i (0x34 * 128 + 13) (vconv false 13))

/-- VCVT_INT32_TO_FP32 (R628 to R630, Table 17.7). -/
def execVcvtInt32ToFp32 (p i : Nat) (s : State) : Out := s.dv (·.insn p i (0x34 * 128 + 14) (vconv false 14))

/-- VCVT_FP32_TO_E4M3 (R628 to R630, Table 17.7). -/
def execVcvtFp32ToE4m3 (p i : Nat) (s : State) : Out := s.dv (·.insn p i (0x35 * 128 + 0) (vconv true 0))

/-- VCVT_FP32_TO_E5M2 (R628 to R630, Table 17.7). -/
def execVcvtFp32ToE5m2 (p i : Nat) (s : State) : Out := s.dv (·.insn p i (0x35 * 128 + 1) (vconv true 1))

/-- VCVT_FP32_TO_INT8 (R628 to R630, Table 17.7). -/
def execVcvtFp32ToInt8 (p i : Nat) (s : State) : Out := s.dv (·.insn p i (0x35 * 128 + 2) (vconv true 2))

/-- VCVT_FP32_TO_E8M0 (R628 to R630, Table 17.7). -/
def execVcvtFp32ToE8m0 (p i : Nat) (s : State) : Out := s.dv (·.insn p i (0x35 * 128 + 3) (vconv true 3))

/-- VCVT_FP32_TO_BF16 (R628 to R630, Table 17.7). -/
def execVcvtFp32ToBf16 (p i : Nat) (s : State) : Out := s.dv (·.insn p i (0x35 * 128 + 4) (vconv true 4))

/-- VCVT_FP32_TO_FP16 (R628 to R630, Table 17.7). -/
def execVcvtFp32ToFp16 (p i : Nat) (s : State) : Out := s.dv (·.insn p i (0x35 * 128 + 5) (vconv true 5))

/-- VCVT_INT32_TO_INT16 (R628 to R630, Table 17.7). -/
def execVcvtInt32ToInt16 (p i : Nat) (s : State) : Out := s.dv (·.insn p i (0x35 * 128 + 6) (vconv true 6))

/-- VCVT_INT32_TO_INT8 (R628 to R630, Table 17.7). -/
def execVcvtInt32ToInt8 (p i : Nat) (s : State) : Out := s.dv (·.insn p i (0x35 * 128 + 7) (vconv true 7))

/-- VCVT_INT32_TO_UINT8 (R628 to R630, Table 17.7). -/
def execVcvtInt32ToUint8 (p i : Nat) (s : State) : Out := s.dv (·.insn p i (0x35 * 128 + 8) (vconv true 8))

/-- VCVT_INT16_TO_INT8 (R628 to R630, Table 17.7). -/
def execVcvtInt16ToInt8 (p i : Nat) (s : State) : Out := s.dv (·.insn p i (0x35 * 128 + 9) (vconv true 9))

/-- VCVT_INT8_TO_BIN1 (R628 to R630, Table 17.7). -/
def execVcvtInt8ToBin1 (p i : Nat) (s : State) : Out := s.dv (·.insn p i (0x35 * 128 + 10) (vconv true 10))

/-- VCVT_FP32_TO_INT32 (R628 to R630, Table 17.7). -/
def execVcvtFp32ToInt32 (p i : Nat) (s : State) : Out := s.dv (·.insn p i (0x35 * 128 + 11) (vconv true 11))

/-- VMOV (R625). -/
def execVmov (p i : Nat) (s : State) : Out := s.dv (·.insn p i (0x36 * 128 + 0) fun x r s => (none, s, r.setV x.rd (vmerge (x.mask r) 32 (r.vr x.rd) (fun j => velem (r.vr x.ra) 32 j))))

/-- VSPLAT (R625). -/
def execVsplat (p i : Nat) (s : State) : Out := s.dv (·.insn p i (0x36 * 128 + 1) fun x r s => (none, s, r.setV x.rd (vmerge (x.mask r) x.elemBits (r.vr x.rd) (fun _ => (r.gr x.ra).toNat))))

/-- VEXT (R625, R626). -/
def execVext (p i : Nat) (s : State) : Out := s.dv (·.insn p i (0x36 * 128 + 2) fun x r s => vindexed x r s (fun k => r.setG x.rd (BitVec.ofNat 64 (velem (r.vr x.ra) x.elemBits k))))

/-- VINS (R625, R626). -/
def execVins (p i : Nat) (s : State) : Out := s.dv (·.insn p i (0x36 * 128 + 3) fun x r s =>
    vindexed x r s (fun k => r.setV x.rd (vmerge (x.mask r) x.elemBits (r.vr x.rd)
      (fun j => if j = k then (r.gr x.ra).toNat else velem (r.vr x.rd) x.elemBits j))))

/-- VPERM (R625). -/
def execVperm (p i : Nat) (s : State) : Out := s.dv (·.insn p i (0x36 * 128 + 4) fun x r s =>
    let E := x.elemBits
    (none, s, r.setV x.rd (vmerge (x.mask r) E (r.vr x.rd) (fun j => velem (r.vr x.ra) E (velem (r.vr x.rb) E j % (512 / E))))))

/-- VRADD (R625, Table 17.6). -/
def execVradd (p i : Nat) (s : State) : Out := s.dv (·.insn p i (0x36 * 128 + 5) (vreduce true (fun a b => a + b)))

/-- VRMIN (R625, Table 17.6). -/
def execVrmin (p i : Nat) (s : State) : Out := s.dv (·.insn p i (0x36 * 128 + 6) (vreduce true min))

/-- VRMAX (R625, Table 17.6). -/
def execVrmax (p i : Nat) (s : State) : Out := s.dv (·.insn p i (0x36 * 128 + 7) (vreduce true max))

/-- VRMINU (R625, Table 17.6). -/
def execVrminu (p i : Nat) (s : State) : Out := s.dv (·.insn p i (0x36 * 128 + 8) (vreduce false min))

/-- VRMAXU (R625, Table 17.6). -/
def execVrmaxu (p i : Nat) (s : State) : Out := s.dv (·.insn p i (0x36 * 128 + 9) (vreduce false max))

/-- VRAND (R625, Table 17.6). -/
def execVrand (p i : Nat) (s : State) : Out := s.dv (·.insn p i (0x36 * 128 + 10) (vreduce false (fun a b => (a.toNat &&& b.toNat : Nat))))

/-- VROR (R625, Table 17.6). -/
def execVror (p i : Nat) (s : State) : Out := s.dv (·.insn p i (0x36 * 128 + 11) (vreduce false (fun a b => (a.toNat ||| b.toNat : Nat))))

/-- VRXOR (R625, Table 17.6). -/
def execVrxor (p i : Nat) (s : State) : Out := s.dv (·.insn p i (0x36 * 128 + 12) (vreduce false (fun a b => (a.toNat ^^^ b.toNat : Nat))))

/-- PAND (R627). -/
def execPand (p i : Nat) (s : State) : Out := s.dv (·.insn p i (0x38 * 128 + 0) (predLogic fun a b => a &&& b))

/-- POR (R627). -/
def execPor (p i : Nat) (s : State) : Out := s.dv (·.insn p i (0x38 * 128 + 1) (predLogic fun a b => a ||| b))

/-- PXOR (R627). -/
def execPxor (p i : Nat) (s : State) : Out := s.dv (·.insn p i (0x38 * 128 + 2) (predLogic fun a b => a ^^^ b))

/-- PANDN (R627). -/
def execPandn (p i : Nat) (s : State) : Out := s.dv (·.insn p i (0x38 * 128 + 3) (predLogic fun a b => a &&& ~~~b))

/-- PNOT (R627). -/
def execPnot (p i : Nat) (s : State) : Out := s.dv (·.insn p i (0x38 * 128 + 4) (predLogic fun a _ => ~~~a))

/-- PBELOW (R627). -/
def execPbelow (p i : Nat) (s : State) : Out := s.dv (·.insn p i (0x38 * 128 + 5) (predLogic fun a _ => if a = 0 then 0xFFFF else (a - 1) &&& ~~~a))

/-- PTHRU (R627). -/
def execPthru (p i : Nat) (s : State) : Out := s.dv (·.insn p i (0x38 * 128 + 6) (predLogic fun a _ => if a = 0 then 0xFFFF else a ^^^ (a - 1)))

/-- PSPAN (R627). -/
def execPspan (p i : Nat) (s : State) : Out := s.dv (·.insn p i (0x38 * 128 + 7) predSpan)

/-- VLD (R633). -/
def execVld (p i : Nat) (out : List Nat) (s : State) : Out := s.dv (·.insn p i (0x39 * 128 + 0) (vload p i out))

/-- VST (R633). -/
def execVst (p i : Nat) (out : List Nat) (s : State) : Out := s.dv (·.insn p i (0x3A * 128 + 0) (vstore p i out))

/-- VLDG (R635 to R637). -/
def execVldg (p i : Nat) (out : List Nat) (s : State) : Out := s.dv (·.insn p i (0x3B * 128 + 0) (vgather p i out))

/-- VSTS (R635 to R639). -/
def execVsts (p i : Nat) (out : List Nat) (s : State) : Out := s.dv (·.insn p i (0x3C * 128 + 0) (vscatter p i out))

/-- VLDG_FF (R638). -/
def execVldgFf (p i : Nat) (out : List Nat) (s : State) : Out := s.dv (·.insn p i (0x3D * 128 + 0) (vgatherFF p i out))

end Sys2Proof.Machine
end

