-- ==== Sys2Proof/Machine/Dispatch.lean ====
section
/-! DEFINITION. The dispatch of a command to its meaning: one arm per constructor of Instr. -/

namespace Sys2Proof.Machine

/-- What a command does to everything but the queue. -/
def exec (i : Instr) (s : State) : Host.Outcome State Fault Refusal :=
  match i with
  | .registerWrite f off v size out => Sys2Proof.Machine.execRegisterWrite f off v size out s
  | .rcRegisterRead f off size tag => Sys2Proof.Machine.execRcRegisterRead f off size tag s
  | .identNodeWrite v => Sys2Proof.Machine.execIdentNodeWrite v s
  | .flitReceive link dir strand actl bctl data => Sys2Proof.Machine.execFlitReceive link dir strand actl bctl data s
  | .replayTimeout link dir strand => Sys2Proof.Machine.execReplayTimeout link dir strand s
  | .alarmPulseToggle => Sys2Proof.Machine.execAlarmPulseToggle s
  | .alarmBreakDetected ccw => Sys2Proof.Machine.execAlarmBreakDetected ccw s
  | .identHbmMapWrite v => Sys2Proof.Machine.execIdentHbmMapWrite v s
  | .identCisternWrite v => Sys2Proof.Machine.execIdentCisternWrite v s
  | .cisternChangeDone => Sys2Proof.Machine.execCisternChangeDone s
  | .refLost r => Sys2Proof.Machine.execRefLost r s
  | .refValidAgain r => Sys2Proof.Machine.execRefValidAgain r s
  | .clkCommit n v => Sys2Proof.Machine.execClkCommit n v s
  | .pllLocked n => Sys2Proof.Machine.execPllLocked n s
  | .muxMoveDone n => Sys2Proof.Machine.execMuxMoveDone n s
  | .glideDone n => Sys2Proof.Machine.execGlideDone n s
  | .pllLockLost n => Sys2Proof.Machine.execPllLockLost n s
  | .relockFail n => Sys2Proof.Machine.execRelockFail n s
  | .dllUnlock hbm unit ch => Sys2Proof.Machine.execDllUnlock hbm unit ch s
  | .dllRelock hbm unit ch => Sys2Proof.Machine.execDllRelock hbm unit ch s
  | .hbmDllHoldExpiry unit ch => Sys2Proof.Machine.execHbmDllHoldExpiry unit ch s
  | .dllTrack hbm unit lane up down => Sys2Proof.Machine.execDllTrack hbm unit lane up down s
  | .tollWalk ctx va kind len source unit => Sys2Proof.Machine.execTollWalk ctx va kind len source unit s
  | .tollInvGo v => Sys2Proof.Machine.execTollInvGo v s
  | .invalidationDone => Sys2Proof.Machine.execInvalidationDone s
  | .tollRegionWrite ctrl v => Sys2Proof.Machine.execTollRegionWrite ctrl v s
  | .tollFaultPtrRead => Sys2Proof.Machine.execTollFaultPtrRead s
  | .doorbell b r v whole => Sys2Proof.Machine.execDoorbell b r v whole s
  | .ringReapedWrite b r v => Sys2Proof.Machine.execRingReapedWrite b r v s
  | .ticketTake b r => Sys2Proof.Machine.execTicketTake b r s
  | .msixCoalesceTimer b r => Sys2Proof.Machine.execMsixCoalesceTimer b r s
  | .ringEnable b r v => Sys2Proof.Machine.execRingEnable b r v s
  | .ringDisable b r v => Sys2Proof.Machine.execRingDisable b r v s
  | .ringHalt b r => Sys2Proof.Machine.execRingHalt b r s
  | .ringAbandon b r => Sys2Proof.Machine.execRingAbandon b r s
  | .ringResume b r => Sys2Proof.Machine.execRingResume b r s
  | .deadlineExpiry b r slot => Sys2Proof.Machine.execDeadlineExpiry b r slot s
  | .ringNop b r slot => Sys2Proof.Machine.execRingNop b r slot s
  | .bplanCommit b v => Sys2Proof.Machine.execBplanCommit b v s
  | .bplanClear b v => Sys2Proof.Machine.execBplanClear b v s
  | .berthClearDone b => Sys2Proof.Machine.execBerthClearDone b s
  | .bplanExpel b v => Sys2Proof.Machine.execBplanExpel b v s
  | .quarantineLift b => Sys2Proof.Machine.execQuarantineLift b s
  | .berth0SrcWrite o v => Sys2Proof.Machine.execBerth0SrcWrite o v s
  | .rateRelease b which n => Sys2Proof.Machine.execRateRelease b which n s
  | .registerT b r slot => Sys2Proof.Machine.execRegisterT b r slot s
  | .revoke b r slot => Sys2Proof.Machine.execRevoke b r slot s
  | .regen b r slot => Sys2Proof.Machine.execRegen b r slot s
  | .mooringKeyQuiesced j gen => Sys2Proof.Machine.execMooringKeyQuiesced j gen s
  | .copyT b r slot => Sys2Proof.Machine.execCopyT b r slot s
  | .placeFlush b r slot => Sys2Proof.Machine.execPlaceFlush b r slot s
  | .provingReadComplete tag status ep => Sys2Proof.Machine.execProvingReadComplete tag status ep s
  | .tollMoorEnable v => Sys2Proof.Machine.execTollMoorEnable v s
  | .moorTableCleared => Sys2Proof.Machine.execMoorTableCleared s
  | .hostConfigRequest f dw write be v tag sec => Sys2Proof.Machine.execHostConfigRequest f dw write be v tag sec s
  | .hostBar0Access f off write size v tag ep sec out => Sys2Proof.Machine.execHostBar0Access f off write size v tag ep sec out s
  | .hostBar2Request f off write len tag ep sec data => Sys2Proof.Machine.execHostBar2Request f off write len tag ep sec data s
  | .hostUnsupportedRequest kind f tag sec => Sys2Proof.Machine.execHostUnsupportedRequest kind f tag sec s
  | .hostMalformedTlp kind f => Sys2Proof.Machine.execHostMalformedTlp kind f s
  | .hostCompletionReceived tag status ep sec data => Sys2Proof.Machine.execHostCompletionReceived tag status ep sec data s
  | .hostCplTimeout tag => Sys2Proof.Machine.execHostCplTimeout tag s
  | .unexpectedCompletion tag => Sys2Proof.Machine.execUnexpectedCompletion tag s
  | .msixUnmask f v => Sys2Proof.Machine.execMsixUnmask f v s
  | .msixEnableSet f => Sys2Proof.Machine.execMsixEnableSet f s
  | .busMasterEnableChange f on => Sys2Proof.Machine.execBusMasterEnableChange f on s
  | .d3hotEntry => Sys2Proof.Machine.execD3hotEntry s
  | .d0Return => Sys2Proof.Machine.execD0Return s
  | .l1IdleTimer ack => Sys2Proof.Machine.execL1IdleTimer ack s
  | .ltrIdleTimer => Sys2Proof.Machine.execLtrIdleTimer s
  | .ideCheckFail stream => Sys2Proof.Machine.execIdeCheckFail stream s
  | .perstAssert ns => Sys2Proof.Machine.execPerstAssert ns s
  | .perstDeassert => Sys2Proof.Machine.execPerstDeassert s
  | .hotReset => Sys2Proof.Machine.execHotReset s
  | .pfFlr => Sys2Proof.Machine.execPfFlr s
  | .vfFlr b => Sys2Proof.Machine.execVfFlr b s
  | .flrSilencePoint f => Sys2Proof.Machine.execFlrSilencePoint f s
  | .flrCompletionPoint f => Sys2Proof.Machine.execFlrCompletionPoint f s
  | .hostLinkDown => Sys2Proof.Machine.execHostLinkDown s
  | .shortDropReturn n speed width flit => Sys2Proof.Machine.execShortDropReturn n speed width flit s
  | .vfEnableClear enable n => Sys2Proof.Machine.execVfEnableClear enable n s
  | .portLinkUp p speed width => Sys2Proof.Machine.execPortLinkUp p speed width s
  | .portTrainTimeout p detected => Sys2Proof.Machine.execPortTrainTimeout p detected s
  | .portEnumerate p cls funcs bars others msix mps owned => Sys2Proof.Machine.execPortEnumerate p cls funcs bars others msix mps owned s
  | .enumRrsTimeout p => Sys2Proof.Machine.execEnumRrsTimeout p s
  | .portSbr p => Sys2Proof.Machine.execPortSbr p s
  | .dpcRelease p => Sys2Proof.Machine.execDpcRelease p s
  | .portEnWrite p en => Sys2Proof.Machine.execPortEnWrite p en s
  | .apCfgGo n v => Sys2Proof.Machine.execApCfgGo n v s
  | .apCfgComplete n status data => Sys2Proof.Machine.execApCfgComplete n status data s
  | .accelUpstreamRequest n rid kind addr len tag attr data => Sys2Proof.Machine.execAccelUpstreamRequest n rid kind addr len tag attr data s
  | .downstreamCompletion p tag status ep data => Sys2Proof.Machine.execDownstreamCompletion p tag status ep data s
  | .downstreamCplTimeout p tag => Sys2Proof.Machine.execDownstreamCplTimeout p tag s
  | .partnerErrorMessage p sev src => Sys2Proof.Machine.execPartnerErrorMessage p sev src s
  | .surpriseDown p => Sys2Proof.Machine.execSurpriseDown p s
  | .creditStallTimeout p => Sys2Proof.Machine.execCreditStallTimeout p s
  | .apPgFall n => Sys2Proof.Machine.execApPgFall n s
  | .driveUpstreamRequest k cid off len tag write ep data => Sys2Proof.Machine.execDriveUpstreamRequest k cid off len tag write ep data s
  | .frameReceive m j data fcsOk fecOk target => Sys2Proof.Machine.execFrameReceive m j data fcsOk fecOk target s
  | .pfcXoffRefresh m p => Sys2Proof.Machine.execPfcXoffRefresh m p s
  | .pfcPauseReceived m j p zero => Sys2Proof.Machine.execPfcPauseReceived m j p zero s
  | .pfcWatchdogExpiry m j p => Sys2Proof.Machine.execPfcWatchdogExpiry m j p s
  | .pfcWatchdogEnd m j p => Sys2Proof.Machine.execPfcWatchdogEnd m j p s
  | .frameResidenceTimeout n => Sys2Proof.Machine.execFrameResidenceTimeout n s
  | .deckhandRun m => Sys2Proof.Machine.execDeckhandRun m s
  | .deckhandBudgetExpiry m => Sys2Proof.Machine.execDeckhandBudgetExpiry m s
  | .framePlace n => Sys2Proof.Machine.execFramePlace n s
  | .mnfEditWrite m table index => Sys2Proof.Machine.execMnfEditWrite m table index s
  | .mnfEditRemove m table index => Sys2Proof.Machine.execMnfEditRemove m table index s
  | .mnfDhSlotWrite m index out => Sys2Proof.Machine.execMnfDhSlotWrite m index out s
  | .mnfCommit m discard => Sys2Proof.Machine.execMnfCommit m discard s
  | .mnfDiscard m => Sys2Proof.Machine.execMnfDiscard m s
  | .mnfEmMaskWrite m w v => Sys2Proof.Machine.execMnfEmMaskWrite m w v s
  | .whfPortCtrlWrite m v => Sys2Proof.Machine.execWhfPortCtrlWrite m v s
  | .macLinkDown m j => Sys2Proof.Machine.execMacLinkDown m j s
  | .frameTransmit m j => Sys2Proof.Machine.execFrameTransmit m j s
  | .frameTx b r slot => Sys2Proof.Machine.execFrameTx b r slot s
  | .frameRx b r slot => Sys2Proof.Machine.execFrameRx b r slot s
  | .xctOpen b r slot => Sys2Proof.Machine.execXctOpen b r slot s
  | .xctBind b r slot => Sys2Proof.Machine.execXctBind b r slot s
  | .xctKey b r slot => Sys2Proof.Machine.execXctKey b r slot s
  | .xctSwitch b r slot => Sys2Proof.Machine.execXctSwitch b r slot s
  | .xctRetire b r slot => Sys2Proof.Machine.execXctRetire b r slot s
  | .retireQuiesced x => Sys2Proof.Machine.execRetireQuiesced x s
  | .xctClose b r slot => Sys2Proof.Machine.execXctClose b r slot s
  | .closeDrained x => Sys2Proof.Machine.execCloseDrained x s
  | .xctRelease b r slot => Sys2Proof.Machine.execXctRelease b r slot s
  | .xctQuery b r slot => Sys2Proof.Machine.execXctQuery b r slot s
  | .closingCopyTimer x => Sys2Proof.Machine.execClosingCopyTimer x s
  | .pacedPacketSend x => Sys2Proof.Machine.execPacedPacketSend x s
  | .rateIncreaseTimer x => Sys2Proof.Machine.execRateIncreaseTimer x s
  | .xctPutPacket n => Sys2Proof.Machine.execXctPutPacket n s
  | .xctPostPacket n => Sys2Proof.Machine.execXctPostPacket n s
  | .xctGetReqPacket n => Sys2Proof.Machine.execXctGetReqPacket n s
  | .xctGetRespPacket n => Sys2Proof.Machine.execXctGetRespPacket n s
  | .xctFaddPacket n => Sys2Proof.Machine.execXctFaddPacket n s
  | .xctCswapPacket n => Sys2Proof.Machine.execXctCswapPacket n s
  | .xctAtomicRespPacket n => Sys2Proof.Machine.execXctAtomicRespPacket n s
  | .xctFlushReqPacket n => Sys2Proof.Machine.execXctFlushReqPacket n s
  | .xctFlushRespPacket n => Sys2Proof.Machine.execXctFlushRespPacket n s
  | .xctAckPacket n => Sys2Proof.Machine.execXctAckPacket n s
  | .xctSackPacket n => Sys2Proof.Machine.execXctSackPacket n s
  | .xctNakPacket n => Sys2Proof.Machine.execXctNakPacket n s
  | .xctClosingPacket n => Sys2Proof.Machine.execXctClosingPacket n s
  | .fencedExecute x => Sys2Proof.Machine.execFencedExecute x s
  | .xctCtrlWrite v => Sys2Proof.Machine.execXctCtrlWrite v s
  | .xctPut b r slot => Sys2Proof.Machine.execXctPut b r slot s
  | .xctGet b r slot => Sys2Proof.Machine.execXctGet b r slot s
  | .xctPost b r slot => Sys2Proof.Machine.execXctPost b r slot s
  | .xctFadd b r slot => Sys2Proof.Machine.execXctFadd b r slot s
  | .xctCswap b r slot => Sys2Proof.Machine.execXctCswap b r slot s
  | .xctFlush b r slot => Sys2Proof.Machine.execXctFlush b r slot s
  | .recv b r slot => Sys2Proof.Machine.execRecv b r slot s
  | .ackDelayTimer x => Sys2Proof.Machine.execAckDelayTimer x s
  | .retransmitTimeout x psn => Sys2Proof.Machine.execRetransmitTimeout x psn s
  | .retryGiveUp x psn => Sys2Proof.Machine.execRetryGiveUp x psn s
  | .storageRead b r slot => Sys2Proof.Machine.execStorageRead b r slot s
  | .storageWrite b r slot => Sys2Proof.Machine.execStorageWrite b r slot s
  | .sync b r slot => Sys2Proof.Machine.execSync b r slot s
  | .deallocate b r slot => Sys2Proof.Machine.execDeallocate b r slot s
  | .readExpand b r slot => Sys2Proof.Machine.execReadExpand b r slot s
  | .writePack b r slot => Sys2Proof.Machine.execWritePack b r slot s
  | .evaporatorDone b r slot => Sys2Proof.Machine.execEvaporatorDone b r slot s
  | .driveCompletion u cid sct sc => Sys2Proof.Machine.execDriveCompletion u cid sct sc s
  | .driveCmdTimeout u cid => Sys2Proof.Machine.execDriveCmdTimeout u cid s
  | .abortTimeout k cid => Sys2Proof.Machine.execAbortTimeout k cid s
  | .stoCtrlEnable v => Sys2Proof.Machine.execStoCtrlEnable v s
  | .volumeCreate v w => Sys2Proof.Machine.execVolumeCreate v w s
  | .volumeDestroy v => Sys2Proof.Machine.execVolumeDestroy v s
  | .targetEnable t v out => Sys2Proof.Machine.execTargetEnable t v out s
  | .targetDisable t v => Sys2Proof.Machine.execTargetDisable t v s
  | .nvmeTcpSegment t acked kind cid off n data digestOk => Sys2Proof.Machine.execNvmeTcpSegment t acked kind cid off n data digestOk s
  | .targetConnectionReset t => Sys2Proof.Machine.execTargetConnectionReset t s
  | .targetReconnectTimer t => Sys2Proof.Machine.execTargetReconnectTimer t s
  | .keepAliveTimer t => Sys2Proof.Machine.execKeepAliveTimer t s
  | .driveIdleTimer k => Sys2Proof.Machine.execDriveIdleTimer k s
  | .ptpSync src seq twoStep t1 corr => Sys2Proof.Machine.execPtpSync src seq twoStep t1 corr s
  | .ptpFollowUp src seq t1 corr => Sys2Proof.Machine.execPtpFollowUp src seq t1 corr s
  | .ptpDelayResp src mine seq t4 corr => Sys2Proof.Machine.execPtpDelayResp src mine seq t4 corr s
  | .ptpAnnounce src p1 cls acc var p2 gm steps => Sys2Proof.Machine.execPtpAnnounce src p1 cls acc var p2 gm steps s
  | .delayReqTimer => Sys2Proof.Machine.execDelayReqTimer s
  | .ptpMasterLost => Sys2Proof.Machine.execPtpMasterLost s
  | .reanchor => Sys2Proof.Machine.execReanchor s
  | .wallSet v => Sys2Proof.Machine.execWallSet v s
  | .tidFreqWrite v => Sys2Proof.Machine.execTidFreqWrite v s
  | .tidTideRead => Sys2Proof.Machine.execTidTideRead s
  | .timeRead b r slot => Sys2Proof.Machine.execTimeRead b r slot s
  | .atTide b r slot => Sys2Proof.Machine.execAtTide b r slot s
  | .atWall b r slot => Sys2Proof.Machine.execAtWall b r slot s
  | .timedOperationFire b r slot => Sys2Proof.Machine.execTimedOperationFire b r slot s
  | .panLoad b r slot => Sys2Proof.Machine.execPanLoad b r slot s
  | .panLoadStarted p => Sys2Proof.Machine.execPanLoadStarted p s
  | .panStop b r slot => Sys2Proof.Machine.execPanStop b r slot s
  | .watch b r slot => Sys2Proof.Machine.execWatch b r slot s
  | .deliver b r slot => Sys2Proof.Machine.execDeliver b r slot s
  | .rakerExit p j v => Sys2Proof.Machine.execRakerExit p j v s
  | .inboxNext p j => Sys2Proof.Machine.execInboxNext p j s
  | .answerGo p j v => Sys2Proof.Machine.execAnswerGo p j v s
  | .tallyWrite p j t v => Sys2Proof.Machine.execTallyWrite p j t v s
  | .barrowGo p j => Sys2Proof.Machine.execBarrowGo p j s
  | .barrowDescriptorDone p out => Sys2Proof.Machine.execBarrowDescriptorDone p out s
  | .cryGo p j => Sys2Proof.Machine.execCryGo p j s
  | .panStopAtExpiry p => Sys2Proof.Machine.execPanStopAtExpiry p s
  | .panScrubDone p => Sys2Proof.Machine.execPanScrubDone p s
  | .addI p j => Sys2Proof.Machine.execAddI p j s
  | .subI p j => Sys2Proof.Machine.execSubI p j s
  | .mulI p j => Sys2Proof.Machine.execMulI p j s
  | .mulh p j => Sys2Proof.Machine.execMulh p j s
  | .mulhu p j => Sys2Proof.Machine.execMulhu p j s
  | .divI p j => Sys2Proof.Machine.execDivI p j s
  | .divu p j => Sys2Proof.Machine.execDivu p j s
  | .rem p j => Sys2Proof.Machine.execRem p j s
  | .remu p j => Sys2Proof.Machine.execRemu p j s
  | .andI p j => Sys2Proof.Machine.execAndI p j s
  | .orI p j => Sys2Proof.Machine.execOrI p j s
  | .xorI p j => Sys2Proof.Machine.execXorI p j s
  | .andn p j => Sys2Proof.Machine.execAndn p j s
  | .shl p j => Sys2Proof.Machine.execShl p j s
  | .shr p j => Sys2Proof.Machine.execShr p j s
  | .sar p j => Sys2Proof.Machine.execSar p j s
  | .ror p j => Sys2Proof.Machine.execRor p j s
  | .minI p j => Sys2Proof.Machine.execMinI p j s
  | .maxI p j => Sys2Proof.Machine.execMaxI p j s
  | .minu p j => Sys2Proof.Machine.execMinu p j s
  | .maxu p j => Sys2Proof.Machine.execMaxu p j s
  | .clz p j => Sys2Proof.Machine.execClz p j s
  | .ctz p j => Sys2Proof.Machine.execCtz p j s
  | .popc p j => Sys2Proof.Machine.execPopc p j s
  | .bswap p j => Sys2Proof.Machine.execBswap p j s
  | .sext8 p j => Sys2Proof.Machine.execSext8 p j s
  | .sext16 p j => Sys2Proof.Machine.execSext16 p j s
  | .sext32 p j => Sys2Proof.Machine.execSext32 p j s
  | .zext8 p j => Sys2Proof.Machine.execZext8 p j s
  | .zext16 p j => Sys2Proof.Machine.execZext16 p j s
  | .zext32 p j => Sys2Proof.Machine.execZext32 p j s
  | .addi p j => Sys2Proof.Machine.execAddi p j s
  | .andi p j => Sys2Proof.Machine.execAndi p j s
  | .ori p j => Sys2Proof.Machine.execOri p j s
  | .xori p j => Sys2Proof.Machine.execXori p j s
  | .lih p j => Sys2Proof.Machine.execLih p j s
  | .shli p j => Sys2Proof.Machine.execShli p j s
  | .shri p j => Sys2Proof.Machine.execShri p j s
  | .sari p j => Sys2Proof.Machine.execSari p j s
  | .rori p j => Sys2Proof.Machine.execRori p j s
  | .cseq p j => Sys2Proof.Machine.execCseq p j s
  | .csne p j => Sys2Proof.Machine.execCsne p j s
  | .cslt p j => Sys2Proof.Machine.execCslt p j s
  | .csltu p j => Sys2Proof.Machine.execCsltu p j s
  | .csle p j => Sys2Proof.Machine.execCsle p j s
  | .csleu p j => Sys2Proof.Machine.execCsleu p j s
  | .cseqImm p j => Sys2Proof.Machine.execCseqImm p j s
  | .csneImm p j => Sys2Proof.Machine.execCsneImm p j s
  | .csltImm p j => Sys2Proof.Machine.execCsltImm p j s
  | .csltuImm p j => Sys2Proof.Machine.execCsltuImm p j s
  | .csleImm p j => Sys2Proof.Machine.execCsleImm p j s
  | .csleuImm p j => Sys2Proof.Machine.execCsleuImm p j s
  | .ld p j out => Sys2Proof.Machine.execLd p j out s
  | .st p j out => Sys2Proof.Machine.execSt p j out s
  | .aadd p j out => Sys2Proof.Machine.execAadd p j out s
  | .aswap p j out => Sys2Proof.Machine.execAswap p j out s
  | .acas p j out => Sys2Proof.Machine.execAcas p j out s
  | .fadd p j => Sys2Proof.Machine.execFadd p j s
  | .fsub p j => Sys2Proof.Machine.execFsub p j s
  | .fmul p j => Sys2Proof.Machine.execFmul p j s
  | .fdiv p j => Sys2Proof.Machine.execFdiv p j s
  | .fsqrt p j => Sys2Proof.Machine.execFsqrt p j s
  | .fmin p j => Sys2Proof.Machine.execFmin p j s
  | .fmax p j => Sys2Proof.Machine.execFmax p j s
  | .fma p j => Sys2Proof.Machine.execFma p j s
  | .fceq p j => Sys2Proof.Machine.execFceq p j s
  | .fclt p j => Sys2Proof.Machine.execFclt p j s
  | .fcle p j => Sys2Proof.Machine.execFcle p j s
  | .fcvt p j => Sys2Proof.Machine.execFcvt p j s
  | .ftoi p j => Sys2Proof.Machine.execFtoi p j s
  | .itof p j => Sys2Proof.Machine.execItof p j s
  | .fclass p j => Sys2Proof.Machine.execFclass p j s
  | .bz p j => Sys2Proof.Machine.execBz p j s
  | .bnz p j => Sys2Proof.Machine.execBnz p j s
  | .jal p j => Sys2Proof.Machine.execJal p j s
  | .jalr p j => Sys2Proof.Machine.execJalr p j s
  | .nop p j => Sys2Proof.Machine.execNop p j s
  | .yield p j => Sys2Proof.Machine.execYield p j s
  | .fenceS p j => Sys2Proof.Machine.execFenceS p j s
  | .fenceL p j => Sys2Proof.Machine.execFenceL p j s
  | .fenceSl p j => Sys2Proof.Machine.execFenceSl p j s
  | .srd p j => Sys2Proof.Machine.execSrd p j s
  | .swr p j => Sys2Proof.Machine.execSwr p j s
  | .pmovg p j => Sys2Proof.Machine.execPmovg p j s
  | .gmovp p j => Sys2Proof.Machine.execGmovp p j s
  | .dadd p j => Sys2Proof.Machine.execDadd p j s
  | .dsub p j => Sys2Proof.Machine.execDsub p j s
  | .dmuld p j => Sys2Proof.Machine.execDmuld p j s
  | .dcmp p j => Sys2Proof.Machine.execDcmp p j s
  | .dshl p j => Sys2Proof.Machine.execDshl p j s
  | .dshr p j => Sys2Proof.Machine.execDshr p j s
  | .drnd p j => Sys2Proof.Machine.execDrnd p j s
  | .dadj p j => Sys2Proof.Machine.execDadj p j s
  | .dval p j => Sys2Proof.Machine.execDval p j s
  | .dtob p j => Sys2Proof.Machine.execDtob p j s
  | .btod p j => Sys2Proof.Machine.execBtod p j s
  | .vadd p j => Sys2Proof.Machine.execVadd p j s
  | .vsub p j => Sys2Proof.Machine.execVsub p j s
  | .vmul p j => Sys2Proof.Machine.execVmul p j s
  | .vmulh p j => Sys2Proof.Machine.execVmulh p j s
  | .vmulhu p j => Sys2Proof.Machine.execVmulhu p j s
  | .vadds p j => Sys2Proof.Machine.execVadds p j s
  | .vaddsu p j => Sys2Proof.Machine.execVaddsu p j s
  | .vsubs p j => Sys2Proof.Machine.execVsubs p j s
  | .vsubsu p j => Sys2Proof.Machine.execVsubsu p j s
  | .vmin p j => Sys2Proof.Machine.execVmin p j s
  | .vmax p j => Sys2Proof.Machine.execVmax p j s
  | .vminu p j => Sys2Proof.Machine.execVminu p j s
  | .vmaxu p j => Sys2Proof.Machine.execVmaxu p j s
  | .vand p j => Sys2Proof.Machine.execVand p j s
  | .vor p j => Sys2Proof.Machine.execVor p j s
  | .vxor p j => Sys2Proof.Machine.execVxor p j s
  | .vandn p j => Sys2Proof.Machine.execVandn p j s
  | .vshl p j => Sys2Proof.Machine.execVshl p j s
  | .vshr p j => Sys2Proof.Machine.execVshr p j s
  | .vsar p j => Sys2Proof.Machine.execVsar p j s
  | .vpopc p j => Sys2Proof.Machine.execVpopc p j s
  | .vabs p j => Sys2Proof.Machine.execVabs p j s
  | .vbswap p j => Sys2Proof.Machine.execVbswap p j s
  | .vfadd p j => Sys2Proof.Machine.execVfadd p j s
  | .vfsub p j => Sys2Proof.Machine.execVfsub p j s
  | .vfmul p j => Sys2Proof.Machine.execVfmul p j s
  | .vfdiv p j => Sys2Proof.Machine.execVfdiv p j s
  | .vfsqrt p j => Sys2Proof.Machine.execVfsqrt p j s
  | .vfmin p j => Sys2Proof.Machine.execVfmin p j s
  | .vfmax p j => Sys2Proof.Machine.execVfmax p j s
  | .vfma p j => Sys2Proof.Machine.execVfma p j s
  | .vfabs p j => Sys2Proof.Machine.execVfabs p j s
  | .vfneg p j => Sys2Proof.Machine.execVfneg p j s
  | .vfrmaxa p j => Sys2Proof.Machine.execVfrmaxa p j s
  | .vcmpPredicate p j => Sys2Proof.Machine.execVcmpPredicate p j s
  | .vcmpGreg p j => Sys2Proof.Machine.execVcmpGreg p j s
  | .vdadd p j => Sys2Proof.Machine.execVdadd p j s
  | .vdsub p j => Sys2Proof.Machine.execVdsub p j s
  | .vdcmp p j => Sys2Proof.Machine.execVdcmp p j s
  | .vdrev p j => Sys2Proof.Machine.execVdrev p j s
  | .vdbsr p j => Sys2Proof.Machine.execVdbsr p j s
  | .vcvtE4m3ToFp32 p j => Sys2Proof.Machine.execVcvtE4m3ToFp32 p j s
  | .vcvtE5m2ToFp32 p j => Sys2Proof.Machine.execVcvtE5m2ToFp32 p j s
  | .vcvtE3m2ToFp32 p j => Sys2Proof.Machine.execVcvtE3m2ToFp32 p j s
  | .vcvtE2m3ToFp32 p j => Sys2Proof.Machine.execVcvtE2m3ToFp32 p j s
  | .vcvtE2m1ToFp32 p j => Sys2Proof.Machine.execVcvtE2m1ToFp32 p j s
  | .vcvtInt8ToFp32 p j => Sys2Proof.Machine.execVcvtInt8ToFp32 p j s
  | .vcvtE8m0ToFp32 p j => Sys2Proof.Machine.execVcvtE8m0ToFp32 p j s
  | .vcvtBf16ToFp32 p j => Sys2Proof.Machine.execVcvtBf16ToFp32 p j s
  | .vcvtFp16ToFp32 p j => Sys2Proof.Machine.execVcvtFp16ToFp32 p j s
  | .vcvtInt4ToInt8 p j => Sys2Proof.Machine.execVcvtInt4ToInt8 p j s
  | .vcvtInt8ToInt32 p j => Sys2Proof.Machine.execVcvtInt8ToInt32 p j s
  | .vcvtUint8ToInt32 p j => Sys2Proof.Machine.execVcvtUint8ToInt32 p j s
  | .vcvtInt16ToInt32 p j => Sys2Proof.Machine.execVcvtInt16ToInt32 p j s
  | .vcvtBin1ToInt8 p j => Sys2Proof.Machine.execVcvtBin1ToInt8 p j s
  | .vcvtInt32ToFp32 p j => Sys2Proof.Machine.execVcvtInt32ToFp32 p j s
  | .vcvtFp32ToE4m3 p j => Sys2Proof.Machine.execVcvtFp32ToE4m3 p j s
  | .vcvtFp32ToE5m2 p j => Sys2Proof.Machine.execVcvtFp32ToE5m2 p j s
  | .vcvtFp32ToInt8 p j => Sys2Proof.Machine.execVcvtFp32ToInt8 p j s
  | .vcvtFp32ToE8m0 p j => Sys2Proof.Machine.execVcvtFp32ToE8m0 p j s
  | .vcvtFp32ToBf16 p j => Sys2Proof.Machine.execVcvtFp32ToBf16 p j s
  | .vcvtFp32ToFp16 p j => Sys2Proof.Machine.execVcvtFp32ToFp16 p j s
  | .vcvtInt32ToInt16 p j => Sys2Proof.Machine.execVcvtInt32ToInt16 p j s
  | .vcvtInt32ToInt8 p j => Sys2Proof.Machine.execVcvtInt32ToInt8 p j s
  | .vcvtInt32ToUint8 p j => Sys2Proof.Machine.execVcvtInt32ToUint8 p j s
  | .vcvtInt16ToInt8 p j => Sys2Proof.Machine.execVcvtInt16ToInt8 p j s
  | .vcvtInt8ToBin1 p j => Sys2Proof.Machine.execVcvtInt8ToBin1 p j s
  | .vcvtFp32ToInt32 p j => Sys2Proof.Machine.execVcvtFp32ToInt32 p j s
  | .vmov p j => Sys2Proof.Machine.execVmov p j s
  | .vsplat p j => Sys2Proof.Machine.execVsplat p j s
  | .vext p j => Sys2Proof.Machine.execVext p j s
  | .vins p j => Sys2Proof.Machine.execVins p j s
  | .vperm p j => Sys2Proof.Machine.execVperm p j s
  | .vradd p j => Sys2Proof.Machine.execVradd p j s
  | .vrmin p j => Sys2Proof.Machine.execVrmin p j s
  | .vrmax p j => Sys2Proof.Machine.execVrmax p j s
  | .vrminu p j => Sys2Proof.Machine.execVrminu p j s
  | .vrmaxu p j => Sys2Proof.Machine.execVrmaxu p j s
  | .vrand p j => Sys2Proof.Machine.execVrand p j s
  | .vror p j => Sys2Proof.Machine.execVror p j s
  | .vrxor p j => Sys2Proof.Machine.execVrxor p j s
  | .pand p j => Sys2Proof.Machine.execPand p j s
  | .por p j => Sys2Proof.Machine.execPor p j s
  | .pxor p j => Sys2Proof.Machine.execPxor p j s
  | .pandn p j => Sys2Proof.Machine.execPandn p j s
  | .pnot p j => Sys2Proof.Machine.execPnot p j s
  | .pbelow p j => Sys2Proof.Machine.execPbelow p j s
  | .pthru p j => Sys2Proof.Machine.execPthru p j s
  | .pspan p j => Sys2Proof.Machine.execPspan p j s
  | .vld p j out => Sys2Proof.Machine.execVld p j out s
  | .vst p j out => Sys2Proof.Machine.execVst p j out s
  | .vldg p j out => Sys2Proof.Machine.execVldg p j out s
  | .vsts p j out => Sys2Proof.Machine.execVsts p j out s
  | .vldgFf p j out => Sys2Proof.Machine.execVldgFf p j out s
  | .cload p out => Sys2Proof.Machine.execCload p out s
  | .cstore p out => Sys2Proof.Machine.execCstore p out s
  | .cmma p => Sys2Proof.Machine.execCmma p s
  | .crank p => Sys2Proof.Machine.execCrank p s
  | .cquantQuantize p out => Sys2Proof.Machine.execCquantQuantize p out s
  | .cquantDequantize p out => Sys2Proof.Machine.execCquantDequantize p out s
  | .cconv p out => Sys2Proof.Machine.execCconv p out s
  | .cwait p => Sys2Proof.Machine.execCwait p s
  | .cwaitTimeout p => Sys2Proof.Machine.execCwaitTimeout p s
  | .cfence p out => Sys2Proof.Machine.execCfence p out s
  | .cryStepBoundary c n => Sys2Proof.Machine.execCryStepBoundary c n s
  | .taskGo m => Sys2Proof.Machine.execTaskGo m s
  | .heartbeat m => Sys2Proof.Machine.execHeartbeat m s
  | .powerCap m => Sys2Proof.Machine.execPowerCap m s
  | .thermalPolicy m => Sys2Proof.Machine.execThermalPolicy m s
  | .autonomyPolicy m => Sys2Proof.Machine.execAutonomyPolicy m s
  | .accelPowerOn m => Sys2Proof.Machine.execAccelPowerOn m s
  | .accelPowerOff m => Sys2Proof.Machine.execAccelPowerOff m s
  | .accelResetPerst m => Sys2Proof.Machine.execAccelResetPerst m s
  | .accelResetSbr m => Sys2Proof.Machine.execAccelResetSbr m s
  | .drivePowerOn m => Sys2Proof.Machine.execDrivePowerOn m s
  | .drivePowerOff m => Sys2Proof.Machine.execDrivePowerOff m s
  | .fwStageBegin m => Sys2Proof.Machine.execFwStageBegin m s
  | .fwStageData m => Sys2Proof.Machine.execFwStageData m s
  | .fwStageEnd m => Sys2Proof.Machine.execFwStageEnd m s
  | .fwStageCancel m => Sys2Proof.Machine.execFwStageCancel m s
  | .fwActivateNextReset m => Sys2Proof.Machine.execFwActivateNextReset m s
  | .fwActivateHelmNow m => Sys2Proof.Machine.execFwActivateHelmNow m s
  | .fwActivateConfirm m => Sys2Proof.Machine.execFwActivateConfirm m s
  | .fwActivateRevert m => Sys2Proof.Machine.execFwActivateRevert m s
  | .fwStatus m => Sys2Proof.Machine.execFwStatus m s
  | .logRead m => Sys2Proof.Machine.execLogRead m s
  | .logClear m => Sys2Proof.Machine.execLogClear m s
  | .vaultSet m => Sys2Proof.Machine.execVaultSet m s
  | .vaultArm m heads => Sys2Proof.Machine.execVaultArm m heads s
  | .vaultDisarm m => Sys2Proof.Machine.execVaultDisarm m s
  | .vaultRestore m heads => Sys2Proof.Machine.execVaultRestore m heads s
  | .vaultDiscard m => Sys2Proof.Machine.execVaultDiscard m s
  | .vaultStatus m => Sys2Proof.Machine.execVaultStatus m s
  | .canSend m => Sys2Proof.Machine.execCanSend m s
  | .canFilterSet m => Sys2Proof.Machine.execCanFilterSet m s
  | .canFilterClear m => Sys2Proof.Machine.execCanFilterClear m s
  | .canFilterRead m => Sys2Proof.Machine.execCanFilterRead m s
  | .canFilterConfig m => Sys2Proof.Machine.execCanFilterConfig m s
  | .gaugeConfigChannel m => Sys2Proof.Machine.execGaugeConfigChannel m s
  | .gaugeConfigThreshold m => Sys2Proof.Machine.execGaugeConfigThreshold m s
  | .gaugeReadFifo m => Sys2Proof.Machine.execGaugeReadFifo m s
  | .gaugeClear m => Sys2Proof.Machine.execGaugeClear m s
  | .gaugeReadStats m => Sys2Proof.Machine.execGaugeReadStats m s
  | .staggerPlan m => Sys2Proof.Machine.execStaggerPlan m s
  | .taskMessageRead binding inst off => Sys2Proof.Machine.execTaskMessageRead binding inst off s
  | .taskMessageWrite binding inst off v => Sys2Proof.Machine.execTaskMessageWrite binding inst off v s
  | .mctpControlMessage binding cmd eid => Sys2Proof.Machine.execMctpControlMessage binding cmd eid s
  | .pldmSensorRead binding id state => Sys2Proof.Machine.execPldmSensorRead binding id state s
  | .pldmRequestFirmwareData off total data => Sys2Proof.Machine.execPldmRequestFirmwareData off total data s
  | .pldmActivateFirmware selfContained => Sys2Proof.Machine.execPldmActivateFirmware selfContained s
  | .autonomyEnter => Sys2Proof.Machine.execAutonomyEnter s
  | .autoRestart p => Sys2Proof.Machine.execAutoRestart p s
  | .helmLockstepMismatch => Sys2Proof.Machine.execHelmLockstepMismatch s
  | .helmRestartDone ok => Sys2Proof.Machine.execHelmRestartDone ok s
  | .helmWatchdog => Sys2Proof.Machine.execHelmWatchdog s
  | .apPgRise n => Sys2Proof.Machine.execApPgRise n s
  | .apPgTimeout n => Sys2Proof.Machine.execApPgTimeout n s
  | .apPerstReleaseTimer n => Sys2Proof.Machine.execApPerstReleaseTimer n s
  | .staggerGapTimer who => Sys2Proof.Machine.execStaggerGapTimer who s
  | .canTxAttemptDone outcome => Sys2Proof.Machine.execCanTxAttemptDone outcome s
  | .canLoneProbeTimer outcome => Sys2Proof.Machine.execCanLoneProbeTimer outcome s
  | .canFrameReceived word data good => Sys2Proof.Machine.execCanFrameReceived word data good s
  | .canBusOffRecovered => Sys2Proof.Machine.execCanBusOffRecovered s
  | .gaugeWord v clip => Sys2Proof.Machine.execGaugeWord v clip s
  | .capLoopTick => Sys2Proof.Machine.execCapLoopTick s
  | .groupRotate => Sys2Proof.Machine.execGroupRotate s
  | .neapEntryTimer n => Sys2Proof.Machine.execNeapEntryTimer n s
  | .slackEntryTimer n => Sys2Proof.Machine.execSlackEntryTimer n s
  | .islandWake n => Sys2Proof.Machine.execIslandWake n s
  | .islandExitDone n => Sys2Proof.Machine.execIslandExitDone n s
  | .brakeNAssert ns => Sys2Proof.Machine.execBrakeNAssert ns s
  | .brakeNRelease ns => Sys2Proof.Machine.execBrakeNRelease ns s
  | .thermalTrip index => Sys2Proof.Machine.execThermalTrip index s
  | .pwrCtrlWrite v => Sys2Proof.Machine.execPwrCtrlWrite v s
  | .standbyPowerRise => Sys2Proof.Machine.execStandbyPowerRise s
  | .standbyPowerFall => Sys2Proof.Machine.execStandbyPowerFall s
  | .slipwayImageVerified readA a readB b => Sys2Proof.Machine.execSlipwayImageVerified readA a readB b s
  | .mainPowerBelieved => Sys2Proof.Machine.execMainPowerBelieved s
  | .mainPgFall short => Sys2Proof.Machine.execMainPgFall short s
  | .mainPgLowTimer => Sys2Proof.Machine.execMainPgLowTimer s
  | .slipwayStationComplete ok index => Sys2Proof.Machine.execSlipwayStationComplete ok index s
  | .crystallizerGroupExit => Sys2Proof.Machine.execCrystallizerGroupExit s
  | .slackWaterReset => Sys2Proof.Machine.execSlackWaterReset s
  | .slackWaterComplete => Sys2Proof.Machine.execSlackWaterComplete s
  | .vaultWriteComplete k ok => Sys2Proof.Machine.execVaultWriteComplete k ok s
  | .vaultFlushComplete k ok => Sys2Proof.Machine.execVaultFlushComplete k ok s
  | .vaultSealComplete k ok => Sys2Proof.Machine.execVaultSealComplete k ok s
  | .cellLowFall pgHigh => Sys2Proof.Machine.execCellLowFall pgHigh s
  | .restoreReadComplete k ok data => Sys2Proof.Machine.execRestoreReadComplete k ok data s
  | .tlhSlotLoad v => Sys2Proof.Machine.execTlhSlotLoad v s
  | .tlhSlotZeroize v clean => Sys2Proof.Machine.execTlhSlotZeroize v clean s
  | .tlhSlotQuery v => Sys2Proof.Machine.execTlhSlotQuery v s
  | .sessionOnlySet => Sys2Proof.Machine.execSessionOnlySet s
  | .keyMsgLoad binding sess handle owner kind key => Sys2Proof.Machine.execKeyMsgLoad binding sess handle owner kind key s
  | .keyMsgZeroize binding sess handle clean => Sys2Proof.Machine.execKeyMsgZeroize binding sess handle clean s
  | .keyMsgQuery binding sess handle => Sys2Proof.Machine.execKeyMsgQuery binding sess handle s
  | .getVersion binding => Sys2Proof.Machine.execGetVersion binding s
  | .getCapabilities binding => Sys2Proof.Machine.execGetCapabilities binding s
  | .negotiateAlgorithms binding asym hash dhe aead => Sys2Proof.Machine.execNegotiateAlgorithms binding asym hash dhe aead s
  | .getDigests binding sess => Sys2Proof.Machine.execGetDigests binding sess s
  | .getCertificate binding sess slot off len => Sys2Proof.Machine.execGetCertificate binding sess slot off len s
  | .challenge binding slot nonce => Sys2Proof.Machine.execChallenge binding slot nonce s
  | .getMeasurements binding sess op sign nonce => Sys2Proof.Machine.execGetMeasurements binding sess op sign nonce s
  | .keyExchange binding => Sys2Proof.Machine.execKeyExchange binding s
  | .finish binding sess good => Sys2Proof.Machine.execFinish binding sess good s
  | .spdmHeartbeat binding sess => Sys2Proof.Machine.execSpdmHeartbeat binding sess s
  | .keyUpdate binding sess op => Sys2Proof.Machine.execKeyUpdate binding sess op s
  | .endSession binding sess => Sys2Proof.Machine.execEndSession binding sess s
  | .ideKmQuery binding sess => Sys2Proof.Machine.execIdeKmQuery binding sess s
  | .keyProg binding sess stream set dir sub key => Sys2Proof.Machine.execKeyProg binding sess stream set dir sub key s
  | .kSetGo binding sess stream set => Sys2Proof.Machine.execKSetGo binding sess stream set s
  | .kSetStop binding sess stream set => Sys2Proof.Machine.execKSetStop binding sess stream set s
  | .apIdeSetup n cert => Sys2Proof.Machine.execApIdeSetup n cert s
  | .apIdeSetupTimeout n step => Sys2Proof.Machine.execApIdeSetupTimeout n step s
  | .apIdeIntegrityFail n => Sys2Proof.Machine.execApIdeIntegrityFail n s
  | .drbgHealthFail test => Sys2Proof.Machine.execDrbgHealthFail test s
  | .errLastRead whole => Sys2Proof.Machine.execErrLastRead whole s
  | .tapBypass tdi => Sys2Proof.Machine.execTapBypass tdi s
  | .tapIdcode => Sys2Proof.Machine.execTapIdcode s
  | .samplePreload levels preload => Sys2Proof.Machine.execSamplePreload levels preload s
  | .extest levels preload => Sys2Proof.Machine.execExtest levels preload s
  | .hostLinkUp speed width flit => Sys2Proof.Machine.execHostLinkUp speed width flit s
  | .macLinkUp m j => Sys2Proof.Machine.execMacLinkUp m j s
  | .cellLowRise => Sys2Proof.Machine.execCellLowRise s
  | .islandEntryDone n => Sys2Proof.Machine.execIslandEntryDone n s
  | .spiFlashOperationDone m ok cs => Sys2Proof.Machine.execSpiFlashOperationDone m ok cs s
  | .illegalInstruction p j => Sys2Proof.Machine.execIllegalInstruction p j s
  | .fetchFault p j => Sys2Proof.Machine.execFetchFault p j s
  | .portReceiverDetect p present => Sys2Proof.Machine.execPortReceiverDetect p present s
  | .tcpRetransmitTimeout t => Sys2Proof.Machine.execTcpRetransmitTimeout t s
  | .macPauseQuantaExpiry m j p => Sys2Proof.Machine.execMacPauseQuantaExpiry m j p s

end Sys2Proof.Machine
end

