-- ==== Sys2Proof/Safety.lean ====
section
/-! DEFINITION. What counts as a safe step, and the relations between parts of the state that every step keeps. -/

namespace Sys2Proof

/-- A step that goes on. -/
def Goes (o : Host.Outcome Machine.State Machine.Fault Machine.Refusal) : Prop := ∃ t, o = .next t

namespace Machine

/-- What shows other state shows it as it is: LINK_UP is 1 while the host link is in L0, L1 or Recovery (R319, Table 8.12); PWR_STATUS.TRIPPED is
1 after a thermal trip (Table 22.7); TLH_STATUS counts the LOADED slots and the secured sessions and copies SESSION_ONLY (Table
25.8); VLT_STATUS shows CELL_LOW_N, the belief in main power and the trip (R824, Table 24.7); ALERT_N is low while R721 says so. -/
def Dev.Settled (s : Dev) : Prop :=
  (s.get Fld.LND_HOST_LINK_LINK_UP = if 1 ≤ s.host.link ∧ s.host.link ≤ 3 then 1 else 0)
  ∧ (s.get Fld.PWR_STATUS_TRIPPED = if s.power.thermTrip then 1 else 0)
  ∧ s.get Fld.TLH_STATUS_LOADED = s.tlh.length % 2 ^ 15
  ∧ s.get Fld.TLH_STATUS_SESSIONS = s.tlhs.sess.length % 2 ^ 8
  ∧ s.get Fld.TLH_STATUS_SESSION_ONLY = s.get Fld.TLH_CTRL_SESSION_ONLY
  ∧ (s.get Fld.VLT_STATUS_CELL_OK = if s.slip.cellLowHigh then 1 else 0)
  ∧ (s.get Fld.VLT_STATUS_MAIN_OK = if s.slip.believed then 1 else 0)
  ∧ (s.get Fld.VLT_STATUS_TRIPPED = if s.power.thermTrip then 1 else 0)
  ∧ s.log.alertN = s.alertLow

/-- A ticket that a service of SVC and OP may start on (R183, R193): it is in flight at its slot, no command has started it, STOP is not
driven, and its fence is open. -/
def Dev.Ready (d : Dev) (b r slot svc op : Nat) (t : Ticket) : Prop :=
  d.ticketAt b r slot = some t ∧ t.started = false ∧ d.stopped = false ∧ d.fenceOpen t = true
    ∧ Machine.wf t.words 0 8 4 = svc ∧ Machine.wf t.words 0 0 8 = op

/-- The ticket as its service goes on with it. -/
def Ticket.begun (t : Ticket) : Ticket := { t with started := true }

/-- The device with a ticket's service started. -/
def Dev.begin (d : Dev) (t : Ticket) : Dev := d.setTicket t.begun

/-- Pan p's head command is E, of this OP, and the Crystallizer runs that Pan: E may start (R675, R678). -/
def Dev.CryHead (d : Dev) (p op : Nat) (e : CryE) (rest : List CryE) : Prop :=
  (d.pan p).cry = e :: rest ∧ Machine.wf e.words 0 0 8 = op ∧ d.cryRuns p = true ∧ d.stopped = false ∧ (d.pan p).skip = false

/-- A storage ticket may act on its volume (R486): its berth has the STO right and names the volume in a VALID slot of its plan, with WRITE
where it writes; its range is good, the volume is ONLINE, and the service is enabled.  Berth 0 needs no slot. -/
def Dev.StoOpen (d : Dev) (t : Ticket) (write inRange : Bool) : Prop :=
  t.right 8 1 ≠ 0 ∧ inRange = true ∧ d.volState (Machine.wf t.words 2 0 12) = 1 ∧ d.on Fld.STO_CTRL_ENABLE = true
    ∧ (t.key.b = 0 ∨ ∃ i, i < 16 ∧ getBits (t.planWord (0x80 + 8 * i)) 12 1 = 1
      ∧ getBits (t.planWord (0x80 + 8 * i)) 0 12 = Machine.wf t.words 2 0 12 ∧ (write = true → getBits (t.planWord (0x80 + 8 * i)) 13 1 = 1))

/-- Raker i of Pan p runs, and the word at its PC is the instruction x of this major and function (R586, R590), whose guard, where it is
scalar, passes (R589). -/
def Dev.Runs (d : Dev) (p i key : Nat) (x : Insn) : Prop :=
  (d.rk p i).live = true ∧ d.stopped = false ∧ d.fetchInsn p (d.rk p i).pc = some x ∧ x.legal = true ∧ x.key = key
    ∧ (x.major < 0x30 → x.passes (d.rk p i) = true)

/-- The Raker with its PC past the instruction x (R586). -/
def RakerS.next (r : RakerS) (x : Insn) : RakerS := { r with pc := (r.pc + x.size) % 2 ^ 48 }

/-- A command c is a scalar instruction of Adeat that Raker i of Pan p executes, of this major × 128 + function (Tables 16.3 to 16.12). -/
def ScalarRow (p i : Nat) (out : List Nat) (key : Nat) (c : Instr) : Prop :=
  (key, c) ∈ [(128, .addI p i), (129, .subI p i), (130, .mulI p i), (131, .mulh p i), (132, .mulhu p i), (133, .divI p i), (134, .divu p i),
   (135, .rem p i), (136, .remu p i), (144, .andI p i), (145, .orI p i), (146, .xorI p i), (147, .andn p i), (148, .shl p i),
   (149, .shr p i), (150, .sar p i), (151, .ror p i), (152, .minI p i), (153, .maxI p i), (154, .minu p i), (155, .maxu p i),
   (160, .clz p i), (161, .ctz p i), (162, .popc p i), (163, .bswap p i), (168, .sext8 p i), (169, .sext16 p i), (170, .sext32 p i),
   (172, .zext8 p i), (173, .zext16 p i), (174, .zext32 p i), (256, .addi p i), (384, .andi p i), (512, .ori p i), (640, .xori p i),
   (768, .lih p i), (896, .shli p i), (897, .shri p i), (898, .sari p i), (899, .rori p i), (1024, .cseq p i), (1025, .csne p i),
   (1026, .cslt p i), (1027, .csltu p i), (1028, .csle p i), (1029, .csleu p i), (1152, .cseqImm p i), (1153, .csneImm p i),
   (1154, .csltImm p i), (1155, .csltuImm p i), (1156, .csleImm p i), (1157, .csleuImm p i), (2048, .ld p i out), (2176, .st p i out),
   (2304, .aadd p i out), (2305, .aswap p i out), (2306, .acas p i out), (3072, .fadd p i), (3073, .fsub p i), (3074, .fmul p i),
   (3075, .fdiv p i), (3076, .fsqrt p i), (3077, .fmin p i), (3078, .fmax p i), (3079, .fma p i), (3080, .fceq p i),
   (3081, .fclt p i), (3082, .fcle p i), (3083, .fcvt p i), (3084, .ftoi p i), (3085, .itof p i), (3086, .fclass p i),
   (4096, .bz p i), (4224, .bnz p i), (4352, .jal p i), (4480, .jalr p i), (1, .nop p i), (2, .yield p i), (3, .fenceS p i),
   (4, .fenceL p i), (5, .fenceSl p i), (8, .srd p i), (9, .swr p i), (10, .pmovg p i), (11, .gmovp p i), (5120, .dadd p i),
   (5121, .dsub p i), (5122, .dmuld p i), (5123, .dcmp p i), (5124, .dshl p i), (5125, .dshr p i), (5126, .drnd p i),
   (5127, .dadj p i), (5128, .dval p i), (5129, .dtob p i), (5130, .btod p i)]

/-- Registers that follow other state at the end of a command. -/
def followKeys : List Nat := [Reg.LND_HOST_LINK, Reg.PWR_STATUS, Reg.TLH_STATUS, Reg.VLT_STATUS]

end Machine

end Sys2Proof
end

