-- ==== Sys2Proof/Certificates/Slice0/Obligations.lean ====
section
/-! DEFINITION. The statements for the provers.  Each clause of a conjunction is one command or one group of commands of one shape; a
result `s.done d` is the whole next state, so what d does not change is the clause's frame (CommandFrame says what `done` adds). -/

section

open Sys2Proof Sys2Proof.Machine

/-- A step with a command at the front of the queue is that command's effect with the queue's rest. The model's choice: with no command
waiting a step changes nothing. The model's own choices in it: log entries 1, 2. -/
def Obligations.StepRunsFront : Prop :=
  (∀ (c : Instr) (s : State) (rest : List Instr), step { s with pending := c :: rest } = exec c { s with pending := rest })
  ∧ (∀ s : State, s.pending = [] → step s = .next s)

/-- Every number of steps from every state goes on, and the waiting commands leave the queue one a step, first in, first out. The model's own
choices in it: log entries 2, 1. -/
def Obligations.QueueDrains : Prop :=
  ∀ (n : Nat) (s : State), ∃ t : State, Host.Core.run Sys2Proof.core n s = .next t ∧ t.pending = s.pending.drop n

/-- Every command of the table completes in every state, leaves the waiting commands alone, and its effect d on the device is what it leaves
but for what follows other state at its end: only the registers of followKeys, ALERT_N and one event of that pin differ. The model's own
choices in it: log entry 4. -/
def Obligations.CommandFrame : Prop :=
  (∀ (c : Instr) (s : State), ∃ d : Dev, exec c s = .next { s with dev := d.settle })
  ∧ (∀ (d : Dev) (k : Nat), k ∉ followKeys → d.settle.reg k = d.reg k)
  ∧ (∀ (d : Dev), { d.settle with regs := d.regs, log := d.log, sent := d.sent } = d)
  ∧ (∀ (d : Dev), { d.settle.log with alertN := d.log.alertN } = d.log
    ∧ (d.settle.sent = d.sent ∨ ∃ v, d.settle.sent = ⟨.pin, [3, v], []⟩ :: d.sent))

/-- Right after reset nothing waits, memory lists nothing and is canonical, the Slipway stands at its first station, every register reads its
Reset value (R9), Tide time is 0, and what follows other state has followed it. The model's own choices in it: log entries 8, 7, 68. -/
def Obligations.ResetState : Prop :=
  State.reset.pending = [] ∧ State.reset.dev.mem = [] ∧ Memory.wf State.reset.dev = true ∧ State.reset.dev.tide = 0
    ∧ (∀ k, State.reset.dev.reg k = resetReg k) ∧ State.reset.dev.tickets = [] ∧ State.reset.dev.Settled

/-- The registers and the pin that show other state show it as it is after every step that began so. The model's own choices in it: log entry
4. -/
def Obligations.StepKeepsSettled : Prop :=
  ∀ s t : State, step s = .next t → s.dev.Settled → t.dev.Settled

/-- Sequence numbers of n bits (R13, R14): at most one of after, same and before holds; none holds exactly where the two are 2^(n − 1) apart;
and b + k is after b for every k from 1 to 2^(n − 1) − 1. -/
def Obligations.SequenceOrder : Prop :=
  ∀ n : Nat, 1 ≤ n →
    (∀ a b, after a b n = true → same a b n = false ∧ before a b n = false)
    ∧ (∀ a b, (after a b n = false ∧ same a b n = false ∧ before a b n = false) ↔ (a + 2 ^ n - b % 2 ^ n) % 2 ^ n = 2 ^ (n - 1))
    ∧ (∀ b k, 1 ≤ k → k ≤ 2 ^ (n - 1) - 1 → after (b + k) b n = true)

/-- The memory by DPA (R10, R51, R892): bytes written read back and every other byte stays; a cleared range reads zero and every other byte
stays; each operation keeps the canonical form; poisoned data marks every granule it touches, and clean data takes the mark of exactly the
whole granules it covers. The model's own choices in it: log entry 8. -/
def Obligations.MemoryReadsBack : Prop :=
  (∀ (d : Dev) (a : Nat) (bs : List Byte) (bad : Bool), (d.writeMem a bs bad).bytes a bs.length = bs
    ∧ (∀ k, k < a ∨ a + bs.length ≤ k → (d.writeMem a bs bad).byte k = d.byte k)
    ∧ (Memory.wf d = true → Memory.wf (d.writeMem a bs bad) = true))
  ∧ (∀ (d : Dev) (a n k : Nat), (a ≤ k → k < a + n → (d.zeroMem a n).byte k = 0) ∧ (k < a ∨ a + n ≤ k → (d.zeroMem a n).byte k = d.byte k)
    ∧ (Memory.wf d = true → Memory.wf (d.zeroMem a n) = true ∧ Memory.wf (d.scrambleMem a n) = true))
  ∧ (∀ (d : Dev) (a : Nat) (bs : List Byte) (k : Nat), a ≤ k → k < a + bs.length → (d.writeMem a bs true).poisonedAt k = true)
  ∧ (∀ (d : Dev) (a g : Nat) (bs : List Byte), d.channelLost (g * 64) = false →
    (a ≤ g * 64 → g * 64 + 64 ≤ a + bs.length → (d.writeMem a bs).poisonedAt (g * 64) = false)
    ∧ (¬ (a ≤ g * 64 ∧ g * 64 + 64 ≤ a + bs.length) → (d.writeMem a bs).poisonedAt (g * 64) = d.poisonedAt (g * 64)))

/-- Table 7.1: a keyed access of a local party is let through exactly where each of its checks passes, and it then reaches the mooring's owner
at its base plus the offset; so a key opens for no berth but its owner. -/
def Obligations.KeyOpensOnlyWhenChecked : Prop :=
  (∀ (d : Dev) (b key off len kind o va : Nat) (e : List Word), e = d.moorDesc (keyIndex key) →
    (d.keyCheck (.loc b) key off len kind = .ok (o, va) ↔
      d.moorOn = true ∧ keyIndex key < 2 ^ 20 ∧ keyIndex key < d.moorEntries ∧ d.poisoned (d.moorAddr (keyIndex key)) 32 = false
        ∧ Machine.wf e 0 0 1 ≠ 0 ∧ Machine.wf e 0 24 8 ≠ 0 ∧ Machine.wf e 0 24 8 = keyGen key ∧ Machine.wf e 0 32 8 = b
        ∧ Machine.wf e 0 (1 + kind) 1 ≠ 0 ∧ off + len ≤ Machine.wf e 2 0 41 ∧ (len = 0 → off < Machine.wf e 2 0 41)
        ∧ o = b ∧ va = Machine.wf e 1 0 48 + off))
  ∧ (∀ (d : Dev) (x key off len kind o va : Nat) (e : List Word), e = d.moorDesc (keyIndex key) →
    d.keyCheck (.rem x) key off len kind = .ok (o, va) →
      d.get (Fld.XCT_XING_OWNER x) = o ∧ (o = 0 ∨ d.on (Fld.CPLAN_RIGHTS_XCT o) = true)
        ∧ (Machine.wf e 0 8 1 = 1 ∨ Machine.wf e 0 12 12 = d.get (Fld.XCT_XING_REMOTE_NODE x))
        ∧ Machine.wf e 0 24 8 = keyGen key ∧ Machine.wf e 0 24 8 ≠ 0 ∧ off + len ≤ Machine.wf e 2 0 41)

/-- R31: a write to IDENT_NODE while NODE_LOCKED is 1 leaves NODE_ID and NODE_VALID and sets NODE_REFUSED, whatever it writes to that bit; no
other register that follows nothing changes, nor does memory. -/
def Obligations.LockedNodeKeepsItsId : Prop :=
  ∀ (s : State) (v : Word), s.dev.on Fld.IDENT_NODE_NODE_LOCKED = true → ∃ d : Dev, exec (.identNodeWrite v) s = .next { s with dev := d }
    ∧ d.get Fld.IDENT_NODE_NODE_ID = s.dev.get Fld.IDENT_NODE_NODE_ID ∧ d.get Fld.IDENT_NODE_NODE_VALID = s.dev.get Fld.IDENT_NODE_NODE_VALID
    ∧ d.get Fld.IDENT_NODE_NODE_REFUSED = 1 ∧ (∀ k, k ≠ Reg.IDENT_NODE → k ∉ followKeys → d.reg k = s.dev.reg k) ∧ (∀ a, d.byte a = s.dev.byte a)

/-- R783: a write to PWR_CTRL with HYST_W outside 1–100 or OTHER_W outside 0–200 leaves the register unchanged but for PWR_REFUSED, which it
sets; any other write stores IDLE_EN, HYST_W and OTHER_W. -/
def Obligations.PowerControlRange : Prop :=
  ∀ (s : State) (v : Word),
    ((getBits v 16 16 < 1 ∨ 100 < getBits v 16 16 ∨ 200 < getBits v 32 16) → ∃ d : Dev, exec (.pwrCtrlWrite v) s = .next { s with dev := d }
      ∧ d.get Fld.PWR_CTRL_IDLE_EN = s.dev.get Fld.PWR_CTRL_IDLE_EN ∧ d.get Fld.PWR_CTRL_HYST_W = s.dev.get Fld.PWR_CTRL_HYST_W
      ∧ d.get Fld.PWR_CTRL_OTHER_W = s.dev.get Fld.PWR_CTRL_OTHER_W ∧ d.get Fld.PWR_CTRL_PWR_REFUSED = 1
      ∧ (∀ k, k ≠ Reg.PWR_CTRL → k ∉ followKeys → d.reg k = s.dev.reg k) ∧ (∀ a, d.byte a = s.dev.byte a))
    ∧ (1 ≤ getBits v 16 16 → getBits v 16 16 ≤ 100 → getBits v 32 16 ≤ 200 → ∃ d : Dev, exec (.pwrCtrlWrite v) s = .next { s with dev := d }
      ∧ d.get Fld.PWR_CTRL_IDLE_EN = getBits v 0 1 ∧ d.get Fld.PWR_CTRL_HYST_W = getBits v 16 16 ∧ d.get Fld.PWR_CTRL_OTHER_W = getBits v 32 16
      ∧ (∀ k, k ≠ Reg.PWR_CTRL → k ∉ followKeys → d.reg k = s.dev.reg k) ∧ (∀ a, d.byte a = s.dev.byte a))

/-- R397: a write to a mask of Wharf m while MNF_USED.EXACT or its pending exact edits are above 0 leaves every mask and sets MASK_REFUSED;
with neither, the mask takes the value and MASK_REFUSED stays. -/
def Obligations.MaskWriteRefused : Prop :=
  (∀ (s : State) (m w : Nat) (v : Word), m < 2 → w < 7 →
    (s.dev.get (Fld.MNF_USED_EXACT m) ≠ 0 ∨ (∃ e ∈ (s.dev.whf m).pend, e.table = 0)) →
    ∃ d : Dev, exec (.mnfEmMaskWrite m w v) s = .next { s with dev := d }
      ∧ (∀ i, i < 7 → d.reg (Reg.MNF_EM_MASK m i) = s.dev.reg (Reg.MNF_EM_MASK m i))
      ∧ d.get (Fld.MNF_CTRL_MASK_REFUSED m) = 1 ∧ (∀ a, d.byte a = s.dev.byte a))
  ∧ (∀ (s : State) (m w : Nat) (v : Word), m < 2 → w < 7 → s.dev.get (Fld.MNF_USED_EXACT m) = 0 → (∀ e ∈ (s.dev.whf m).pend, e.table ≠ 0) →
    ∃ d : Dev, exec (.mnfEmMaskWrite m w v) s = .next { s with dev := d } ∧ d.reg (Reg.MNF_EM_MASK m w) = v
      ∧ (∀ k, k ≠ Reg.MNF_EM_MASK m w → k ∉ followKeys → d.reg k = s.dev.reg k) ∧ (∀ a, d.byte a = s.dev.byte a))

/-- R593: DIV, DIVU, REM and REMU with rb = 0 raise DIVZ, and the Raker whose handler takes it holds CODE 0x10 and every general register as
it was; DIV of −2^63 by −1 gives −2^63, REM of them 0. -/
def Obligations.DivideByZero : Prop :=
  (∀ (s : State) (p i : Nat) (x : Insn) (e : Instr × Nat), e ∈ [(Instr.divI p i, 133), (.divu p i, 134), (.rem p i, 135), (.remu p i, 136)] →
    s.dev.Runs p i e.2 x → ((s.dev.rk p i).gr x.rb = 0 →
      exec e.1 s = s.done ((s.dev.setRk p i (s.dev.rk p i)).takeExc p i { code := 0x10 })))
  ∧ (∀ (d : Dev) (p i : Nat), (d.pan p).handler ≠ 0 → (d.rk p i).cause.getLsbD 63 = false →
    ((d.setRk p i (d.rk p i)).takeExc p i { code := 0x10 }).settle.rk p i
      = { d.rk p i with epc := (d.rk p i).pc, cause := packW [(0, 8, 0x10), (63, 1, 1)], pc := (d.pan p).handler })
  ∧ (∀ (s : State) (p i : Nat) (x : Insn) (r : RakerS), r = (s.dev.rk p i).next x → r.gr x.ra = 0x8000000000000000 → r.gr x.rb = 0xFFFFFFFFFFFFFFFF →
    (s.dev.Runs p i 133 x → exec (.divI p i) s = s.done (s.dev.setRk p i (r.setG x.rd 0x8000000000000000)))
    ∧ (s.dev.Runs p i 135 x → exec (.rem p i) s = s.done (s.dev.setRk p i (r.setG x.rd 0))))

/-- A write of a Raker's state is what that Raker then holds, shows its LIVE bit, and leaves every other Raker, the memory and every other
register as they were (R586). -/
def Obligations.RakerFrame : Prop :=
  ∀ (d : Dev) (p i : Nat) (r : RakerS), i < 4 →
    (d.setRk p i r).rk p i = r ∧ (d.setRk p i r).get ⟨Reg.PAN_STATE p, 4 + i, 1⟩ = (if r.live then 1 else 0)
    ∧ (∀ q j, j < 4 → (q ≠ p ∨ j ≠ i) → (d.setRk p i r).rk q j = d.rk q j)
    ∧ (∀ k, k ≠ Reg.PAN_STATE p → (d.setRk p i r).reg k = d.reg k)
    ∧ (∀ a, (d.setRk p i r).byte a = d.byte a)
    ∧ (∀ n v m, (r.setG n v).gr m = (if m = n ∧ n ≠ 0 then v else r.gr m))
    ∧ (∀ n v m, (r.setP n v).pr m = (if m = n ∧ n ≠ 0 then v else r.pr m))
    ∧ (∀ n v m, (r.setV n v).vr m = (if m = n then v else r.vr m))

/-- R618, R619: after a merge an active element holds the low bits of its new value, an inactive one what it held. -/
def Obligations.VectorElements : Prop :=
  ∀ (m : BitVec 16) (E : Nat) (old : BitVec 512) (f : Nat → Nat) (j : Nat), 0 < E → j < 512 / E →
    velem (vmerge m E old f) E j = if isActive m (512 / E) j then f j % 2 ^ E else velem old E j

/-- DOORBELL, RING_REAPED_WRITE, MSIX_COALESCE_TIMER, DEADLINE_EXPIRY, RING_NOP and ERR_LAST_READ take their effect: a doorbell of a later
tail within the ring moves TAIL_SEQ (R188); a reap up to PRODUCED_SEQ moves REAPED_SEQ (R190); the coalescing timer announces the
unannounced arrivals (R194); a deadline ends its ticket DEADLINE (R199); a NOP ends OK with RESULT 0 (R200); an 8-byte read of ERR_LAST
re-arms the reports (R890). -/
def Obligations.RingSequences : Prop :=
  (∀ (s : State) (b r v : Nat), b ≤ 128 → r < 64 → s.dev.ringState b r ≠ 0 →
    after (v % 2 ^ 32) (s.dev.get (Fld.RING_TAIL_TAIL_SEQ b r)) 32 = true →
    subMod (v % 2 ^ 32) (s.dev.get (Fld.RING_SEQS_CONSUMED_SEQ b r)) 32 ≤ s.dev.ringSize b r →
    exec (.doorbell b r v true) s = s.done (s.dev.put (Fld.RING_TAIL_TAIL_SEQ b r) (v % 2 ^ 32)))
  ∧ (∀ (s : State) (b r v : Nat), b ≤ 128 → r < 64 →
    after (v % 2 ^ 32) (s.dev.get (Fld.RING_REAPED_REAPED_SEQ b r)) 32 = true →
    after (v % 2 ^ 32) (s.dev.get (Fld.RING_SEQS_PRODUCED_SEQ b r)) 32 = false →
    exec (.ringReapedWrite b r v) s = s.done (s.dev.put (Fld.RING_REAPED_REAPED_SEQ b r) (v % 2 ^ 32)))
  ∧ (∀ (s : State) (b r : Nat), b ≤ 128 → r < 64 → s.dev.get (Fld.RING_DESC_COAL_COAL_US b r) ≠ 0 → 0 < (s.dev.rh b r).unann →
    s.dev.on (Fld.RING_DESC_CTRL_INTR_EN b r) = true →
    exec (.msixCoalesceTimer b r) s = s.done
      (((s.dev.at ((s.dev.rh b r).oldest + 1000 * s.dev.get (Fld.RING_DESC_COAL_COAL_US b r))).setRh b r { s.dev.rh b r with unann := 0 }).msixEvent
        b (s.dev.get (Fld.RING_DESC_CTRL_VECTOR b r))))
  ∧ (∀ (s : State) (b r slot : Nat) (t : Ticket), s.dev.ticketAt b r slot = some t → t.deadlineUs ≠ 0 →
    exec (.deadlineExpiry b r slot) s = s.done ((s.dev.at (t.tide + 1000 * t.deadlineUs)).finish t 5 0 0))
  ∧ (∀ (s : State) (b r slot : Nat) (t : Ticket), s.dev.Ready b r slot 0 0 t →
    exec (.ringNop b r slot) s = s.done ((s.dev.begin t).finish t.begun 0 0 0))
  ∧ (∀ (s : State), exec (.errLastRead true) s = s.done { s.dev with err := { s.dev.err with reported := [] } })

/-- TICKET_TAKE (R181, R183, R195): where the ring may be served, is the one the scheduler serves, and its next ticket lies in the device's
memory, is whole, well formed, without a deadline, and its berth is not quarantined, the ticket enters flight at slot CONSUMED_SEQ mod
size with the slot's generation and its 64 bytes, and CONSUMED_SEQ and INFLIGHT advance by one. The model's own choices in it: log entry
37. -/
def Obligations.TicketTaken : Prop :=
  ∀ (s : State) (b r dpa : Nat) (leaf : Word) (d : Dev), b ≤ 128 → r < 64 → s.dev.canTake b r = true → s.dev.scheduled b r = true →
    (s.dev.served b r).ringXlate b ((s.dev.served b r).get (Fld.RING_DESC_TBASE_TBASE b r)
      + 64 * ((s.dev.served b r).get (Fld.RING_SEQS_CONSUMED_SEQ b r) % (s.dev.served b r).ringSize b r)) 0 64 = (.ok dpa leaf, d) →
    d.destOf b dpa leaf = .mem dpa → d.poisoned dpa 64 = false → ticketOk (toWords 8 (d.bytes dpa 64)) = true →
    Machine.wf (toWords 8 (d.bytes dpa 64)) 1 0 32 = 0 → (b = 0 ∨ d.get (Fld.BPLAN_CTRL_QUARANTINED b) = 0) →
    ∃ (t : State) (k : Ticket), exec (.ticketTake b r) s = .next t ∧ t.dev.tickets = d.tickets ++ [k]
      ∧ k.words = toWords 8 (d.bytes dpa 64) ∧ k.seq = d.get (Fld.RING_SEQS_CONSUMED_SEQ b r)
      ∧ k.key = ⟨b, r, d.get (Fld.RING_SEQS_CONSUMED_SEQ b r) % d.ringSize b r,
          d.genOf b r (d.get (Fld.RING_SEQS_CONSUMED_SEQ b r) % d.ringSize b r)⟩
      ∧ k.started = false
      ∧ t.dev.get (Fld.RING_SEQS_CONSUMED_SEQ b r) = (d.get (Fld.RING_SEQS_CONSUMED_SEQ b r) + 1) % 2 ^ 32

/-- RING_ENABLE, RING_DISABLE, RING_HALT, RING_ABANDON and RING_RESUME take their effect: an accepted enable starts the ring at INIT_SEQ
(R180, R206); a disable stops it at once (R207); HALT stops the taking of tickets (R210); ABANDON ends every ticket in flight ABANDONED
and sets TAIL_SEQ to CONSUMED_SEQ (R211); RESUME of a HALTED ring returns it to RUNNING (R209). -/
def Obligations.RingControl : Prop :=
  (∀ (s : State) (b r : Nat) (v : Word), b ≤ 128 → r < 64 → s.dev.on (Fld.RING_DESC_CTRL_ENABLE b r) = false →
    (s.dev.writeReg (descKey b r 0) (v ||| 1) 8 0).on (Fld.RING_DESC_CTRL_ENABLE b r) = true →
    (((s.dev.writeReg (descKey b r 0) (v ||| 1) 8 0).put (Fld.RING_DESC_CTRL_ENABLE b r) 0).enableRefused b r) = false →
    exec (.ringEnable b r v) s = s.done ((s.dev.writeReg (descKey b r 0) (v ||| 1) 8 0).ringStart b r))
  ∧ (∀ (s : State) (b r : Nat) (v : Word), b ≤ 128 → r < 64 → s.dev.on (Fld.RING_DESC_CTRL_ENABLE b r) = true →
    (s.dev.writeReg (descKey b r 0) (v &&& ~~~1) 8 0).on (Fld.RING_DESC_CTRL_ENABLE b r) = false →
    setBits ((s.dev.writeReg (descKey b r 0) (v &&& ~~~1) 8 0).reg (descKey b r 0)) 0 1 1 = s.dev.reg (descKey b r 0) →
    exec (.ringDisable b r v) s = s.done ((s.dev.put (Fld.RING_DESC_CTRL_ENABLE b r) 0).ringStop b r))
  ∧ (∀ (s : State) (b r : Nat), b ≤ 128 → r < 64 → s.dev.ringState b r = 1 → s.dev.isSignal b r = true →
    exec (.ringHalt b r) s = s.done (s.dev.put (Fld.RING_STATE_STATE b r) 3))
  ∧ (∀ (s : State) (b r : Nat), b ≤ 128 → r < 64 → s.dev.ringState b r = 1 → s.dev.isSignal b r = false →
    (∀ d : Dev, d.tickets = s.dev.tickets → d.waiting b r = []) →
    exec (.ringHalt b r) s = s.done ({ s.dev.put (Fld.RING_STATE_STATE b r) 2 with
      outst := s.dev.outst.filter (fun o => o.purpose ≠ Purpose.fetch b r) }.settleRing b r))
  ∧ (∀ (s : State) (b r : Nat) (d : Dev), b ≤ 128 → r < 64 → s.dev.isSignal b r = false →
    (s.dev.ringState b r = 1 ∨ s.dev.ringState b r = 2 ∨ s.dev.ringState b r = 3) →
    d = (s.dev.tickets.filter (fun t => t.key.b = b && t.key.r = r)).foldl (fun e t => e.finish t 2 0 0)
      { (s.dev.put (Fld.RING_STATE_STATE b r) 4).put (Fld.RING_STATE_CAUSE b r) 0 with
        outst := s.dev.outst.filter (fun o => o.purpose ≠ Purpose.fetch b r) } →
    exec (.ringAbandon b r) s = s.done ((d.put (Fld.RING_TAIL_TAIL_SEQ b r) (d.get (Fld.RING_SEQS_CONSUMED_SEQ b r))).settleRing b r))
  ∧ (∀ (s : State) (b r : Nat), b ≤ 128 → r < 64 → s.dev.ringState b r = 3 →
    (b = 0 ∨ s.dev.get (Fld.BPLAN_CTRL_QUARANTINED b) = 0) →
    exec (.ringResume b r) s = s.done ((s.dev.put (Fld.RING_STATE_STATE b r) 1).put (Fld.RING_STATE_CAUSE b r) 0))

/-- REGISTER (R264, R265): where the ticket is well formed, its berth holds the rights it asks for, keyed checks are served, the walk of the
range ends well, every quota has room and an index is free, the mooring's descriptor is written at that index, the berth's use grows by
it, and the ticket ends OK with the key of that index and its generation as RESULT. -/
def Obligations.RegisterIssuesKey : Prop :=
  ∀ (s : State) (b r slot i : Nat) (t : Ticket) (p : PageSum), s.dev.Ready b r slot 1 1 t → t.key.b = b →
    bodyZero t.words [(2, 2 ^ 48 - 1), (3, 2 ^ 41 - 1), (4, 2 ^ 20 - 1)] = true →
    Machine.wf t.words 3 0 41 ≠ 0 → Machine.wf t.words 3 0 41 ≤ 2 ^ 40 → Machine.wf t.words 2 0 48 + Machine.wf t.words 3 0 41 ≤ 2 ^ 48 →
    (Machine.wf t.words 4 0 6 < 8 ∨ t.right 7 1 ≠ 0) → Machine.wf t.words 4 6 1 = 0 →
    (s.dev.begin t).moorOn = true →
    (s.dev.begin t).regWalk b t.accel (Machine.wf t.words 4 0 6) (Machine.wf t.words 2 0 48 + Machine.wf t.words 3 0 41 - 1) (Machine.wf t.words 3 0 41 / 4096 + 2)
      (Machine.wf t.words 2 0 48 / 4096 * 4096) ⟨0, 0, [], false, []⟩ = .ok p →
    p.hbm < 2 ^ 27 → p.cis < 2 ^ 17 →
    (b = 0 ∨ ((s.dev.begin t).get (Fld.USAGE_MOORINGS_USED b) + 1 ≤ getBits (t.planWord 0x10) 8 21
      ∧ pagesMib ((tget (fun _ => BerthH.init) (s.dev.begin t).berthH b).hbmPages + p.hbm) ≤ getBits (t.planWord 0x18) 0 19
      ∧ pagesMib ((tget (fun _ => BerthH.init) (s.dev.begin t).berthH b).cisPages + p.cis) ≤ getBits (t.planWord 0x18) 32 9)) →
    (s.dev.begin t).freeIndex (min (s.dev.begin t).moorEntries ((s.dev.begin t).moor.reg.length + 1)) (s.dev.begin t).moor.lastPlus1 = some i →
    ∃ (g : Nat) (d1 : Dev),
      g = (if Machine.wf ((s.dev.begin t).moorDesc i) 0 24 8 = 0 then 1 else Machine.wf ((s.dev.begin t).moorDesc i) 0 24 8)
      ∧ d1 = (s.dev.begin t).setMoorDesc i
          [packW [(0, 1, 1), (1, 6, Machine.wf t.words 4 0 6), (7, 1, 0), (8, 1, Machine.wf t.words 4 7 1), (12, 12, Machine.wf t.words 4 8 12),
              (24, 8, g), (32, 8, b)],
            packW [(0, 48, Machine.wf t.words 2 0 48)], packW [(0, 41, Machine.wf t.words 3 0 41)], packW [(0, 27, p.hbm), (27, 17, p.cis)]]
      ∧ exec (.registerT b r slot) s = s.done
        (((({ d1 with
            moor := { d1.moor with lastPlus1 := i + 1, reg := i :: d1.moor.reg }
            moorPages := tput (fun _ => []) d1.moorPages i p.homes
            moorExt := tput (fun _ => []) d1.moorExt i [] } : Dev).moorUse b 1 p.hbm p.cis).vaultUse).finish t.begun 0 0 (g * 2 ^ 24 + i))

/-- REVOKE, REGEN and MOORING_KEY_QUIESCED (R267, R268): a key that opens for its owner is fenced at once, its generation advanced and, for
REVOKE, its VALID bit cleared, and the ticket waits; once nothing is in progress under the old key, REVOKE frees the index and ends OK
with RESULT 0, REGEN ends OK with the new key. TOLL_MOOR_ENABLE and MOOR_TABLE_CLEARED (R276): an accepted enable shows BUSY until the
table has been zeroed. PLACE_FLUSH (R280) of a key that reaches the device's own memory ends OK at once. -/
def Obligations.MooringLifecycle : Prop :=
  (∀ (s : State) (b r slot : Nat) (t : Ticket) (e : List Word), s.dev.Ready b r slot 1 2 t → bodyZero t.words [(2, 2 ^ 32 - 1)] = true →
    (s.dev.begin t).keyOpen (.loc t.key.b) (Machine.wf t.words 2 0 32) = .ok e →
    ∃ d1 : Dev, d1 = (s.dev.begin t).stepGen (keyIndex (Machine.wf t.words 2 0 32)) false
      ∧ exec (.revoke b r slot) s = s.done (({ d1 with moor := { d1.moor with waiting := d1.moor.waiting
          ++ [⟨keyIndex (Machine.wf t.words 2 0 32), keyGen (Machine.wf t.words 2 0 32), t.key, true⟩] } } : Dev).workOn t.key))
  ∧ (∀ (s : State) (b r slot : Nat) (t : Ticket) (e : List Word), s.dev.Ready b r slot 1 3 t → bodyZero t.words [(2, 2 ^ 32 - 1)] = true →
    (s.dev.begin t).keyOpen (.loc t.key.b) (Machine.wf t.words 2 0 32) = .ok e →
    ∃ d1 : Dev, d1 = (s.dev.begin t).stepGen (keyIndex (Machine.wf t.words 2 0 32)) true
      ∧ exec (.regen b r slot) s = s.done (({ d1 with moor := { d1.moor with waiting := d1.moor.waiting
          ++ [⟨keyIndex (Machine.wf t.words 2 0 32), keyGen (Machine.wf t.words 2 0 32), t.key, false⟩] } } : Dev).workOn t.key))
  ∧ (∀ (s : State) (i g : Nat) (q : Quiesce), s.dev.moor.waiting.find? (fun q => decide (q.index = i ∧ q.oldGen = g)) = some q →
    s.dev.keyBusy i g = false →
    ∃ d1 : Dev, d1 = ({ s.dev with moor := { s.dev.moor with waiting := s.dev.moor.waiting.erase q } } : Dev).workOff q.tk
      ∧ exec (.mooringKeyQuiesced i g) s = s.done
        (if q.revoke then (d1.freeMoor i).finishKey q.tk 0 0 0 else d1.finishKey q.tk 0 0 (Machine.wf (d1.moorDesc i) 0 24 8 * 2 ^ 24 + i)))
  ∧ (∀ (s : State) (b r slot a : Nat) (t : Ticket) (d1 : Dev), s.dev.Ready b r slot 2 2 t →
    s.dev.tickets.any (fun u => u.key.b = b && u.key.r = r && before u.seq t.seq 32) = false →
    bodyZero t.words [(4, 2 ^ 32 - 1), (5, 2 ^ 41 - 1)] = true →
    (s.dev.begin t).keyedPiece (.loc t.key.b) (Machine.wf t.words 4 0 32) (Machine.wf t.words 5 0 41) 0 1 t.accel 6 0 = (.ok (.mem a), d1) →
    exec (.placeFlush b r slot) s = s.done (d1.finish t.begun 0 0 0))
  ∧ (∀ (s : State) (v : Word) (w : Dev), w = s.dev.writeReg Reg.TOLL_MOOR v 8 0 → s.dev.on Fld.TOLL_MOOR_ENABLE = false →
    w.on Fld.TOLL_MOOR_ENABLE = true → s.dev.on Fld.TOLL_CTRL_ENABLE = true →
    s.dev.tollBase ≤ w.get Fld.TOLL_MOOR_BASE * 4096 →
    w.get Fld.TOLL_MOOR_BASE * 4096 + 32 * 2 ^ w.get Fld.TOLL_MOOR_LOG2_ENTRIES ≤ s.dev.tollBase + s.dev.tollSize →
    exec (.tollMoorEnable v) s = s.done { w.put Fld.TOLL_MOOR_BUSY 1 with moor := { w.moor with lastPlus1 := 0 } })
  ∧ (∀ (s : State), s.dev.on Fld.TOLL_MOOR_BUSY = true →
    exec .moorTableCleared s = s.done ((s.dev.zeroMem (s.dev.moorAddr 0) (32 * s.dev.moorEntries)).put Fld.TOLL_MOOR_BUSY 0))

/-- COPY (R279): a well-formed copy whose source has all been read on the device, and whose destination piece is checked and placed, moves
that piece from the source to the destination and ends as Table 7.3 states for its placement. The model's own choices in it: log entry 44. -/
def Obligations.CopyMoves : Prop :=
  ∀ (s : State) (b r slot : Nat) (t u t1 t2 : Ticket) (d1 d2 : Dev) (o : Nat × Nat), s.dev.Ready b r slot 2 1 t → t.key.b = b → t.result = 0 →
    u = { t.begun with prove := Machine.wf t.words 6 32 1 = 1 } →
    bodyZero t.words [(2, 2 ^ 32 - 1), (3, 2 ^ 41 - 1), (4, 2 ^ 32 - 1), (5, 2 ^ 41 - 1), (6, 2 ^ 31 - 1 + 2 ^ 32)] = true →
    0 < Machine.wf t.words 6 0 31 → Machine.wf t.words 6 0 31 ≤ 2 ^ 30 →
    Machine.wf t.words 6 0 31 ≤ 4096 - (s.dev.begin t).keyVa (Machine.wf t.words 4 0 32) (Machine.wf t.words 5 0 41) % 4096 →
    (s.dev.begin t).gatherPieces (.loc b) { u with data := [], left := 0, bad := false, marks := [] } (Machine.wf t.words 2 0 32) 6 0
      ((s.dev.begin t).keyedPieces (Machine.wf t.words 2 0 32) (Machine.wf t.words 3 0 41) (Machine.wf t.words 6 0 31)) 0 = (.ok (), d1, t1) →
    t1.left = 0 → t1.words = t.words →
    d1.keyCheck (.loc b) (Machine.wf t.words 4 0 32) (Machine.wf t.words 5 0 41) (Machine.wf t.words 6 0 31) 1 = .ok o →
    d1.placePieces (.loc b) t1 (Machine.wf t.words 4 0 32) 6 0 t1.marks [(Machine.wf t.words 5 0 41, Machine.wf t.words 6 0 31)]
      (t1.bytesAt 0 (Machine.wf t.words 6 0 31)) = (.ok (), d2, t2) → t2.words = t.words →
    exec (.copyT b r slot) s = s.done (d2.placed { t2 with result := Machine.wf t.words 6 0 31, bad := t.bad || t2.bad })

/-- CAP_LOOP_TICK (R768 to R770, R784): with every channel of the power reading fresh, no thermal event and no autonomy, one pass of the loop
shows the power, the temperature and the thermal cap, lets no autonomy cap bind, and moves the cap and the level against the power. The
model's own choices in it: log entry 38. -/
def Obligations.CapLoop : Prop :=
  ∀ (s : State) (p : Int) (d0 d1 d2 : Dev), d0 = s.dev.at s.dev.nextMs → d0.powerNow = (p, none) →
    d1 = (d0.put Fld.PWR_STATUS_STALE 0).put Fld.PWR_STATUS_POWER_W (p / 2 ^ 27).toNat →
    (d1.capTemp d1.hottest.1).on (Fld.TASK_HELM_AUTONOMOUS 0) = false →
    d2 = (d1.capTemp d1.hottest.1).put Fld.PWR_CAPS_AUTO_W 750 →
    d1.hottest.1 < (d2.power.thermBrake : Int) * 1024 → d2.on Fld.PWR_STATUS_THERMAL = false →
    exec .capLoopTick s = s.done (d2.capLevel p false)

/-- The power commands take their effect: GROUP_ROTATE advances R modulo 16 and every island follows (R771); an idle island begins to enter
Neap (R765) and, from Neap, Slack; a wake begins its exit (R766); the entry and the exit end (R762, R767); BRAKE_N low or high for 20 ns
is a brake source (R775, R776); a PWR_CTRL write within its ranges takes its values (R783). The model's own choices in it: log entry 40. -/
def Obligations.PowerStates : Prop :=
  (∀ (s : State), exec .groupRotate s
    = s.done ({ s.dev with power := { s.dev.power with offset := (s.dev.power.offset + 1) % 16 } }.syncIslands))
  ∧ (∀ (s : State) (n : Nat), n < 96 → s.dev.on Fld.PWR_CTRL_IDLE_EN = true → s.dev.on (Fld.PWR_IDLE_NEAP_NS (idleKind n)) = true →
    s.dev.islandIdle n = true → s.dev.get (Fld.PWR_ISL_STATE n) < 2 → tget (fun _ => 0) s.dev.power.moving n = 0 →
    exec (.neapEntryTimer n) s = s.done { s.dev with power := { s.dev.power with moving := tput (fun _ => 0) s.dev.power.moving n 1 } })
  ∧ (∀ (s : State) (n : Nat), n < 96 → s.dev.on Fld.PWR_CTRL_IDLE_EN = true → s.dev.on (Fld.PWR_IDLE_SLACK_US (idleKind n)) = true →
    s.dev.islandIdle n = true → s.dev.get (Fld.PWR_ISL_STATE n) = 2 → tget (fun _ => 0) s.dev.power.moving n = 0 →
    exec (.slackEntryTimer n) s = s.done { s.dev with power := { s.dev.power with moving := tput (fun _ => 0) s.dev.power.moving n 2 } })
  ∧ (∀ (s : State) (n : Nat), n < 96 → (s.dev.get (Fld.PWR_ISL_STATE n) = 2 ∨ s.dev.get (Fld.PWR_ISL_STATE n) = 3) →
    tget (fun _ => 0) s.dev.power.moving n = 0 →
    exec (.islandWake n) s = s.done { s.dev with power := { s.dev.power with moving := tput (fun _ => 0) s.dev.power.moving n 3 } })
  ∧ (∀ (s : State) (n : Nat), n < 96 → tget (fun _ => 0) s.dev.power.moving n = 3 → exec (.islandExitDone n) s = s.done (s.dev.exitIsland n))
  ∧ (∀ (s : State) (n : Nat), n < 96 → tget (fun _ => 0) s.dev.power.moving n = 1 →
    ∃ d : Dev, d = ((s.dev.put (Fld.PWR_ISL_STATE n) 2).put (Fld.PWR_ISL_DIV n) 0).sat (Fld.PWR_ISL_NEAPS n)
      ∧ exec (.islandEntryDone n) s = s.done ({ d with power := { d.power with moving := tput (fun _ => 0) d.power.moving n 0 } }.syncPath n))
  ∧ (∀ (s : State) (ns : Nat), 20 ≤ ns →
    exec (.brakeNAssert ns) s = s.done ({ s.dev with power := { s.dev.power with brakePinLow := true } }.setBrakeSource 0 true))
  ∧ (∀ (s : State) (ns : Nat), 20 ≤ ns →
    exec (.brakeNRelease ns) s = s.done ({ s.dev with power := { s.dev.power with brakePinLow := false } }.setBrakeSource 0 false))
  ∧ (∀ (s : State) (v : Word), 1 ≤ getBits v 16 16 → getBits v 16 16 ≤ 100 → getBits v 32 16 ≤ 200 → getBits v 1 1 = 0 →
    exec (.pwrCtrlWrite v) s = s.done
      (((s.dev.put Fld.PWR_CTRL_IDLE_EN (getBits v 0 1)).put Fld.PWR_CTRL_HYST_W (getBits v 16 16)).put Fld.PWR_CTRL_OTHER_W (getBits v 32 16)))

/-- The PTP port's commands take their effect with the port enabled and a selected master: a Sync captures t2 (R522), a Follow_Up brings t1, a
Delay_Resp completes a sample of the offset (R523, R524), the first Announce heard selects its sender (R520), the timer sends a Delay_Req,
and losing the master begins HOLDOVER (R529). The model's own choices in it: log entries 42, 13. -/
def Obligations.PtpPort : Prop :=
  (∀ (s : State) (src seq t1 : Nat) (two : Bool) (corr : Int), s.dev.fromMaster src = true →
    ∃ d : Dev, d = s.dev.sat Fld.TID_PTP_COUNTS_SYNC_USED
      ∧ exec (.ptpSync src seq two t1 corr) s = s.done { d with
          time := { d.time with syncSeq := seq, t2 := s.dev.time.wall + 1, t1 := if two then 0 else t1 + 1, corr := corr } })
  ∧ (∀ (s : State) (src t1 : Nat) (corr : Int), s.dev.fromMaster src = true → s.dev.time.t2 ≠ 0 → s.dev.time.t1 = 0 →
    exec (.ptpFollowUp src s.dev.time.syncSeq t1 corr) s
      = s.done { s.dev with time := { s.dev.time with t1 := t1 + 1, corr := s.dev.time.corr + corr } })
  ∧ (∀ (s : State) (src t4 : Nat) (corr ms sm : Int), s.dev.fromMaster src = true → s.dev.time.t1 ≠ 0 → s.dev.time.t2 ≠ 0 → s.dev.time.t3 ≠ 0 →
    ms = (s.dev.time.t2 : Int) - s.dev.time.t1 - s.dev.time.corr → sm = (t4 : Int) - (s.dev.time.t3 - 1 : Nat) - corr →
    exec (.ptpDelayResp src true s.dev.time.dreqSeq t4 corr) s
      = s.done ({ s.dev with time := { s.dev.time with t3 := 0, t1 := 0, t2 := 0 } }.sample (ms - (ms + sm) / 2)))
  ∧ (∀ (s : State) (src p1 cls acc var p2 gm steps : Nat), s.dev.on Fld.TID_CTRL_PTP_EN = true → s.dev.time.heard = [] →
    s.dev.time.master = 0 →
    exec (.ptpAnnounce src p1 cls acc var p2 gm steps) s = s.done
      ((({ s.dev with time := { s.dev.time with
          heard := [([p1, cls, acc, var, p2, gm, steps, src], src)], master := src + 1, t1 := 0, t2 := 0, t3 := 0, lockRun := 0 } }.put
        Fld.TID_STATUS_SERVO 1).put Fld.TID_STATUS_STEP_PENDING 0).setReg Reg.TID_PTP_MASTER (BitVec.ofNat 64 gm)))
  ∧ (∀ (s : State), s.dev.on Fld.TID_CTRL_PTP_EN = true → s.dev.time.master ≠ 0 →
    exec .delayReqTimer s = s.done ({ s.dev with time := { s.dev.time with
      dreqSeq := (s.dev.time.dreqSeq + 1) % 65536, t3 := s.dev.time.wall + 1 } }.emit .ptp [1, (s.dev.time.dreqSeq + 1) % 65536]))
  ∧ (∀ (s : State), s.dev.on Fld.TID_CTRL_PTP_EN = true → s.dev.time.master ≠ 0 → s.dev.time.outputs ≠ [] →
    exec .ptpMasterLost s = s.done
      ((({ s.dev with time := { s.dev.time with
          master := 0, heard := s.dev.time.heard.filter (fun h => h.2 + 1 ≠ s.dev.time.master), holdFrom := s.dev.tide, lockRun := 0
          t1 := 0, t2 := 0, t3 := 0 } }.put Fld.TID_STATUS_SERVO 3).put Fld.TID_STATUS_STEP_PENDING 0).put Fld.TID_FREQ_FREQ_PPB
        (toField 32 (s.dev.time.outputs.sum / (s.dev.time.outputs.length : Int)))))

/-- Wall time and timed operations: re-anchoring (R518), setting Wall time (R528), setting FREQ_PPB (R528), the snapshot a TID_TIDE read takes
(R514), and the TIME tickets READ (R532), AT_TIDE (R533) and AT_WALL (R534), which fire at once or wait for their instant. -/
def Obligations.WallTime : Prop :=
  (∀ (s : State), s.dev.on Fld.TID_STATUS_WALL_VALID = true →
    exec .reanchor s = s.done ({ s.dev with time := { s.dev.time with two := (s.dev.time.wall : Int) - s.dev.tide } }.timeStepSignal 1
      ((s.dev.time.wall : Int) - s.dev.tide - s.dev.time.two)))
  ∧ (∀ (s : State) (v : Word) (w : Dev), w = s.dev.writeReg Reg.TID_WALL_SET_NS v 8 0 → woBits v 8 0 63 1 = 1 →
    s.dev.on Fld.TID_CTRL_PTP_EN = false → w.get Fld.TID_WALL_SET_NS_NS ≤ 999999999 → w.on Fld.TID_STATUS_WALL_VALID = false →
    exec (.wallSet v) s = s.done ((w.wallValid (w.get Fld.TID_WALL_SET_SEC_SEC * 1000000000 + w.get Fld.TID_WALL_SET_NS_NS)).timeStepSignal 2 0))
  ∧ (∀ (s : State) (v : Word) (w : Dev), w = s.dev.writeReg Reg.TID_FREQ v 8 0 → s.dev.on Fld.TID_CTRL_PTP_EN = false →
    (signed 32 (w.get Fld.TID_FREQ_FREQ_PPB)).natAbs ≤ 4000000 → exec (.tidFreqWrite v) s = s.done w)
  ∧ (∀ (s : State), exec .tidTideRead s = s.done
      ((s.dev.setReg Reg.TID_SNAP_SEC (packW [(0, 48, s.dev.time.wall / 1000000000), (48, 16, s.dev.get Fld.TID_STATUS_WALL_EPOCH)])).setReg
        Reg.TID_SNAP_NS (packW [(0, 30, s.dev.time.wall % 1000000000)])))
  ∧ (∀ (s : State) (b r slot : Nat) (t t1 : Ticket) (d1 : Dev), s.dev.Ready b r slot 6 1 t →
    bodyZero t.words [(2, 2 ^ 32 - 1), (3, 2 ^ 41 - 1)] = true → Machine.wf t.words 3 0 41 % 32 = 0 →
    (s.dev.begin t).placePieces (.loc t.key.b) t.begun (Machine.wf t.words 2 0 32) 6 0 []
      ((s.dev.begin t).keyedPieces (Machine.wf t.words 2 0 32) (Machine.wf t.words 3 0 41) 32) (s.dev.begin t).timeRecord = (.ok (), d1, t1) →
    exec (.timeRead b r slot) s = s.done (d1.finish t1 0 (s.dev.get Fld.TID_STATUS_WALL_EPOCH) s.dev.tide))
  ∧ (∀ (s : State) (b r slot : Nat) (t : Ticket), s.dev.Ready b r slot 6 0x10 t → bodyZero t.words [(2, 2 ^ 64 - 1)] = true →
    t.right 11 1 ≠ 0 → (s.dev.begin t).timers.length ≤ 65536 →
    exec (.atTide b r slot) s = s.done
      (if Machine.wf t.words 2 0 64 ≤ s.dev.tide then (s.dev.begin t).finish t.begun 0 (s.dev.get Fld.TID_STATUS_WALL_EPOCH) s.dev.tide
       else s.dev.begin t))
  ∧ (∀ (s : State) (b r slot : Nat) (t : Ticket), s.dev.Ready b r slot 6 0x11 t →
    bodyZero t.words [(2, 2 ^ 48 - 1), (3, 2 ^ 30 - 1 + 2 ^ 32 + (2 ^ 16 - 1) * 2 ^ 48)] = true → Machine.wf t.words 3 0 30 ≤ 999999999 →
    t.right 11 1 ≠ 0 → (s.dev.begin t).timers.length ≤ 65536 → s.dev.on Fld.TID_STATUS_WALL_VALID = true → Machine.wf t.words 3 32 1 = 0 →
    exec (.atWall b r slot) s = s.done
      (if t.wallTarget ≤ s.dev.time.wall then (s.dev.begin t).finish t.begun 0 (s.dev.get Fld.TID_STATUS_WALL_EPOCH) s.dev.tide
       else s.dev.begin t))
  ∧ (∀ (s : State) (b r slot : Nat) (t : Ticket), s.dev.timers.find? (fun t => t.key.b = b && t.key.r = r && t.key.slot = slot) = some t →
    Machine.wf t.words 0 0 8 = 0x10 →
    ∃ d : Dev, d = s.dev.at (Machine.wf t.words 2 0 64)
      ∧ exec (.timedOperationFire b r slot) s = s.done (d.finish t 0 (d.get Fld.TID_STATUS_WALL_EPOCH) d.tide))

/-- Accesses to registers take their effect (R6, R17, R294, R729): a doorbell write of a VF moves its ring's tail; a write of a plain register
of the Causeway's clocks and of the Wharves' space writes it alone; a read of a ring page or of a plain register clears its RC fields and
answers the host with its value; a task message over I3C0 reads and writes the BMC task set and is answered. -/
def Obligations.RegisterAccess : Prop :=
  (∀ (s : State) (f r : Nat) (v : Word) (out : List Nat), 1 ≤ f → f ≤ 128 → r < 64 →
    exec (.registerWrite f (0x10000 + 1024 * r) v 8 out) s = s.done (s.dev.doorbell f r (v.toNat % 2 ^ 32) true))
  ∧ (∀ (s : State) (off : Nat) (v : Word) (out : List Nat), 0x1000000 ≤ off → off < 0x2000000 → off % 8 = 0 →
    exec (.registerWrite 0 off v 8 out) s = s.done (s.dev.writeReg off v 8 0))
  ∧ (∀ (s : State) (off tag : Nat), 0x400000 ≤ off → off < 0x2000000 → off % 8 = 0 →
    exec (.rcRegisterRead 0 off 8 tag) s
      = s.done ((s.dev.rcClear off 8 0).hostCpl 0 tag 0 false (leBytes 8 (s.dev.readReg off).toNat)))
  ∧ (∀ (s : State) (inst off : Nat), off % 8 = 0 → off < 0xC0 → (findSpec (taskBase 1 + off)).isNone = false →
    exec (.taskMessageRead 1 inst off) s
      = s.done ((s.dev.taskRead 1 off 8 0).taskAnswer 1 1 inst 0 (leBytes 8 (s.dev.taskValue 1 off).toNat)))
  ∧ (∀ (s : State) (inst off : Nat) (v : Word), off % 8 = 0 → off < 0xC0 → (findSpec (taskBase 1 + off)).isNone = false →
    exec (.taskMessageWrite 1 inst off v) s = s.done ((s.dev.taskWrite 1 off v 8 0).taskAnswer 1 2 inst 0 []))

/-- The commands on a berth's plan take their effect: COMMIT of a plan that no cause of Table 6.4 refuses is accepted (R241, R242); CLEAR of a
berth that is not already CLEARING tears it down (R246); EXPEL of a CHANGING berth abandons every ticket of an older epoch (R233); lifting
a quarantine posts BERTH_CHANGE (R256); a berth cleared of Pans and crossings becomes EMPTY; a source entry of berth 0 is written (R940);
a piece passes a rate ceiling (R240). The model's own choices in it: log entries 46, 47. -/
def Obligations.PlanCommands : Prop :=
  (∀ (s : State) (b : Nat) (v : Word) (w : Dev), 1 ≤ b → b ≤ 128 → w = s.dev.writeReg (Reg.BPLAN_CTRL b) (setBits v 2 1 1) 8 0 →
    w.on (Fld.BPLAN_CTRL_QUARANTINED b) = s.dev.on (Fld.BPLAN_CTRL_QUARANTINED b) → getBits v 3 2 = 0 → w.commitCause b = 0 →
    exec (.bplanCommit b v) s = s.done (w.commitPlan b))
  ∧ (∀ (s : State) (b : Nat) (v : Word) (w : Dev), 1 ≤ b → b ≤ 128 → w = s.dev.writeReg (Reg.BPLAN_CTRL b) (setBits v 3 1 1) 8 0 →
    w.on (Fld.BPLAN_CTRL_QUARANTINED b) = s.dev.on (Fld.BPLAN_CTRL_QUARANTINED b) → getBits v 2 1 = 0 → getBits v 4 1 = 0 →
    w.get (Fld.BPLAN_CTRL_STATE b) ≠ 3 → exec (.bplanClear b v) s = s.done (w.berthClear b))
  ∧ (∀ (s : State) (b : Nat) (v : Word) (w : Dev), 1 ≤ b → b ≤ 128 → w = s.dev.writeReg (Reg.BPLAN_CTRL b) (setBits v 4 1 1) 8 0 →
    w.on (Fld.BPLAN_CTRL_QUARANTINED b) = s.dev.on (Fld.BPLAN_CTRL_QUARANTINED b) → getBits v 2 2 = 0 →
    w.get (Fld.BPLAN_CTRL_STATE b) = 2 →
    exec (.bplanExpel b v) s = s.done ((w.tickets.filter (fun t => t.key.b = b && t.epoch ≠ w.get (Fld.BPLAN_CTRL_EPOCH b))).foldl
      (fun d t => d.fail t 2 0) w))
  ∧ (∀ (s : State) (b : Nat) (w : Dev), 1 ≤ b → b ≤ 128 → w = s.dev.writeReg (Reg.BPLAN_CTRL b) 0x40 8 0 →
    s.dev.on (Fld.BPLAN_CTRL_QUARANTINED b) = true → w.on (Fld.BPLAN_CTRL_QUARANTINED b) = false →
    exec (.quarantineLift b) s = s.done (w.berthChange b 0x100))
  ∧ (∀ (s : State) (b : Nat), 1 ≤ b → b ≤ 128 → s.dev.get (Fld.BPLAN_CTRL_STATE b) = 3 →
    (tget (fun _ => BerthH.init) s.dev.berthH b).withdrawn = [] → s.dev.xingsOf (fun o => o = b) = [] →
    exec (.berthClearDone b) s = s.done (s.dev.put (Fld.BPLAN_CTRL_STATE b) 0))
  ∧ (∀ (s : State) (o : Nat) (v : Word), o < 0xC8 → o % 8 = 0 →
    exec (.berth0SrcWrite o v) s = s.done ((s.dev.writeReg (0x20000 + o) v 8 0).xctSources 0))
  ∧ (∀ (s : State) (b which n : Nat), 1 ≤ b → b ≤ 128 → which < 3 →
    exec (.rateRelease b which n) s = s.done (s.dev.rateGate b which n (getBits (s.dev.reg (Reg.CPLAN_RATE b)) (16 * which) 16)))

/-- The Toll commands take their effect: a piece is translated, or its fault is recorded (R150, R163); an invalidation is queued and counted
(R158); the head invalidation discards the cached entries it covers and counts as done once no access it covers is outstanding (R160);
TOLL_REGION and TOLL_CTRL are written (R168); reading the fault ring's pointer arms TOLL_FAULT again (R164); an unlocked IDENT_NODE that
changes tells every berth (R31, R245). The model's own choices in it: log entry 35. -/
def Obligations.TollCommands : Prop :=
  (∀ (s : State) (ctx va kind len source unit dpa : Nat) (leaf : Word) (d1 : Dev), ctx ≤ 132 → kind ≤ 2 →
    s.dev.xlate ctx (va % 2 ^ 48) kind len { accel := if 1 ≤ ctx ∧ ctx ≤ 128 then s.dev.accelOf ctx else 15, hostBar := source = 1 }
      = (.ok dpa leaf, d1) →
    exec (.tollWalk ctx va kind len source unit) s = s.done d1)
  ∧ (∀ (s : State) (ctx va kind len source unit k lvl : Nat) (d1 : Dev), ctx ≤ 132 → kind ≤ 2 →
    s.dev.xlate ctx (va % 2 ^ 48) kind len { accel := if 1 ≤ ctx ∧ ctx ≤ 128 then s.dev.accelOf ctx else 15, hostBar := source = 1 }
      = (.fault k lvl, d1) →
    exec (.tollWalk ctx va kind len source unit) s = s.done (d1.tollFault ctx (va % 2 ^ 48) k kind lvl source unit))
  ∧ (∀ (s : State) (v : Word) (n : Nat), getBits v 0 2 ≠ 3 → getBits v 2 8 ≤ 132 → s.dev.get Fld.TOLL_INV_FLAGS_PENDING ≠ 16 →
    n = (s.dev.get Fld.TOLL_INV_STATUS_ISSUED + 1) % 2 ^ 32 →
    exec (.tollInvGo v) s = s.done
      (({ s.dev with toll := { s.dev.toll with queue := s.dev.toll.queue
          ++ [Inval.mk (getBits v 0 2) (getBits v 2 8) (s.dev.get Fld.TOLL_INV_RANGE_BASE * 4096) (s.dev.get Fld.TOLL_INV_RANGE_LOG2) n] } }.put
        Fld.TOLL_INV_STATUS_ISSUED n).put Fld.TOLL_INV_FLAGS_PENDING (s.dev.get Fld.TOLL_INV_FLAGS_PENDING + 1)))
  ∧ (∀ (s : State) (i : Inval) (q : List Inval), s.dev.toll.queue = i :: q →
    (∀ o ∈ s.dev.outst, ∀ c, s.dev.outstCtx o = some c → i.scope ≠ 0 ∧ c ≠ i.ctx) →
    exec .invalidationDone s = s.done
      (({ s.dev with toll := { s.dev.toll with cache := s.dev.toll.cache.filter (fun c => !i.covers c), queue := q } }.put
        Fld.TOLL_INV_STATUS_DONE i.issued).put Fld.TOLL_INV_FLAGS_PENDING (s.dev.get Fld.TOLL_INV_FLAGS_PENDING - 1)))
  ∧ (∀ (s : State) (v : Word) (w : Dev), w = s.dev.writeReg Reg.TOLL_REGION v 8 0 → s.dev.on Fld.TOLL_CTRL_ENABLE = false →
    w.tollBase + w.tollSize ≤ 2 ^ 38 → exec (.tollRegionWrite false v) s = s.done w)
  ∧ (∀ (s : State) (v : Word) (w : Dev), w = s.dev.writeReg Reg.TOLL_CTRL v 8 0 → w.get Fld.TOLL_REGION_SIZE ≠ 0 →
    s.dev.on Fld.TOLL_MOOR_ENABLE = false → exec (.tollRegionWrite true v) s = s.done w)
  ∧ (∀ (s : State), exec .tollFaultPtrRead s = s.done { s.dev with toll := { s.dev.toll with signalled := false } })
  ∧ (∀ (s : State) (v : Word) (w : Dev), w = s.dev.writeReg Reg.IDENT_NODE v 8 0 → s.dev.on Fld.IDENT_NODE_NODE_LOCKED = false →
    (w.get Fld.IDENT_NODE_NODE_ID ≠ s.dev.get Fld.IDENT_NODE_NODE_ID ∨ w.get Fld.IDENT_NODE_NODE_VALID ≠ s.dev.get Fld.IDENT_NODE_NODE_VALID) →
    exec (.identNodeWrite v) s = s.done (berths.foldl (fun d b => d.berthChange b 0x200) w))

/-- The Causeway's and the maps' commands take their effect: a whole flit that carries the next SEQ of its strand half is taken, joins the
strand merge, and is kept for the transmitter's replay (R67, R69, R74); a replay timer with a replay pending asks again (R71); the alarm
pulse toggles (R75); the first break of the alarm ring holds the brake (R92); quads that nothing uses change home and lose their contents
(R79); an accepted change of the Cistern split is begun and later carried out, its units zeroed (R81, R82). The model's own choices in it:
log entries 19, 9. -/
def Obligations.CausewayCommands : Prop :=
  (∀ (s : State) (link dir strand actl bctl : Nat) (data : List Byte) (h : StrandHalf),
    linkOk link = true → strand < strandCount link → s.dev.on (Fld.ERR_GLEDA_LINK_LOST link) = false →
    bitsOf actl 14 2 = 1 → bitsOf bctl 14 2 = 2 → flitCrc data actl bctl = bitsOf actl 0 2 * 2 ^ 14 + bitsOf bctl 0 14 →
    s.dev.cause.dllLinks.contains (halfKey link (dir % 2) strand) = false → bitsOf actl 2 2 ≠ 3 →
    h = s.dev.half (halfKey link (dir % 2) strand) → same (bitsOf actl 4 10) (h.lastGood + 1) 10 = true →
    exec (.flitReceive link dir strand actl bctl data) s = s.done
      (Dev.strandMerge (64 * strandCount link) (s.dev.setHalf (halfKey link (dir % 2) strand) { h with
        lastGood := bitsOf actl 4 10, fails := 0, replayFrom := 0, merge := h.merge ++ [(bitsOf actl 2 2, data)]
        buf := (h.buf ++ [(bitsOf actl 4 10, bitsOf actl 2 2, data)]).drop (h.buf.length + 1 - 512) }) link (dir % 2)))
  ∧ (∀ (s : State) (link dir strand : Nat) (h : StrandHalf), linkOk link = true → strand < strandCount link →
    h = s.dev.half (halfKey link (dir % 2) strand) → h.replayFrom ≠ 0 → h.fails < 7 →
    exec (.replayTimeout link dir strand) s = s.done
      ((((s.dev.setHalf (halfKey link (dir % 2) strand) { h with fails := h.fails + 1, replayFrom := (h.lastGood + 1) % 1024 + 1 }).sat
        (Fld.ERR_GLEDA_REPLAYS link)).emit .gledaCtl [link, 0, (h.lastGood + 1) % 1024]).classified 0x0601 link 0xFF 0))
  ∧ (∀ (s : State), exec .alarmPulseToggle s = s.done
      ({ s.dev with cause := { s.dev.cause with pulse := !s.dev.cause.pulse } }.emit .alarm [5, if s.dev.cause.pulse then 0 else 1]))
  ∧ (∀ (s : State) (ccw : Bool) (d1 d2 : Dev), d1 = s.dev.put (if ccw then Fld.ERR_ALARM_BREAK_CCW else Fld.ERR_ALARM_BREAK_CW) 1 →
    (d1.on Fld.ERR_ALARM_BREAK_CW && d1.on Fld.ERR_ALARM_BREAK_CCW) = false → d1.reg Reg.ERR_ALARM ≠ s.dev.reg Reg.ERR_ALARM →
    d2 = (d1.put Fld.ERR_ALARM_BRAKE_HELD 1).setBrakeSource 1 true →
    exec (.alarmBreakDetected ccw) s = s.done (d2.classified 0x0604 0 0xFF (d2.reg Reg.ERR_ALARM).toNat))
  ∧ (∀ (s : State) (v : Word) (w : Dev) (changed : List Nat), w = s.dev.writeReg Reg.IDENT_HBM_MAP v 8 0 →
    changed = (List.range 8).filter (fun q => s.dev.get Fld.IDENT_HBM_MAP_QUAD_HOME / 2 ^ q % 2 ≠ w.get Fld.IDENT_HBM_MAP_QUAD_HOME / 2 ^ q % 2) →
    (∀ q ∈ changed, s.dev.moorIn q = false ∧ s.dev.tollIn q = false ∧ s.dev.ringQuads.contains q = false) →
    exec (.identHbmMapWrite v) s = s.done (changed.foldl (fun s q => s.scrambleMem (q * 2 ^ 35) (2 ^ 35)) w))
  ∧ (∀ (s : State) (v : Word) (w : Dev) (units : List (Nat × Bool)), w = s.dev.writeReg Reg.IDENT_CISTERN v 8 0 →
    units = (List.range 64).filterMap (fun x =>
      let a := decide (x % 16 < scratchOf (s.dev.reg Reg.IDENT_CISTERN) (x / 16))
      let b := decide (x % 16 < scratchOf (w.reg Reg.IDENT_CISTERN) (x / 16))
      if a = b then none else some (x, b)) →
    s.dev.on Fld.IDENT_CISTERN_BUSY = false → (∀ u ∈ units, u.2 = false → s.dev.moorIn (8 + u.1) = false) → units ≠ [] →
    exec (.identCisternWrite v) s = s.done { w.put Fld.IDENT_CISTERN_BUSY 1 with cause := { w.cause with cisChange := units } })
  ∧ (∀ (s : State) (d1 : Dev), s.dev.on Fld.IDENT_CISTERN_BUSY = true →
    d1 = s.dev.cause.cisChange.foldl (fun s u => s.zeroMem (0x4000000000 + u.1 / 16 * 0x4000000 + u.1 % 16 * 0x400000) 0x400000) s.dev →
    exec .cisternChangeDone s = s.done { d1.put Fld.IDENT_CISTERN_BUSY 0 with cause := { d1.cause with cisChange := [] } })

/-- The clock islands' commands take their effect: a committed setting of the same DIV and reference begins a glide, another a hop over the
safe clock (R110, R120); a glide, or the mux move after a hop, makes the setting take effect: EPOCH advances and CLOCK_CHANGE is posted
(R106, R110); a PLL reaches lock (R102) and loses it (R128); the third failed relock sets LOCK_FAIL (R128). The model's own choices in it:
log entry 21. -/
def Obligations.ClockChanges : Prop :=
  (∀ (s : State) (n : Nat) (v : Word) (c : ClkIsl) (s1 : Dev), n < 96 → getBits v 63 1 = 1 →
    settingOk n (getBits v 24 7) (getBits v 0 24) (getBits v 32 4) = true → s.dev.on (Fld.CLK_ISL_STATUS_BUSY n) = false →
    s.dev.get (Fld.PWR_ISL_STATE n) ≠ 3 →
    s1 = (s.dev.setReg (Reg.CLK_ISL_TARGET n) (BitVec.ofNat 64 (packSetting (getBits v 24 7) (getBits v 0 24) (getBits v 32 4) (getBits v 36 1)))).put
      (Fld.CLK_ISL_STATUS_LOCK_FAIL n) 0 → c = s1.isl n →
    getBits v 32 4 = (s.dev.inUse n).2.2 → getBits v 36 1 = s.dev.get (Fld.CLK_ISL_STATUS_REF_IN_USE n) → c.onSafe = false →
    s.dev.on (Fld.CLK_ISL_STATUS_LOCKED n) = true →
    exec (.clkCommit n v) s = s.done
      ((s1.setIsl n { c with target := packSetting (getBits v 24 7) (getBits v 0 24) (getBits v 32 4) (getBits v 36 1), change := 1, fails := 0 }).put
        (Fld.CLK_ISL_STATUS_BUSY n) 1))
  ∧ (∀ (s : State) (n : Nat) (v : Word) (c : ClkIsl) (s1 s2 : Dev), n < 96 → getBits v 63 1 = 1 →
    settingOk n (getBits v 24 7) (getBits v 0 24) (getBits v 32 4) = true → s.dev.on (Fld.CLK_ISL_STATUS_BUSY n) = false →
    s.dev.get (Fld.PWR_ISL_STATE n) ≠ 3 →
    s1 = (s.dev.setReg (Reg.CLK_ISL_TARGET n) (BitVec.ofNat 64 (packSetting (getBits v 24 7) (getBits v 0 24) (getBits v 32 4) (getBits v 36 1)))).put
      (Fld.CLK_ISL_STATUS_LOCK_FAIL n) 0 → c = s1.isl n →
    (getBits v 32 4 ≠ (s.dev.inUse n).2.2 ∨ getBits v 36 1 ≠ s.dev.get (Fld.CLK_ISL_STATUS_REF_IN_USE n)) →
    s2 = s1.setIsl n { c with
      target := packSetting (getBits v 24 7) (getBits v 0 24) (getBits v 32 4) (getBits v 36 1), change := 2, fails := 0, onSafe := true } →
    exec (.clkCommit n v) s = s.done
      ((((s2.put (Fld.CLK_ISL_STATUS_BUSY n) 1).put (Fld.CLK_ISL_STATUS_LOCKED n) 0).put (Fld.CLK_ISL_STATUS_REF_IN_USE n)
        (getBits v 36 1)).syncPath n))
  ∧ (∀ (s : State) (n : Nat), n < 96 → (s.dev.isl n).change = 2 → s.dev.on (Fld.CLK_ISL_STATUS_LOCKED n) = false →
    s.dev.refValid (s.dev.get (Fld.CLK_ISL_STATUS_REF_IN_USE n)) = true →
    (s.dev.put (Fld.CLK_ISL_STATUS_LOCKED n) 1).get (Fld.PWR_ISL_STATE n) < 2 →
    exec (.pllLocked n) s = s.done (s.dev.put (Fld.CLK_ISL_STATUS_LOCKED n) 1))
  ∧ (∀ (s : State) (n : Nat), n < 116 → ((s.dev.isl n).change = 2 ∨ (s.dev.isl n).change = 6) → s.dev.on (Fld.CLK_ISL_STATUS_LOCKED n) = true →
    (s.dev.isl n).onSafe = true → s.dev.cause.kill = false → s.dev.on Fld.PWR_STATUS_BRAKE = false →
    exec (.muxMoveDone n) s = s.done (s.dev.clockEffect n))
  ∧ (∀ (s : State) (n : Nat), n < 96 → (s.dev.isl n).change = 1 → s.dev.on Fld.PWR_STATUS_BRAKE = false →
    exec (.glideDone n) s = s.done (s.dev.clockEffect n))
  ∧ (∀ (s : State) (n : Nat), n < 116 → s.dev.on (Fld.CLK_ISL_STATUS_LOCKED n) = true → s.dev.cause.kill = false →
    (s.dev.isl n).change = 0 →
    exec (.pllLockLost n) s = s.done
      (((((s.dev.setIsl n { s.dev.isl n with change := 3, fails := 0, onSafe := true }).put (Fld.CLK_ISL_STATUS_LOCKED n) 0).put
        (Fld.CLK_ISL_STATUS_LOCK_LOST n) 1).put (Fld.CLK_ISL_STATUS_BUSY n) 1).syncPath n))
  ∧ (∀ (s : State) (n : Nat), n < 116 → s.dev.on (Fld.CLK_ISL_STATUS_LOCKED n) = false → 2 ≤ (s.dev.isl n).change → (s.dev.isl n).fails = 2 →
    exec (.relockFail n) s = s.done
      ((((s.dev.setIsl n { s.dev.isl n with change := 0, fails := 0 }).put (Fld.CLK_ISL_STATUS_LOCK_FAIL n) 1).put
        (Fld.CLK_ISL_STATUS_BUSY n) 0).classified (if n < 96 then 0x060E else 0x060F) n 0xFF 0))

/-- References and delay lines: a lost reference with the other valid makes every island that takes it fail over (R125); a reference valid
again clears SBO_SAFE (R126); a master delay line that loses lock is reported and its half counts as unlocked (R115); it relocks with a
corrected error (R115, R116); an HBM channel whose hold runs out is lost (R116); a slave tap that leaves 16 taps from its training is
reported (R114). The model's own choices in it: log entry 21. -/
def Obligations.ReferencesAndDelays : Prop :=
  (∀ (s : State) (s1 : Dev), s.dev.refValid 0 = true →
    s1 = (s.dev.put Fld.CLK_REF_STATUS_REF0_VALID 0).put Fld.CLK_REF_STATUS_REF0_LOST 1 → s1.refValid 1 = true →
    exec (.refLost 0) s = s.done (((List.range 115).foldl (fun s n => s.failover 0 n) s1).classified 0x060B 0 0xFF 0).syncSource)
  ∧ (∀ (s : State) (s1 : Dev), s.dev.refValid 1 = true →
    s1 = (s.dev.put Fld.CLK_REF_STATUS_REF1_VALID 0).put Fld.CLK_REF_STATUS_REF1_LOST 1 → s1.refValid 0 = true →
    exec (.refLost 1) s = s.done (((List.range 115).foldl (fun s n => s.failover 1 n) s1).classified 0x060B 1 0xFF 0).syncSource)
  ∧ (∀ (s : State), exec (.refValidAgain 0) s
      = s.done ((s.dev.put Fld.CLK_REF_STATUS_REF0_VALID 1).put Fld.CLK_REF_STATUS_SBO_SAFE 0).syncSource)
  ∧ (∀ (s : State), exec (.refValidAgain 1) s
      = s.done ((s.dev.put Fld.CLK_REF_STATUS_REF1_VALID 1).put Fld.CLK_REF_STATUS_SBO_SAFE 0).syncSource)
  ∧ (∀ (s : State) (unit ch : Nat), linkOk unit = true → s.dev.cause.dllLinks.contains (unit * 32 + ch % 32) = false →
    exec (.dllUnlock false unit ch) s = s.done { s.dev.put ⟨Reg.CLK_DLL_FAULT, unit, 1⟩ 1 with
      cause := { s.dev.cause with dllLinks := (unit * 32 + ch % 32) :: s.dev.cause.dllLinks } })
  ∧ (∀ (s : State) (unit ch : Nat), s.dev.cause.dllLinks.contains (unit * 32 + ch % 32) = true →
    exec (.dllRelock false unit ch) s = s.done ({ s.dev with
      cause := { s.dev.cause with dllLinks := s.dev.cause.dllLinks.erase (unit * 32 + ch % 32) } }.classified 0x0609 unit 0xFF 0))
  ∧ (∀ (s : State) (unit ch : Nat), s.dev.cause.dllHbm.contains (unit * 64 + ch, false) = true →
    exec (.hbmDllHoldExpiry unit ch) s = s.done ({ s.dev with
      cause := { s.dev.cause with dllHbm := (unit * 64 + ch, true) :: s.dev.cause.dllHbm.erase (unit * 64 + ch, false) } }.classified
        0x060A (0x100 + unit) 0xFF ch))
  ∧ (∀ (s : State) (unit lane : Nat) (up : Bool) (t t' : Int), linkOk unit = true → t = tget (fun _ => 0) s.dev.cause.drift (unit * 4096 + lane) →
    t' = (if up then t + 1 else t - 1) → t'.natAbs ≤ 16 →
    exec (.dllTrack false unit lane up !up) s
      = s.done { s.dev with cause := { s.dev.cause with drift := tput (fun _ => 0) s.dev.cause.drift (unit * 4096 + lane) t' } })

/-- The Crystallizer's commands take their effect: the head command of the Pan the engine runs executes and ends with what it came to (R676 to
R678): CLOAD and CSTORE move their rows (R681); CMMA writes C in row order (R682 to R684); CRANK writes the best K of each row (R686);
CQUANT quantizes or dequantizes its blocks (R688, R689); CCONV converts its elements (R690). The Crystallizer's stream: CWAIT ends once
its tally has reached COUNT, and its timer ends it with code 0x45 (R693); CFENCE writes its record where it asks for one and clears the
stream status (R694); a step boundary charges the Pan that ran and chooses the ready Pan of smallest V (R675). The model's own choices in
it: log entry 92. -/
def Obligations.CrystallizerCommands : Prop :=
  (∀ (s : State) (p : Nat) (out : List Nat) (e : CryE) (rest : List CryE) (r : CryOut), s.dev.CryHead p 1 e rest →
    feedOk (Machine.wf e.words 2 0 22) (Machine.wf e.words 3 48 16 * Machine.wf e.words 2 32 23) = true →
    s.dev.sliceOk p (Machine.wf e.words 2 0 22) (Machine.wf e.words 3 48 16 * Machine.wf e.words 2 32 23) = true →
    s.dev.cryRows p e.words true (Machine.wf e.words 3 48 16) 0 out = r →
    exec (.cload p out) s = s.done (r.s.cryEnd p r.code r.kind r.info r.flags))
  ∧ (∀ (s : State) (p : Nat) (out : List Nat) (e : CryE) (rest : List CryE) (r : CryOut), s.dev.CryHead p 2 e rest →
    feedOk (Machine.wf e.words 2 0 22) (Machine.wf e.words 3 48 16 * Machine.wf e.words 2 32 23) = true →
    s.dev.sliceOk p (Machine.wf e.words 2 0 22) (Machine.wf e.words 3 48 16 * Machine.wf e.words 2 32 23) = true →
    s.dev.cryRows p e.words false (Machine.wf e.words 3 48 16) 0 out = r →
    exec (.cstore p out) s = s.done (r.s.cryEnd p r.code r.kind r.info r.flags))
  ∧ (∀ (s : State) (p : Nat) (e : CryE) (rest : List CryE) (M N K base fa fb fc : Nat), s.dev.CryHead p 0x10 e rest →
    M = Machine.wf e.words 4 0 13 → N = Machine.wf e.words 4 16 13 → K = Machine.wf e.words 4 32 17 → base = feedBase (p / 8) →
    fa = Machine.wf e.words 1 0 22 → fb = Machine.wf e.words 1 32 22 → fc = Machine.wf e.words 2 0 22 →
    Machine.wf e.words 5 0 8 = 12 → Machine.wf e.words 5 8 8 = 12 → Machine.wf e.words 5 16 1 = 0 → Machine.wf e.words 5 17 1 = 0 → Machine.wf e.words 5 18 1 = 0 →
    (∀ r ∈ [(fa, M * (K * 8 / 8)), (fb, N * (K * 8 / 8)), (fc, 4 * M * N)], feedOk r.1 r.2 = true ∧ s.dev.sliceOk p r.1 r.2 = true) →
    (∀ r ∈ [(fa, M * (K * 8 / 8)), (fb, N * (K * 8 / 8))], (fc + 4 * M * N ≤ r.1 ∨ r.1 + r.2 ≤ fc) ∧ s.dev.poisoned (base + r.1) r.2 = false) →
    exec (.cmma p) s = s.done ((s.dev.writeMem (base + fc) (((List.range (M * N)).map (fun c =>
      mmaInt 0 (fun k => intElem 12 (s.dev.packed (base + fa + c / N * (K * 8 / 8)) 8 k)
        * intElem 12 (s.dev.packed (base + fb + c % N * (K * 8 / 8)) 8 k)) K)).flatMap (leBytes 4))).cryEnd p 0 0 0 0))
  ∧ (∀ (s : State) (p : Nat) (e : CryE) (rest : List CryE) (R N K base fs fo : Nat), s.dev.CryHead p 0x20 e rest →
    R = Machine.wf e.words 2 0 13 → N = Machine.wf e.words 2 32 17 → K = Machine.wf e.words 3 0 11 → base = feedBase (p / 8) →
    fs = Machine.wf e.words 1 0 22 → fo = Machine.wf e.words 1 32 22 →
    Machine.wf e.words 3 16 1 = 0 → Machine.wf e.words 3 17 1 = 0 → Machine.wf e.words 3 18 1 = 1 →
    feedOk fs (4 * R * N) = true → feedOk fo (8 * R * K) = true → (fo + 8 * R * K ≤ fs ∨ fs + 4 * R * N ≤ fo) →
    Machine.wf e.words 4 0 32 + N - 1 < 0xFFFFFFFF → s.dev.sliceOk p fs (4 * R * N) = true → s.dev.sliceOk p fo (8 * R * K) = true →
    s.dev.poisoned (base + fs) (4 * R * N) = false →
    exec (.crank p) s = s.done ((s.dev.writeMem (base + fo) ((List.range R).flatMap (fun i =>
      let best := ((List.range N).map (fun j => (ofLe (s.dev.bytes (base + fs + 4 * (i * N + j)) 4), Machine.wf e.words 4 0 32 + j))).foldl
        (fun l x => (rankInsert (ranksBefore true false) x l).take K) []
      (List.range K).flatMap (fun k => leBytes 4 (best.getD k (0x80000000, 0xFFFFFFFF)).1
        ++ leBytes 4 (best.getD k (0x80000000, 0xFFFFFFFF)).2)))).cryEnd p 0 0 0 0))
  ∧ (∀ (s : State) (p : Nat) (out : List Nat) (e : CryE) (rest : List CryE) (r : CryOut), s.dev.CryHead p 0x30 e rest →
    Machine.wf e.words 5 16 1 = 0 → (s.dev.crySeed p e.words).quantRun p e.words (Machine.wf e.words 4 0 31 / 32) 0 0 out = r →
    exec (.cquantQuantize p out) s = s.done (r.s.cryEnd p r.code r.kind r.info r.flags))
  ∧ (∀ (s : State) (p : Nat) (out : List Nat) (e : CryE) (rest : List CryE) (r : CryOut), s.dev.CryHead p 0x30 e rest →
    Machine.wf e.words 5 16 1 = 1 → (s.dev.crySeed p e.words).dequantRun p e.words (Machine.wf e.words 4 0 31 / 32) 0 0 out = r →
    exec (.cquantDequantize p out) s = s.done (r.s.cryEnd p r.code r.kind r.info r.flags))
  ∧ (∀ (s : State) (p n : Nat) (out : List Nat) (e : CryE) (rest : List CryE) (r : CryOut), s.dev.CryHead p 0x31 e rest →
    n = Machine.wf e.words 4 0 31 → n * fmtBits (Machine.wf e.words 5 0 8) % 8 = 0 → n * fmtBits (Machine.wf e.words 5 8 8) % 8 = 0 →
    (s.dev.crySeed p e.words).convRun p e.words n (n / 64 + 1) 0 0 out = r →
    exec (.cconv p out) s = s.done (r.s.cryEnd p r.code r.kind r.info r.flags))
  ∧ (∀ (s : State) (p : Nat) (e : CryE) (rest : List CryE) (t : Word), (s.dev.pan p).cry = e :: rest → Machine.wf e.words 0 0 8 = 0x40 →
    s.dev.stopped = false → (s.dev.pan p).skip = false → t = tget (fun _ => (0 : Word)) (s.dev.pan p).tally (Machine.wf e.words 1 0 4) →
    after ((getBits t 0 32 + getBits t 32 32) % 2 ^ 32) (Machine.wf e.words 1 32 32) 32 = true →
    exec (.cwait p) s = s.done (s.dev.cryEnd p 0 0 0 0))
  ∧ (∀ (s : State) (p : Nat) (e : CryE) (rest : List CryE), (s.dev.pan p).cry = e :: rest → Machine.wf e.words 0 0 8 = 0x40 →
    Machine.wf e.words 2 0 32 ≠ 0 → s.dev.stopped = false →
    exec (.cwaitTimeout p) s = s.done ((s.dev.at (e.headAt - 1 + 1000 * Machine.wf e.words 2 0 32)).cryEnd p 0x45 0 0 0))
  ∧ (∀ (s : State) (p : Nat) (out : List Nat) (e : CryE) (rest : List CryE) (s3 : Dev), s.dev.CryHead p 0x41 e rest → Machine.wf e.words 1 48 1 = 0 →
    s3 = (s.dev.setPan p { s.dev.pan p with fcode := 0, fails := 0 }).cryEnd p 0 0 0 0 →
    exec (.cfence p out) s = s.done
      (s3.setPan p { s3.pan p with fails := 0, flags := 0, fcode := 0, fkind := 0, fcseq := 0, finfo := 0, skip := false }))
  ∧ (∀ (s : State) (c n p : Nat), c < 32 → p = 8 * c + s.dev.get (Fld.CRY_STATE_CUR_SLOT c) →
    exec (.cryStepBoundary c n) s = s.done ((((s.dev.cryCharge c p (min n 4096)).cryWithdrawn p).cryCatchUp c).cryChoose c))

/-- TASK_GO (R704): the GO of a well-formed task that its master may issue, outside recovery, with no task in the way, makes the set BUSY with
that task. The tasks on caps, policies and the log take their effect once accepted: HEARTBEAT answers the Tide time (R709); POWER_CAP sets
its master's cap and hold (R710); THERMAL_POLICY, AUTONOMY_POLICY and STAGGER_PLAN take their values and wait for the store (R711, R738,
R774, R801); LOG_READ answers up to two records (R718); LOG_CLEAR moves the master's cursor forward (R720). The model's own choices in it:
log entries 54, 59. -/
def Obligations.PolicyTasks : Prop :=
  (∀ (s : State) (m : Nat) (host bmc : Bool) (d1 d2 : Dev), m < 2 → d1 = s.dev.speech m → d1.taskBusy m = false →
    d1.on (Fld.TASK_STATE_HELM_DOWN m) = false → d1.get (Fld.TASK_TAG_TAG m) ≠ d1.get (Fld.TASK_STATE_DONE_TAG m) →
    d2 = (d1.put (Fld.TASK_STATE_STATE m) 1).put (Fld.TASK_STATE_REPEATED m) 0 → taskRights (d2.taskOp m) = some (host, bmc) →
    (if m = 0 then host else bmc) = true → d2.argsGood m (d2.taskOp m) = true → d2.slip.recovery = false → d2.taskBusy (1 - m) = false →
    d2.taskOp m ≠ 0x30 →
    exec (.taskGo m) s = s.done (d2.setProg m 1))
  ∧ (∀ (s : State) (m : Nat), s.dev.accepted m 0x01 = true → exec (.heartbeat m) s = s.done (s.dev.taskDone m 0 0 [s.dev.tide]))
  ∧ (∀ (s : State) (m : Nat) (d1 : Dev), s.dev.accepted m 0x10 = true →
    d1 = ((s.dev.put (if m = 0 then Fld.PWR_CAPS_HOST_W else Fld.PWR_CAPS_BMC_W) (s.dev.argF m 0 0 16)).setBrakeSource (3 + m)
      (s.dev.argF m 0 16 1 = 1)).updateCap →
    exec (.powerCap m) s = s.done (d1.taskDone m 0 0
      [pack [(0, 16, d1.get Fld.PWR_STATUS_CAP_W), (16, 16, d1.get Fld.PWR_STATUS_POWER_W), (32, 6, d1.get Fld.PWR_STATUS_LEVEL)]]))
  ∧ (∀ (s : State) (m : Nat), s.dev.accepted m 0x11 = true →
    exec (.thermalPolicy m) s = s.done
      ({ s.dev with power := { s.dev.power with thermBrake := s.dev.arg m 0, curve := s.dev.capEntries m } }.taskFlash m 2))
  ∧ (∀ (s : State) (m : Nat), s.dev.accepted m 0x12 = true →
    exec (.autonomyPolicy m) s = s.done
      (((s.dev.helmPut Fld.TASK_HELM_SILENCE_S (s.dev.argF m 0 0 10)).setFerry { s.dev.ferry with
        restartEn := s.dev.argF m 0 16 1 = 1, tempCh := s.dev.argF m 0 24 5, autoTable := s.dev.capEntries m }).taskFlash m 1))
  ∧ (∀ (s : State) (m : Nat), s.dev.accepted m 0x80 = true →
    exec (.staggerPlan m) s = s.done ((s.dev.setSlip { s.dev.slip with
      plan := [s.dev.argF m 0 0 16, s.dev.argF m 0 16 16, s.dev.argF m 0 32 8, s.dev.argF m 0 40 4, s.dev.argF m 0 48 8] }).taskFlash m 3))
  ∧ (∀ (s : State) (m : Nat) (rs : List LogRec), s.dev.accepted m 0x40 = true → s.dev.argF m 0 32 1 = 0 →
    rs = (s.dev.log.recs.reverse.filter (fun r => !before r.seq (s.dev.argF m 0 0 32) 32)).take 2 →
    exec (.logRead m) s = s.done (s.dev.taskDone m 0 rs.length (rs.flatMap LogRec.words)))
  ∧ (∀ (s : State) (m : Nat), s.dev.accepted m 0x41 = true → before (s.dev.arg m 0) (s.dev.get (Fld.TASK_LOG_CURSOR m)) 32 = false →
    after (s.dev.arg m 0) (s.dev.get (Fld.TASK_LOG_NEWEST_SEQ m) + 1) 32 = false →
    exec (.logClear m) s = s.done ((s.dev.put (Fld.TASK_LOG_CURSOR m) (s.dev.arg m 0)).taskDone m 0 0 []))

/-- The CAN FD tasks and events take their effect: CAN_SEND queues a frame (R731); CAN_FILTER sets, clears, reads and configures (R730); an
acknowledged attempt sends the head frame, a lone probe that is acknowledged ends the lone state (R732, R733); a good frame that a filter
accepts enters the FIFO (R730); a recovered controller leaves bus-off (R734). The Gauge's word and its tasks take their effect: a settled,
unclipped word within a visit enters the FIFO and updates its channel (R745, R749); GAUGE_CONFIG leaves channel and threshold settings for
the next visit (R742), reads the FIFO oldest first, clears a channel's statistics, and reads its statistics (R753). The model's own
choices in it: log entries 52, 51. -/
def Obligations.CanAndGauge : Prop :=
  (∀ (s : State) (m : Nat) (d1 : Dev), s.dev.accepted m 0x60 = true → s.dev.can.txq.length < 32 →
    d1 = (s.dev.setCan { s.dev.can with txq := s.dev.can.txq ++
      [⟨s.dev.arg m 0, ((List.range 6).flatMap (fun i => leBytes 8 (s.dev.arg m (1 + i)))).take (s.dev.argF m 0 32 7), s.dev.tide⟩] }).canQueued →
    exec (.canSend m) s = s.done (d1.taskDone m 0 0 [s.dev.can.txq.length + 1]))
  ∧ (∀ (s : State) (m : Nat), s.dev.accepted m 0x61 = true → s.dev.argF m 0 0 2 = 0 →
    exec (.canFilterSet m) s = s.done ((s.dev.setCan { s.dev.can with
      filters := tput (fun _ => none) s.dev.can.filters (s.dev.argF m 0 4 4) (some (s.dev.arg m 1, s.dev.arg m 2)) }).taskDone m 0 0 []))
  ∧ (∀ (s : State) (m : Nat), s.dev.accepted m 0x61 = true → s.dev.argF m 0 0 2 = 1 →
    exec (.canFilterClear m) s = s.done ((s.dev.setCan { s.dev.can with filters := tdel (s.dev.argF m 0 4 4) s.dev.can.filters }).taskDone m 0 0 []))
  ∧ (∀ (s : State) (m : Nat) (f : CanF) (t : List CanF), s.dev.accepted m 0x61 = true → s.dev.argF m 0 0 2 = 2 → s.dev.can.fifo = f :: t →
    exec (.canFilterRead m) s = s.done ((s.dev.setCan { s.dev.can with fifo := t }).taskDone m 0 1
      ([f.word, f.tide] ++ (List.range 6).map (fun i => ofLe ((f.data.drop (8 * i)).take 8)))))
  ∧ (∀ (s : State) (m : Nat), s.dev.accepted m 0x61 = true → s.dev.argF m 0 0 2 = 3 →
    exec (.canFilterConfig m) s = s.done ((s.dev.setCan { s.dev.can with
      enabled := s.dev.argF m 1 0 1 = 1, nominal := s.dev.argF m 1 1 2, dataRate := s.dev.argF m 1 3 2 }).taskFlash m 4))
  ∧ (∀ (s : State) (f : CanF) (t : List CanF), s.dev.can.txq = f :: t → s.dev.canOpen = true → s.dev.on (Fld.TASK_CAN_LONE 0) = false →
    exec (.canTxAttemptDone 0) s = s.done (((s.dev.canEmit f).canTec 0).canSent))
  ∧ (∀ (s : State) (f : CanF) (t : List CanF) (d1 d2 : Dev), s.dev.can.txq = f :: t → s.dev.canOpen = true → s.dev.on (Fld.TASK_CAN_LONE 0) = true →
    d1 = ((s.dev.at s.dev.can.probeAt).canEmit f).canTec 0 → d2 = d1.canSent.canPut Fld.TASK_CAN_LONE 0 →
    exec (.canLoneProbeTimer 0) s = s.done
      ((d2.setCan { d2.can with loneAt := 0, probeAt := 0, dropped := 0 }).logAdd 2 0x0031 0xFF ((d1.tide + 1 - d1.can.loneAt) / 1000000)
        d1.can.dropped))
  ∧ (∀ (s : State) (word : Nat) (data : List Byte) (d1 : Dev), s.dev.can.enabled = true → s.dev.get (Fld.TASK_CAN_REC 0) ≤ 127 →
    d1 = s.dev.canErrors (s.dev.get (Fld.TASK_CAN_TEC 0)) (s.dev.get (Fld.TASK_CAN_REC 0) - 1) → d1.can.accepts (word % 2 ^ 30) = true →
    d1.can.fifo.length < 64 →
    exec (.canFrameReceived word data true) s = s.done (d1.setCan { d1.can with fifo := d1.can.fifo ++
      [⟨pack [(0, 32, word), (32, 7, data.length), (39, 1, if 48 < data.length then 1 else 0)], data.take 48, d1.tide⟩] }))
  ∧ (∀ (s : State), s.dev.get (Fld.TASK_CAN_FAULT 0) = 2 →
    exec .canBusOffRecovered s = s.done
      (((s.dev.canPut Fld.TASK_CAN_FAULT 0).canPut Fld.TASK_CAN_TEC 0).canPut Fld.TASK_CAN_REC 0))
  ∧ (∀ (s : State) (v ch osr w : Nat) (d1 d2 : Dev), s.dev.gaugeOver = false → s.dev.gauge.cur = ch + 1 → 4 ≤ s.dev.gauge.pos →
    osr = s.dev.get (Fld.GAU_CFG_OSR ch) →
    d1 = (s.dev.at (s.dev.gauge.lastAt + 5120 * 2 ^ osr)).put Fld.GAU_STATUS_RUNNING 1 →
    d2 = d1.setGauge { d1.gauge with pos := s.dev.gauge.pos + 1, lastAt := d1.tide } →
    w = gaugeWord false false ch (s.dev.get (Fld.GAU_CFG_GAIN ch)) osr v →
    exec (.gaugeWord v false) s = s.done ((d2.gaugePush ch w).gaugeAccount ch w false))
  ∧ (∀ (s : State) (m : Nat), s.dev.accepted m 0x70 = true → s.dev.argF m 0 0 3 = 0 →
    exec (.gaugeConfigChannel m) s = s.done ((s.dev.setGauge { s.dev.gauge with
      want := tput (fun _ => none) s.dev.gauge.want (s.dev.argF m 0 8 5) (some (packW
        [(0, 1, s.dev.argF m 0 16 1), (1, 3, s.dev.argF m 0 17 3), (4, 5, s.dev.argF m 0 20 5), (16, 8, s.dev.argF m 0 32 8)])) }).taskDone m 0 0 []))
  ∧ (∀ (s : State) (m : Nat), s.dev.accepted m 0x70 = true → s.dev.argF m 0 0 3 = 1 →
    exec (.gaugeConfigThreshold m) s = s.done ((s.dev.setGauge { s.dev.gauge with
      wantT := tput (fun _ => none) s.dev.gauge.wantT (s.dev.argF m 0 8 5) (some (packW
        [(0, 1, s.dev.argF m 0 16 1), (1, 1, s.dev.argF m 0 17 1), (4, 4, s.dev.argF m 0 20 4)], BitVec.ofNat 64 (s.dev.arg m 1))) }).taskDone m 0 0 []))
  ∧ (∀ (s : State) (m n : Nat) (d1 : Dev), s.dev.accepted m 0x70 = true → s.dev.argF m 0 0 3 = 2 → n = s.dev.argF m 0 8 4 →
    d1 = (s.dev.setGauge { s.dev.gauge with fifo := s.dev.gauge.fifo.drop n }).gaugeLevel →
    exec (.gaugeReadFifo m) s = s.done (d1.taskDone m 0 (s.dev.gauge.fifo.take n).length (d1.gauge.fifo.length ::
      (List.range 7).map (fun i => (s.dev.gauge.fifo.take n).getD (2 * i) 0 + (s.dev.gauge.fifo.take n).getD (2 * i + 1) 0 * 2 ^ 32))))
  ∧ (∀ (s : State) (m : Nat), s.dev.accepted m 0x70 = true → s.dev.argF m 0 0 3 = 3 → s.dev.argF m 0 13 1 = 0 → s.dev.argF m 0 16 1 = 1 →
    s.dev.argF m 0 17 1 = 0 →
    exec (.gaugeClear m) s = s.done ((s.dev.gaugeClearStats (s.dev.argF m 0 8 5)).taskDone m 0 0 []))
  ∧ (∀ (s : State) (m ch : Nat), s.dev.accepted m 0x70 = true → s.dev.argF m 0 0 3 = 4 → ch = s.dev.argF m 0 8 5 →
    exec (.gaugeReadStats m) s = s.done (s.dev.taskDone m 0 0 [(s.dev.reg (Reg.GAU_LAST ch)).toNat, (s.dev.reg (Reg.GAU_LAST_TIDE ch)).toNat,
      (s.dev.reg (Reg.GAU_MINMAX ch)).toNat, (s.dev.reg (Reg.GAU_MEAN ch)).toNat, s.dev.get (Fld.GAU_CFG_CLIPS ch)]))

/-- Partners start and stop: power-good of a starting port is taken (R712); its timeout takes the power away again; 100 ms later PERST is
released (R338); a gap timer starts the next ports of its sequence (R798); ACCEL_POWER, ACCEL_RESET and DRIVE_POWER do what they name to
the ports and drives they name (R712, R713). The model's own choices in it: log entries 55, 60. -/
def Obligations.PartnerCommands : Prop :=
  (∀ (s : State) (n : Nat), n < 4 → (s.dev.port n).pwren = true → (s.dev.port n).pg = false → s.dev.starter n = 2 →
    ∃ d : Dev, d = s.dev.setPort n { s.dev.port n with pg := true, pgAt := s.dev.tide }
      ∧ exec (.apPgRise n) s = s.done ((d.setFerry { d.ferry with accGood := d.ferry.accGood ||| 2 ^ n }).afterPort 2))
  ∧ (∀ (s : State) (n : Nat), n < 4 → (s.dev.port n).pg = false → s.dev.starter n = 1 →
    exec (.apPgTimeout n) s = s.done
      ((((((s.dev.at ((s.dev.port n).pgAt + 1000000000)).portPower n false).setStarter n 0).partnerStart n 1).afterPort 1).accCheck))
  ∧ (∀ (s : State) (n : Nat), n < 4 → s.dev.starter n = 1 → (s.dev.port n).pwren = true → (s.dev.port n).perst = true → (s.dev.port n).pg = true →
    exec (.apPerstReleaseTimer n) s = s.done (((s.dev.at ((s.dev.port n).pgAt + 100000000)).perstRelease n).setStarter n 0))
  ∧ (∀ (s : State) (w : Nat), s.dev.gapAt w ≠ 0 →
    exec (.staggerGapTimer w) s = s.done (((s.dev.at (s.dev.gapAt w - 1 + s.dev.gapNs w)).setGap w 0).gapNext w))
  ∧ (∀ (s : State) (m : Nat) (d1 : Dev), s.dev.accepted m 0x20 = true → s.dev.argF m 0 4 1 = 1 → s.dev.portsFree m = true →
    d1 = (s.dev.powerTask m).setProg m 2 →
    exec (.accelPowerOn m) s = s.done
      ((d1.setFerry { d1.ferry with accGood := 0, accBad := 0, accSet := s.dev.argF m 0 0 4 }).accNext (bitsSet 4 (s.dev.argF m 0 0 4))))
  ∧ (∀ (s : State) (m : Nat), s.dev.accepted m 0x20 = true → s.dev.argF m 0 4 1 = 0 → s.dev.portsFree m = true →
    exec (.accelPowerOff m) s = s.done
      (((bitsSet 4 (s.dev.argF m 0 0 4)).foldl (fun d n => d.portPower n false) (s.dev.powerTask m)).taskDone m 0 0 []))
  ∧ (∀ (s : State) (m : Nat) (ps : List Nat), s.dev.accepted m 0x21 = true → s.dev.argF m 0 4 2 = 0 → s.dev.portsFree m = true →
    ps = (bitsSet 4 (s.dev.argF m 0 0 4)).filter (fun n => (s.dev.port n).pwren) → ps ≠ [] →
    exec (.accelResetPerst m) s = s.done
      ((ps.foldl (fun d n =>
        let e := (d.perstAssert n).setStarter n (4 + m)
        e.setPort n { e.port n with trainAt := e.tide }) (s.dev.powerTask m)).setProg m ((ps.map (fun n => 2 ^ n)).sum * 16 + 2)))
  ∧ (∀ (s : State) (m : Nat) (ps : List Nat), s.dev.accepted m 0x21 = true → s.dev.argF m 0 4 2 = 1 → s.dev.portsFree m = true →
    ps = (bitsSet 4 (s.dev.argF m 0 0 4)).filter (fun n => (s.dev.port n).pwren) → ps ≠ [] →
    exec (.accelResetSbr m) s = s.done ((ps.foldl (fun d n => d.portSbr n) (s.dev.powerTask m)).taskDone m 0 0
      [((ps.filter (fun n => s.dev.on (pEn n))).map (fun n => 2 ^ n)).sum]))
  ∧ (∀ (s : State) (m : Nat) (d1 : Dev), s.dev.accepted m 0x22 = true → s.dev.argF m 0 8 1 = 1 → s.dev.argF m 0 0 8 ≠ 0 →
    d1 = (s.dev.powerTask m).setProg m 2 →
    exec (.drivePowerOn m) s = s.done
      ((d1.setFerry { d1.ferry with drvSet := s.dev.argF m 0 0 8, drvQueue := drivePairs (s.dev.argF m 0 0 8) }).taskDrives))
  ∧ (∀ (s : State) (m : Nat), s.dev.accepted m 0x22 = true → s.dev.argF m 0 8 1 = 0 → s.dev.argF m 0 0 8 ≠ 0 →
    exec (.drivePowerOff m) s = s.done
      ((((bitsSet 8 (s.dev.argF m 0 0 8)).foldl (fun d k => d.portPower (4 + k) false) (s.dev.powerTask m)).logAdd 2 0x0021 0xFF
        (s.dev.argF m 0 0 8) 0).taskDone m 0 0 []))

/-- The firmware tasks take their effect: FW_STAGE begins (the slot is erased), takes the BMC's data, ends with verification, or cancels
(R723, R872); FW_ACTIVATE names the staged slot, restarts the helm on it, confirms a trial, or reverts (R725, R873, R875); FW_STATUS
answers; the flash's end ends the task that waited for it (R738). The model's own choices in it: log entries 56, 58, 57, 59. -/
def Obligations.FirmwareTasks : Prop :=
  (∀ (s : State) (m : Nat), s.dev.accepted m 0x30 = true → s.dev.argF m 0 0 2 = 0 → s.dev.stageHeld = false →
    exec (.fwStageBegin m) s = s.done ((s.dev.stageBegin (m + 1) (s.dev.arg m 1)).taskFlash m 7))
  ∧ (∀ (s : State) (bs : List Byte) (d1 : Dev), s.dev.accepted 1 0x30 = true → s.dev.argF 1 0 0 2 = 1 → s.dev.ferry.stageOwner = 2 →
    s.dev.argF 1 1 0 26 = s.dev.ferry.stageBytes.length → s.dev.ferry.stageBytes.length + s.dev.argF 1 1 32 6 ≤ s.dev.ferry.stageLen →
    bs = ((List.range 6).flatMap (fun i => leBytes 8 (s.dev.arg 1 (2 + i)))).take (s.dev.argF 1 1 32 6) →
    d1 = s.dev.setFerry { s.dev.ferry with stageGot := putBytes (fun _ => 0) [] 0 bs, stageLeft := 0, stageBad := false } →
    exec (.fwStageData 1) s = s.done (d1.taskFlash 1 8))
  ∧ (∀ (s : State) (m : Nat), s.dev.accepted m 0x30 = true → s.dev.argF m 0 0 2 = 2 → s.dev.ferry.stageOwner = m + 1 →
    exec (.fwStageEnd m) s = s.done (match s.dev.stageEnd with
      | (some (v, a), d1) => d1.taskDone m 0 0 [v, a]
      | (none, d1) => d1.taskDone m 7 0 []))
  ∧ (∀ (s : State) (m : Nat), s.dev.accepted m 0x30 = true → s.dev.argF m 0 0 2 = 3 → s.dev.ferry.stageOwner = m + 1 →
    exec (.fwStageCancel m) s = s.done (((s.dev.setFw s.dev.stageSlot FwSlot.init).stageRelease).taskDone m 0 0 []))
  ∧ (∀ (s : State) (m : Nat), s.dev.accepted m 0x31 = true → s.dev.arg m 0 = 0 → (s.dev.fw s.dev.stageSlot).staged = true →
    exec (.fwActivateNextReset m) s = s.done ((s.dev.activate 0).leaveRecovery.taskDone m 0 0 []))
  ∧ (∀ (s : State) (m : Nat), s.dev.accepted m 0x31 = true → s.dev.arg m 0 = 1 →
    exec (.fwActivateHelmNow m) s = s.done
      (if s.dev.helmNowCause = 0 then (s.dev.setProg m 2).helmNow (m + 1) else s.dev.taskDone m s.dev.helmNowCause 0 []))
  ∧ (∀ (s : State) (m : Nat) (d1 d2 : Dev), s.dev.accepted m 0x31 = true → s.dev.arg m 0 = 2 → s.dev.trial = true →
    d1 = s.dev.helmPut Fld.TASK_HELM_TRIAL 0 → d1.tlhs.minSvn < (d1.fw d1.bootSlot).svn → d1.tlhs.advances < 63 →
    d2 = ({ d1 with tlhs := { d1.tlhs with minSvn := (d1.fw d1.bootSlot).svn, advances := d1.tlhs.advances + 1 } }.put Fld.TLH_STATUS_MIN_SVN
      (d1.fw d1.bootSlot).svn).logAdd 2 0x0504 0xFF (d1.fw d1.bootSlot).svn (d1.tlhs.advances + 1) →
    exec (.fwActivateConfirm m) s = s.done ((d2.logAdd 1 0x0012 0xFF d2.bootSlot 0).taskDone m 0 0 []))
  ∧ (∀ (s : State) (m : Nat), s.dev.accepted m 0x31 = true → s.dev.arg m 0 = 4 → (s.dev.fw (1 - s.dev.bootSlot)).valid = true →
    s.dev.tlhs.minSvn ≤ (s.dev.fw (1 - s.dev.bootSlot)).svn →
    exec (.fwActivateRevert m) s = s.done ((((s.dev.helmPut Fld.TASK_HELM_BOOT_SLOT (1 - s.dev.bootSlot)).helmPut Fld.TASK_HELM_TRIAL 0).logAdd
      4 0x0013 0xFF (1 - s.dev.bootSlot) 3).leaveRecovery.taskDone m 0 0 []))
  ∧ (∀ (s : State) (m : Nat), s.dev.accepted m 0x32 = true →
    exec (.fwStatus m) s = s.done (s.dev.taskDone m 0 0
      [pack [(0, 1, s.dev.ferry.running), (1, 1, s.dev.bootSlot), (2, 1, bnat s.dev.trial), (3, 1, bnat (s.dev.fw s.dev.stageSlot).staged),
          (4, 2, s.dev.ferry.stageOwner)],
        s.dev.ferry.slotA.version, s.dev.ferry.slotB.version, s.dev.ferry.stageBytes.length, getBits (s.dev.reg Reg.IDENT_FW_ABI) 0 32]))
  ∧ (∀ (s : State) (m cs : Nat), m < 2 → s.dev.flashOf m ≠ 0 → s.dev.flashOf m < 7 → s.dev.taskBusy m = true →
    s.dev.on (Fld.TASK_STATE_HELM_DOWN m) = false →
    exec (.spiFlashOperationDone m true cs) s = s.done ((s.dev.storeKeep (min (s.dev.flashOf m) 5)).taskDone m 0 0 []))

/-- The helm's events take their effect: autonomous helm begins when both silence timers have run out (R714); it restarts a port contained
with cause 6 (R715); a lockstep mismatch and a watchdog take the helm down (R701, R726); the helm comes back (R708). Management messages
and the test port take their effect: an MCTP endpoint ID is taken and answered (R727); a PLDM sensor answers its channel's value (R728,
R757); PLDM stages and activates an image (R723, R724); the test access port's four instructions do as R923 states. The model's own
choices in it: log entries 53, 32. -/
def Obligations.HelmAndManagement : Prop :=
  (∀ (s : State) (d d1 : Dev) (cap : Nat), s.dev.on (Fld.TASK_HELM_AUTONOMOUS 0) = false → s.dev.on (Fld.TASK_STATE_HELM_DOWN 0) = false →
    d = s.dev.at s.dev.silenceEnd → cap = curveCap d.ferry.autoTable (d.chanTemp d.ferry.tempCh) →
    d1 = (((d.helmPut Fld.TASK_HELM_AUTONOMOUS 1).put Fld.IDENT_TRAY_HELM_AUTONOMOUS 1).put Fld.PWR_CAPS_AUTO_W cap).setFerry
      { d.ferry with autoSince := d.tide + 1, restarts := [] } →
    exec .autonomyEnter s = s.done (d1.logAdd 3 0x0002 0xFF cap
      (pack [(0, 32, (d.tide - d.ferry.lastGo0) / 1000000000), (32, 32, (d.tide - d.ferry.lastGo1) / 1000000000)])).updateCap)
  ∧ (∀ (s : State) (p since n : Nat) (d d1 : Dev), p < 4 → since = tget (fun _ => 0) s.dev.ferry.contained6 p →
    n = tget (fun _ => 0) s.dev.ferry.restarts p → s.dev.on (Fld.TASK_HELM_AUTONOMOUS 0) = true → s.dev.ferry.restartEn = true → since ≠ 0 → n < 3 →
    s.dev.starter p = 0 → s.dev.get (pState p) = 4 → d = s.dev.at (since - 1 + 10000000000) →
    d1 = (d.setFerry { d.ferry with
      contained6 := tdel p d.ferry.contained6, restarts := tput (fun _ => 0) d.ferry.restarts p (n + 1) }).logAdd 3 0x0005 0xFF p (n + 1) →
    d1.gapAt 4 = 0 → (∀ q ∈ List.range 4, d1.starter q ≠ 3) →
    exec (.autoRestart p) s = s.done ((d1.setSlip { d1.slip with accelGap := d1.slip.plan.getD 0 250 }).autoPort [p]))
  ∧ (∀ (s : State), s.dev.on (Fld.TASK_STATE_HELM_DOWN 0) = false →
    exec .helmLockstepMismatch s = s.done
      (((s.dev.logAdd 5 0x0001 0xFF 1 (s.dev.fw s.dev.ferry.running).version).classified 0x0617 0 0xFF 0).helmDown 1))
  ∧ (∀ (s : State) (d : Dev), s.dev.on (Fld.TASK_STATE_HELM_DOWN 0) = false →
    d = s.dev.logAdd 5 0x0001 0xFF 2 (s.dev.fw s.dev.ferry.running).version → d.trial = true →
    exec .helmWatchdog s = s.done ((d.rollback 1).helmDown 2))
  ∧ (∀ (s : State) (d1 : Dev), s.dev.ferry.helmWhy = 1 →
    d1 = ((s.dev.helmPut Fld.TASK_STATE_HELM_DOWN 0).setFerry { s.dev.ferry with helmWhy := 0, helmTask := 0 }).endSessions (fun _ => true) →
    exec (.helmRestartDone true) s = s.done ((d1.helmEnds 0).helmEnds 1))
  ∧ (∀ (s : State) (binding eid : Nat), binding < 2 → 0 < eid → eid < 255 →
    exec (.mctpControlMessage binding 1 eid) s = s.done
      ((s.dev.setFerry { s.dev.ferry with eid := tput (fun _ => 0) s.dev.ferry.eid binding eid }).mctpAnswer binding 0 (bytes8 [1, 0, 0, eid, 0])))
  ∧ (∀ (s : State) (binding ch : Nat) (n : Int), binding < 2 → ch ≤ 0x1D → s.dev.gaugeN ch = some n → s.dev.on (Fld.GAU_CFG_EN ch) = true →
    s.dev.gaugeAge ch ≤ 1000000000 →
    exec (.pldmSensorRead binding (0x100 + ch) false) s
      = s.done (s.dev.mctpAnswer binding 2 (bytes8 [0, 0] ++ leBytes 4 (toField 32 n))))
  ∧ (∀ (s : State) (off total : Nat) (data : List Byte), 0 < off → total ≤ 0x2000000 → data.length ≤ 1024 → s.dev.ferry.stageOwner = 3 →
    s.dev.ferry.stageBytes.length = off → off + data.length < total →
    exec (.pldmRequestFirmwareData off total data) s = s.done
      ((s.dev.setFerry { s.dev.ferry with stageBytes := s.dev.ferry.stageBytes ++ data, stageTide := s.dev.tide }).mctpAnswer 0 3 (bytes8 [0])))
  ∧ (∀ (s : State), s.dev.ferry.stageOwner = 3 → (s.dev.fw s.dev.stageSlot).staged = true → s.dev.on (Fld.TASK_STATE_HELM_DOWN 0) = false →
    exec (.pldmActivateFirmware false) s = s.done ((s.dev.activate 0).leaveRecovery.mctpAnswer 0 3 (bytes8 [0])))
  ∧ (∀ (s : State) (tdi : List Bool), exec (.tapBypass tdi) s = s.done
      ({ s.dev with tap := { s.dev.tap with ir := 0, bypass := (false :: tdi).getLastD false, driving := false } }.emit .tap [0]
        (tapBits (false :: tdi).dropLast)))
  ∧ (∀ (s : State), exec .tapIdcode s
      = s.done ({ s.dev with tap := { s.dev.tap with ir := 1, driving := false } }.emit .tap [1, 0x05020E3D]))
  ∧ (∀ (s : State) (levels preload : List Bool), exec (.samplePreload levels preload) s = s.done
      ({ s.dev with tap := { s.dev.tap with ir := 2, cells := preload, driving := false } }.emit .tap [2] (tapBits levels)))
  ∧ (∀ (s : State) (levels preload : List Bool), s.dev.anyPwren = false → exec (.extest levels preload) s = s.done
      ({ s.dev with tap := { s.dev.tap with ir := 3, cells := preload, driving := true } }.emit .tap [3] (tapBits levels)))

/-- Resets take their effect: hot reset and PF FLR clear every berth and return the functions to Reset (R319, R321, R325, R803); a VF FLR
clears its VF's work (R323); the silence point is noted, and at its completion point a VF leaves FLR (R321, R324); 2 ms without a link is
a slack-water reset (R807), which completes when every teardown has (R807, R808); VFs that disappear are cleared (R253). The model's own
choices in it: log entry 45. -/
def Obligations.ResetCommands : Prop :=
  (∀ (s : State), s.dev.host.perstHigh = true → (s.dev.host.link = 1 ∨ s.dev.host.link = 2 ∨ s.dev.host.link = 3) →
    exec .hotReset s = s.done
      ((((s.dev.flrBegin 0).put Fld.LND_HOST_EVENTS_HOT_RESET 1).put Fld.IDENT_BOOT_LAST_RESET 2).allReset 3 |>.functionsClear |>.hostLinkLost 4))
  ∧ (∀ (s : State), s.dev.inFlr 0 = false → s.dev.slip.slack = false →
    exec .pfFlr s = s.done
      ((((s.dev.flrBegin 0).put Fld.LND_HOST_EVENTS_PF_FLR 1).put Fld.IDENT_BOOT_LAST_RESET 3).allReset 3 |>.functionsClear))
  ∧ (∀ (s : State) (b : Nat) (s1 s2 s3 : Dev), 1 ≤ b → b ≤ 128 → s.dev.funcOn b = true → s.dev.inFlr b = false →
    s1 = ((((s.dev.flrBegin b).berthRingsReset b).stoBerths (fun x => x = b)).revokeAll b).xctEnd (fun o => o = b) 3 →
    s2 = (s1.pansHeld b).foldl (fun d p => d.panKill p) s1 →
    s3 = ((s2.keysZeroize (fun k => k.owner = b) 2 b).xctZeroOwner b).put (Fld.TOLL_ROOT_VALID b) 0 →
    exec (.vfFlr b) s = s.done ((({ s3 with
      toll := { s3.toll with cache := s3.toll.cache.filter (fun c => c.ctx ≠ b) }
      host := { s3.host with ide := s3.host.ide.map (fun e => if e.2.covers b then (e.1, { e.2 with excl := b :: e.2.excl }) else e) } } : Dev).vfClear
        b).countOld b))
  ∧ (∀ (s : State) (f : Nat), exec (.flrSilencePoint f) s = s.done { s.dev with
      host := { s.dev.host with flr := s.dev.host.flr.map (fun e => if e.1 = f then (f, true) else e) } })
  ∧ (∀ (s : State) (f : Nat) (d : Dev), f ≠ 0 → s.dev.host.flr.contains (f, true) = true →
    d = (s.dev.copiesLeave (fun b => b = f)).scrubsEnd (fun b => b = f) →
    exec (.flrCompletionPoint f) s
      = s.done { d.showFlr f 0 with host := { d.host with flr := d.host.flr.filter (fun e => e.1 ≠ f) } })
  ∧ (∀ (s : State), s.dev.host.dropTimer ≠ 0 → s.dev.host.perstHigh = true →
    exec .slackWaterReset s = s.done (s.dev.at (s.dev.host.dropTimer - 1 + 2000000)).slackWater)
  ∧ (∀ (s : State) (s1 s2 : Dev), s.dev.slip.slack = true →
    ((s.dev.copiesLeave (fun _ => true)).scrubsEnd (fun _ => true)).teardownDone = some s1 →
    s2 = { s1 with slip := { s1.slip with slack := false, slackWaits := true } }.logAdd 4 0x0205 0xFF 2 s1.slip.slackCrossings → s2.linkUp = true →
    exec .slackWaterComplete s
      = s.done { s2.put Fld.LND_HOST_LINK_DEVICE_READY 1 with slip := { s2.slip with slackWaits := false } })
  ∧ (∀ (s : State) (enable : Bool) (n : Nat) (d : Dev),
    d = (s.dev.putCfg 0 0x170 0 1 (if enable then 1 else 0)).putCfg 0 0x178 0 16 (min n 128) →
    exec (.vfEnableClear enable n) s = s.done ((berths.filter (fun b => s.dev.funcOn b && !d.funcOn b)).foldl (fun s b => s.vfGone b) d))

/-- The Slipway's commands take their effect: standby power that rises is a cold start, that falls takes the partners and the tiles down
(R789, R916); the HBM is zeroed at station 8 (R789); a Crystallizer group leaves Slack (R797); a boot image that verifies is in effect,
else the other slot's, else the device is in recovery (R790); PERST_N low in operation is a fundamental reset (R319, R805), high lets the
port train (R308). Main power, the backup cell and the thermal trip: main power believed at station 3 starts the tiles (R825, R789);
MAIN_PG low for 50 µs drains an armed vault (R827), and before it is believed lost the vault stays ARMED; CELL_LOW_N is followed (R824,
R836); a thermal trip powers off every partner (R780). The model's own choices in it: log entries 69, 68, 67, 71. -/
def Obligations.SlipwayAndPowerEvents : Prop :=
  (∀ (s : State), s.dev.slip.standby = false →
    exec .standbyPowerRise s = s.done ({ s.dev with slip := { s.dev.slip with mainPg := false, believed := false } } : Dev).coldStart)
  ∧ (∀ (s : State) (d : Dev), d = s.dev.partnersOff.tilesDown →
    exec .standbyPowerFall s = s.done (d.setSlip { d.slip with standby := false, gaps := [], starts := [] }))
  ∧ (∀ (s : State) (index : Nat), s.dev.get Fld.IDENT_BOOT_STATION = 8 → s.dev.slipRuns = true →
    exec (.slipwayStationComplete true index) s = s.done ((s.dev.zeroMem 0 0x4000000000).station 9))
  ∧ (∀ (s : State) (index : Nat), s.dev.get Fld.IDENT_BOOT_STATION = 7 → s.dev.slipRuns = true →
    exec (.slipwayStationComplete false index) s = s.done (s.dev.slipHalt 2 index))
  ∧ (∀ (s : State) (g : Nat) (d : Dev), s.dev.get Fld.IDENT_BOOT_STATION = 10 → s.dev.slipRuns = true → s.dev.slip.cryGroups ≠ 0 →
    g = 4 - s.dev.slip.cryGroups → d = s.dev.at (s.dev.slip.stationStart + g * s.dev.slip.cryGap * 1000000) →
    exec .crystallizerGroupExit s = s.done
      (((List.range 8).foldl (fun s i => s.exitIsland (64 + 8 * g + i)) d).setSlip { d.slip with cryGroups := d.slip.cryGroups - 1 }))
  ∧ (∀ (s : State) (a b : List Byte) (ra rb : Bool) (d : Dev) (i : Nat) (r : Nat → Bool × List Byte), s.dev.get Fld.IDENT_BOOT_STATION = 2 →
    s.dev.slipRuns = true → d = s.dev.trialStart → i = d.bootSlot →
    r = (fun j => if j = 0 then (ra, d.slotBytes 0 a) else (rb, d.slotBytes 1 b)) →
    exec (.slipwayImageVerified ra a rb b) s = s.done
      (if d.imageCause (r i).1 (r i).2 = 0 then d.imageTake (r i).2
      else if d.imageCause (r (1 - i)).1 (r (1 - i)).2 = 0 then
        (((d.helmPut Fld.TASK_HELM_BOOT_SLOT (1 - i)).helmPut Fld.TASK_HELM_TRIAL 0).logAdd 4 0x0203 0xFF i
          (d.imageCause (r i).1 (r i).2)).imageTake (r (1 - i)).2
      else (d.setSlip { d.slip with recovery := true }).logAdd 5 0x0204 0xFF 0 0))
  ∧ (∀ (s : State) (ns : Nat) (d : Dev), 1000 ≤ ns → d = { s.dev with host := { s.dev.host with perstHigh := false } } →
    s.dev.slip.standby = true → s.dev.slip.recovery = false → s.dev.slip.hardOff = false → d.get Fld.IDENT_BOOT_STATION = 11 →
    exec (.perstAssert ns) s = s.done d.fundamental)
  ∧ (∀ (s : State) (d : Dev), s.dev.host.perstHigh = false → d = { s.dev with host := { s.dev.host with perstHigh := true, link := 4 } } →
    d.cfgBits 0 0x44 15 1 = 0 → exec .perstDeassert s = s.done d)
  ∧ (∀ (s : State) (d : Dev), s.dev.slip.standby = true → s.dev.power.thermTrip = false →
    d = s.dev.setSlip { s.dev.slip with mainPg := true, believed := true } → d.slip.hardOff = false → d.vltState ≠ 4 →
    d.get Fld.IDENT_BOOT_STATION = 3 → d.slipRuns = true → d.mainReady = true →
    exec .mainPowerBelieved s = s.done (d.vltSync.station 4))
  ∧ (∀ (s : State) (d : Dev), d = s.dev.setSlip { s.dev.slip with mainPg := false, believed := false, pgSince := s.dev.tide } →
    d.vltState = 2 → s.dev.slip.believed = true → exec (.mainPgFall false) s = s.done (d.put Fld.VLT_STATUS_MAIN_OK 0))
  ∧ (∀ (s : State) (d : Dev), s.dev.slip.mainPg = false → s.dev.slip.standby = true → s.dev.slip.hardOff = false → s.dev.slip.recovery = false →
    d = s.dev.at (s.dev.slip.pgSince + 50000) → d.vltState = 2 → exec .mainPgLowTimer s = s.done d.drainBegin)
  ∧ (∀ (s : State) (pgHigh : Bool), s.dev.slip.standby = true → s.dev.slip.hardOff = false → s.dev.slip.cellLowHigh = true →
    s.dev.slip.believed = true →
    exec (.cellLowFall pgHigh) s = s.done (s.dev.setSlip { s.dev.slip with cellLowHigh := false, mainPg := true }).vltSync)
  ∧ (∀ (s : State), exec .cellLowRise s = s.done (s.dev.setSlip { s.dev.slip with cellLowHigh := true }).vltSync)
  ∧ (∀ (s : State) (index : Nat) (d : Dev), s.dev.power.thermTrip = false → s.dev.slip.standby = true → s.dev.vltState ≠ 3 →
    d = ({ s.dev with power := { s.dev.power with thermTrip := true } }.emit .pin [5, 0]).kill.partnersOff →
    exec (.thermalTrip index) s = s.done ((d.put Fld.PWR_STATUS_TRIPPED 1).logAdd 5 0x0302 0xFF index 0).vltSync)

/-- The Tide Vault's tasks take their effect: SET keeps the configuration and the drives' identities (R845); ARM takes SEQ and the next slot
from the newest sealed slot (R827); DISARM, DISCARD and VAULT_STATUS do as Table 24.5 states; RESTORE begins to read the newest sealed
slot (R839). The Tide Vault's drain and restore go on: a completed write lets its drive position issue the next unit (R830); the flush of
every drive lets the headers be written (R832); the seal sets PENDING and, with main power believed again, the vault resumes (R833, R835);
a unit read back is decrypted and taken (R840, R842). The model's own choices in it: log entries 64, 65, 66. -/
def Obligations.VaultCommands : Prop :=
  (∀ (s : State) (m set slot limit lba : Nat) (d : Dev), s.dev.accepted m 0x50 = true → s.dev.argF m 0 0 3 = 0 → set = s.dev.argF m 1 0 8 →
    slot = s.dev.argF m 1 16 16 → limit = s.dev.argF m 1 32 14 → lba = s.dev.argF m 2 0 36 → s.dev.setCause set slot limit lba = 0 →
    d = ((((s.dev.put Fld.VLT_STATUS_DRIVE_SET set).put Fld.VLT_AREA_SLOT_MIB slot).put Fld.VLT_USED_LIMIT_MIB limit).put
      Fld.VLT_AREA_VAULT_LBA lba).put Fld.VLT_STATUS_CFG_OK 1 →
    exec (.vaultSet m) s = s.done (((d.setVlt { d.vlt with ids := (bitsSet 8 set).map (fun k => d.reg (Reg.STO_DRV_ID k)) }).vltSync).taskFlash m 5))
  ∧ (∀ (s : State) (m : Nat) (heads : List (List Byte)) (d : Dev), s.dev.accepted m 0x50 = true → s.dev.argF m 0 0 3 = 1 →
    s.dev.on Fld.VLT_STATUS_PENDING = false → s.dev.vltState < 3 →
    d = (match s.dev.bestSlot heads with
      | some (slot, h) => ((s.dev.put Fld.VLT_STATUS_NEXT_SLOT (1 - slot)).put Fld.VLT_SEQ_SEQ (Machine.wf h 1 0 64)).setVlt
          { s.dev.vlt with nextSeq := Machine.wf h 1 0 64 + 1 }
      | none => ((s.dev.put Fld.VLT_STATUS_NEXT_SLOT 0).put Fld.VLT_SEQ_SEQ 0).setVlt { s.dev.vlt with nextSeq := 1 }) →
    exec (.vaultArm m heads) s = s.done (((d.setVlt { d.vlt with armed := true }).vltSync).taskDone m 0 0 [d.vlt.nextSeq]))
  ∧ (∀ (s : State) (m : Nat), s.dev.accepted m 0x50 = true → s.dev.argF m 0 0 3 = 2 →
    exec (.vaultDisarm m) s = s.done (((s.dev.setVlt { s.dev.vlt with armed := false }).vltSync).taskDone m 0 0 []))
  ∧ (∀ (s : State) (m : Nat), s.dev.accepted m 0x50 = true → s.dev.argF m 0 0 3 = 4 → s.dev.on Fld.VLT_STATUS_PENDING = true →
    exec (.vaultDiscard m) s = s.done
      ((((s.dev.put Fld.VLT_STATUS_PENDING 0).logAdd 3 0x0408 0xFF (s.dev.get Fld.VLT_SEQ_SEQ) 0).vltSync).taskFlash m 6))
  ∧ (∀ (s : State) (m : Nat), s.dev.accepted m 0x51 = true →
    exec (.vaultStatus m) s = s.done (s.dev.taskDone m 0 0 [(s.dev.reg Reg.VLT_STATUS).toNat, (s.dev.reg Reg.VLT_SEQ).toNat,
      (s.dev.reg Reg.VLT_USED).toNat, (s.dev.reg Reg.VLT_LAST).toNat, (s.dev.reg Reg.VLT_AREA).toNat]))
  ∧ (∀ (s : State) (m : Nat) (heads : List (List Byte)) (d : Dev), s.dev.accepted m 0x50 = true → s.dev.argF m 0 0 3 = 3 →
    (∀ b, b < 128 → s.dev.get (Fld.BPLAN_CTRL_STATE (b + 1)) = 0) → s.dev.on Fld.VLT_STATUS_PENDING = true → s.dev.vltState < 3 →
    s.dev.vltDrivesOk = true → d = (s.dev.setProg m 2).put Fld.VLT_STATUS_STATE 5 →
    exec (.vaultRestore m heads) s = s.done (match s.dev.bestSlot heads with
      | none => s.dev.taskDone m 5 7 []
      | some (slot, h) => (d.setVlt { d.vlt with
          rphase := 1, rslot := slot, rhead := h, runit := 8 * Machine.wf h 4 32 32, rgot := [], rtable := [], rext := []
          rkey := s.dev.argF m 1 0 32, roff := s.dev.argF m 2 0 41 }).restoreStep))
  ∧ (∀ (s : State) (k p : Nat), p = s.dev.vltDrives.findIdx (· = k) → s.dev.vlt.phase = 1 → s.dev.vlt.out.any (fun o => o.1 = p) = true →
    exec (.vaultWriteComplete k true) s = s.done (s.dev.setVlt { s.dev.vlt with out := s.dev.vlt.out.filter (fun o => o.1 ≠ p) }).vltIssue)
  ∧ (∀ (s : State) (k : Nat), s.dev.vlt.phase = 2 →
    exec (.vaultFlushComplete k true) s = s.done ((List.range s.dev.vltDrives.length).foldl (fun d p =>
      d.vltCmd (d.vltDrives.getD p 0) (2 ^ 31 + 1) 1 (s.dev.vltSlotLba (s.dev.get Fld.VLT_STATUS_NEXT_SLOT)) 1 1 (d.vltHeader p))
      (s.dev.setVlt { s.dev.vlt with phase := 3 })))
  ∧ (∀ (s : State) (k : Nat) (d1 d2 d3 : Dev), s.dev.vlt.phase = 3 →
    d1 = ((s.dev.vltLast 1 0).put Fld.VLT_SEQ_SEQ s.dev.vlt.seq).put Fld.VLT_STATUS_PENDING 1 →
    d2 = (d1.put Fld.VLT_STATUS_STATE 4).setVlt { d1.vlt with phase := 4 } →
    d3 = (d2.storeKeep 5).logAdd 2 0x0403 0xFF s.dev.vlt.seq ((s.dev.tide - s.dev.vlt.start) / 1000) → d3.slip.mainPg = true →
    d3.slip.believed = true →
    exec (.vaultSealComplete k true) s = s.done d3.vltResume)
  ∧ (∀ (s : State) (k : Nat) (data : List Byte), s.dev.vlt.rphase ≠ 0 → s.dev.vltState = 5 →
    s.dev.vltDrives.getD (s.dev.vlt.runit % max 1 s.dev.vltDrives.length) 8 = k →
    exec (.restoreReadComplete k true data) s = s.done (s.dev.setVlt { s.dev.vlt with
      runit := s.dev.vlt.runit + 1
      rgot := s.dev.vlt.rgot ++ s.dev.vltCrypt (Machine.wf s.dev.vlt.rhead 1 0 64) (s.dev.vlt.runit * vltUnitSize) false data }).restoreStep)

/-- The host's requests are served with the link up and nothing in their way (R293 to R299, R305): configuration reads and writes, BAR0 and
BAR2 accesses, and completions; requests the port does not support are answered Unsupported Request or reported (R298), errors of the link
are recorded (R315, Table 8.6), a timeout abandons its request (R315), and a completion of no request is reported. MSI-X, power states,
IDE and the host link: an unmasked vector releases what it holds (R300), MSI-X Enable and Bus Master Enable release every vector (R301);
D3hot holds what D0 releases (R307); L1 is entered when the host grants it (R310); LTR goes inactive (R311); an IDE failure makes its
stream Insecure (R314); the link goes down, trains, and returns from a short drop (R319, R320, R328). The model's own choices in it: log
entries 23, 24, 30, 31. -/
def Obligations.HostPortCommands : Prop :=
  (∀ (s : State) (f dw be tag o : Nat) (v : BitVec 32) (sec : Bool), o = dw / 4 * 4 % 4096 → s.dev.linkUp = true → s.dev.ideWrong f sec = false →
    s.dev.cfgRetry f = false → s.dev.funcOn f = true →
    exec (.hostConfigRequest f dw false be v tag sec) s = s.done (s.dev.hostCpl f tag 0 false (leBytes 4 (s.dev.cfgValue f o).toNat))
      ∧ exec (.hostConfigRequest f dw true be v tag sec) s = s.done ((s.dev.cfgWrite f o be v).hostCpl f tag 0 false []))
  ∧ (∀ (s : State) (f off size tag : Nat) (v : Word) (sec : Bool) (out : List Nat), off + size ≤ bar0Size f → barAligned off size = true →
    s.dev.memGate f true size tag sec = none → s.dev.bar0Served f off = true →
    exec (.hostBar0Access f off true size v tag false sec out) s = s.done (s.dev.barWrite f off v size out))
  ∧ (∀ (s : State) (f off size tag : Nat) (v : Word) (sec : Bool) (out : List Nat), off + size ≤ bar0Size f → barAligned off size = true →
    s.dev.memGate f false size tag sec = none → s.dev.bar0Served f off = true →
    exec (.hostBar0Access f off false size v tag false sec out) s
      = s.done ((s.dev.barRead f off size).2.hostCpl f tag 0 false (s.dev.barRead f off size).1))
  ∧ (∀ (s : State) (f off len tag : Nat) (sec ep : Bool) (data : List Byte) (d : Dev), off + data.length ≤ bar2Size f →
    s.dev.memGate f true data.length tag sec = none → d = (if ep then s.dev.poisonRx f else s.dev) → d.stopped = false →
    exec (.hostBar2Request f off true len tag ep sec data) s = s.done (Dev.bar2Write f ep (piecesOf off data.length) data d))
  ∧ (∀ (s : State) (f off len tag : Nat) (sec ep : Bool) (data : List Byte), off + len ≤ bar2Size f →
    s.dev.memGate f false len tag sec = none → s.dev.stopped = false →
    exec (.hostBar2Request f off false len tag ep sec data) s = s.done (Dev.bar2Read f tag (piecesOf off len) s.dev))
  ∧ (∀ (s : State) (kind f tag : Nat) (sec : Bool), s.dev.linkUp = true → kind < 3 →
    exec (.hostUnsupportedRequest kind f tag sec) s = s.done (s.dev.hostUr f tag true))
  ∧ (∀ (s : State) (f : Nat), (s.dev.host.link = 1 ∨ s.dev.host.link = 2 ∨ s.dev.host.link = 3) →
    exec (.hostMalformedTlp 0 f) s = s.done (s.dev.aerUncor 0 18) ∧ exec (.hostMalformedTlp 5 f) s = s.done (s.dev.aerCor 0 0))
  ∧ (∀ (s : State) (tag status : Nat) (sec : Bool) (data : List Byte) (o : Outst), s.dev.linkUp = true → s.dev.hostOutst tag = some o →
    s.dev.ideWrong o.func sec = false →
    exec (.hostCompletionReceived tag status false sec data) s = s.done (s.dev.completed o status false (data.take o.len)))
  ∧ (∀ (s : State) (tag : Nat) (o : Outst), s.dev.hostOutst tag = some o →
    exec (.hostCplTimeout tag) s = s.done (((s.dev.sat Fld.LND_HOST_COUNTS_CPL_TIMEOUT).aerAdvisory o.func 14).abandoned o .timeout))
  ∧ (∀ (s : State) (tag : Nat), s.dev.linkUp = true → s.dev.hostOutst tag = none →
    exec (.unexpectedCompletion tag) s = s.done ((s.dev.put Fld.LND_HOST_EVENTS_UNEXPECTED_CPL 1).aerAdvisory 0 16))
  ∧ (∀ (s : State) (v : Nat), s.dev.funcOn 0 = true → v < vectorsOf 0 →
    exec (.msixUnmask 0 v) s = s.done ((s.dev.put (Fld.MSIX_PF_DATA_MASK v) 0).msixRelease 0 v))
  ∧ (∀ (s : State) (f : Nat), s.dev.funcOn f = true →
    exec (.msixEnableSet f) s = s.done ((s.dev.putCfg f 0x50 31 1 1).msixReleaseAll f))
  ∧ (∀ (s : State) (f : Nat), s.dev.funcOn f = true →
    exec (.busMasterEnableChange f true) s = s.done ((s.dev.putCfg f 4 2 1 1).msixReleaseAll f)
      ∧ exec (.busMasterEnableChange f false) s = s.done (s.dev.putCfg f 4 2 1 0))
  ∧ (∀ (s : State), exec .d3hotEntry s = s.done (s.dev.putCfg 0 0x44 0 2 3))
  ∧ (∀ (s : State) (d : Dev), s.dev.d3hot = true → d = s.dev.putCfg 0 0x44 0 2 0 →
    exec .d0Return s = s.done (s.dev.host.held.foldl Dev.hostSend { d with host := { d.host with held := [] } }))
  ∧ (∀ (s : State), s.dev.host.link = 1 → s.dev.cfgBits 0 0x70 1 1 = 1 → s.dev.on Fld.LND_HOST_ASPM_L1_IDLE_US = true → s.dev.hostIdle = true →
    exec (.l1IdleTimer true) s = s.done { s.dev.put Fld.LND_HOST_LINK_IN_L1 1 with host := { s.dev.host with link := 2 } })
  ∧ (∀ (s : State), s.dev.ltrOn = true → s.dev.host.ltrActive = true → s.dev.hostIdle = true → s.dev.hostRingBusy = false → s.dev.d3hot = false →
    (s.dev.host.link = 1 ∨ s.dev.host.link = 2) →
    exec .ltrIdleTimer s = s.done (({ s.dev.put Fld.LND_HOST_LINK_IN_L1 0 with host := { s.dev.host with link := 1 } } : Dev).sendLtr false))
  ∧ (∀ (s : State) (i : Nat) (d : Dev), i < 8 → (s.dev.ideStream i).state = 1 →
    d = (((s.dev.setIde i { s.dev.ideStream i with state := 2 }).put Fld.LND_HOST_EVENTS_IDE_INSECURE 1).sat Fld.LND_HOST_COUNTS_IDE_FAIL).aerUncor
      0 28 →
    exec (.ideCheckFail i) s = s.done ((d.outst.filter (fun o => o.link = 0 && (s.dev.ideStream i).covers o.func)).foldl
      (fun d o => d.abandoned o .insecure) d))
  ∧ (∀ (s : State) (d : Dev), (s.dev.host.link = 1 ∨ s.dev.host.link = 2 ∨ s.dev.host.link = 3) → d = s.dev.hostLinkLost 4 →
    d.host.perstHigh = true → d.get Fld.IDENT_BOOT_STATION = 11 → d.slip.slack = false →
    exec .hostLinkDown s = s.done { d with host := { d.host with dropTimer := d.tide + 1 } })
  ∧ (∀ (s : State) (speed width : Nat) (flit : Bool) (d : Dev), s.dev.mayTrain = true → s.dev.linkUp = false → s.dev.host.dropTimer = 0 →
    1 ≤ speed → speed ≤ 6 → [1, 4, 8, 16].contains width = true → d = (s.dev.hostTrained speed width flit).hostFlush → d.slip.slackWaits = false →
    d.host.cfgReady = true → d.slip.slack = false → d.inFlr 0 = false →
    exec (.hostLinkUp speed width flit) s = s.done (d.emit .hostMsg [5]))
  ∧ (∀ (s : State) (n speed width : Nat) (flit : Bool) (d : Dev), s.dev.host.dropTimer ≠ 0 → s.dev.host.perstHigh = true →
    s.dev.tide ≤ s.dev.host.dropTimer - 1 + 2000000 → 1 ≤ speed → speed ≤ 6 → [1, 4, 8, 16].contains width = true →
    d = (s.dev.hostTrained speed width flit).put Fld.LND_HOST_EVENTS_SHORT_DROP 1 →
    exec (.shortDropReturn n speed width flit) s = s.done ((d.host.unacked.reverse ++ d.resendList n [] d.sent).reverse.foldl Dev.hostSend
      { d with host := { d.host with unacked := [] } }))

/-- Bringing up a port (R340, R341, R358, R360, R363, R365): the link trains, or times out with or without a receiver; a device without memory
BARs too large becomes ready; one that answers no configuration request in 1 s is not; a secondary bus reset and a release from
containment retrain the port; PORT_EN takes it down; a receiver is noted. Traffic and errors on a port (R343, R345 to R356, R359, R271): a
configuration request leaves and completes; an accelerator's write of device memory lands; a completion ends its request, a timeout
abandons it; a fatal error, a surprise down, a credit stall and a lost power-good contain the port; a drive reads the buffer of its
command; a proving read completes. The model's own choices in it: log entries 86, 87, 82. -/
def Obligations.PortCommands : Prop :=
  (∀ (s : State) (p speed width : Nat) (d : Dev), p < 12 → (s.dev.get (pState p) = 1 ∨ s.dev.get (pState p) = 5) →
    d = s.dev.at (s.dev.port p).trainAt →
    exec (.portLinkUp p speed width) s = s.done
      ((((((d.put (pLinkUp p) 1).put (pSpeed p) speed).put (pWidth p) width).put (pState p) 2).put (pPresent p) 1).setPort p
        { d.port p with upAt := d.tide }))
  ∧ (∀ (s : State) (p : Nat) (detected : Bool), p < 12 → (s.dev.get (pState p) = 1 ∨ s.dev.get (pState p) = 5) →
    exec (.portTrainTimeout p detected) s = s.done
      (((s.dev.at ((s.dev.port p).trainAt + 100000000)).put (pState p) (if detected then 6 else 0)).put (pPresent p) (if detected then 1 else 0)))
  ∧ (∀ (s : State) (k mps : Nat) (d d1 : Dev), k < 8 → s.dev.get (pState (4 + k)) = 2 → d = s.dev.at ((s.dev.port (4 + k)).upAt + 100000000) →
    d1 = d.setPort (4 + k) { d.port (4 + k) with mps := max 128 (min 512 mps), owned := [] } →
    exec (.portEnumerate (4 + k) 0x010802 1 [0, 0, 14, 0] false true mps []) s = s.done
      ((((d1.put (pFuncs (4 + k)) 1).put (pState (4 + k)) 3).setPresent (4 + k) 1).drvInit k))
  ∧ (∀ (s : State) (p : Nat), p < 12 → s.dev.get (pState p) = 2 →
    exec (.enumRrsTimeout p) s = s.done
      (((s.dev.at ((s.dev.port p).upAt + 1000000000)).put (pState p) 6).put (pPresent p) 1))
  ∧ (∀ (s : State) (p : Nat) (d : Dev), p < 12 → s.dev.portPowered p = true → s.dev.on (pEn p) = true → s.dev.get (pState p) ≠ 5 →
    d = (((s.dev.put (pState p) 5).setPresent p 0).portWorkEnds p).portLinkDown p →
    exec (.portSbr p) s = s.done
      (((d.put (pDpcCause p) 0).setPort p { d.port p with trainAt := d.tide + 2001000 }).emit .portLink [p, 0]))
  ∧ (∀ (s : State) (p : Nat), p < 12 → s.dev.get (pState p) = 4 → s.dev.portPowered p = true → s.dev.on (pEn p) = true →
    exec (.dpcRelease p) s = s.done
      (((((s.dev.put (pState p) 1).put (pDpcCause p) 0).portLinkDown p).setPort p { s.dev.port p with trainAt := s.dev.tide }).emit .portLink [p, 2]))
  ∧ (∀ (s : State) (p : Nat) (en : Bool), p < 12 →
    exec (.portEnWrite p en) s = s.done (s.dev.portCtrlWrite p (setBits (s.dev.reg (portCtrl p)) 0 1 (if en then 1 else 0)) 8 0))
  ∧ (∀ (s : State) (p : Nat) (present : Bool), p < 12 → (s.dev.get (pState p) = 4 ∨ s.dev.get (pState p) = 0) →
    exec (.portReceiverDetect p present) s = s.done (s.dev.put (pPresent p) (if present then 1 else 0)))
  ∧ (∀ (s : State) (n f dw be : Nat) (v : Word) (w d : Dev), n < 4 → w = s.dev.writeReg (Reg.LND_AP_CFG_ADDR n) (setBits v 63 1 1) 8 0 →
    f = w.get (Fld.LND_AP_CFG_ADDR_FUNC n) → dw = w.get (Fld.LND_AP_CFG_ADDR_DWORD n) → be = w.get (Fld.LND_AP_CFG_ADDR_BE n) →
    w.on (Fld.LND_AP_CFG_ADDR_WRITE n) = false → w.get (pState n) = 3 → w.on (Fld.LND_AP_CFG_DATA_BUSY n) = false →
    d = (w.put (Fld.LND_AP_CFG_DATA_BUSY n) 1).emit .cfgReq [n, f, dw, 0, be, 0, w.nextTag] →
    exec (.apCfgGo n v) s = s.done { d with outst := d.outst ++ [Outst.mk w.nextTag (1 + n) f (4 * dw) 4 (.cfg n)], nextTag := w.nextTag + 1 })
  ∧ (∀ (s : State) (n status : Nat) (data : List Byte) (o : Outst),
    s.dev.outst.find? (fun o => o.link = 1 + n && o.purpose = Purpose.cfg n) = some o → status < 2 →
    exec (.apCfgComplete n status data) s = s.done (s.dev.completed o status false data))
  ∧ (∀ (s : State) (n rid addr len tag a : Nat) (data : List Byte) (leaf : Word) (d : Dev), n < 4 → s.dev.on (pLinkUp n) = true →
    s.dev.apInsecure n = false → rid / 256 = 1 + n → rid / 8 % 32 = 0 → s.dev.get (pFuncs n) / 2 ^ (rid % 8) % 2 ≠ 0 →
    0 < data.length → addr % 4096 + data.length ≤ 4096 →
    s.dev.xlate (129 + n) addr 1 data.length { accel := 15 } = (.ok a leaf, d) → d.destOf (129 + n) a leaf = .mem a →
    exec (.accelUpstreamRequest n rid 0 addr len tag 0 data) s = s.done (d.writeMem a data))
  ∧ (∀ (s : State) (p tag status : Nat) (data : List Byte) (o : Outst), p < 12 → s.dev.on (pLinkUp p) = true →
    s.dev.outst.find? (fun o => o.link = portLink p && o.tag = tag) = some o →
    exec (.downstreamCompletion p tag status false data) s = s.done (s.dev.completed o status false data))
  ∧ (∀ (s : State) (p tag : Nat) (o : Outst), p < 12 → s.dev.outst.find? (fun o => o.link = portLink p && o.tag = tag) = some o →
    exec (.downstreamCplTimeout p tag) s = s.done (((s.dev.put (pErr p 4) 1).sat (pCount p 0)).abandoned o .timeout))
  ∧ (∀ (s : State) (p src : Nat), p < 12 → s.dev.on (pLinkUp p) = true →
    exec (.partnerErrorMessage p 2 src) s = s.done
      (((((s.dev.put (pErr p 2) 1).put ⟨portErr p, 16, 16⟩ src).classified 0x0613 (portSource p) 0xFF src)).contain p 1)
      ∧ exec (.partnerErrorMessage p 0 src) s = s.done ((s.dev.put (pErr p 0) 1).put ⟨portErr p, 16, 16⟩ src))
  ∧ (∀ (s : State) (p : Nat), p < 12 → s.dev.on (pLinkUp p) = true →
    exec (.surpriseDown p) s = s.done (s.dev.contain p 3) ∧ exec (.creditStallTimeout p) s = s.done (s.dev.contain p 5))
  ∧ (∀ (s : State) (n : Nat) (d : Dev), n < 4 → (s.dev.port n).pg = true → (s.dev.port n).pwren = true →
    d = s.dev.setPort n { s.dev.port n with pg := false } → exec (.apPgFall n) s = s.done (d.contain n 6))
  ∧ (∀ (s : State) (k cid off len tag : Nat) (c : StoCmd), k < 8 → s.dev.stoCmd k cid = some c → c.op = 1 → c.issued = true → c.dead = false →
    off + len ≤ c.n * 4096 →
    exec (.driveUpstreamRequest k cid off len tag false false []) s = s.done (s.dev.emit .dpCpl [k, tag, 0] ((c.pay.drop off).take len)))
  ∧ (∀ (s : State) (tag status : Nat) (ep : Bool) (o : Outst) (t : TKey), s.dev.outst.find? (fun o => o.tag = tag) = some o → o.purpose = .prove t →
    exec (.provingReadComplete tag status ep) s = s.done (s.dev.completed o status ep []))

/-- Key slots (R857 to R860, R863, R864): an EMPTY slot takes a good key and its KEY_ID shows; a zeroized slot is EMPTY (R859), and a
read-back that finds a bit reports 0x0501 (R881); a query shows a slot without its key; SESSION_ONLY refuses the register path (R863); the
message path does the same inside a secured session of the PCIe VDM binding and answers REFUSED elsewhere. The model's own choices in it:
log entries 61, 50. -/
def Obligations.KeySlots : Prop :=
  (∀ (s : State) (v : Word) (h owner kind : Nat) (key : List Byte) (w d : Dev), w = s.dev.writeReg Reg.TLH_SLOT_CMD (setBits (setBits v 25 2 1) 63 1 1) 8 0 →
    w.get Fld.TLH_SLOT_CMD_OP = 1 → h = w.get Fld.TLH_SLOT_CMD_HANDLE → owner = w.get Fld.TLH_SLOT_CMD_OWNER →
    kind = w.get Fld.TLH_SLOT_CMD_KIND → key = (if kind = 1 then w.keyData.take 64 else w.keyData.take 32) →
    w.on Fld.TLH_STATUS_ZERO_FAIL = false → w.on Fld.TLH_CTRL_SESSION_ONLY = false → h < 16384 → (w.keySlot h).key = [] →
    loadCause owner kind key = 0 →
    d = ((w.setKeySlot h ⟨owner, kind, key, w.keyId key⟩).keysChanged).logAdd 1 0x0506 0xFF (h + owner * 2 ^ 24) (w.keyId key) →
    exec (.tlhSlotLoad v) s
      = s.done (((d.put Fld.TLH_SLOT_KEYID_KEY_ID (d.keySlot h).id).put Fld.TLH_SLOT_STATUS_RESULT 0).keyDataClear))
  ∧ (∀ (s : State) (v : Word) (w : Dev), w = s.dev.writeReg Reg.TLH_SLOT_CMD (setBits (setBits v 25 2 1) 63 1 1) 8 0 →
    w.get Fld.TLH_SLOT_CMD_OP = 1 → w.on Fld.TLH_STATUS_ZERO_FAIL = false → w.on Fld.TLH_CTRL_SESSION_ONLY = true →
    exec (.tlhSlotLoad v) s = s.done ((w.put Fld.TLH_SLOT_STATUS_RESULT 5).keyDataClear))
  ∧ (∀ (s : State) (v : Word) (w d : Dev) (h : Nat), w = s.dev.writeReg Reg.TLH_SLOT_CMD (setBits (setBits v 25 2 2) 63 1 1) 8 0 →
    w.get Fld.TLH_SLOT_CMD_OP = 2 → h = w.get Fld.TLH_SLOT_CMD_HANDLE → (w.keySlot h).key ≠ [] → d = (w.setKeySlot h TlhKey.init).keysChanged →
    exec (.tlhSlotZeroize v true) s = s.done ((d.put Fld.TLH_SLOT_STATUS_RESULT 0).keyDataClear)
      ∧ exec (.tlhSlotZeroize v false) s = s.done (((d.zeroFail h).put Fld.TLH_SLOT_STATUS_RESULT 6).keyDataClear))
  ∧ (∀ (s : State) (v : Word) (w : Dev) (k : TlhKey), w = s.dev.writeReg Reg.TLH_SLOT_CMD (setBits (setBits v 25 2 3) 63 1 1) 8 0 →
    w.get Fld.TLH_SLOT_CMD_OP = 3 → k = w.keySlot (w.get Fld.TLH_SLOT_CMD_HANDLE) → k.key ≠ [] →
    exec (.tlhSlotQuery v) s = s.done ((((((w.put Fld.TLH_SLOT_STATUS_Q_LOADED 1).put Fld.TLH_SLOT_STATUS_Q_KIND k.kind).put
      Fld.TLH_SLOT_STATUS_Q_OWNER k.owner).put Fld.TLH_SLOT_KEYID_KEY_ID k.id).put Fld.TLH_SLOT_STATUS_RESULT 0).keyDataClear))
  ∧ (∀ (s : State) (d : Dev), d = s.dev.writeReg Reg.TLH_CTRL 1 8 0 →
    exec .sessionOnlySet s = s.done (d.put Fld.TLH_STATUS_SESSION_ONLY (d.get Fld.TLH_CTRL_SESSION_ONLY)))
  ∧ (∀ (s : State) (sess handle owner kind : Nat) (key : List Byte) (d : Dev), s.dev.secured 0 sess = true →
    s.dev.keyLoad false handle owner (kind % 2) key = (0, d) →
    exec (.keyMsgLoad 0 sess handle owner kind key) s = s.done (d.keyAnswer 0 sess 1 0 [] (d.keySlot handle).id))
  ∧ (∀ (s : State) (sess handle : Nat), s.dev.secured 0 sess = true → handle < 16384 → (s.dev.keySlot handle).key ≠ [] →
    exec (.keyMsgZeroize 0 sess handle true) s
      = s.done (((s.dev.setKeySlot handle TlhKey.init).keysChanged).keyAnswer 0 sess 2 0 [] 0))
  ∧ (∀ (s : State) (sess handle : Nat) (k : TlhKey), s.dev.secured 0 sess = true → handle < 16384 → k = s.dev.keySlot handle → k.key ≠ [] →
    exec (.keyMsgQuery 0 sess handle) s = s.done (s.dev.keyAnswer 0 sess 3 0 [1, BitVec.ofNat 8 k.owner, BitVec.ofNat 8 k.kind] k.id))
  ∧ (∀ (s : State) (binding sess handle : Nat) (clean : Bool), binding ≠ 0 →
    exec (.keyMsgZeroize binding sess handle clean) s = s.done (s.dev.keyAnswer binding sess 2 5 [] 0)
      ∧ exec (.keyMsgQuery binding sess handle) s = s.done (s.dev.keyAnswer binding sess 3 5 [] 0))

/-- SPDM (R865 to R868, Table 25.1): negotiation, the certificate of slot 0 and its digest, the challenge, the measurements, sessions and
their end; the fields of a message that DSP0274 lays out are the model's reading (PRESUMED). IDE keys (R869 to R871) and the random
generator's test (R853): a stream of the host port takes the keys of a set and turns Secure with a whole set; a stopped set's keys are
gone; an accelerator stream is set up, times out, or fails its integrity check. The model's own choices in it: log entries 62, 63, 12. -/
def Obligations.SpdmAndIde : Prop :=
  (∀ (s : State) (b : Nat), exec (.getVersion b) s = s.done ((s.dev.setConn b 1).spdm b 0 0x04 0 0 [0, 2, 0, 0x11, 0, 0x12]))
  ∧ (∀ (s : State) (b : Nat), s.dev.conn b ≠ 0 →
    exec (.getCapabilities b) s = s.done ((s.dev.setConn b 2).spdm b 0 0x61 0 0 [0, 17, 0, 0, 0xF6, 0x62, 4, 0]))
  ∧ (∀ (s : State) (b dhe aead : Nat), 2 ≤ s.dev.conn b →
    exec (.negotiateAlgorithms b 0x80 2 dhe aead) s = s.done ((s.dev.setConn b 3).spdm b 0 0x63 0 0
      (leBytes 4 4 ++ leBytes 4 0x80 ++ leBytes 4 2 ++ leBytes 2 (dhe &&& 0x10) ++ leBytes 2 (aead &&& 2))))
  ∧ (∀ (s : State) (b sess : Nat), s.dev.conn b = 3 → (sess = 0 ∨ s.dev.secured b sess = true) →
    exec (.getDigests b sess) s = s.done (s.dev.spdm b sess 0x01 0 1 (Config.sha384 s.dev.certChain)))
  ∧ (∀ (s : State) (b sess off len : Nat) (c part : List Byte), s.dev.conn b = 3 → (sess = 0 ∨ s.dev.secured b sess = true) →
    c = s.dev.certChain → part = (c.drop off).take len →
    exec (.getCertificate b sess 0 off len) s = s.done (if c.length ≤ off then s.dev.spdmErr b sess 1
      else s.dev.spdm b sess 0x02 0 0 (leBytes 2 part.length ++ leBytes 2 (c.length - off - part.length) ++ part)))
  ∧ (∀ (s : State) (b : Nat) (nonce r body : List Byte) (d : Dev), s.dev.conn b = 3 → s.dev.on Fld.TLH_STATUS_DRBG_FAIL = false →
    d = s.dev.tick → r = Config.record 3 s.dev.free →
    body = Config.sha384 d.certChain ++ r ++ Config.sha384 ((List.range 6).flatMap (fun i => d.measureBlock (i + 1))) →
    exec (.challenge b 0 nonce) s = s.done (d.spdm b 0 0x03 0 1 (body ++ Config.ecdsaSign (nonce ++ body))))
  ∧ (∀ (s : State) (b sess op : Nat) (nonce body : List Byte), s.dev.conn b = 3 → (sess = 0 ∨ s.dev.secured b sess = true) →
    1 ≤ op → op ≤ 6 → body = s.dev.measureBlock op →
    exec (.getMeasurements b sess op false nonce) s = s.done (s.dev.spdm b sess 0x60 0 0 ([1] ++ leBytes 3 body.length ++ body)))
  ∧ (∀ (s : State) (b id : Nat) (r : List Byte) (d d1 : Dev), s.dev.conn b = 3 → s.dev.tlhs.sess.length < 4 →
    s.dev.on Fld.TLH_STATUS_DRBG_FAIL = false → d = s.dev.tick → r = Config.record 3 s.dev.free → id = d.tlhs.nextSess % 0xFFFF + 1 →
    d1 = { d with tlhs := { d.tlhs with nextSess := d.tlhs.nextSess + 1 } } →
    exec (.keyExchange b) s = s.done ((d1.setSess (d.tlhs.sess ++ [SpdmSess.mk id b false 0])).spdm b id 0x64 0 0 (r ++ Config.ecdsaSign r)))
  ∧ (∀ (s : State) (b : Nat), s.dev.conn b = 3 → 4 ≤ s.dev.tlhs.sess.length → exec (.keyExchange b) s = s.done (s.dev.spdmErr b 0 3))
  ∧ (∀ (s : State) (b sess : Nat), s.dev.tlhs.sess.any (fun e => e.id = sess && e.binding = b && !e.up) = true →
    exec (.finish b sess true) s
      = s.done ((s.dev.setSess (s.dev.tlhs.sess.map (fun e => if e.id = sess then { e with up := true } else e))).spdm b sess 0x65 0 0 []))
  ∧ (∀ (s : State) (b sess op : Nat), s.dev.secured b sess = true →
    exec (.spdmHeartbeat b sess) s = s.done (s.dev.spdm b sess 0x68 0 0 [])
      ∧ exec (.keyUpdate b sess 3) s
        = s.done ((s.dev.setSess s.dev.tlhs.sess).spdm b sess 0x69 3 0 [])
      ∧ exec (.endSession b sess) s = s.done ((s.dev.setSess (s.dev.tlhs.sess.filter (fun e => e.id ≠ sess))).spdm b sess 0x6C 0 0 [])
      ∧ (1 ≤ op → op < 3 → exec (.keyUpdate b sess op) s = s.done ((s.dev.setSess (s.dev.tlhs.sess.map
          (fun e => if e.id = sess then { e with updates := e.updates + 1 } else e))).spdm b sess 0x69 op 0 [])))
  ∧ (∀ (s : State) (sess : Nat), s.dev.secured 0 sess = true →
    exec (.ideKmQuery 0 sess) s
      = s.done (s.dev.emit .mctp [0, 3, sess, 1] ((List.range 8).map (fun i => BitVec.ofNat 8 (s.dev.ideStream i).state))))
  ∧ (∀ (s : State) (sess i set dir sub : Nat) (key : List Byte), s.dev.secured 0 sess = true → i < 8 → set < 2 → dir < 2 → sub < 3 →
    key.length = 32 →
    exec (.keyProg 0 sess i set dir sub key) s = s.done ((s.dev.setIde i { s.dev.ideStream i with
      keys := tput (fun _ => []) (s.dev.ideStream i).keys (set * 6 + dir * 3 + sub) key }).emit .mctp [0, 3, sess, 3, 0] []))
  ∧ (∀ (s : State) (sess i set : Nat), s.dev.secured 0 sess = true → i < 8 → set < 2 → (s.dev.ideStream i).full set = true →
    (s.dev.ideStream i).state ≠ 2 →
    exec (.kSetGo 0 sess i set) s
      = s.done ((s.dev.setIde i { s.dev.ideStream i with state := 1, setInUse := set }).emit .mctp [0, 3, sess, 6, set] []))
  ∧ (∀ (s : State) (sess i set : Nat), s.dev.secured 0 sess = true → i < 8 → set < 2 → (s.dev.ideStream i).setInUse = set →
    (s.dev.ideStream i).state = 1 →
    exec (.kSetStop 0 sess i set) s = s.done ((s.dev.setIde i { s.dev.ideStream i with
      keys := tdrop (fun k => k / 6 = set) (s.dev.ideStream i).keys, state := 0 }).emit .mctp [0, 3, sess, 6, set] []))
  ∧ (∀ (s : State) (n : Nat) (cert : List Byte) (d : Dev), n < 4 → s.dev.get (Fld.TLH_AP_IDE_STATE n) = 1 → s.dev.on Fld.TLH_STATUS_DRBG_FAIL = false →
    d = (List.range 6).foldl (fun d w => d.setReg (Reg.TLH_AP_CERT n w) (BitVec.ofNat 64 (ofLe (((Config.sha384 cert).drop (8 * w)).take 8))))
      s.dev →
    exec (.apIdeSetup n cert) s = s.done (({ d.tick with tlhs := { d.tlhs with
      apKeys := tput (fun _ => []) d.tlhs.apKeys n (Config.record 3 d.free) } } : Dev).put (Fld.TLH_AP_IDE_STATE n) 2))
  ∧ (∀ (s : State) (n step : Nat), n < 4 → s.dev.get (Fld.TLH_AP_IDE_STATE n) = 1 →
    exec (.apIdeSetupTimeout n step) s = s.done ((((s.dev.put (Fld.TLH_AP_IDE_STATE n) 3).put (Fld.TLH_AP_IDE_AP_FAIL n) 1).logAdd 3 0x0505 0xFF
      n step).classified 0x0615 n 0xFF step))
  ∧ (∀ (s : State) (n : Nat), n < 4 → s.dev.get (Fld.TLH_AP_IDE_STATE n) = 2 →
    exec (.apIdeIntegrityFail n) s = s.done (((((s.dev.put (Fld.TLH_AP_IDE_STATE n) 4).put (Fld.TLH_AP_IDE_AP_FAIL n) 1).logAdd 3 0x0505 0xFF
      n 4).classified 0x0615 n 0xFF 4).portWorkEnds n))
  ∧ (∀ (s : State) (test : Nat),
    exec (.drbgHealthFail test) s = s.done ((s.dev.put Fld.TLH_STATUS_DRBG_FAIL 1).logAdd 5 0x0502 0xFF test 0))

/-- PAN tickets of a berth for a Pan it holds (R549, R551, R553, R556, R573): LOAD of a valid image with its bytes gathered loads the Pan, the
Rakers the image names start at ENTRY; STOP of an idle Pan ends OK at once; WATCH of a run that has ended gives its end; DELIVER puts an
entry into a Raker's inbox. What a running Raker does through control space (R547, R554, R555, R564, R574, R576, R672), and what a Pan's
engines and timers do: an exit, the next inbox entry, an answer, a tally, a descriptor for the Barrow and its end (R575), a Crystallizer
command, the end of a grace time (R570), and the end of a scrub (R235, R671). -/
def Obligations.PanCommands : Prop :=
  (∀ (s : State) (b r slot p n : Nat) (t t1 : Ticket) (d : Dev), s.dev.Ready b r slot 5 1 t → n = Machine.wf t.words 4 0 22 →
    p = Machine.wf t.words 4 32 8 → bodyZero t.words [(2, 2 ^ 32 - 1), (3, 2 ^ 41 - 1), (4, 2 ^ 22 - 1 + (2 ^ 40 - 2 ^ 32))] = true →
    64 ≤ n → n ≤ 2097152 → t.right 9 1 ≠ 0 → (s.dev.begin t).holder p = t.key.b → (s.dev.begin t).panState p = 0 →
    (s.dev.begin t).gatherPieces (.loc t.key.b) t.begun (Machine.wf t.words 2 0 32) 6 0
      ((s.dev.begin t).keyedPieces (Machine.wf t.words 2 0 32) (Machine.wf t.words 3 0 41) n) 0 = (.ok (), d, t1) →
    t1.left = 0 → t1.bad = false → t1.words = t.words → d.panState p = 0 → imageOk (t1.bytesAt 0 n) panWindow controlSpace false = true →
    exec (.panLoad b r slot) s = s.done (d.loadImage t1 p (t1.bytesAt 0 n)))
  ∧ (∀ (s : State) (p id : Nat) (k : TKey) (d1 : Dev), (s.dev.pan p).loading = some k → s.dev.get (Fld.PWR_ISL_STATE (p / 4)) < 2 →
    id = s.dev.get (Fld.PAN_STATE_RUN_ID p) →
    d1 = (List.range 4).foldl (fun d i => if bitsOf (s.dev.pan p).rakers i 1 = 1 then d.setRk p i { RakerS.init with
        started := true, live := true, pc := (s.dev.pan p).entry,
        g := ([(2, i), (3, p), (4, id)].filter (fun x => x.2 ≠ 0)).map (fun x => (x.1, BitVec.ofNat 64 x.2)) } else d)
      (s.dev.setPan p { s.dev.pan p with loading := none }) →
    exec (.panLoadStarted p) s = s.done (((d1.put (Fld.PAN_STATE_STATE p) (if s.dev.on (Fld.PAN_STATE_STOP_PEND p) then 3 else 2)).workOff k).finishKey
      k 0 0 id))
  ∧ (∀ (s : State) (b r slot p : Nat) (t : Ticket), s.dev.Ready b r slot 5 2 t → p = Machine.wf t.words 2 0 8 →
    bodyZero t.words [(2, 2 ^ 9 - 1)] = true → t.right 9 1 ≠ 0 → (s.dev.begin t).holder p = t.key.b → (s.dev.begin t).panState p = 0 →
    exec (.panStop b r slot) s = s.done ((s.dev.begin t).finish t.begun 0 0 0))
  ∧ (∀ (s : State) (b r slot p id : Nat) (t : Ticket) (d : Dev), s.dev.Ready b r slot 5 3 t → d = s.dev.begin t → p = Machine.wf t.words 2 0 8 →
    id = Machine.wf t.words 2 32 32 → bodyZero t.words [(2, 2 ^ 8 - 1 + (2 ^ 64 - 2 ^ 32))] = true → d.holder p = t.key.b → id ≠ 0 →
    d.get (Fld.PAN_STATE_RUN_ID p) = id → (d.panState p = 0 ∨ d.panState p = 4) →
    exec (.watch b r slot) s = s.done (d.finish t.begun (d.get (Fld.PAN_END_STATUS p)) (d.get (Fld.PAN_END_DETAIL p))
      (d.reg (Reg.PAN_END_RESULT p)).toNat))
  ∧ (∀ (s : State) (b r slot p i : Nat) (t : Ticket) (d : Dev) (q : RakerS) (e : List Word), s.dev.Ready b r slot 5 0x10 t → d = s.dev.begin t →
    p = Machine.wf t.words 2 0 8 → i = Machine.wf t.words 2 8 2 → Machine.wf t.words 2 10 1 = 0 → zeroOutside (wordAt t.words 2) [(0, 11)] = true →
    d.holder p = t.key.b → (d.panState p = 2 ∨ d.panState p = 3) → q = d.rk p i → q.started = true → q.exited = false → q.inbox.length < 16 →
    e = [packW [(0, 32, pack [(0, 16, t.key.slot), (16, 6, t.key.r), (22, 8, t.key.gen), (31, 1, 0)]), (32, 32, Machine.wf t.words 0 32 32)],
      BitVec.ofNat 64 d.tide] ++ (t.words.drop 3).take 5 ++ [packW [(0, 32, t.seq)]] →
    exec (.deliver b r slot) s = s.done ((d.setRk p i { q with inbox := q.inbox ++ [(t.key, e)] }).finish t.begun 0 0 0))
  ∧ (∀ (s : State) (p i : Nat) (v : Word), (s.dev.rk p i).live = true → s.dev.stopped = false →
    exec (.rakerExit p i v) s = s.done ((s.dev.setRk p i { s.dev.rk p i with live := false, exited := true, exitVal := v }).checkRun p))
  ∧ (∀ (s : State) (p i : Nat), (s.dev.rk p i).live = true → s.dev.stopped = false →
    exec (.inboxNext p i) s = s.done (s.dev.setRk p i { s.dev.rk p i with inbox := (s.dev.rk p i).inbox.tail }))
  ∧ (∀ (s : State) (p i : Nat) (v : Word), (s.dev.rk p i).live = true → s.dev.stopped = false → v.getLsbD 63 = true →
    exec (.answerGo p i v) s
      = s.done (s.dev.answer p (getBits v 0 32) (getBits v 32 8) (getBits v 40 16) (s.dev.rk p i).answer.toNat))
  ∧ (∀ (s : State) (p i t : Nat) (v : Word), (s.dev.rk p i).live = true → s.dev.stopped = false → t < 16 →
    exec (.tallyWrite p i t v) s = s.done (s.dev.setPan p { s.dev.pan p with tally := tput (fun _ => 0) (s.dev.pan p).tally t v }))
  ∧ (∀ (s : State) (p i : Nat) (d : Nat → Word), (s.dev.rk p i).live = true → s.dev.stopped = false →
    d = tget (fun _ => (0 : Word)) (s.dev.rk p i).desc → zeroOutside (d 0) [(0, 48)] = true → zeroOutside (d 1) [(0, 48)] = true →
    zeroOutside (d 2) [(0, 31)] = true → zeroOutside (d 3) [(0, 4)] = true → 1 ≤ getBits (d 2) 0 31 → getBits (d 2) 0 31 ≤ 2 ^ 30 →
    (s.dev.pan p).barrow.length < 32 →
    exec (.barrowGo p i) s = s.done (s.dev.setPan p { s.dev.pan p with
      barrow := (s.dev.pan p).barrow ++ [⟨getBits (d 0) 0 48, getBits (d 1) 0 48, getBits (d 2) 0 31, getBits (d 3) 0 4⟩] }))
  ∧ (∀ (s : State) (p : Nat) (out : List Nat) (q : BarrowD) (qs : List BarrowD) (d d1 : Dev), (s.dev.pan p).barrow = q :: qs → s.dev.stopped = false →
    s.dev.barrowRun p (pieces2 (2 * (q.len / 4096) + 4) q.src q.dst q.len) out = (none, d) → d1 = d.setPan p { d.pan p with barrow := qs } →
    exec (.barrowDescriptorDone p out) s = s.done (d1.countTally p q.tally false))
  ∧ (∀ (s : State) (p : Nat) (out : List Nat) (q : BarrowD) (qs : List BarrowD) (d d1 : Dev) (c k va : Nat), (s.dev.pan p).barrow = q :: qs →
    s.dev.stopped = false →
    s.dev.barrowRun p (pieces2 (2 * (q.len / 4096) + 4) q.src q.dst q.len) out = (some (c, k, va), d) →
    d1 = d.setPan p { d.pan p with barrow := qs } →
    exec (.barrowDescriptorDone p out) s = s.done ((d1.setPan p { d1.pan p with
      barrowErr := packW [(0, 8, c), (8, 4, k), (12, 4, q.tally), (16, 48, va)] }).countTally p q.tally true))
  ∧ (∀ (s : State) (p i : Nat) (ws : List Word) (q : PanS) (d : Dev), (s.dev.rk p i).live = true → s.dev.stopped = false →
    ws = (List.range 8).map (fun k => tget (fun _ => (0 : Word)) (s.dev.rk p i).cmd k) → cryCheck ws = true → s.dev.cryHeld (p / 8) < 64 →
    tget (fun _ => []) s.dev.cryStall (p / 8) = [] → q = s.dev.pan p → q.cry = [] →
    d = { s.dev with cryStall := tput (fun _ => []) s.dev.cryStall (p / 8) [] } →
    exec (.cryGo p i) s = s.done (((d.setPan p { q with cry := [⟨q.cseq, ws, 0, 0, 0, 0, s.dev.tide + 1⟩], cseq := (q.cseq + 1) % 2 ^ 32 }).countCry
      (p / 8)).wakeIsland (64 + p / 8)))
  ∧ (∀ (s : State) (p b : Nat), p < 256 → s.dev.on (Fld.PAN_STATE_STOP_PEND p) = true → b = s.dev.holder p → b ≠ 0 →
    exec (.panStopAtExpiry p) s = s.done (((s.dev.at (s.dev.pan p).stopAt).forceStop p).sat (Fld.CNT_LIMITS_FORCED_STOPS b)))
  ∧ (∀ (s : State) (p : Nat) (d1 d2 d3 : Dev), p < 256 → s.dev.panState p = 4 → (s.dev.pan p).cry = [] →
    d1 = ((s.dev.zeroMem (panSram p) 0x200000).zeroMem (panFeed p) 0x80000).setPan p PanS.init →
    d2 = ((List.range 4).foldl (fun d i => d.setRk p i RakerS.init) d1).put (Fld.PAN_STATE_STATE p) 0 →
    d3 = (s.dev.pan p).stops.foldl (fun d k => (d.workOff k).finishKey k 0 0 0) d2 → d3.holder p = 0 →
    exec (.panScrubDone p) s = s.done d3)

/-- MACs and pause (R33, R371, R372, R374, R391, R396, R402): a MAC gains and loses link; it sends its next frame, with which a FRAME_TX ends
OK; a pool above XOFF_KIB sends PFC again; a pause holds a priority until it ends; the watchdog declares a storm and its end; the MODE of
a port in use is not changed. Frames (R368, R370, R376, R379, R381, R384, R385, R390 to R392): a frame that passes the receive checks is
taken in and its action runs; one that stays 100 µs is dropped; one that reaches placement fills the waiting FRAME_RX or is dropped
NO_RX_BUFFER; a Deckhand program gives a verdict, or fails and its frame is dropped; a FRAME_TX with its bytes gathered is queued and a
FRAME_RX waits. The model's own choices in it: log entries 73, 75, 74. -/
def Obligations.MacsPauseAndFrames : Prop :=
  (∀ (s : State) (m j : Nat), m < 2 → j < 4 → s.dev.on (Fld.WHF_PORT_CTRL_PORT_EN m) = true → s.dev.macThere m j = true →
    s.dev.on (Fld.WHF_MAC_CTRL_MAC_EN m j) = true →
    exec (.macLinkUp m j) s = s.done ((s.dev.put (Fld.WHF_MAC_STATUS_LINK_UP m j) 1).syncEth m))
  ∧ (∀ (s : State) (m j : Nat) (d : Dev), m < 2 → j < 4 → s.dev.macUp m j = true →
    d = ((s.dev.put (Fld.WHF_MAC_STATUS_LINK_UP m j) 0).sat (Fld.WHF_MAC_STATUS_LINK_DOWNS m j)).put (Fld.WHF_MAC_STATUS_PAUSED m j) 0 →
    exec (.macLinkDown m j) s = s.done (((d.setWhf m { d.whf m with
      pausedAt := tdrop (fun k => decide (k / 8 = j)) (d.whf m).pausedAt }).txFlush m j (fun _ => true) 0x0505).syncEth m))
  ∧ (∀ (s : State) (m j len : Nat) (f : TxFrame) (k : TKey) (d d1 : Dev), m < 2 → j < 4 → s.dev.macUp m j = true → s.dev.nextTx m j = some f →
    f.source = .ticket k len → k.b ≠ 0 →
    d = { s.dev with txq := s.dev.txq.erase f }.setWhf m { s.dev.whf m with
      lastSource := tput (fun _ => 0) (s.dev.whf m).lastSource (8 * j + f.prio) 3 } →
    d1 = ((d.emit .frame [4 * m + j] f.data).sat (Fld.WHF_MAC_FRAMES_TX_FRAMES m j)).wrap (Fld.CNT_NET_TX_BYTES k.b) f.data.length →
    exec (.frameTransmit m j) s = s.done ((d1.workOff k).finishKey k 0 0 len))
  ∧ (∀ (s : State) (m p : Nat), m < 2 → p < 8 → s.dev.get (Fld.WHF_RXPOOL_XOFF_KIB m) * 1024 < s.dev.poolHeld m p →
    exec (.pfcXoffRefresh m p) s = s.done (s.dev.sendPfc m p 1))
  ∧ (∀ (s : State) (m j p : Nat), m < 2 → j < 4 → p < 8 → s.dev.macUp m j = true →
    s.dev.on (macBit (Fld.WHF_MAC_CTRL_PFC_EN m j) p) = true →
    exec (.pfcPauseReceived m j p true) s = s.done (s.dev.pauseEnds m j p)
      ∧ (∀ (w : WharfS), s.dev.on (macBit (Fld.WHF_MAC_STATUS_STORM m j) p) = false →
        tget (fun _ => 0) (s.dev.whf m).pausedAt (8 * j + p) = 0 →
        w = { s.dev.whf m with
          lastPause := tput (fun _ => 0) (s.dev.whf m).lastPause (8 * j + p) (s.dev.tide + 1),
          pausedAt := tput (fun _ => 0) (s.dev.whf m).pausedAt (8 * j + p) (s.dev.tide + 1) } →
        exec (.pfcPauseReceived m j p false) s = s.done ((s.dev.setWhf m w).put (macBit (Fld.WHF_MAC_STATUS_PAUSED m j) p) 1)))
  ∧ (∀ (s : State) (m j p : Nat), m < 2 → j < 4 → p < 8 →
    exec (.macPauseQuantaExpiry m j p) s = s.done ((s.dev.put (macBit (Fld.WHF_MAC_STATUS_PAUSED m j) p) 0).setWhf m { s.dev.whf m with
      pausedAt := tput (fun _ => 0) (s.dev.whf m).pausedAt (8 * j + p) 0 }))
  ∧ (∀ (s : State) (m j p t : Nat) (d : Dev), m < 2 → j < 4 → p < 8 → t = tget (fun _ => 0) (s.dev.whf m).pausedAt (8 * j + p) → t ≠ 0 →
    s.dev.on (macBit (Fld.WHF_MAC_STATUS_PAUSED m j) p) = true →
    d = (s.dev.at (t - 1 + s.dev.get (Fld.WHF_MAC_CTRL_PFC_WD_MS m j) * 1000000)).pauseEnds m j p →
    exec (.pfcWatchdogExpiry m j p) s = s.done ((((d.put (macBit (Fld.WHF_MAC_STATUS_STORM m j) p) 1).put
      (macBit (Fld.WHF_MAC_STATUS_STORM_SEEN m j) p) 1).txFlush m j (fun f => decide (f.prio = p)) 0x0506).classified 0x0611 (4 * m + j) 0xFF p))
  ∧ (∀ (s : State) (m j p t : Nat), m < 2 → j < 4 → p < 8 → t = tget (fun _ => 0) (s.dev.whf m).lastPause (8 * j + p) →
    s.dev.on (macBit (Fld.WHF_MAC_STATUS_STORM m j) p) = true →
    exec (.pfcWatchdogEnd m j p) s
      = s.done ((s.dev.at (t - 1 + s.dev.get (Fld.WHF_MAC_CTRL_PFC_WD_MS m j) * 1000000)).put (macBit (Fld.WHF_MAC_STATUS_STORM m j) p) 0))
  ∧ (∀ (s : State) (m : Nat) (v : Word) (d d1 : Dev), m < 2 → d = s.dev.writeReg (Reg.WHF_PORT_CTRL m) v 8 0 →
    s.dev.on (Fld.WHF_PORT_CTRL_PORT_EN m) = true → d.get (Fld.WHF_PORT_CTRL_MODE m) ≠ s.dev.get (Fld.WHF_PORT_CTRL_MODE m) →
    d1 = (d.put (Fld.WHF_PORT_CTRL_MODE m) (s.dev.get (Fld.WHF_PORT_CTRL_MODE m))).put (Fld.WHF_PORT_CTRL_MODE_REFUSED m) 1 →
    d1.on (Fld.WHF_PORT_CTRL_PORT_EN m) = true →
    exec (.whfPortCtrlWrite m v) s = s.done (d1.syncPresent m))
  ∧ (∀ (s : State) (m j p : Nat) (data : List Byte) (a : Word) (f : FrameS) (d : Dev), m < 2 → j < 4 → s.dev.macUp m j = true → 60 ≤ data.length →
    data.length + 4 ≤ s.dev.get (Fld.WHF_MAC_CTRL_MAX_FRAME m j) → d = s.dev.sat (Fld.WHF_MAC_FRAMES_RX_FRAMES m j) →
    p = d.framePrio m j data → d.poolHeld m p + data.length ≤ 2097152 → d.poolHeld m p ≤ d.get (Fld.WHF_RXPOOL_ECN_KIB m) * 1024 →
    d.lookup m (frameKey data (4 * m + j)) = (a, false) →
    f = ⟨d.nextFrame, m, j, p, data, d.tide, d.get (Fld.MNF_CTRL_EPOCH m), frameKey data (4 * m + j), a, 0, []⟩ →
    exec (.frameReceive m j data true true 0) s
      = s.done ((({ d with frames := d.frames ++ [f], nextFrame := d.nextFrame + 1 } : Dev).syncPool m p).runAction f false))
  ∧ (∀ (s : State) (m j : Nat) (data : List Byte) (fcs : Bool) (target : Nat), m < 2 → j < 4 → s.dev.macUp m j = true →
    exec (.frameReceive m j data fcs false target) s = s.done (s.dev.sat (Fld.WHF_MAC_ERRS_FEC_UNCORR m j))
      ∧ (data.length < 60 → exec (.frameReceive m j data fcs true target) s = s.done (s.dev.sat (Fld.WHF_MAC_ERRS_RUNT m j))))
  ∧ (∀ (s : State) (n : Nat) (f : FrameS), s.dev.frames.find? (fun f => f.id = n) = some f →
    exec (.frameResidenceTimeout n) s
      = s.done (((s.dev.at (f.arrived + 100000)).sat (DropKind.fld f.m .residence)).frameGone f))
  ∧ (∀ (s : State) (n b : Nat) (f : FrameS) (t : Ticket), s.dev.frameAt n 0 = some f → b = getBits f.action 8 8 → b ≠ 0 →
    s.dev.ringStale f = false →
    ((s.dev.wrap (Fld.CNT_NET_RX_BYTES b) f.data.length).waitingRx b (getBits f.action 16 6) = some t →
      exec (.framePlace n) s = s.done ((s.dev.wrap (Fld.CNT_NET_RX_BYTES b) f.data.length).fillRx f t))
    ∧ ((s.dev.wrap (Fld.CNT_NET_RX_BYTES b) f.data.length).waitingRx b (getBits f.action 16 6) = none →
      exec (.framePlace n) s = s.done ((s.dev.wrap (Fld.CNT_NET_RX_BYTES b) f.data.length).dropFrame f .noRxBuffer)))
  ∧ (∀ (s : State) (m slot : Nat) (f : FrameS) (img img1 : DhImage) (a : Word), m < 2 → s.dev.deckHead m = some (f, slot, img) →
    deckRun s.dev f (deckFuel img.budget) ⟨img, [], { RakerS.init with pc := img.entry }⟩ = (.verdict a, img1) → getBits a 0 4 < 4 →
    exec (.deckhandRun m) s
      = s.done (((s.dev.tick.sat (Fld.MNF_DH_RUNS m slot)).keepImage f slot img1).runAction { f with action := a } true))
  ∧ (∀ (s : State) (m slot : Nat) (f : FrameS) (img : DhImage), m < 2 → s.dev.deckHead m = some (f, slot, img) →
    exec (.deckhandBudgetExpiry m) s
      = s.done (((s.dev.sat (Fld.MNF_DH_RUNS m slot)).sat (Fld.MNF_DH_FAILS f.m slot)).dropFrame f .dhFail))
  ∧ (∀ (s : State) (b r slot n m j key : Nat) (t t1 : Ticket) (d : Dev), s.dev.Ready b r slot 2 0x10 t →
    bodyZero t.words [(2, 2 ^ 32 - 1), (3, 2 ^ 41 - 1), (4, 2 ^ 17 - 1)] = true → t.right 6 1 ≠ 0 → n = Machine.wf t.words 4 0 14 →
    j = Machine.wf t.words 4 14 2 → m = Machine.wf t.words 4 16 1 → key = Machine.wf t.words 2 0 32 → 60 ≤ n →
    n ≤ (s.dev.begin t).get (Fld.WHF_MAC_CTRL_MAX_FRAME m j) - 4 → (s.dev.begin t).macThere m j = true →
    (s.dev.begin t).gatherPieces (.loc t.key.b) t.begun key 5 m ((s.dev.begin t).keyedPieces key (Machine.wf t.words 3 0 41) n) 0 = (.ok (), d, t1) →
    t1.left = 0 → t1.bad = false → t1.words = t.words → t1.key = t.key → t.key.b = 0 →
    exec (.frameTx b r slot) s = s.done ((((d.rateGate 0 0 n (t1.ceiling 0)).setTicket { t1 with left := 0 }).workOn t.key).offer
      ⟨m, j, ((d.rateGate 0 0 n (t1.ceiling 0)).setTicket { t1 with left := 0 }).framePrio m j (t1.bytesAt 0 n), .ticket t.key n, t1.bytesAt 0 n⟩))
  ∧ (∀ (s : State) (b r slot : Nat) (t : Ticket), s.dev.Ready b r slot 2 0x11 t →
    bodyZero t.words [(2, 2 ^ 32 - 1), (3, 2 ^ 41 - 1), (4, 2 ^ 14 - 1)] = true → t.right 6 1 ≠ 0 → 64 ≤ Machine.wf t.words 4 0 14 →
    Machine.wf t.words 4 0 14 ≤ 9216 →
    exec (.frameRx b r slot) s = s.done (s.dev.begin t))

/-- The Manifest (R386 to R389, R397, R399): an edit with no reserved encoding that finds room is staged and shows STAGED; a commit makes the
staged edits and the miss action take effect at once and advances EPOCH; a commit during a drain, or together with DISCARD, is refused;
DISCARD empties the staged set; the mask is written only while the exact table is empty. -/
def Obligations.ManifestEdits : Prop :=
  (∀ (s : State) (m table index op : Nat) (e : MnfEdit) (d : Dev) (w : WharfS), m < 2 → index < 4096 → op < 2 → table < 2 →
    s.dev.makeEdit m table op index [] = (.ok e, d) → (d.whf m).judge e = 0 →
    w = { d.whf m with pend := (d.whf m).pend.filter (fun o => !e.same o) ++ [e] } →
    exec (if op = 0 then .mnfEditWrite m table index else .mnfEditRemove m table index) s
      = s.done (((d.setWhf m w).put (Fld.MNF_EDIT_STATUS_RESULT m) 0).put (Fld.MNF_EDIT_STATUS_PENDING m) w.pend.length))
  ∧ (∀ (s : State) (m index : Nat) (out : List Nat) (e : MnfEdit) (d : Dev) (w : WharfS), m < 2 → index < 4096 →
    s.dev.makeEdit m 2 0 index out = (.ok e, d) → (d.whf m).judge e = 0 →
    w = { d.whf m with pend := (d.whf m).pend.filter (fun o => !e.same o) ++ [e] } →
    exec (.mnfDhSlotWrite m index out) s
      = s.done (((d.setWhf m w).put (Fld.MNF_EDIT_STATUS_RESULT m) 0).put (Fld.MNF_EDIT_STATUS_PENDING m) w.pend.length))
  ∧ (∀ (s : State) (m : Nat) (d d1 : Dev) (w w2 : WharfS), m < 2 → s.dev.on (Fld.MNF_CTRL_DRAINING m) = false →
    d = s.dev.writeReg (Reg.MNF_CTRL m) (packW [(16, 1, 1), (17, 1, 0)]) 8 0 →
    d.frames.filter (fun f => f.m = m && f.epoch = d.get (Fld.MNF_CTRL_EPOCH m)) = [] →
    w = (d.whf m).pend.foldl WharfS.apply { d.whf m with oldSlots := (d.whf m).slots } → w2 = { w with pend := [], oldSlots := [] } →
    d1 = (((((((d.setWhf m w2).setReg (Reg.MNF_MISS_CUR m) (d.reg (Reg.MNF_MISS m))).wrap (Fld.MNF_CTRL_EPOCH m)).put
      (Fld.MNF_CTRL_OLD_INFLIGHT m) 0).put (Fld.MNF_CTRL_DRAINING m) 0).put (Fld.MNF_EDIT_STATUS_PENDING m) 0).put
      (Fld.MNF_USED_EXACT m) w2.exact.length).put (Fld.MNF_USED_TERNARY m) w2.ternary.length →
    exec (.mnfCommit m false) s = s.done ((List.range 16).foldl (fun d i =>
      d.put (Fld.MNF_DH_LOADED m i) (if (tget (fun _ => none) w2.slots i).isSome then 1 else 0)) d1))
  ∧ (∀ (s : State) (m : Nat), m < 2 →
    exec (.mnfCommit m true) s
      = s.done ((s.dev.writeReg (Reg.MNF_CTRL m) (packW [(16, 1, 1), (17, 1, 1)]) 8 0).put (Fld.MNF_CTRL_CMT_REFUSED m) 1))
  ∧ (∀ (s : State) (m : Nat) (d : Dev), m < 2 → d = s.dev.writeReg (Reg.MNF_CTRL m) (packW [(17, 1, 1)]) 8 0 →
    exec (.mnfDiscard m) s = s.done ((d.setWhf m { d.whf m with pend := [] }).put (Fld.MNF_EDIT_STATUS_PENDING m) 0))
  ∧ (∀ (s : State) (m w : Nat) (v : Word), m < 2 → w < 7 →
    (s.dev.on (Fld.MNF_USED_EXACT m) = false → (s.dev.whf m).pend.any (fun e => e.table = 0) = false →
      exec (.mnfEmMaskWrite m w v) s = s.done (s.dev.writeReg (Reg.MNF_EM_MASK m w) v 8 0))
    ∧ (s.dev.on (Fld.MNF_USED_EXACT m) = true →
      exec (.mnfEmMaskWrite m w v) s = s.done (s.dev.put (Fld.MNF_CTRL_MASK_REFUSED m) 1)))

/-- Management of crossings (R405, R407, R409, R411, R412, R415, R429, R430, R431, R435, R438, R441): OPEN takes an index with every quota
met, BIND copies a good record and its source entries and the crossing is READY, KEY fills a free slot, SWITCH sends under the other slot,
RETIRE empties a slot and arrives once nothing of the crossing is left, CLOSE drains and then sends CLOSING, RELEASE frees, QUERY shows
word 0; copies of CLOSING follow; the rate grows; UDP_PORT and ENABLE are locked while a crossing is allocated. The model's own choices in
it: log entries 18, 76, 80. -/
def Obligations.CrossingLifecycle : Prop :=
  (∀ (s : State) (b r slot x : Nat) (t : Ticket) (d d1 : Dev), s.dev.Ready b r slot 3 1 t → d = s.dev.begin t → bodyZero t.words [] = true →
    d.on Fld.IDENT_NODE_NODE_VALID = true → d.on Fld.XCT_CTRL_ENABLE = true → t.right 7 1 ≠ 0 →
    (t.key.b = 0 ∨ d.get (Fld.USAGE_CROSSINGS_USED t.key.b) + 1 ≤ getBits (t.planWord 0x10) 32 17) → d.get Fld.XCT_USED_ALLOCATED < 65536 →
    d.xctPick 65536 d.xctLast = some x →
    d1 = ({ d with xctLast := x + 1 }.setReg (Reg.XCT_XING x) (packW [(0, 3, 1), (8, 8, t.key.b)])).setReg (Reg.XCT_XING_CC x) 0 →
    exec (.xctOpen b r slot) s = s.done (((d1.setXg x Xing.init).xctCount t.key.b true).finish t.begun 0 0 x))
  ∧ (∀ (s : State) (b r slot x key ip r0 : Nat) (t t1 : Ticket) (d d1 d2 : Dev) (ws : List Word) (mac : Word) (g : Xing),
    s.dev.Ready b r slot 3 2 t → x = Machine.wf t.words 2 0 16 → key = Machine.wf t.words 3 0 32 →
    bodyZero t.words [(2, 2 ^ 16 - 1), (3, 2 ^ 32 - 1), (4, 2 ^ 41 - 1)] = true → (s.dev.begin t).xst x = 1 →
    (s.dev.begin t).xowner x = t.key.b → t.right 7 1 ≠ 0 →
    (s.dev.begin t).gatherPieces (.loc t.key.b) t.begun key 5 0 ((s.dev.begin t).keyedPieces key (Machine.wf t.words 4 0 41) 64) 0 = (.ok (), d, t1) →
    t1.left = 0 → t1.bad = false → t1.words = t.words → t1.key = t.key → t1.plan = t.plan → d.xst x = 1 → d.xowner x = t.key.b →
    ws = toWords 8 (t1.bytesAt 0 64) → d.recordBad x ws = false → d.srcMacAt t.key.b (Machine.wf ws 0 32 3) = some mac →
    d.srcIpAt t.key.b (Machine.wf ws 0 35 3) = some ip → (Machine.wf ws 0 29 1 ≠ 0 ∨ isMapped ip = true) →
    g = { Xing.init with
      record := ws, srcMac := mac, srcIp := ip, slot0 := (d.xg x).slot0, slot1 := (d.xg x).slot1,
      pktMax := if d.get (Fld.WHF_MAC_CTRL_MAX_FRAME (Machine.wf ws 0 38 1) (Machine.wf ws 0 39 2)) = 9216 then 8192 else 4096,
      nextPsn := Machine.wf ws 5 0 32, lastAck := Machine.wf ws 5 0 32, exp := Machine.wf ws 5 32 32,
      lastFlush := subMod (Machine.wf ws 5 32 32) 1 32, depart := d.tide * 1000, incAt := d.tide } →
    d1 = (((d.setXg x g).put (Fld.XCT_XING_SEALED x) (Machine.wf ws 0 28 1)).put (Fld.XCT_XING_REMOTE_NODE x) (Machine.wf ws 0 0 12)).put
      (Fld.XCT_XING_REMOTE_XING x) (Machine.wf ws 0 12 16) →
    r0 = (if Machine.wf ws 6 16 16 = 0 then d1.get Fld.XCT_CC_R_INIT else Machine.wf ws 6 16 16) → d2 = (d1.setRate x r0).xingState x 2 0 0 →
    exec (.xctBind b r slot) s = s.done (d2.finish t1 0 0 0))
  ∧ (∀ (s : State) (b r slot x : Nat) (t : Ticket) (d : Dev) (k : List Byte), s.dev.Ready b r slot 3 3 t → d = s.dev.begin t →
    x = Machine.wf t.words 2 0 16 → bodyZero t.words [(2, 2 ^ 24 - 1), (3, 2 ^ 24 - 1), (4, 2 ^ 64 - 1)] = true →
    (d.xst x = 1 ∨ d.xst x = 2) → d.xowner x = t.key.b → t.right 7 1 ≠ 0 → (d.xg x).slot0 = none → (d.xg x).slot1 = none →
    d.crossingKey t.key.b (Machine.wf t.words 3 0 24) = some k → Machine.wf t.words 4 0 32 ≠ Machine.wf t.words 4 32 32 →
    exec (.xctKey b r slot) s = s.done ((((d.setXg x { d.xg x with
      slot0 := some ⟨k, Machine.wf t.words 2 16 8, Machine.wf t.words 4 0 32, Machine.wf t.words 4 32 32, 0, 0⟩ }).put
      (Fld.XCT_XING_TX_SLOT x) 0).syncSlots x).finish t.begun 0 0 0))
  ∧ (∀ (s : State) (b r slot x i : Nat) (t : Ticket) (d : Dev) (k : XKey), s.dev.Ready b r slot 3 4 t → d = s.dev.begin t →
    x = Machine.wf t.words 2 0 16 → bodyZero t.words [(2, 2 ^ 16 - 1)] = true → (d.xst x = 2 ∨ d.xst x = 3) → d.xowner x = t.key.b →
    t.right 7 1 ≠ 0 → i = 1 - d.get (Fld.XCT_XING_TX_SLOT x) → (d.xg x).slot i = some k →
    exec (.xctSwitch b r slot) s = s.done (((d.put (Fld.XCT_XING_TX_SLOT x) i).syncSlots x).finish t.begun 0 0 k.epoch))
  ∧ (∀ (s : State) (b r slot x i : Nat) (t : Ticket) (d : Dev) (k : XKey), s.dev.Ready b r slot 3 5 t → d = s.dev.begin t →
    x = Machine.wf t.words 2 0 16 → bodyZero t.words [(2, 2 ^ 24 - 1)] = true → (d.xst x = 2 ∨ d.xst x = 3) → d.xowner x = t.key.b →
    t.right 7 1 ≠ 0 → i = 1 - d.get (Fld.XCT_XING_TX_SLOT x) → (d.xg x).slot i = some k → k.epoch = Machine.wf t.words 2 16 8 →
    exec (.xctRetire b r slot) s = s.done ((d.setXg x { (d.xg x).setSlot i none with retireTk := some t.key }).syncSlots x))
  ∧ (∀ (s : State) (x : Nat) (k : TKey), x < 65536 → (s.dev.xg x).retireTk = some k → s.dev.xctStill x = true →
    exec (.retireQuiesced x) s = s.done ((s.dev.setXg x { s.dev.xg x with retireTk := none }).finishKey k 0 0 0))
  ∧ (∀ (s : State) (b r slot x : Nat) (t : Ticket) (d d1 : Dev), s.dev.Ready b r slot 3 6 t → d = s.dev.begin t →
    x = Machine.wf t.words 2 0 16 → bodyZero t.words [(2, 2 ^ 17 - 1)] = true → d.xst x = 2 → d.xowner x = t.key.b → t.right 7 1 ≠ 0 →
    d1 = (d.setXg x { d.xg x with closeTk := some t.key }).xingState x 3 0 0 →
    (Machine.wf t.words 2 16 1 = 0 → exec (.xctClose b r slot) s = s.done d1)
    ∧ (Machine.wf t.words 2 16 1 = 1 →
      exec (.xctClose b r slot) s = s.done (((d1.xctOps x).foldl (fun d u => d.fail u 2 0) d1).xctClosing x 1 1 false)))
  ∧ (∀ (s : State) (x : Nat), x < 65536 → s.dev.xst x = 3 → s.dev.xctOps x = [] →
    exec (.closeDrained x) s = s.done (s.dev.xctClosing x 1 1 false))
  ∧ (∀ (s : State) (b r slot x : Nat) (t : Ticket) (d : Dev), s.dev.Ready b r slot 3 7 t → d = s.dev.begin t →
    x = Machine.wf t.words 2 0 16 → bodyZero t.words [(2, 2 ^ 16 - 1)] = true → (d.xst x = 1 ∨ d.xst x = 4) → d.xowner x = t.key.b →
    t.right 7 1 ≠ 0 → (d.xg x).copies = 0 →
    exec (.xctRelease b r slot) s = s.done ((d.xctFree x).finish t.begun 0 0 0))
  ∧ (∀ (s : State) (b r slot x : Nat) (t : Ticket) (d : Dev), s.dev.Ready b r slot 3 8 t → d = s.dev.begin t →
    x = Machine.wf t.words 2 0 16 → bodyZero t.words [(2, 2 ^ 16 - 1)] = true → 1 ≤ d.xst x → d.xst x ≤ 4 → d.xowner x = t.key.b →
    exec (.xctQuery b r slot) s = s.done (d.finish t.begun 0 0 (d.reg (Reg.XCT_XING x)).toNat))
  ∧ (∀ (s : State) (x : Nat) (g : Xing) (d : Dev), x < 65536 → g = s.dev.xg x → 1 < g.copies → d = (s.dev.at g.copyAt).closingCopy x g.reason →
    exec (.closingCopyTimer x) s = s.done (d.setXg x { d.xg x with copies := g.copies - 1, copyAt := g.copyAt + 10000 }))
  ∧ (∀ (s : State) (x t : Nat) (d : Dev), x < 65536 → (s.dev.xst x = 2 ∨ s.dev.xst x = 3) →
    t = (s.dev.xg x).incAt + 1000 * s.dev.get Fld.XCT_CC_AI_US → d = s.dev.at t →
    exec (.rateIncreaseTimer x) s
      = s.done ((d.setXg x { d.xg x with incAt := t }).setRate x (d.get (Fld.XCT_XING_CC_RATE x) + d.get Fld.XCT_CC_AI)))
  ∧ (∀ (s : State) (v : Word),
    (s.dev.on Fld.XCT_USED_ALLOCATED = false → exec (.xctCtrlWrite v) s = s.done (s.dev.writeReg Reg.XCT_CTRL v 8 0))
    ∧ (s.dev.on Fld.XCT_USED_ALLOCATED = true → s.dev.get Fld.XCT_CTRL_UDP_PORT ≠ (s.dev.writeReg Reg.XCT_CTRL v 8 0).get Fld.XCT_CTRL_UDP_PORT →
      exec (.xctCtrlWrite v) s = s.done (s.dev.put Fld.XCT_CTRL_CTRL_REFUSED 1)))

/-- Operations on a crossing (R434, R447 to R450, R457, R462, R464, R466): an operation ticket that is in order waits to form its packets,
PUT, GET and POST once their LKEY passes its check; RECV waits; responses and packets to send again leave as pacing lets them; an
acknowledgement leaves at its delay; a timeout halves the rate and queues the packet again; the eighth gives up. The model's own choices
in it: log entry 76. -/
def Obligations.CrossingOperations : Prop :=
  (∀ (s : State) (b r slot op x : Nat) (t : Ticket) (d : Dev) (c : Instr), s.dev.Ready b r slot 3 op t → d = s.dev.begin t →
    (op, c) ∈ [(0x10, Instr.xctPut b r slot), (0x11, Instr.xctGet b r slot), (0x12, Instr.xctPost b r slot)] → op = Machine.wf t.words 0 0 8 →
    x = Machine.wf t.words 2 0 16 → opBody op t.words = (true, true) → d.xst x = 2 → d.xowner x = t.key.b → t.right 7 1 ≠ 0 →
    (∃ e, d.keyCheck (.loc t.key.b) (Machine.wf t.words 3 0 32) (Machine.wf t.words 4 0 41) (Machine.wf t.words 6 0 31)
      (if op = 0x11 then 1 else 0) = .ok e) →
    exec c s = s.done ((d.workOn t.key).setXg x { d.xg x with
      form := (d.xg x).form ++ [⟨t.key, op, Machine.wf t.words 6 0 31, 0, 0, Machine.wf t.words 2 32 32⟩] }))
  ∧ (∀ (s : State) (b r slot op x : Nat) (t : Ticket) (d : Dev) (c : Instr), s.dev.Ready b r slot 3 op t → d = s.dev.begin t →
    (op, c) ∈ [(0x13, Instr.xctFadd b r slot), (0x14, Instr.xctCswap b r slot), (0x15, Instr.xctFlush b r slot)] → op = Machine.wf t.words 0 0 8 →
    x = Machine.wf t.words 2 0 16 → opBody op t.words = (true, true) → d.xst x = 2 → d.xowner x = t.key.b → t.right 7 1 ≠ 0 →
    exec c s = s.done ((d.workOn t.key).setXg x { d.xg x with
      form := (d.xg x).form ++ [⟨t.key, op, 1, 0, 0, Machine.wf t.words 2 32 32⟩] }))
  ∧ (∀ (s : State) (b r slot : Nat) (t : Ticket), s.dev.Ready b r slot 3 0x18 t →
    bodyZero t.words [(2, 2 ^ 32 - 1), (3, 2 ^ 41 - 1), (4, 2 ^ 31 - 1)] = true → t.right 7 1 ≠ 0 → 1 ≤ Machine.wf t.words 4 0 31 →
    Machine.wf t.words 4 0 31 ≤ 2 ^ 30 →
    exec (.recv b r slot) s = s.done (s.dev.begin t))
  ∧ (∀ (s : State) (x ty psn n : Nat) (ext pay : List Byte) (g : Xing) (rest : List XReady) (d : Dev), x < 65536 → (s.dev.xst x = 2 ∨ s.dev.xst x = 3) →
    g = s.dev.xg x → g.making = none → g.ready = .resp ty psn ext pay :: rest →
    ((s.dev.at ((g.depart + 999) / 1000)).setXg x { g with ready := rest }).xctPacket x { ty := ty, psn := psn } ext pay = (d, n) →
    exec (.pacedPacketSend x) s = s.done (d.paceAfter x n))
  ∧ (∀ (s : State) (x : Nat), x < 65536 → 0 < (s.dev.xg x).unacked → (s.dev.xst x = 2 ∨ s.dev.xst x = 3) →
    exec (.ackDelayTimer x) s = s.done ((s.dev.at ((s.dev.xg x).oldest - 1 + 4000)).xctAck x))
  ∧ (∀ (s : State) (x psn : Nat) (p : XPkt) (d d1 : Dev), x < 65536 → s.dev.xctTimer x psn = some p → p.expiries < 7 →
    d = s.dev.at (p.lastSent - 1 + s.dev.rto x p.expiries) →
    d1 = (d.setXg x { d.xg x with out := (d.xg x).out.map (fun q => if q.psn = psn then { q with expiries := q.expiries + 1 } else q) }).setRate x
      (d.get (Fld.XCT_XING_CC_RATE x) / 2) → (d1.xg x).ready.contains (.retx psn) = false →
    exec (.retransmitTimeout x psn) s = s.done (d1.setXg x { d1.xg x with ready := (d1.xg x).ready ++ [.retx psn] }))
  ∧ (∀ (s : State) (x psn : Nat) (p : XPkt), x < 65536 → s.dev.xctTimer x psn = some p → 8 ≤ p.expiries →
    exec (.retryGiveUp x psn) s = s.done ((s.dev.at (p.firstSent - 1 + s.dev.giveUpNs)).xingError x 3 0))

/-- Packets of a crossing (R418, R437, R439, R452, R453, R456, R460, R461, R463): a frame of the packet's TYPE that passes the checks of Table
11.5a counts its CE mark and its bytes and is served by its TYPE; one that fails a check is counted and nothing else follows; a PUT next
in order is placed and E moves past it; the first fenced request that E has passed runs. The model's own choices in it: log entries 77,
78. -/
def Obligations.CrossingPackets : Prop :=
  (∀ (s : State) (n ty b : Nat) (c : Instr) (f : Dev → XRx → Dev) (fr : FrameS) (p : List Byte) (r : XRx) (g : Xing) (d d1 : Dev),
    (ty, c, f) ∈ [(1, Instr.xctPutPacket n, Dev.xctSequenced), (2, Instr.xctPostPacket n, Dev.xctSequenced),
      (3, Instr.xctGetReqPacket n, Dev.xctSequenced), (4, Instr.xctGetRespPacket n, fun d p => (d.xctGetResp p).ceAck p),
      (5, Instr.xctFaddPacket n, Dev.xctSequenced), (6, Instr.xctCswapPacket n, Dev.xctSequenced),
      (7, Instr.xctAtomicRespPacket n, fun d p => (d.xctResp p [5, 6] (fbe p.ext 0 8)).ceAck p),
      (8, Instr.xctFlushReqPacket n, Dev.xctSequenced), (9, Instr.xctFlushRespPacket n, fun d p => (d.xctResp p [8] 0).ceAck p),
      (0xA, Instr.xctAckPacket n, fun d p => (d.xctAcked p).ceAck p), (0xB, Instr.xctSackPacket n, fun d p => (d.xctAcked p).ceAck p),
      (0xC, Instr.xctNakPacket n, fun d p => (d.xctNaked p).ceAck p),
      (0xD, Instr.xctClosingPacket n, fun d p => d.xingError p.x 2 (fbe p.ext 0 1))] →
    s.dev.frameAt n 2 = some fr → xctType fr.data = some ty → d = s.dev.frameGone fr → d.on Fld.XCT_CTRL_ENABLE = true →
    d.xctOuter fr.data = .ok p → d.xctInner fr.data p = .ok (r, g) → b = d.xowner r.x → b ≠ 0 →
    d1 = (d.setXg r.x { g with rxCe := if r.ce then (g.rxCe + 1) % 2 ^ 32 else g.rxCe }).wrap (Fld.CNT_NET_RX_BYTES b) fr.data.length →
    exec c s = s.done (f d1 r))
  ∧ (∀ (s : State) (n : Nat) (fr : FrameS) (e : XDrop) (p : List Byte) (d : Dev), s.dev.frameAt n 2 = some fr → xctType fr.data = some 1 →
    d = s.dev.frameGone fr → d.on Fld.XCT_CTRL_ENABLE = true →
    (d.xctOuter fr.data = .error e ∨ (d.xctOuter fr.data = .ok p ∧ d.xctInner fr.data p = .error e)) →
    exec (.xctPutPacket n) s = s.done (d.xctDrop e))
  ∧ (∀ (d : Dev) (p : XRx) (d1 : Dev), p.h.ty = 1 → p.h.psn = (d.xg p.x).exp → (d.xg p.x).rcv = 0 → (d.xg p.x).exp < 2 ^ 32 →
    d1 = (d.setXg p.x { d.xg p.x with rcv := 1 }).xctPut p → (d1.xg p.x).rcv = 1 → (d1.xg p.x).exp = (d.xg p.x).exp →
    d.xctSequenced p = ((d1.setXg p.x { d1.xg p.x with exp := ((d.xg p.x).exp + 1) % 2 ^ 32, rcv := 0 }).asmSettle p.x).xctArrived p false)
  ∧ (∀ (s : State) (x psn ty : Nat) (ext : List Byte) (d : Dev), x < 65536 → (s.dev.xg x).fenced = [(psn, ty, ext)] →
    after (s.dev.xg x).exp psn 32 = true → (s.dev.xg x).atoms = [] → (s.dev.xst x = 2 ∨ s.dev.xst x = 3) →
    d = s.dev.setXg x { s.dev.xg x with fenced := [] } →
    (ty = 3 → exec (.fencedExecute x) s = s.done (d.xctGetRun x psn ext))
    ∧ (ty = 8 → exec (.fencedExecute x) s = s.done (d.xctFlushRun x psn ext))
    ∧ ((ty = 5 ∨ ty = 6) → exec (.fencedExecute x) s = s.done (d.xctAtomicRun x psn ty ext)))

/-- Storage tickets (R485 to R487, R490 to R493): a ticket that R486 lets through becomes NVMe commands for the pieces of its range, a READ
once its destination's key passes; WRITE reads its source piece by piece; SYNC flushes every drive of the set; READ_EXPAND reads into its
staging mooring, WRITE_PACK gathers its source, and the Evaporator's end places the content or issues the write. The model's own choices
in it: log entries 85, 12. -/
def Obligations.StorageTickets : Prop :=
  (∀ (s : State) (b r slot n : Nat) (t t1 : Ticket) (d : Dev), s.dev.Ready b r slot 4 1 t → d = s.dev.begin t → n = Machine.wf t.words 6 0 19 →
    bodyZero t.words [(2, 0x10FFF), (3, 2 ^ 36 - 1), (4, 2 ^ 32 - 1), (5, 2 ^ 41 - 1), (6, 2 ^ 19 - 1)] = true →
    d.StoOpen t.begun false (d.stoRange t.begun) →
    (∃ e, d.keyCheck (.loc t.key.b) (Machine.wf t.words 4 0 32) (Machine.wf t.words 5 0 41) (n * 4096) 1 = .ok e) →
    t1 = { t.begun with aux := [1], result := n * 4096 } →
    exec (.storageRead b r slot) s
      = s.done ((d.setTicket t1).stoIssueAll t1 2 (d.stoSplit (Machine.wf t.words 2 0 12) n (Machine.wf t.words 3 0 36) n)))
  ∧ (∀ (s : State) (b r slot n : Nat) (t : Ticket) (d : Dev), s.dev.Ready b r slot 4 2 t → d = s.dev.begin t → n = Machine.wf t.words 6 0 19 →
    bodyZero t.words [(2, 0x20FFF), (3, 2 ^ 36 - 1), (4, 2 ^ 32 - 1), (5, 2 ^ 41 - 1), (6, 2 ^ 19 - 1)] = true →
    d.StoOpen t.begun true (d.stoRange t.begun) →
    exec (.storageWrite b r slot) s = s.done ((d.setTicket { t.begun with aux := [0], result := n * 4096 }).stoWriteRun t.key
      (d.stoSplit (Machine.wf t.words 2 0 12) n (Machine.wf t.words 3 0 36) n)))
  ∧ (∀ (s : State) (b r slot v : Nat) (t t1 : Ticket) (d : Dev), s.dev.Ready b r slot 4 3 t → d = s.dev.begin t → v = Machine.wf t.words 2 0 12 →
    bodyZero t.words [(2, 0xFFF)] = true → d.StoOpen t.begun false true → d.volRemote v = false → t1 = { t.begun with aux := [1] } →
    exec (.sync b r slot) s = s.done ((d.setTicket t1).stoIssueAll t1 0 ((d.volSet v).map (fun u => ⟨0, 0, u, 0⟩))))
  ∧ (∀ (s : State) (b r slot n : Nat) (t t1 : Ticket) (d : Dev), s.dev.Ready b r slot 4 4 t → d = s.dev.begin t → n = Machine.wf t.words 6 0 19 →
    bodyZero t.words [(2, 0xFFF), (3, 2 ^ 36 - 1), (6, 2 ^ 19 - 1)] = true → d.StoOpen t.begun true (d.stoRange t.begun) →
    t1 = { t.begun with aux := [1] } →
    exec (.deallocate b r slot) s
      = s.done ((d.setTicket t1).stoIssueAll t1 9 (d.stoSplit (Machine.wf t.words 2 0 12) n (Machine.wf t.words 3 0 36) n)))
  ∧ (∀ (s : State) (b r slot n : Nat) (t t1 : Ticket) (d d1 : Dev), s.dev.Ready b r slot 4 5 t → s.dev.evapBusy t = false → d = s.dev.begin t →
    n = Machine.wf t.words 6 0 19 → packBody t.words 16 = true → d.StoOpen t.begun false (d.packRange t.begun) →
    (∃ e, d.keyCheck (.loc t.key.b) (Machine.wf t.words 4 0 32) (Machine.wf t.words 5 0 41) (Machine.wf t.words 6 32 31) 1 = .ok e) →
    d.stageCheck t.begun = (none, d1) → t1 = { t.begun with aux := [1] } →
    exec (.readExpand b r slot) s
      = s.done ((d1.setTicket t1).stoIssueAll t1 2 (d1.stoSplit (Machine.wf t.words 2 0 12) n (Machine.wf t.words 3 0 36) n)))
  ∧ (∀ (s : State) (b r slot key : Nat) (t t1 : Ticket) (d d1 d2 : Dev), s.dev.Ready b r slot 4 6 t → s.dev.evapBusy t = false →
    d = s.dev.begin t → key = Machine.wf t.words 4 0 32 → packBody t.words 17 = true → d.StoOpen t.begun true (d.packRange t.begun) →
    d.stageCheck t.begun = (none, d1) →
    d1.gatherPieces (.loc t.key.b) { t.begun with aux := [2] } key 5 (d1.evapWharf t.begun)
      (d1.keyedPieces key (Machine.wf t.words 5 0 41) (Machine.wf t.words 6 32 31)) 0 = (.ok (), d2, t1) →
    exec (.writePack b r slot) s = s.done (d2.setTicket t1))
  ∧ (∀ (s : State) (b r slot : Nat) (t : Ticket), s.dev.ticketAt b r slot = some t → t.started = true → Machine.wf t.words 0 8 4 = 4 →
    t.aux.getD 0 0 = 2 →
    (Machine.wf t.words 0 0 8 = 5 → exec (.evaporatorDone b r slot) s = s.done (s.dev.expandDone t))
    ∧ (Machine.wf t.words 0 0 8 = 6 → exec (.evaporatorDone b r slot) s = s.done (s.dev.packDone t)))

/-- Drives and volumes (R481, R485, R501, R503 to R505, R508): a completion ends its command, places a READ's data, or counts a media error;
the first timeout aborts, an Abort that does not end resets the controller; an idle drive enters its power state; enabling the service
initializes the drives; a volume is created and destroyed. The model's own choices in it: log entry 83. -/
def Obligations.DrivesAndVolumes : Prop :=
  (∀ (s : State) (u cid : Nat) (c : StoCmd), s.dev.stoCmd u cid = some c → c.issued = true → c.op < 256 →
    (c.op = 2 → exec (.driveCompletion u cid 0 0) s = s.done (s.dev.stoReadDone c))
    ∧ (c.op ≠ 2 → exec (.driveCompletion u cid 0 0) s = s.done (s.dev.stoEnd c none))
    ∧ (u < 8 → exec (.driveCompletion u cid 2 0x81) s
      = s.done ((s.dev.sat (Fld.STO_DRV_COUNTS_MEDIA_ERR u)).stoEnd c (some (9, 0x0801)))))
  ∧ (∀ (s : State) (u cid : Nat) (c : StoCmd), s.dev.stoCmd u cid = some c → c.issued = true → c.op ≠ 0x108 → u < 8 → c.touts = 0 →
    exec (.driveCmdTimeout u cid) s
      = s.done ((((s.dev.at (c.at_ + s.dev.get Fld.STO_CTRL_CMD_TO_MS * 1000000)).sat (Fld.STO_DRV_COUNTS_TIMEOUTS u)).putCmd
        { c with touts := 1, aborting := true }).stoAdmin u 0x108 cid 0))
  ∧ (∀ (s : State) (k cid : Nat) (c : StoCmd) (d : Dev), s.dev.stoCmd k cid = some c → c.op = 0x108 →
    d = (((s.dev.at (c.at_ + 1000000000)).sat (Fld.STO_DRV_COUNTS_RESETS k)).emit .stoCtl [k, 1]) →
    exec (.abortTimeout k cid) s
      = s.done (((d.setCmds (d.sto.cmds.filter (fun q => !(q.unit = k && q.op = 0x108)))).sto.cmds.filter (fun q => q.unit = k && q.issued)).foldl
        Dev.stoResubmit (d.setCmds (d.sto.cmds.filter (fun q => !(q.unit = k && q.op = 0x108))))))
  ∧ (∀ (s : State) (k : Nat), k < 8 → s.dev.get (Fld.STO_DRV_STATE_STATE k) = 2 → s.dev.get (Fld.STO_DRV_PM_IDLE_MS k) ≠ 0 →
    (s.dev.drv k).phase = 0 → s.dev.on (Fld.STO_DRV_PM_CUR_PS k) = false → s.dev.sto.cmds.any (fun c => c.unit = k) = false →
    s.dev.vltHolds k = false →
    exec (.driveIdleTimer k) s = s.done ((s.dev.at ((s.dev.drv k).idleFrom + s.dev.get (Fld.STO_DRV_PM_IDLE_MS k) * 1000000)).setPs k
      (s.dev.get (Fld.STO_DRV_PM_NOPS k)) 1))
  ∧ (∀ (s : State) (v : Word) (d : Dev), d = s.dev.writeReg Reg.STO_CTRL v 8 0 → s.dev.on Fld.STO_CTRL_ENABLE = false →
    d.on Fld.STO_CTRL_ENABLE = true →
    exec (.stoCtrlEnable v) s
      = s.done ((List.range 8).foldl (fun d k => if d.get (Fld.STO_DRV_STATE_STATE k) = 2 then d else d.drvInit k) d))
  ∧ (∀ (s : State) (v : Nat) (w : Word) (d d1 : Dev), v < 4096 → s.dev.volState v = 0 →
    d = s.dev.writeReg (Reg.STO_VOL_CTRL v) (setBits (w ||| 1) 1 1 0) 8 0 →
    d.createCause v (getBits w 24 5) = none →
    d1 = { d with sto := { d.sto with
      ids := (d.volSet v).foldl (fun t k => tput (fun _ => 0) t (8 * v + k) (d.reg (Reg.STO_DRV_ID k))) d.sto.ids } } →
    exec (.volumeCreate v w) s = s.done (d1.volPost v (d1.volNow v) (d1.volSource v)))
  ∧ (∀ (s : State) (v : Nat) (d : Dev), v < 4096 → s.dev.volState v ≠ 0 →
    berths.any (fun b => s.dev.planNames b v || s.dev.stageNames b v) = false →
    s.dev.tickets.any (fun t => Machine.wf t.words 0 8 4 = 4 && Machine.wf t.words 2 0 12 = v) = false →
    d = s.dev.put (Fld.STO_VOL_CTRL_VOL_REFUSED v) (s.dev.get (Fld.STO_VOL_CTRL_VOL_REFUSED v)) →
    exec (.volumeDestroy v) s = s.done (d.volPost v 0 (d.volSource v)))

/-- Targets (R496 to R499): a good record enables a target and its connection begins; a segment acknowledges, brings the connection up or data
for a command; a reset or a digest error ends its commands; the connection is tried again, kept alive, and its segments sent again, the
timeout doubling (PRESUMED). The model's own choices in it: log entries 84, 83. -/
def Obligations.TargetConnections : Prop :=
  (∀ (s : State) (t key : Nat) (v : Word) (out : List Nat) (w d : Dev) (r : List Byte), t < 64 → s.dev.on (Fld.STO_TGT_CTRL_ENABLE t) = false →
    w = s.dev.writeReg (Reg.STO_TGT_CTRL t) (v ||| 1) 8 0 → w.on (Fld.STO_TGT_CTRL_ENABLE t) = true → key = w.get (Fld.STO_TGT_CTRL_REC_KEY t) →
    w.copyImage key 0 (w.keyedPieces key (w.get (Fld.STO_TGT_OFF_REC_OFF t)) 1024) out [] = (some r, d) → recordRefused r = false →
    exec (.targetEnable t v out) s
      = s.done (((d.setTgt t { TgtH.init with record := r }).put (Fld.STO_TGT_CTRL_STATE t) 1).tcpSend t [0x201] []))
  ∧ (∀ (s : State) (t : Nat) (v : Word) (w : Dev), t < 64 → s.dev.on (Fld.STO_TGT_CTRL_ENABLE t) = true →
    w = s.dev.writeReg (Reg.STO_TGT_CTRL t) (setBits v 0 1 0) 8 0 → w.on (Fld.STO_TGT_CTRL_ENABLE t) = false →
    exec (.targetDisable t v) s = s.done (w.tgtReset t))
  ∧ (∀ (s : State) (t cid off n : Nat) (data : List Byte), t < 64 → s.dev.get (Fld.STO_TGT_CTRL_STATE t) = 1 →
    exec (.nvmeTcpSegment t 0 1 cid off n data true) s
      = s.done (((s.dev.put (Fld.STO_TGT_CTRL_STATE t) 2).setTgt t { s.dev.tgt t with kaAt := s.dev.tide }).volSync (0x100 + t)))
  ∧ (∀ (s : State) (t cid off n : Nat) (data : List Byte) (c : StoCmd), t < 64 → s.dev.tcpOpen t = true → s.dev.stoCmd (8 + t) cid = some c →
    c.op = 2 → off + data.length ≤ c.n * 4096 →
    exec (.nvmeTcpSegment t 0 2 cid off n data true) s = s.done (s.dev.putCmd { c with data := enterBytes c.data off data }))
  ∧ (∀ (s : State) (t kind cid off n : Nat) (data : List Byte), t < 64 → s.dev.tcpOpen t = true →
    exec (.nvmeTcpSegment t 0 kind cid off n data false) s = s.done ((s.dev.sat (Fld.STO_TGT_COUNTS_DIGEST_ERR t)).tgtReset t)
      ∧ exec (.targetConnectionReset t) s = s.done (s.dev.tgtReset t))
  ∧ (∀ (s : State) (t : Nat), t < 64 → s.dev.on (Fld.STO_TGT_CTRL_ENABLE t) = true → s.dev.get (Fld.STO_TGT_CTRL_STATE t) = 1 →
    exec (.targetReconnectTimer t) s = s.done ((s.dev.sat (Fld.STO_TGT_COUNTS_RECONNECTS t)).tcpSend t [0x201] []))
  ∧ (∀ (s : State) (t : Nat) (d : Dev), t < 64 → s.dev.get (Fld.STO_TGT_CTRL_STATE t) = 2 →
    d = s.dev.at ((s.dev.tgt t).kaAt + s.dev.katoNs t) →
    ((d.tgt t).kaOut = true → exec (.keepAliveTimer t) s = s.done (d.tgtReset t))
    ∧ ((d.tgt t).kaOut = false →
      exec (.keepAliveTimer t) s = s.done ((d.setTgt t { d.tgt t with kaOut := true, kaAt := d.tide }).tcpSend t [0x203] [])))
  ∧ (∀ (s : State) (t : Nat) (seg : List Byte) (rest : List (List Byte)), t < 64 → s.dev.tcpOpen t = true → (s.dev.tgt t).unacked = seg :: rest →
    exec (.tcpRetransmitTimeout t) s = s.done (((s.dev.pass (s.dev.tgt t).rto).setTgt t { s.dev.tgt t with
      rto := min 60000000000 (2 * (s.dev.tgt t).rto) }).emit .tcp [t, 0x204] seg))

/-- Scalar integer instructions (R592, R594, R595, Tables 16.3 to 16.5): rd takes the function of ra and rb, or of ra and the immediate; a
compare gives 1 or 0; nothing else changes but the PC. The model's own choices in it: log entry 88. -/
def Obligations.ScalarIntegers : Prop :=
  (∀ (s : State) (p i : Nat) (x : Insn) (r : RakerS) (a b : Word) (e : Instr × Nat × Word), r = (s.dev.rk p i).next x → a = r.gr x.ra → b = r.gr x.rb →
    e ∈ [(.addI p i, 0, a + b), (.subI p i, 1, a - b), (.mulI p i, 2, a * b), (.mulh p i, 3, BitVec.ofInt 64 (a.toInt * b.toInt / 2 ^ 64)),
      (.mulhu p i, 4, BitVec.ofNat 64 (a.toNat * b.toNat / 2 ^ 64)), (.andI p i, 16, a &&& b), (.orI p i, 17, a ||| b), (.xorI p i, 18, a ^^^ b),
      (.andn p i, 19, a &&& ~~~b), (.shl p i, 20, a <<< (b.toNat % 64)), (.shr p i, 21, a >>> (b.toNat % 64)),
      (.sar p i, 22, a.sshiftRight (b.toNat % 64)), (.ror p i, 23, a.rotateRight (b.toNat % 64)),
      (.minI p i, 24, if a.toInt < b.toInt then a else b), (.maxI p i, 25, if a.toInt < b.toInt then b else a),
      (.minu p i, 26, if a.toNat < b.toNat then a else b), (.maxu p i, 27, if a.toNat < b.toNat then b else a),
      (.clz p i, 32, BitVec.ofNat 64 (Machine.clz 64 a.toNat)), (.ctz p i, 33, BitVec.ofNat 64 (Machine.ctz 64 a.toNat)),
      (.popc p i, 34, BitVec.ofNat 64 (Machine.popc 64 a.toNat)), (.bswap p i, 35, BitVec.ofNat 64 (ofBe (leBytes 8 a.toNat))),
      (.sext8 p i, 40, BitVec.ofInt 64 (signed 8 a.toNat)), (.sext16 p i, 41, BitVec.ofInt 64 (signed 16 a.toNat)),
      (.sext32 p i, 42, BitVec.ofInt 64 (signed 32 a.toNat)), (.zext8 p i, 44, BitVec.ofNat 64 (a.toNat % 2 ^ 8)),
      (.zext16 p i, 45, BitVec.ofNat 64 (a.toNat % 2 ^ 16)), (.zext32 p i, 46, BitVec.ofNat 64 (a.toNat % 2 ^ 32))] →
    s.dev.Runs p i (128 + e.2.1) x → exec e.1 s = s.done (s.dev.setRk p i (r.setG x.rd e.2.2)))
  ∧ (∀ (s : State) (p i : Nat) (x : Insn) (r : RakerS) (a b : Word) (e : Instr × Nat × Word), r = (s.dev.rk p i).next x → a = r.gr x.ra →
    b = BitVec.ofInt 64 x.value →
    e ∈ [(.addi p i, 2 * 128, a + b), (.andi p i, 3 * 128, a &&& b), (.ori p i, 4 * 128, a ||| b), (.xori p i, 5 * 128, a ^^^ b),
      (.shli p i, 7 * 128, a <<< (b.toNat % 64)), (.shri p i, 7 * 128 + 1, a >>> (b.toNat % 64)),
      (.sari p i, 7 * 128 + 2, a.sshiftRight (b.toNat % 64)), (.rori p i, 7 * 128 + 3, a.rotateRight (b.toNat % 64)),
      (.cseqImm p i, 9 * 128, if a = b then 1 else 0), (.csneImm p i, 9 * 128 + 1, if a ≠ b then 1 else 0),
      (.csltImm p i, 9 * 128 + 2, if a.toInt < b.toInt then 1 else 0), (.csltuImm p i, 9 * 128 + 3, if a.toNat < b.toNat then 1 else 0),
      (.csleImm p i, 9 * 128 + 4, if a.toInt ≤ b.toInt then 1 else 0), (.csleuImm p i, 9 * 128 + 5, if a.toNat ≤ b.toNat then 1 else 0)] →
    s.dev.Runs p i e.2.1 x → exec e.1 s = s.done (s.dev.setRk p i (r.setG x.rd e.2.2)))
  ∧ (∀ (s : State) (p i : Nat) (x : Insn) (r : RakerS) (a b : Word) (e : Instr × Nat × Word), r = (s.dev.rk p i).next x → a = r.gr x.ra → b = r.gr x.rb →
    e ∈ [(.cseq p i, 0, if a = b then 1 else 0), (.csne p i, 1, if a ≠ b then 1 else 0), (.cslt p i, 2, if a.toInt < b.toInt then 1 else 0),
      (.csltu p i, 3, if a.toNat < b.toNat then 1 else 0), (.csle p i, 4, if a.toInt ≤ b.toInt then 1 else 0),
      (.csleu p i, 5, if a.toNat ≤ b.toNat then 1 else 0)] →
    s.dev.Runs p i (8 * 128 + e.2.1) x → exec e.1 s = s.done (s.dev.setRk p i (r.setG x.rd e.2.2)))
  ∧ (∀ (s : State) (p i : Nat) (x : Insn) (r : RakerS) (a b : Word) (e : Instr × Nat × Word), r = (s.dev.rk p i).next x → a = r.gr x.ra → b = r.gr x.rb →
    e ∈ [(.divI p i, 5, BitVec.ofInt 64 (a.toInt.tdiv b.toInt)), (.divu p i, 6, BitVec.ofNat 64 (a.toNat / b.toNat)),
      (.rem p i, 7, BitVec.ofInt 64 (a.toInt.tmod b.toInt)), (.remu p i, 8, BitVec.ofNat 64 (a.toNat % b.toNat))] →
    s.dev.Runs p i (128 + e.2.1) x →
    (b ≠ 0 → exec e.1 s = s.done (s.dev.setRk p i (r.setG x.rd e.2.2)))
    ∧ (b = 0 → exec e.1 s = s.done ((s.dev.setRk p i (s.dev.rk p i)).takeExc p i { code := 0x10 })))
  ∧ (∀ (s : State) (p i : Nat) (x : Insn) (r : RakerS), r = (s.dev.rk p i).next x → s.dev.Runs p i (6 * 128) x →
    exec (.lih p i) s = s.done (s.dev.setRk p i (r.setG x.rd (setBits (r.gr x.rd) 32 32 (BitVec.ofInt 64 x.imm).toNat))))

/-- Control and system instructions (R562, R569, R586, R588, R589, R602, R603, Table 16.9): branches and jumps; NOP; a YIELD that a pending
stop ends; fences; special registers and predicates; an undefined word and a fetch outside EXEC take their exceptions, and a scalar
instruction whose guard does not pass only moves the PC. Loads, stores and atomics of a Raker (R558 to R561, R596 to R598) that reach
memory of the device: a load brings its bytes extended as W says; a store writes the low bytes of rd; AADD, ASWAP and ACAS write what they
compute and give the old value. The model's own choices in it: log entries 88, 89, 91. -/
def Obligations.ScalarControlAndMemory : Prop :=
  (∀ (s : State) (p i : Nat) (x : Insn) (r : RakerS) (t : Nat), r = (s.dev.rk p i).next x →
    t = ((((s.dev.rk p i).pc : Int) + x.value) % 2 ^ 48).toNat → (s.dev.rk p i).pc < 2 ^ 48 →
    (s.dev.Runs p i (32 * 128) x → exec (.bz p i) s = s.done (s.dev.setRk p i (if r.gr x.rd = 0 then { r with pc := t } else r)))
    ∧ (s.dev.Runs p i (33 * 128) x → exec (.bnz p i) s = s.done (s.dev.setRk p i (if r.gr x.rd = 0 then r else { r with pc := t })))
    ∧ (s.dev.Runs p i (34 * 128) x →
      exec (.jal p i) s = s.done (s.dev.setRk p i { r.setG x.rd (BitVec.ofNat 64 r.pc) with pc := t })))
  ∧ (∀ (s : State) (p i : Nat) (x : Insn) (r : RakerS) (t : Nat), r = (s.dev.rk p i).next x → t = getBits (r.gr x.ra) 0 48 →
    s.dev.Runs p i (35 * 128) x →
    (t % 4 = 0 → exec (.jalr p i) s = s.done (s.dev.setRk p i { r.setG x.rd (BitVec.ofNat 64 r.pc) with pc := t }))
    ∧ (t % 4 ≠ 0 → exec (.jalr p i) s = s.done ((s.dev.setRk p i (s.dev.rk p i)).takeExc p i { code := 4, access := 3 })))
  ∧ (∀ (s : State) (p i : Nat) (x : Insn) (r : RakerS) (e : Instr × Nat × RakerS), r = (s.dev.rk p i).next x →
    e ∈ [(.nop p i, 1, r), (.fenceS p i, 3, r), (.fenceL p i, 4, { r with lines := [] }), (.fenceSl p i, 5, { r with lines := [] }),
      (.swr p i, 9, r.writeSpecial x.rd (r.gr x.ra)), (.pmovg p i, 10, r.setP x.rd (BitVec.ofNat 16 (r.gr x.ra).toNat)),
      (.gmovp p i, 11, r.setG x.rd (BitVec.ofNat 64 (r.pr x.ra).toNat))] →
    s.dev.Runs p i e.2.1 x → exec e.1 s = s.done (s.dev.setRk p i e.2.2))
  ∧ (∀ (s : State) (p i : Nat) (x : Insn) (r : RakerS) (v : Word) (d : Dev), r = (s.dev.rk p i).next x → s.dev.Runs p i 8 x →
    s.dev.readSpecial r x.ra = (v, d) → exec (.srd p i) s = s.done (d.setRk p i (r.setG x.rd v)))
  ∧ (∀ (s : State) (p i : Nat) (x : Insn) (r : RakerS) (d : Dev), r = (s.dev.rk p i).next x → s.dev.Runs p i 2 x →
    d = (s.dev.setRk p i { r with live := false }).checkRun p →
    (s.dev.on (Fld.PAN_STATE_STOP_PEND p) = false → exec (.yield p i) s = s.done (s.dev.setRk p i r))
    ∧ (s.dev.on (Fld.PAN_STATE_STOP_PEND p) = true → exec (.yield p i) s = s.done (d.setRk p i (d.rk p i))))
  ∧ (∀ (s : State) (p i : Nat) (x : Insn), (s.dev.rk p i).live = true → s.dev.stopped = false →
    (s.dev.fetchInsn p (s.dev.rk p i).pc = some x → x.legal = false →
      exec (.illegalInstruction p i) s = s.done (s.dev.takeExc p i { code := 2 }))
    ∧ (s.dev.fetchInsn p (s.dev.rk p i).pc = none → exec (.fetchFault p i) s = s.done (s.dev.takeExc p i { code := 1, access := 3 })))
  ∧ (∀ (s : State) (p i key : Nat) (out : List Nat) (x : Insn) (c : Instr), ScalarRow p i out key c → (s.dev.rk p i).live = true →
    s.dev.stopped = false → s.dev.fetchInsn p (s.dev.rk p i).pc = some x → x.legal = true → x.key = key → x.major < 0x30 →
    x.passes (s.dev.rk p i) = false →
    exec c s = s.done (s.dev.setRk p i ((s.dev.rk p i).next x)))
  ∧ (∀ (s : State) (p i w n a m : Nat) (out : List Nat) (x : Insn) (r : RakerS) (d : Dev), r = (s.dev.rk p i).next x → s.dev.Runs p i (16 * 128) x →
    w = bitsOf x.w 8 3 → n = accessBytes w → a = x.ea r n → a % n = 0 → inControl a = false →
    s.dev.panXlate p a n 0 2 p = (.mem m, d) → bitsOf x.w 7 1 = 1 → d.poisoned m n = false →
    exec (.ld p i out) s = s.done (d.setRk p i (r.setG x.rd
      (if 4 ≤ w then BitVec.ofInt 64 (signed (8 * n) (ofLe (d.bytes m n))) else BitVec.ofNat 64 (ofLe (d.bytes m n))))))
  ∧ (∀ (s : State) (p i n a m : Nat) (out : List Nat) (x : Insn) (r : RakerS) (d : Dev), r = (s.dev.rk p i).next x → s.dev.Runs p i (17 * 128) x →
    n = accessBytes (bitsOf x.w 8 3) → a = x.ea r n → a % n = 0 → inControl a = false →
    s.dev.panXlate p a n 1 2 p = (.mem m, d) →
    exec (.st p i out) s
      = s.done ((d.writeMem m (leBytes n (r.gr x.rd).toNat)).setRk p i (r.writeThrough m (leBytes n (r.gr x.rd).toNat))))
  ∧ (∀ (s : State) (p i a m : Nat) (out : List Nat) (x : Insn) (r : RakerS) (d : Dev) (old : Word) (e : Instr × Nat × Word), r = (s.dev.rk p i).next x →
    a = getBits (r.gr x.ra) 0 48 → a % 8 = 0 → s.dev.panXlate p a 8 2 2 p = (.mem m, d) → d.poisoned m 8 = false →
    old = BitVec.ofNat 64 (ofLe (d.bytes m 8)) →
    e ∈ [(.aadd p i out, 0, old + r.gr x.rb), (.aswap p i out, 1, r.gr x.rb)] → s.dev.Runs p i (18 * 128 + e.2.1) x →
    exec e.1 s = s.done ((d.writeMem m (leBytes 8 e.2.2.toNat)).setRk p i ({ r with lines := tdel (m / 64) r.lines }.setG x.rd old)))
  ∧ (∀ (s : State) (p i a m : Nat) (out : List Nat) (x : Insn) (r : RakerS) (d : Dev) (old : Word), r = (s.dev.rk p i).next x →
    a = getBits (r.gr x.ra) 0 48 → a % 8 = 0 → s.dev.panXlate p a 8 2 2 p = (.mem m, d) → d.poisoned m 8 = false →
    old = BitVec.ofNat 64 (ofLe (d.bytes m 8)) → s.dev.Runs p i (18 * 128 + 2) x →
    exec (.acas p i out) s = s.done ((if old = r.gr x.rd then d.writeMem m (leBytes 8 (r.gr x.rb).toNat) else d).setRk p i
      ({ r with lines := tdel (m / 64) r.lines }.setG x.rd old)))
  ∧ (∀ (s : State) (p i n a : Nat) (out : List Nat) (x : Insn) (r : RakerS), r = (s.dev.rk p i).next x → n = accessBytes (bitsOf x.w 8 3) →
    a = x.ea r n → a % n ≠ 0 →
    (s.dev.Runs p i (16 * 128) x → exec (.ld p i out) s = s.done ((s.dev.setRk p i (s.dev.rk p i)).takeExc p i { code := 4 }))
    ∧ (s.dev.Runs p i (17 * 128) x →
      exec (.st p i out) s = s.done ((s.dev.setRk p i (s.dev.rk p i)).takeExc p i { code := 4, access := 1 })))

/-- Scalar floating point (R599 to R601, Table 16.7): the result under the rounding mode goes to rd and its flags to s.dflags, or the lowest
enabled flag traps and rd stays. Decimal instructions (R605 to R612): valid P15 operands give their sum, difference, product, order, shift
or conversion; an invalid digit traps DDATA with its place and a result that does not fit traps DOVF. The model's own choices in it: log
entries 88, 89, 14. -/
def Obligations.ScalarFloatsAndDecimals : Prop :=
  (∀ (s : State) (p i : Nat) (x : Insn) (r r1 : RakerS) (a b c : Nat) (f : FFmt) (e : Instr × Nat × Nat × Nat), r = (s.dev.rk p i).next x →
    a = r.fp x x.ra → b = r.fp x x.rb → c = r.fp x x.rd → f = x.ffmt →
    e ∈ [(.fadd p i, 0, floatOp f 0 r.mode a b), (.fsub p i, 1, floatOp f 1 r.mode a b), (.fmul p i, 2, floatOp f 2 r.mode a b),
      (.fdiv p i, 3, floatOp f 3 r.mode a b), (.fsqrt p i, 4, floatSqrt f r.mode a), (.fmin p i, 5, floatOp f 5 r.mode a b),
      (.fmax p i, 6, floatOp f 6 r.mode a b), (.fma p i, 7, floatFma f r.mode a b c),
      (.fceq p i, 8, if (numTest 0 (decodeF f a) (decodeF f b)).1 then 1 else 0, (numTest 0 (decodeF f a) (decodeF f b)).2),
      (.fclt p i, 9, if (numTest 2 (decodeF f a) (decodeF f b)).1 then 1 else 0, (numTest 2 (decodeF f a) (decodeF f b)).2),
      (.fcle p i, 10, if (numTest 3 (decodeF f a) (decodeF f b)).1 then 1 else 0, (numTest 3 (decodeF f a) (decodeF f b)).2),
      (.fcvt p i, 11, encodeF f r.mode 0 (decodeF (ffmt (x.rb % 8)) (bitsOf (r.gr x.ra).toNat 0 (fmtBits (x.rb % 8))))),
      (.ftoi p i, 12, encodeI 64 true false r.mode 0 (decodeF f a)),
      (.itof p i, 13, encodeF f r.mode 0 (.fin (decide ((r.gr x.ra).toInt < 0)) (r.gr x.ra).toInt.natAbs 1 0)),
      (.fclass p i, 14, floatClass f a, 0)] →
    s.dev.Runs p i (24 * 128 + e.2.1) x →
    (r.raise e.2.2.2 = .ok r1 → exec e.1 s = s.done (s.dev.setRk p i (r1.setG x.rd (BitVec.ofNat 64 e.2.2.1))))
    ∧ (∀ k, r.raise e.2.2.2 = .error k → exec e.1 s = s.done ((s.dev.setRk p i (s.dev.rk p i)).takeExc p i k)))
  ∧ (∀ (s : State) (p i : Nat) (x : Insn) (r : RakerS) (a b : Int) (e : Instr × Nat × Except Exc Word), r = (s.dev.rk p i).next x →
    r.p15 x.ra 0 = .ok a → r.p15 x.rb 1 = .ok b →
    e ∈ [(.dadd p i, 0, encP15 (a + b)), (.dsub p i, 1, encP15 (a - b)),
      (.dcmp p i, 3, .ok (BitVec.ofInt 64 (if a < b then -1 else if a = b then 0 else 1)))] →
    s.dev.Runs p i (40 * 128 + e.2.1) x →
    (∀ v, e.2.2 = .ok v → exec e.1 s = s.done (s.dev.setRk p i (r.setG x.rd v)))
    ∧ (∀ k, e.2.2 = .error k → exec e.1 s = s.done ((s.dev.setRk p i (s.dev.rk p i)).takeExc p i k)))
  ∧ (∀ (s : State) (p i : Nat) (x : Insn) (r : RakerS) (a b : Int) (sg : Nat), r = (s.dev.rk p i).next x → r.p15 x.ra 0 = .ok a →
    r.p15 x.rb 1 = .ok b → s.dev.Runs p i (40 * 128 + 2) x → sg = (if a * b < 0 then 0xD else 0xC) →
    exec (.dmuld p i) s = s.done (s.dev.setRk p i
      ((r.setG x.rd (BitVec.ofNat 64 (decDigits 16 ((a * b).natAbs % 10 ^ 15) + sg))).setG (x.rd + 1)
        (BitVec.ofNat 64 (decDigits 16 ((a * b).natAbs / 10 ^ 15) + sg)))))
  ∧ (∀ (s : State) (p i : Nat) (x : Insn) (r : RakerS) (a : Int) (e : Instr × Nat × Except Exc Word), r = (s.dev.rk p i).next x →
    r.p15 x.ra 0 = .ok a →
    e ∈ [(.dshl p i, 4, encP15 (a * 10 ^ x.rb)), (.dtob p i, 9, .ok (BitVec.ofInt 64 a))] → s.dev.Runs p i (40 * 128 + e.2.1) x →
    (∀ v, e.2.2 = .ok v → exec e.1 s = s.done (s.dev.setRk p i (r.setG x.rd v)))
    ∧ (∀ k, e.2.2 = .error k → exec e.1 s = s.done ((s.dev.setRk p i (s.dev.rk p i)).takeExc p i k)))
  ∧ (∀ (s : State) (p i : Nat) (x : Insn) (r : RakerS) (a q : Int) (ix : Bool) (w : Word) (e : Instr × Nat × Nat), r = (s.dev.rk p i).next x →
    decimalPair x r = .ok a → e ∈ [(.dshr p i, 5, 1), (.drnd p i, 6, r.mode)] → decShift e.2.2 a x.rb = (q, ix) → encP15 q = .ok w →
    s.dev.Runs p i (40 * 128 + e.2.1) x →
    exec e.1 s = s.done (s.dev.setRk p i { r.setG x.rd w with dflags := r.dflags ||| (if ix then 32 else 0) }))
  ∧ (∀ (s : State) (p i : Nat) (x : Insn) (r : RakerS) (a : Int) (w : Word), r = (s.dev.rk p i).next x → r.p15 x.ra 0 = .ok a →
    s.dev.Runs p i (40 * 128 + 7) x →
    (x.rb = 0 → encP15 a = .ok w → exec (.dadj p i) s = s.done (s.dev.setRk p i (r.setG x.rd w)))
    ∧ (x.rb = 1 → encP15 a.natAbs = .ok w → exec (.dadj p i) s = s.done (s.dev.setRk p i (r.setG x.rd w)))
    ∧ (x.rb = 2 → encP15 (-a) = .ok w → exec (.dadj p i) s = s.done (s.dev.setRk p i (r.setG x.rd w)))
    ∧ (3 ≤ x.rb → encP15 a.natAbs = .ok w → exec (.dadj p i) s = s.done (s.dev.setRk p i (r.setG x.rd (setBits w 0 4 0xF)))))
  ∧ (∀ (s : State) (p i : Nat) (x : Insn) (r : RakerS), r = (s.dev.rk p i).next x →
    (s.dev.Runs p i (40 * 128 + 8) x → exec (.dval p i) s
      = s.done (s.dev.setRk p i (r.setG x.rd (if (decBad 16 (r.gr x.ra).toNat).isNone then 1 else 0))))
    ∧ (∀ w, s.dev.Runs p i (40 * 128 + 10) x → encP15 (r.gr x.ra).toInt = .ok w →
      exec (.btod p i) s = s.done (s.dev.setRk p i (r.setG x.rd w))))
  ∧ (∀ (s : State) (p i k : Nat) (x : Insn) (r : RakerS) (e : Instr × Nat), r = (s.dev.rk p i).next x → decVal 16 (r.gr x.ra).toNat = .error k →
    e ∈ [(.dadd p i, 0), (.dsub p i, 1), (.dmuld p i, 2), (.dcmp p i, 3), (.dshl p i, 4), (.dadj p i, 7), (.dtob p i, 9)] →
    s.dev.Runs p i (40 * 128 + e.2) x →
    exec e.1 s = s.done ((s.dev.setRk p i (s.dev.rk p i)).takeExc p i { code := 0x16, flane := some k }))

/-- Vector integer instructions and predicate logic (R616 to R619, R622, R627, Table 17.4): the active elements of vd take the operation of
their elements of va and vb, the others stand; pd takes the logic of pa and pb, cleared where the guard mask is 0. The model's own choices
in it: log entries 88, 90. -/
def Obligations.VectorIntegers : Prop :=
  (∀ (s : State) (p i : Nat) (x : Insn) (r : RakerS) (op : Nat) (c : Instr), r = (s.dev.rk p i).next x →
    (op, c) ∈ [(0, .vadd p i), (1, .vsub p i), (2, .vmul p i), (3, .vmulh p i), (4, .vmulhu p i), (5, .vadds p i), (6, .vaddsu p i),
      (7, .vsubs p i), (8, .vsubsu p i), (9, .vmin p i), (10, .vmax p i), (11, .vminu p i), (12, .vmaxu p i), (13, .vand p i), (14, .vor p i),
      (15, .vxor p i), (16, .vandn p i), (17, .vshl p i), (18, .vshr p i), (19, .vsar p i), (20, .vpopc p i), (21, .vabs p i), (22, .vbswap p i)] →
    s.dev.Runs p i (0x30 * 128 + op) x →
    exec c s = s.done (s.dev.setRk p i (r.setV x.rd (vmerge (x.mask r) x.elemBits (r.vr x.rd)
      (fun j => valu op x.elemBits (velem (r.vr x.ra) x.elemBits j) (velem (r.vr x.rb) x.elemBits j))))))
  ∧ (∀ (s : State) (p i : Nat) (x : Insn) (r : RakerS) (a b : BitVec 16) (e : Instr × Nat × BitVec 16), r = (s.dev.rk p i).next x → a = r.pr x.ra →
    b = r.pr x.rb →
    e ∈ [(.pand p i, 0, a &&& b), (.por p i, 1, a ||| b), (.pxor p i, 2, a ^^^ b), (.pandn p i, 3, a &&& ~~~b), (.pnot p i, 4, ~~~a),
      (.pbelow p i, 5, if a = 0 then 0xFFFF else (a - 1) &&& ~~~a), (.pthru p i, 6, if a = 0 then 0xFFFF else a ^^^ (a - 1)),
      (.pspan p i, 7, if 16 ≤ (r.gr x.rb).toNat - (r.gr x.ra).toNat then 0xFFFF
        else BitVec.ofNat 16 (2 ^ ((r.gr x.rb).toNat - (r.gr x.ra).toNat) - 1))] →
    s.dev.Runs p i (0x38 * 128 + e.2.1) x → exec e.1 s = s.done (s.dev.setRk p i (r.setP x.rd (e.2.2 &&& x.mask r))))

/-- Vector floating point and compares (R600, R619, R623, R624, Table 17.5): the active elements take their results with the union of their
flags recorded, or the lowest enabled flag traps with the lowest element that raised it; a compare writes a predicate or a g register, and
has no effect with no active element. Vector decimal (R631, R632) and the conversions of Table 17.7 (R628 to R630): P31 elements are
summed and compared in ascending order, reversed and shifted by bytes; a conversion changes its active elements under the rounding mode
and the scale, narrowing into a part of vd, widening from a part of va. The model's own choices in it: log entry 88. -/
def Obligations.VectorFloatsAndConversions : Prop :=
  (∀ (s : State) (p i E : Nat) (x : Insn) (r r1 : RakerS) (f : FFmt) (a b c : Nat → Nat) (e : Instr × Nat × (Nat → Nat × Nat)),
    r = (s.dev.rk p i).next x → E = vfBits (bitsOf x.w 0 2) → f = vlayout (bitsOf x.w 0 2) → a = velem (r.vr x.ra) E → b = velem (r.vr x.rb) E →
    c = velem (r.vr x.rd) E →
    e ∈ [(.vfadd p i, 0, fun j => floatOp f 0 r.mode (a j) (b j)), (.vfsub p i, 1, fun j => floatOp f 1 r.mode (a j) (b j)),
      (.vfmul p i, 2, fun j => floatOp f 2 r.mode (a j) (b j)), (.vfdiv p i, 3, fun j => floatOp f 3 r.mode (a j) (b j)),
      (.vfsqrt p i, 4, fun j => floatSqrt f r.mode (a j)), (.vfmin p i, 5, fun j => floatOp f 5 r.mode (a j) (b j)),
      (.vfmax p i, 6, fun j => floatOp f 6 r.mode (a j) (b j)), (.vfma p i, 7, fun j => floatFma f r.mode (a j) (b j) (c j)),
      (.vfabs p i, 8, fun j => (a j % 2 ^ (f.e + f.m), 0)),
      (.vfneg p i, 9, fun j => (if a j / 2 ^ (f.e + f.m) = 1 then a j - 2 ^ (f.e + f.m) else a j + 2 ^ (f.e + f.m), 0))] →
    s.dev.Runs p i (0x31 * 128 + e.2.1) x →
    (raiseAll r (actives (x.mask r) (512 / E)) (fun j => (e.2.2 j).2) = .ok r1 →
      exec e.1 s = s.done (s.dev.setRk p i (r1.setV x.rd (vmerge (x.mask r) E (r.vr x.rd) (fun j => (e.2.2 j).1)))))
    ∧ (∀ k, raiseAll r (actives (x.mask r) (512 / E)) (fun j => (e.2.2 j).2) = .error k →
      exec e.1 s = s.done ((s.dev.setRk p i (s.dev.rk p i)).takeExc p i k)))
  ∧ (∀ (s : State) (p i E : Nat) (x : Insn) (r : RakerS) (f : FFmt) (l : List Nat), r = (s.dev.rk p i).next x → s.dev.Runs p i (0x31 * 128 + 10) x →
    E = vfBits (bitsOf x.w 0 2) → f = vlayout (bitsOf x.w 0 2) → l = (actives (x.mask r) (512 / E)).map (fun j => velem (r.vr x.ra) E j) →
    (l = [] → exec (.vfrmaxa p i) s = s.done (s.dev.setRk p i r))
    ∧ (l ≠ [] → l.any (fun a => (decodeF f a).isNan) = true → exec (.vfrmaxa p i) s = s.done (s.dev.setRk p i (r.setG x.rd (BitVec.ofNat 64 f.qnan))))
    ∧ (l ≠ [] → l.any (fun a => (decodeF f a).isNan) = false →
      exec (.vfrmaxa p i) s = s.done (s.dev.setRk p i (r.setG x.rd (BitVec.ofNat 64 ((l.map (fun a => a % 2 ^ (f.e + f.m))).foldl max 0))))))
  ∧ (∀ (s : State) (p i : Nat) (x : Insn) (r r1 : RakerS) (ts : List Nat), r = (s.dev.rk p i).next x →
    (x.mask r = 0 → s.dev.Runs p i (0x32 * 128) x → exec (.vcmpPredicate p i) s = s.done (s.dev.setRk p i r))
    ∧ (x.mask r = 0 → s.dev.Runs p i (0x37 * 128) x → exec (.vcmpGreg p i) s = s.done (s.dev.setRk p i r))
    ∧ (x.mask r ≠ 0 → compareAll x r = .ok (r1, ts) → s.dev.Runs p i (0x32 * 128) x → x.rd / 8 = 0 →
      exec (.vcmpPredicate p i) s = s.done (s.dev.setRk p i (r1.setP (x.rd % 8) (BitVec.ofNat 16 (bitsAt ((List.range 16).filter (fun q =>
        (x.mask r).getLsbD q && ((List.range (32 / x.cmpBits)).map (fun u => q * (32 / x.cmpBits) + u)).all (fun j => ts.contains j))))))))
    ∧ (x.mask r ≠ 0 → compareAll x r = .ok (r1, ts) → s.dev.Runs p i (0x32 * 128) x → x.rd / 8 ≠ 0 →
      exec (.vcmpPredicate p i) s = s.done (s.dev.setRk p i (r1.setP (x.rd % 8) (BitVec.ofNat 16 (bitsAt ((List.range 16).filter (fun q =>
        (x.mask r).getLsbD q && ((List.range (32 / x.cmpBits)).map (fun u => q * (32 / x.cmpBits) + u)).any (fun j => ts.contains j))))))))
    ∧ (x.mask r ≠ 0 → compareAll x r = .ok (r1, ts) → s.dev.Runs p i (0x37 * 128) x →
      exec (.vcmpGreg p i) s = s.done (s.dev.setRk p i (r1.setG x.rd (BitVec.ofNat 64 (bitsAt ts))))))
  ∧ (∀ (s : State) (p i : Nat) (x : Insn) (r : RakerS) (l : List (Nat × Nat)) (e : Instr × Nat × Bool), r = (s.dev.rk p i).next x →
    e ∈ [(.vdadd p i, 0, false), (.vdsub p i, 1, true)] → s.dev.Runs p i (0x33 * 128 + e.2.1) x →
    (p31Sums e.2.2 r x (actives (x.mask r) 4) = .ok l →
      exec e.1 s = s.done (s.dev.setRk p i (r.setV x.rd (vmerge (x.mask r) 128 (r.vr x.rd) (fun k => tget (fun _ => 0) l k)))))
    ∧ (∀ k, p31Sums e.2.2 r x (actives (x.mask r) 4) = .error k →
      exec e.1 s = s.done ((s.dev.setRk p i (s.dev.rk p i)).takeExc p i k)))
  ∧ (∀ (s : State) (p i : Nat) (x : Insn) (r : RakerS) (l : List (Nat × Int × Int)), r = (s.dev.rk p i).next x → s.dev.Runs p i (0x33 * 128 + 2) x →
    actives (x.mask r) 4 ≠ [] → p31Pairs r x (actives (x.mask r) 4) = .ok l → bitsOf x.w 0 2 = 0 →
    exec (.vdcmp p i) s = s.done (s.dev.setRk p i (r.setP x.rd
      (BitVec.ofNat 16 ((l.filter (fun t => t.2.1 = t.2.2)).map (fun t => 15 * 2 ^ (4 * t.1))).sum))))
  ∧ (∀ (s : State) (p i : Nat) (x : Insn) (r : RakerS), r = (s.dev.rk p i).next x →
    (s.dev.Runs p i (0x33 * 128 + 3) x → exec (.vdrev p i) s = s.done (s.dev.setRk p i (r.setV x.rd
      (vmerge (x.mask r) 128 (r.vr x.rd) (fun k => ofBe (leBytes 16 (velem (r.vr x.ra) 128 k)))))))
    ∧ (s.dev.Runs p i (0x33 * 128 + 4) x → exec (.vdbsr p i) s = s.done (s.dev.setRk p i (r.setV x.rd
      (vmerge (x.mask r) 128 (r.vr x.rd) (fun k => velem (r.vr x.ra) 128 k / 256 ^ x.rb))))))
  ∧ (∀ (s : State) (p i : Nat) (x : Insn) (r r1 : RakerS) (d : Dev) (k : Nat) (c : Instr), r = (s.dev.rk p i).next x →
    (k, c) ∈ [(0, .vcvtE4m3ToFp32 p i), (1, .vcvtE5m2ToFp32 p i), (2, .vcvtE3m2ToFp32 p i), (3, .vcvtE2m3ToFp32 p i), (4, .vcvtE2m1ToFp32 p i),
      (5, .vcvtInt8ToFp32 p i), (6, .vcvtE8m0ToFp32 p i), (7, .vcvtBf16ToFp32 p i), (8, .vcvtFp16ToFp32 p i), (9, .vcvtInt4ToInt8 p i),
      (10, .vcvtInt8ToInt32 p i), (11, .vcvtUint8ToInt32 p i), (12, .vcvtInt16ToInt32 p i), (13, .vcvtBin1ToInt8 p i), (14, .vcvtInt32ToFp32 p i)] →
    s.dev.Runs p i (0x34 * 128 + k) x → vconv false k x r s.dev = (none, d, r1) → exec c s = s.done (d.setRk p i r1))
  ∧ (∀ (s : State) (p i : Nat) (x : Insn) (r r1 : RakerS) (d : Dev) (k : Nat) (c : Instr), r = (s.dev.rk p i).next x →
    (k, c) ∈ [(0, .vcvtFp32ToE4m3 p i), (1, .vcvtFp32ToE5m2 p i), (2, .vcvtFp32ToInt8 p i), (3, .vcvtFp32ToE8m0 p i), (4, .vcvtFp32ToBf16 p i),
      (5, .vcvtFp32ToFp16 p i), (6, .vcvtInt32ToInt16 p i), (7, .vcvtInt32ToInt8 p i), (8, .vcvtInt32ToUint8 p i), (9, .vcvtInt16ToInt8 p i),
      (10, .vcvtInt8ToBin1 p i), (11, .vcvtFp32ToInt32 p i)] →
    s.dev.Runs p i (0x35 * 128 + k) x → vconv true k x r s.dev = (none, d, r1) → exec c s = s.done (d.setRk p i r1))

/-- Moves, permutes and reductions (R625, R626, Table 17.6): the active elements are copied, splatted or permuted; VEXT and VINS take one
element, or trap VINDEX; a reduction folds the active elements, and with none has no effect. Vector memory (R633 to R640): a contiguous
access whose parts all pass their checks moves them; a gather loads its active elements in ascending order and a first-fault gather says
which it loaded; a scatter stores them in ascending order. The model's own choices in it: log entry 88. -/
def Obligations.VectorMovesAndMemory : Prop :=
  (∀ (s : State) (p i E : Nat) (x : Insn) (r : RakerS) (a b : Nat → Nat), r = (s.dev.rk p i).next x → E = x.elemBits → a = velem (r.vr x.ra) E →
    b = velem (r.vr x.rb) E →
    (s.dev.Runs p i (0x36 * 128) x → exec (.vmov p i) s
      = s.done (s.dev.setRk p i (r.setV x.rd (vmerge (x.mask r) 32 (r.vr x.rd) (fun j => velem (r.vr x.ra) 32 j)))))
    ∧ (s.dev.Runs p i (0x36 * 128 + 1) x → exec (.vsplat p i) s
      = s.done (s.dev.setRk p i (r.setV x.rd (vmerge (x.mask r) E (r.vr x.rd) (fun _ => (r.gr x.ra).toNat)))))
    ∧ (s.dev.Runs p i (0x36 * 128 + 4) x → exec (.vperm p i) s
      = s.done (s.dev.setRk p i (r.setV x.rd (vmerge (x.mask r) E (r.vr x.rd) (fun j => a (b j % (512 / E))))))))
  ∧ (∀ (s : State) (p i E k : Nat) (x : Insn) (r : RakerS), r = (s.dev.rk p i).next x → E = x.elemBits → k = (r.gr x.rb).toNat → x.mask r ≠ 0 →
    (s.dev.Runs p i (0x36 * 128 + 2) x → k < 512 / E → isActive (x.mask r) (512 / E) k = true →
      exec (.vext p i) s = s.done (s.dev.setRk p i (r.setG x.rd (BitVec.ofNat 64 (velem (r.vr x.ra) E k)))))
    ∧ (s.dev.Runs p i (0x36 * 128 + 3) x → k < 512 / E → isActive (x.mask r) (512 / E) k = true →
      exec (.vins p i) s = s.done (s.dev.setRk p i (r.setV x.rd (vmerge (x.mask r) E (r.vr x.rd)
        (fun j => if j = k then (r.gr x.ra).toNat else velem (r.vr x.rd) E j)))))
    ∧ (s.dev.Runs p i (0x36 * 128 + 2) x → 512 / E ≤ k →
      exec (.vext p i) s = s.done ((s.dev.setRk p i (s.dev.rk p i)).takeExc p i { code := 0x20, flane := some 0 })))
  ∧ (∀ (s : State) (p i E : Nat) (x : Insn) (r : RakerS) (a : Int) (l : List Int) (g : Nat → Int) (e : Instr × Nat × Bool × (Int → Int → Int)),
    r = (s.dev.rk p i).next x → E = x.elemBits →
    e ∈ [(Instr.vradd p i, 5, true, fun (a b : Int) => a + b), (.vrmin p i, 6, true, min), (.vrmax p i, 7, true, max), (.vrminu p i, 8, false, min),
      (.vrmaxu p i, 9, false, max), (.vrand p i, 10, false, fun (a b : Int) => ((a.toNat &&& b.toNat : Nat) : Int)),
      (.vror p i, 11, false, fun (a b : Int) => ((a.toNat ||| b.toNat : Nat) : Int)), (.vrxor p i, 12, false, fun (a b : Int) => ((a.toNat ^^^ b.toNat : Nat) : Int))] →
    g = (fun j => if e.2.2.1 then signed E (velem (r.vr x.ra) E j) else (velem (r.vr x.ra) E j : Int)) →
    s.dev.Runs p i (0x36 * 128 + e.2.1) x →
    ((actives (x.mask r) (512 / E)).map g = [] → exec e.1 s = s.done (s.dev.setRk p i r))
    ∧ ((actives (x.mask r) (512 / E)).map g = a :: l →
      exec e.1 s = s.done (s.dev.setRk p i (r.setG x.rd (BitVec.ofInt 64 (l.foldl e.2.2.2 a))))))
  ∧ (∀ (s : State) (p i : Nat) (out : List Nat) (x : Insn) (r r1 : RakerS) (l : List (Nat × Byte)) (d d1 : Dev), r = (s.dev.rk p i).next x →
    s.dev.Runs p i (0x39 * 128) x → s.dev.checkParts p 0 (slotParts (x.ea r 64) (x.mask r)) out = (none, d) →
    d.loadParts p i (decide (bitsOf x.w 7 1 = 1)) r (slotParts (x.ea r 64) (x.mask r)) out = (.ok l, d1, r1) →
    exec (.vld p i out) s = s.done (d1.setRk p i (r1.setV x.rd (putReg (r.vr x.rd) l))))
  ∧ (∀ (s : State) (p i : Nat) (out : List Nat) (x : Insn) (r r1 : RakerS) (d d1 : Dev), r = (s.dev.rk p i).next x →
    s.dev.Runs p i (0x3A * 128) x → s.dev.checkParts p 1 (slotParts (x.ea r 64) (x.mask r)) out = (none, d) →
    d.storeParts p i (r.vr x.rd) r (slotParts (x.ea r 64) (x.mask r)) out = (d1, r1) →
    exec (.vst p i out) s = s.done (d1.setRk p i r1))
  ∧ (∀ (s : State) (p i : Nat) (out : List Nat) (x : Insn) (r r1 : RakerS) (l : List (Nat × Nat)) (d : Dev), r = (s.dev.rk p i).next x →
    s.dev.gather p i x (x.gatherAddr r) r (actives (x.mask r) 16) out [] = (l, none, d, r1) →
    (s.dev.Runs p i (0x3B * 128) x → exec (.vldg p i out) s = s.done (d.setRk p i (r1.setV x.rd (putSlots (r.vr x.rd) l))))
    ∧ (s.dev.Runs p i (0x3D * 128) x → x.mask r ≠ 0 → exec (.vldgFf p i out) s = s.done (d.setRk p i
      ((r1.setV x.rd (putSlots (r.vr x.rd) l)).setP (bitsOf x.w 0 3) (BitVec.ofNat 16 (bitsAt (l.map (·.1))))))))
  ∧ (∀ (s : State) (p i : Nat) (out : List Nat) (x : Insn) (r r1 : RakerS) (d : Dev), r = (s.dev.rk p i).next x → s.dev.Runs p i (0x3C * 128) x →
    s.dev.scatter p i x (x.gatherAddr r) (r.vr x.rd) r (actives (x.mask r) 16) out = (none, d, r1) →
    exec (.vsts p i out) s = s.done (d.setRk p i r1))

end
end

