-- ==== Sys2Proof/Laws/Tables.lean ====
section
/-! SUPPORT. What the sparse tables do: a read after a write, the canonical form kept (used for registers, memory and every
unit's tables). -/

namespace Sys2Proof.Machine

theorem tget_tdel_same {α : Type} (d : Nat → α) (t : Tab α) (k : Nat) : tget d (tdel k t) k = d k := by
  induction t with
  | nil => rfl
  | cons e t ih =>
    obtain ⟨k', v⟩ := e
    by_cases h : k' = k
    · simp [tdel, h, ih]
    · simp [tdel, h, tget, ih, Ne.symm h]

theorem tget_tdel_ne {α : Type} (d : Nat → α) (t : Tab α) {k j : Nat} (h : j ≠ k) : tget d (tdel k t) j = tget d t j := by
  induction t with
  | nil => rfl
  | cons e t ih =>
    obtain ⟨k', v⟩ := e
    by_cases h' : k' = k
    · subst h'; simp [tdel, tget, ih, h]
    · by_cases hj : j = k' <;> simp [tdel, h', tget, ih, hj]

theorem tget_tins_same {α : Type} (d : Nat → α) (t : Tab α) (k : Nat) (v : α) : tget d (tins k v t) k = v := by
  induction t with
  | nil => simp [tins, tget]
  | cons e t ih =>
    obtain ⟨k', v'⟩ := e
    by_cases h1 : k < k'
    · simp [tins, h1, tget]
    · by_cases h2 : k = k'
      · subst h2; simp [tins, tget]
      · simp [tins, h1, h2, tget, ih]

theorem tget_tins_ne {α : Type} (d : Nat → α) (t : Tab α) {k j : Nat} (v : α) (h : j ≠ k) :
    tget d (tins k v t) j = tget d t j := by
  induction t with
  | nil => simp [tins, tget, h]
  | cons e t ih =>
    obtain ⟨k', v'⟩ := e
    by_cases h1 : k < k'
    · simp [tins, h1, tget, h]
    · by_cases h2 : k = k'
      · subst h2; simp [tins, tget, h]
      · by_cases hj : j = k' <;> simp [tins, h1, h2, tget, ih, hj]

/-- A read of the key just written. -/
@[simp] theorem tget_tput_same {α : Type} [DecidableEq α] (d : Nat → α) (t : Tab α) (k : Nat) (v : α) :
    tget d (tput d t k v) k = v := by
  unfold tput
  split
  · rename_i h; rw [tget_tdel_same, h]
  · exact tget_tins_same d t k v

/-- A read of another key. -/
theorem tget_tput_ne {α : Type} [DecidableEq α] (d : Nat → α) (t : Tab α) {k j : Nat} (v : α) (h : j ≠ k) :
    tget d (tput d t k v) j = tget d t j := by
  unfold tput
  split
  · exact tget_tdel_ne d t h
  · exact tget_tins_ne d t v h

/-- A read through both cases. -/
theorem tget_tput {α : Type} [DecidableEq α] (d : Nat → α) (t : Tab α) (k j : Nat) (v : α) :
    tget d (tput d t k v) j = if j = k then v else tget d t j := by
  split
  · rename_i h; subst h; exact tget_tput_same d t j v
  · rename_i h; exact tget_tput_ne d t v h

/-- A read after some keys were dropped. -/
theorem tget_tdrop {α : Type} (d : Nat → α) (p : Nat → Bool) (t : Tab α) (k : Nat) :
    tget d (tdrop p t) k = if p k then d k else tget d t k := by
  induction t with
  | nil => simp [tdrop, tget]
  | cons e t ih =>
    obtain ⟨k', v⟩ := e
    unfold tdrop at ih ⊢
    by_cases hp : p k' = true
    · by_cases hk : k = k'
      · subst hk; simp [List.filter, hp, ih]
      · simp [List.filter, hp, ih, tget, hk]
    · by_cases hk : k = k'
      · subst hk; simp [List.filter, hp, tget]
      · simp [List.filter, hp, tget, hk, ih]

/-! The canonical form -/

theorem tabWf_cons {α : Type} [DecidableEq α] (d : Nat → α) (k : Nat) (v : α) (t : Tab α) :
    tabWf d ((k, v) :: t) = true ↔ v ≠ d k ∧ (∀ e ∈ t, k < e.1) ∧ tabWf d t = true := by
  simp [tabWf, List.all_eq_true, and_assoc]

theorem mem_tdel {α : Type} {k : Nat} {t : Tab α} {e : Nat × α} (h : e ∈ tdel k t) : e ∈ t := by
  induction t with
  | nil => simp [tdel] at h
  | cons a t ih =>
    obtain ⟨k', v⟩ := a
    by_cases hk : k' = k
    · simp only [tdel, hk, if_true] at h; exact List.mem_cons_of_mem _ (ih h)
    · simp only [tdel, hk, if_false, List.mem_cons] at h
      rcases h with h | h
      · exact h ▸ List.mem_cons_self
      · exact List.mem_cons_of_mem _ (ih h)

theorem mem_tins {α : Type} {k : Nat} {v : α} {t : Tab α} {e : Nat × α} (h : e ∈ tins k v t) : e = (k, v) ∨ e ∈ t := by
  induction t with
  | nil => simpa [tins] using h
  | cons a t ih =>
    obtain ⟨k', v'⟩ := a
    simp only [tins] at h
    split at h
    · simpa using h
    · split at h
      · rcases List.mem_cons.mp h with h | h
        · exact .inl h
        · exact .inr (List.mem_cons_of_mem _ h)
      · rcases List.mem_cons.mp h with h | h
        · exact .inr (h ▸ List.mem_cons_self)
        · rcases ih h with h | h
          · exact .inl h
          · exact .inr (List.mem_cons_of_mem _ h)

theorem tabWf_tdel {α : Type} [DecidableEq α] (d : Nat → α) (k : Nat) (t : Tab α) (h : tabWf d t = true) :
    tabWf d (tdel k t) = true := by
  induction t with
  | nil => rfl
  | cons a t ih =>
    obtain ⟨k', v⟩ := a
    rw [tabWf_cons] at h
    simp only [tdel]
    split
    · exact ih h.2.2
    · exact (tabWf_cons ..).mpr ⟨h.1, fun e he => h.2.1 e (mem_tdel he), ih h.2.2⟩

theorem tabWf_tins {α : Type} [DecidableEq α] (d : Nat → α) (k : Nat) (v : α) (t : Tab α) (hv : v ≠ d k)
    (h : tabWf d t = true) : tabWf d (tins k v t) = true := by
  induction t with
  | nil => simp [tins, tabWf, hv]
  | cons a t ih =>
    obtain ⟨k', v'⟩ := a
    have h0 := h
    rw [tabWf_cons] at h
    simp only [tins]
    split
    · rename_i hlt
      refine (tabWf_cons ..).mpr ⟨hv, fun e he => ?_, h0⟩
      rcases List.mem_cons.mp he with he | he
      · exact he ▸ hlt
      · exact Nat.lt_trans hlt (h.2.1 e he)
    · split
      · rename_i _ heq; subst heq; exact (tabWf_cons ..).mpr ⟨hv, h.2.1, h.2.2⟩
      · refine (tabWf_cons ..).mpr ⟨h.1, fun e he => ?_, ih h.2.2⟩
        rcases mem_tins he with he | he
        · subst he; simp only; omega
        · exact h.2.1 e he

/-- Writing an entry keeps the canonical form. -/
theorem tabWf_tput {α : Type} [DecidableEq α] (d : Nat → α) (k : Nat) (v : α) (t : Tab α) (h : tabWf d t = true) :
    tabWf d (tput d t k v) = true := by
  unfold tput
  split
  · exact tabWf_tdel d k t h
  · rename_i hv; exact tabWf_tins d k v t hv h

/-- Dropping keys keeps the canonical form. -/
theorem tabWf_tdrop {α : Type} [DecidableEq α] (d : Nat → α) (p : Nat → Bool) (t : Tab α) (h : tabWf d t = true) :
    tabWf d (tdrop p t) = true := by
  induction t with
  | nil => rfl
  | cons a t ih =>
    obtain ⟨k, v⟩ := a
    rw [tabWf_cons] at h
    unfold tdrop at ih ⊢
    by_cases hp : p k = true
    · simpa [List.filter, hp] using ih h.2.2
    · simp only [List.filter, hp]
      exact (tabWf_cons ..).mpr ⟨h.1, fun e he => h.2.1 e (List.mem_filter.mp he).1, ih h.2.2⟩

/-- The canonical form depends on the defaults of the keys listed alone. -/
theorem tabWf_congr {α : Type} [DecidableEq α] {d d' : Nat → α} (t : Tab α) (hd : ∀ e ∈ t, d' e.1 = d e.1)
    (h : tabWf d t = true) : tabWf d' t = true := by
  induction t with
  | nil => rfl
  | cons a t ih =>
    obtain ⟨k, v⟩ := a
    rw [tabWf_cons] at h
    refine (tabWf_cons ..).mpr ⟨?_, h.2.1, ih (fun e he => hd e (List.mem_cons_of_mem _ he)) h.2.2⟩
    rw [hd (k, v) List.mem_cons_self]; exact h.1

end Sys2Proof.Machine
end

