-- ==== Sys2Proof/Laws/Bits.lean ====
section
/-! SUPPORT. Bit fields of words, and the fields of the register file. -/

namespace Sys2Proof.Machine

theorem testBit_bitsOf (x lo len i : Nat) : (bitsOf x lo len).testBit i = (decide (i < len) && x.testBit (lo + i)) := by
  simp [bitsOf, Nat.testBit_mod_two_pow, Nat.testBit_div_two_pow, Nat.add_comm]

theorem setBits_testBit (w : Word) (lo len v i : Nat) (hi : i < 64) :
    (setBits w lo len v).toNat.testBit i =
      if lo ≤ i ∧ i < lo + len then v.testBit (i - lo) else w.toNat.testBit i := by
  have hw : (setBits w lo len v).toNat.testBit i = (setBits w lo len v).getLsbD i := by simp [BitVec.testBit_toNat]
  rw [hw]
  have hm : (BitVec.ofNat 64 ((2 ^ len - 1) * 2 ^ lo)).getLsbD i = decide (lo ≤ i ∧ i < lo + len) := by
    rw [BitVec.getLsbD_ofNat, Nat.testBit_mul_two_pow, Nat.testBit_two_pow_sub_one]
    by_cases h1 : lo ≤ i <;> by_cases h2 : i < lo + len <;> simp [hi, h1, h2] <;> omega
  have hv : (BitVec.ofNat 64 (v % 2 ^ len * 2 ^ lo)).getLsbD i = (decide (lo ≤ i ∧ i < lo + len) && v.testBit (i - lo)) := by
    rw [BitVec.getLsbD_ofNat, Nat.testBit_mul_two_pow, Nat.testBit_mod_two_pow]
    by_cases h1 : lo ≤ i <;> by_cases h2 : i < lo + len <;> simp [hi, h1, h2]
    · intro h; omega
    · intro h; omega
  simp only [setBits, BitVec.getLsbD_or, BitVec.getLsbD_and, BitVec.getLsbD_not, hm, hv, hi, decide_true, Bool.true_and]
  by_cases h : lo ≤ i ∧ i < lo + len
  · simp [h]
  · simp [h, BitVec.testBit_toNat]

/-- A field just set reads as what was set, cut to its width. -/
theorem getBits_setBits_same (w : Word) (lo len v : Nat) (h : lo + len ≤ 64) :
    getBits (setBits w lo len v) lo len = v % 2 ^ len := by
  apply Nat.eq_of_testBit_eq
  intro i
  rw [getBits, testBit_bitsOf, Nat.testBit_mod_two_pow]
  by_cases hi : i < len
  · rw [setBits_testBit _ _ _ _ _ (by omega)]
    simp [hi]
  · simp [hi]

/-- A field apart from the one set keeps its value. -/
theorem getBits_setBits_apart (w : Word) (lo len v lo' len' : Nat) (h : lo' + len' ≤ 64) (ha : lo' + len' ≤ lo ∨ lo + len ≤ lo') :
    getBits (setBits w lo len v) lo' len' = getBits w lo' len' := by
  apply Nat.eq_of_testBit_eq
  intro i
  rw [getBits, getBits, testBit_bitsOf, testBit_bitsOf]
  by_cases hi : i < len'
  · rw [setBits_testBit _ _ _ _ _ (by omega)]
    have : ¬ (lo ≤ lo' + i ∧ lo' + i < lo + len) := by omega
    simp [this]
  · simp [hi]

theorem getBits_lt (w : Word) (lo len : Nat) : getBits w lo len < 2 ^ len := by
  unfold getBits bitsOf
  exact Nat.mod_lt _ (Nat.two_pow_pos _)

/-- Two words with the same bits are the same. -/
theorem word_ext {a b : Word} (h : ∀ i, i < 64 → a.toNat.testBit i = b.toNat.testBit i) : a = b := by
  apply BitVec.eq_of_getLsbD_eq
  intro i hi
  simpa [BitVec.testBit_toNat] using h i hi

/-- Setting a field to the value it has changes nothing. -/
theorem setBits_getBits (w : Word) (lo len : Nat) : setBits w lo len (getBits w lo len) = w := by
  apply word_ext
  intro i hi
  rw [setBits_testBit _ _ _ _ _ hi]
  split
  · rename_i hr
    rw [getBits, testBit_bitsOf]
    have : lo + (i - lo) = i := by omega
    simp [this]; omega
  · rfl

/-! Registers -/

@[simp] theorem Dev.reg_setReg_same (s : Dev) (k : Nat) (w : Word) : (s.setReg k w).reg k = w := by
  simp [Dev.reg, Dev.setReg]

theorem Dev.reg_setReg_ne (s : Dev) {k j : Nat} (w : Word) (h : j ≠ k) : (s.setReg k w).reg j = s.reg j := by
  simp [Dev.reg, Dev.setReg, tget_tput_ne _ _ _ h]

theorem Dev.reg_put_same (s : Dev) (f : Fld) (v : Nat) : (s.put f v).reg f.key = setBits (s.reg f.key) f.lo f.len v := by
  simp [Dev.put]

theorem Dev.reg_put_ne (s : Dev) (f : Fld) (v : Nat) {j : Nat} (h : j ≠ f.key) : (s.put f v).reg j = s.reg j := by
  simp [Dev.put, Dev.reg_setReg_ne _ _ h]

/-- A field just set. -/
theorem Dev.get_put_same (s : Dev) (f : Fld) (v : Nat) (h : f.lo + f.len ≤ 64) : (s.put f v).get f = v % 2 ^ f.len := by
  simp only [Dev.get, Dev.reg_put_same]
  exact getBits_setBits_same _ _ _ _ h

/-- A field of another register. -/
theorem Dev.get_put_ne (s : Dev) (f g : Fld) (v : Nat) (h : g.key ≠ f.key) : (s.put f v).get g = s.get g := by
  simp [Dev.get, Dev.reg_put_ne _ _ _ h]

/-- Another field of the same register. -/
theorem Dev.get_put_apart (s : Dev) (f g : Fld) (v : Nat) (hg : g.lo + g.len ≤ 64)
    (h : g.key ≠ f.key ∨ g.lo + g.len ≤ f.lo ∨ f.lo + f.len ≤ g.lo) : (s.put f v).get g = s.get g := by
  by_cases hk : g.key = f.key
  · simp only [Dev.get, hk, Dev.reg_put_same]
    exact getBits_setBits_apart _ _ _ _ _ _ hg (h.resolve_left (by simp [hk]))
  · exact Dev.get_put_ne s f g v hk

/-- The registers a reset names read their Reset values; the others stay. -/
theorem Dev.reg_resetRegs (s : Dev) (p : Nat → Bool) (k : Nat) :
    (s.resetRegs p).reg k = if p k then resetReg k else s.reg k := by
  simp [Dev.reg, Dev.resetRegs, tget_tdrop]

end Sys2Proof.Machine
end

