-- ==== Sys2Proof/Laws/State.lean ====
section
/-! SUPPORT. What each primitive update leaves of each field of the device, by rfl. -/

namespace Sys2Proof.Machine

/-! setReg -/

@[simp] theorem Dev.setReg_mem (s : Dev) (k : Nat) (w : Word) : (s.setReg k w).mem = s.mem := rfl
@[simp] theorem Dev.setReg_stale (s : Dev) (k : Nat) (w : Word) : (s.setReg k w).stale = s.stale := rfl
@[simp] theorem Dev.setReg_poison (s : Dev) (k : Nat) (w : Word) : (s.setReg k w).poison = s.poison := rfl
@[simp] theorem Dev.setReg_tide (s : Dev) (k : Nat) (w : Word) : (s.setReg k w).tide = s.tide := rfl
@[simp] theorem Dev.setReg_free (s : Dev) (k : Nat) (w : Word) : (s.setReg k w).free = s.free := rfl
@[simp] theorem Dev.setReg_sent (s : Dev) (k : Nat) (w : Word) : (s.setReg k w).sent = s.sent := rfl
@[simp] theorem Dev.setReg_time (s : Dev) (k : Nat) (w : Word) : (s.setReg k w).time = s.time := rfl
@[simp] theorem Dev.setReg_clk (s : Dev) (k : Nat) (w : Word) : (s.setReg k w).clk = s.clk := rfl
@[simp] theorem Dev.setReg_cause (s : Dev) (k : Nat) (w : Word) : (s.setReg k w).cause = s.cause := rfl
@[simp] theorem Dev.setReg_power (s : Dev) (k : Nat) (w : Word) : (s.setReg k w).power = s.power := rfl
@[simp] theorem Dev.setReg_slip (s : Dev) (k : Nat) (w : Word) : (s.setReg k w).slip = s.slip := rfl
@[simp] theorem Dev.setReg_log (s : Dev) (k : Nat) (w : Word) : (s.setReg k w).log = s.log := rfl
@[simp] theorem Dev.setReg_err (s : Dev) (k : Nat) (w : Word) : (s.setReg k w).err = s.err := rfl
@[simp] theorem Dev.setReg_toll (s : Dev) (k : Nat) (w : Word) : (s.setReg k w).toll = s.toll := rfl
@[simp] theorem Dev.setReg_tickets (s : Dev) (k : Nat) (w : Word) : (s.setReg k w).tickets = s.tickets := rfl
@[simp] theorem Dev.setReg_work (s : Dev) (k : Nat) (w : Word) : (s.setReg k w).work = s.work := rfl
@[simp] theorem Dev.setReg_gens (s : Dev) (k : Nat) (w : Word) : (s.setReg k w).gens = s.gens := rfl
@[simp] theorem Dev.setReg_ringH (s : Dev) (k : Nat) (w : Word) : (s.setReg k w).ringH = s.ringH := rfl
@[simp] theorem Dev.setReg_berthH (s : Dev) (k : Nat) (w : Word) : (s.setReg k w).berthH = s.berthH := rfl
@[simp] theorem Dev.setReg_moor (s : Dev) (k : Nat) (w : Word) : (s.setReg k w).moor = s.moor := rfl
@[simp] theorem Dev.setReg_moorPages (s : Dev) (k : Nat) (w : Word) : (s.setReg k w).moorPages = s.moorPages := rfl
@[simp] theorem Dev.setReg_host (s : Dev) (k : Nat) (w : Word) : (s.setReg k w).host = s.host := rfl
@[simp] theorem Dev.setReg_outst (s : Dev) (k : Nat) (w : Word) : (s.setReg k w).outst = s.outst := rfl
@[simp] theorem Dev.setReg_nextTag (s : Dev) (k : Nat) (w : Word) : (s.setReg k w).nextTag = s.nextTag := rfl
@[simp] theorem Dev.setReg_ringsOn (s : Dev) (k : Nat) (w : Word) : (s.setReg k w).ringsOn = s.ringsOn := rfl
@[simp] theorem Dev.setReg_credits (s : Dev) (k : Nat) (w : Word) : (s.setReg k w).credits = s.credits := rfl
@[simp] theorem Dev.setReg_lastServed (s : Dev) (k : Nat) (w : Word) : (s.setReg k w).lastServed = s.lastServed := rfl
@[simp] theorem Dev.setReg_ports (s : Dev) (k : Nat) (w : Word) : (s.setReg k w).ports = s.ports := rfl
@[simp] theorem Dev.setReg_xing (s : Dev) (k : Nat) (w : Word) : (s.setReg k w).xing = s.xing := rfl
@[simp] theorem Dev.setReg_xctLast (s : Dev) (k : Nat) (w : Word) : (s.setReg k w).xctLast = s.xctLast := rfl
@[simp] theorem Dev.setReg_xctFreed (s : Dev) (k : Nat) (w : Word) : (s.setReg k w).xctFreed = s.xctFreed := rfl
@[simp] theorem Dev.setReg_tlh (s : Dev) (k : Nat) (w : Word) : (s.setReg k w).tlh = s.tlh := rfl
@[simp] theorem Dev.setReg_sto (s : Dev) (k : Nat) (w : Word) : (s.setReg k w).sto = s.sto := rfl
@[simp] theorem Dev.setReg_rakers (s : Dev) (k : Nat) (w : Word) : (s.setReg k w).rakers = s.rakers := rfl
@[simp] theorem Dev.setReg_pans (s : Dev) (k : Nat) (w : Word) : (s.setReg k w).pans = s.pans := rfl
@[simp] theorem Dev.setReg_cryStall (s : Dev) (k : Nat) (w : Word) : (s.setReg k w).cryStall = s.cryStall := rfl
@[simp] theorem Dev.setReg_frames (s : Dev) (k : Nat) (w : Word) : (s.setReg k w).frames = s.frames := rfl
@[simp] theorem Dev.setReg_txq (s : Dev) (k : Nat) (w : Word) : (s.setReg k w).txq = s.txq := rfl
@[simp] theorem Dev.setReg_nextFrame (s : Dev) (k : Nat) (w : Word) : (s.setReg k w).nextFrame = s.nextFrame := rfl
@[simp] theorem Dev.setReg_wharf (s : Dev) (k : Nat) (w : Word) : (s.setReg k w).wharf = s.wharf := rfl
@[simp] theorem Dev.setReg_ferry (s : Dev) (k : Nat) (w : Word) : (s.setReg k w).ferry = s.ferry := rfl
@[simp] theorem Dev.setReg_brakeFrom (s : Dev) (k : Nat) (w : Word) : (s.setReg k w).brakeFrom = s.brakeFrom := rfl
@[simp] theorem Dev.setReg_tlhs (s : Dev) (k : Nat) (w : Word) : (s.setReg k w).tlhs = s.tlhs := rfl
@[simp] theorem Dev.setReg_can (s : Dev) (k : Nat) (w : Word) : (s.setReg k w).can = s.can := rfl
@[simp] theorem Dev.setReg_gauge (s : Dev) (k : Nat) (w : Word) : (s.setReg k w).gauge = s.gauge := rfl
@[simp] theorem Dev.setReg_vlt (s : Dev) (k : Nat) (w : Word) : (s.setReg k w).vlt = s.vlt := rfl
@[simp] theorem Dev.setReg_tap (s : Dev) (k : Nat) (w : Word) : (s.setReg k w).tap = s.tap := rfl
@[simp] theorem Dev.setReg_moorExt (s : Dev) (k : Nat) (w : Word) : (s.setReg k w).moorExt = s.moorExt := rfl

/-! put -/

@[simp] theorem Dev.put_mem (s : Dev) (f : Fld) (v : Nat) : (s.put f v).mem = s.mem := rfl
@[simp] theorem Dev.put_stale (s : Dev) (f : Fld) (v : Nat) : (s.put f v).stale = s.stale := rfl
@[simp] theorem Dev.put_poison (s : Dev) (f : Fld) (v : Nat) : (s.put f v).poison = s.poison := rfl
@[simp] theorem Dev.put_tide (s : Dev) (f : Fld) (v : Nat) : (s.put f v).tide = s.tide := rfl
@[simp] theorem Dev.put_free (s : Dev) (f : Fld) (v : Nat) : (s.put f v).free = s.free := rfl
@[simp] theorem Dev.put_sent (s : Dev) (f : Fld) (v : Nat) : (s.put f v).sent = s.sent := rfl
@[simp] theorem Dev.put_time (s : Dev) (f : Fld) (v : Nat) : (s.put f v).time = s.time := rfl
@[simp] theorem Dev.put_clk (s : Dev) (f : Fld) (v : Nat) : (s.put f v).clk = s.clk := rfl
@[simp] theorem Dev.put_cause (s : Dev) (f : Fld) (v : Nat) : (s.put f v).cause = s.cause := rfl
@[simp] theorem Dev.put_power (s : Dev) (f : Fld) (v : Nat) : (s.put f v).power = s.power := rfl
@[simp] theorem Dev.put_slip (s : Dev) (f : Fld) (v : Nat) : (s.put f v).slip = s.slip := rfl
@[simp] theorem Dev.put_log (s : Dev) (f : Fld) (v : Nat) : (s.put f v).log = s.log := rfl
@[simp] theorem Dev.put_err (s : Dev) (f : Fld) (v : Nat) : (s.put f v).err = s.err := rfl
@[simp] theorem Dev.put_toll (s : Dev) (f : Fld) (v : Nat) : (s.put f v).toll = s.toll := rfl
@[simp] theorem Dev.put_tickets (s : Dev) (f : Fld) (v : Nat) : (s.put f v).tickets = s.tickets := rfl
@[simp] theorem Dev.put_work (s : Dev) (f : Fld) (v : Nat) : (s.put f v).work = s.work := rfl
@[simp] theorem Dev.put_gens (s : Dev) (f : Fld) (v : Nat) : (s.put f v).gens = s.gens := rfl
@[simp] theorem Dev.put_ringH (s : Dev) (f : Fld) (v : Nat) : (s.put f v).ringH = s.ringH := rfl
@[simp] theorem Dev.put_berthH (s : Dev) (f : Fld) (v : Nat) : (s.put f v).berthH = s.berthH := rfl
@[simp] theorem Dev.put_moor (s : Dev) (f : Fld) (v : Nat) : (s.put f v).moor = s.moor := rfl
@[simp] theorem Dev.put_moorPages (s : Dev) (f : Fld) (v : Nat) : (s.put f v).moorPages = s.moorPages := rfl
@[simp] theorem Dev.put_host (s : Dev) (f : Fld) (v : Nat) : (s.put f v).host = s.host := rfl
@[simp] theorem Dev.put_outst (s : Dev) (f : Fld) (v : Nat) : (s.put f v).outst = s.outst := rfl
@[simp] theorem Dev.put_nextTag (s : Dev) (f : Fld) (v : Nat) : (s.put f v).nextTag = s.nextTag := rfl
@[simp] theorem Dev.put_ringsOn (s : Dev) (f : Fld) (v : Nat) : (s.put f v).ringsOn = s.ringsOn := rfl
@[simp] theorem Dev.put_credits (s : Dev) (f : Fld) (v : Nat) : (s.put f v).credits = s.credits := rfl
@[simp] theorem Dev.put_lastServed (s : Dev) (f : Fld) (v : Nat) : (s.put f v).lastServed = s.lastServed := rfl
@[simp] theorem Dev.put_ports (s : Dev) (f : Fld) (v : Nat) : (s.put f v).ports = s.ports := rfl
@[simp] theorem Dev.put_xing (s : Dev) (f : Fld) (v : Nat) : (s.put f v).xing = s.xing := rfl
@[simp] theorem Dev.put_xctLast (s : Dev) (f : Fld) (v : Nat) : (s.put f v).xctLast = s.xctLast := rfl
@[simp] theorem Dev.put_xctFreed (s : Dev) (f : Fld) (v : Nat) : (s.put f v).xctFreed = s.xctFreed := rfl
@[simp] theorem Dev.put_tlh (s : Dev) (f : Fld) (v : Nat) : (s.put f v).tlh = s.tlh := rfl
@[simp] theorem Dev.put_sto (s : Dev) (f : Fld) (v : Nat) : (s.put f v).sto = s.sto := rfl
@[simp] theorem Dev.put_rakers (s : Dev) (f : Fld) (v : Nat) : (s.put f v).rakers = s.rakers := rfl
@[simp] theorem Dev.put_pans (s : Dev) (f : Fld) (v : Nat) : (s.put f v).pans = s.pans := rfl
@[simp] theorem Dev.put_cryStall (s : Dev) (f : Fld) (v : Nat) : (s.put f v).cryStall = s.cryStall := rfl
@[simp] theorem Dev.put_frames (s : Dev) (f : Fld) (v : Nat) : (s.put f v).frames = s.frames := rfl
@[simp] theorem Dev.put_txq (s : Dev) (f : Fld) (v : Nat) : (s.put f v).txq = s.txq := rfl
@[simp] theorem Dev.put_nextFrame (s : Dev) (f : Fld) (v : Nat) : (s.put f v).nextFrame = s.nextFrame := rfl
@[simp] theorem Dev.put_wharf (s : Dev) (f : Fld) (v : Nat) : (s.put f v).wharf = s.wharf := rfl
@[simp] theorem Dev.put_ferry (s : Dev) (f : Fld) (v : Nat) : (s.put f v).ferry = s.ferry := rfl
@[simp] theorem Dev.put_brakeFrom (s : Dev) (f : Fld) (v : Nat) : (s.put f v).brakeFrom = s.brakeFrom := rfl
@[simp] theorem Dev.put_tlhs (s : Dev) (f : Fld) (v : Nat) : (s.put f v).tlhs = s.tlhs := rfl
@[simp] theorem Dev.put_can (s : Dev) (f : Fld) (v : Nat) : (s.put f v).can = s.can := rfl
@[simp] theorem Dev.put_gauge (s : Dev) (f : Fld) (v : Nat) : (s.put f v).gauge = s.gauge := rfl
@[simp] theorem Dev.put_vlt (s : Dev) (f : Fld) (v : Nat) : (s.put f v).vlt = s.vlt := rfl
@[simp] theorem Dev.put_tap (s : Dev) (f : Fld) (v : Nat) : (s.put f v).tap = s.tap := rfl
@[simp] theorem Dev.put_moorExt (s : Dev) (f : Fld) (v : Nat) : (s.put f v).moorExt = s.moorExt := rfl

/-! sat -/

@[simp] theorem Dev.sat_mem (s : Dev) (f : Fld) (n : Nat) : (s.sat f n).mem = s.mem := rfl
@[simp] theorem Dev.sat_stale (s : Dev) (f : Fld) (n : Nat) : (s.sat f n).stale = s.stale := rfl
@[simp] theorem Dev.sat_poison (s : Dev) (f : Fld) (n : Nat) : (s.sat f n).poison = s.poison := rfl
@[simp] theorem Dev.sat_tide (s : Dev) (f : Fld) (n : Nat) : (s.sat f n).tide = s.tide := rfl
@[simp] theorem Dev.sat_free (s : Dev) (f : Fld) (n : Nat) : (s.sat f n).free = s.free := rfl
@[simp] theorem Dev.sat_sent (s : Dev) (f : Fld) (n : Nat) : (s.sat f n).sent = s.sent := rfl
@[simp] theorem Dev.sat_time (s : Dev) (f : Fld) (n : Nat) : (s.sat f n).time = s.time := rfl
@[simp] theorem Dev.sat_clk (s : Dev) (f : Fld) (n : Nat) : (s.sat f n).clk = s.clk := rfl
@[simp] theorem Dev.sat_cause (s : Dev) (f : Fld) (n : Nat) : (s.sat f n).cause = s.cause := rfl
@[simp] theorem Dev.sat_power (s : Dev) (f : Fld) (n : Nat) : (s.sat f n).power = s.power := rfl
@[simp] theorem Dev.sat_slip (s : Dev) (f : Fld) (n : Nat) : (s.sat f n).slip = s.slip := rfl
@[simp] theorem Dev.sat_log (s : Dev) (f : Fld) (n : Nat) : (s.sat f n).log = s.log := rfl
@[simp] theorem Dev.sat_err (s : Dev) (f : Fld) (n : Nat) : (s.sat f n).err = s.err := rfl
@[simp] theorem Dev.sat_toll (s : Dev) (f : Fld) (n : Nat) : (s.sat f n).toll = s.toll := rfl
@[simp] theorem Dev.sat_tickets (s : Dev) (f : Fld) (n : Nat) : (s.sat f n).tickets = s.tickets := rfl
@[simp] theorem Dev.sat_work (s : Dev) (f : Fld) (n : Nat) : (s.sat f n).work = s.work := rfl
@[simp] theorem Dev.sat_gens (s : Dev) (f : Fld) (n : Nat) : (s.sat f n).gens = s.gens := rfl
@[simp] theorem Dev.sat_ringH (s : Dev) (f : Fld) (n : Nat) : (s.sat f n).ringH = s.ringH := rfl
@[simp] theorem Dev.sat_berthH (s : Dev) (f : Fld) (n : Nat) : (s.sat f n).berthH = s.berthH := rfl
@[simp] theorem Dev.sat_moor (s : Dev) (f : Fld) (n : Nat) : (s.sat f n).moor = s.moor := rfl
@[simp] theorem Dev.sat_moorPages (s : Dev) (f : Fld) (n : Nat) : (s.sat f n).moorPages = s.moorPages := rfl
@[simp] theorem Dev.sat_host (s : Dev) (f : Fld) (n : Nat) : (s.sat f n).host = s.host := rfl
@[simp] theorem Dev.sat_outst (s : Dev) (f : Fld) (n : Nat) : (s.sat f n).outst = s.outst := rfl
@[simp] theorem Dev.sat_nextTag (s : Dev) (f : Fld) (n : Nat) : (s.sat f n).nextTag = s.nextTag := rfl
@[simp] theorem Dev.sat_ringsOn (s : Dev) (f : Fld) (n : Nat) : (s.sat f n).ringsOn = s.ringsOn := rfl
@[simp] theorem Dev.sat_credits (s : Dev) (f : Fld) (n : Nat) : (s.sat f n).credits = s.credits := rfl
@[simp] theorem Dev.sat_lastServed (s : Dev) (f : Fld) (n : Nat) : (s.sat f n).lastServed = s.lastServed := rfl
@[simp] theorem Dev.sat_ports (s : Dev) (f : Fld) (n : Nat) : (s.sat f n).ports = s.ports := rfl
@[simp] theorem Dev.sat_xing (s : Dev) (f : Fld) (n : Nat) : (s.sat f n).xing = s.xing := rfl
@[simp] theorem Dev.sat_xctLast (s : Dev) (f : Fld) (n : Nat) : (s.sat f n).xctLast = s.xctLast := rfl
@[simp] theorem Dev.sat_xctFreed (s : Dev) (f : Fld) (n : Nat) : (s.sat f n).xctFreed = s.xctFreed := rfl
@[simp] theorem Dev.sat_tlh (s : Dev) (f : Fld) (n : Nat) : (s.sat f n).tlh = s.tlh := rfl
@[simp] theorem Dev.sat_sto (s : Dev) (f : Fld) (n : Nat) : (s.sat f n).sto = s.sto := rfl
@[simp] theorem Dev.sat_rakers (s : Dev) (f : Fld) (n : Nat) : (s.sat f n).rakers = s.rakers := rfl
@[simp] theorem Dev.sat_pans (s : Dev) (f : Fld) (n : Nat) : (s.sat f n).pans = s.pans := rfl
@[simp] theorem Dev.sat_cryStall (s : Dev) (f : Fld) (n : Nat) : (s.sat f n).cryStall = s.cryStall := rfl
@[simp] theorem Dev.sat_frames (s : Dev) (f : Fld) (n : Nat) : (s.sat f n).frames = s.frames := rfl
@[simp] theorem Dev.sat_txq (s : Dev) (f : Fld) (n : Nat) : (s.sat f n).txq = s.txq := rfl
@[simp] theorem Dev.sat_nextFrame (s : Dev) (f : Fld) (n : Nat) : (s.sat f n).nextFrame = s.nextFrame := rfl
@[simp] theorem Dev.sat_wharf (s : Dev) (f : Fld) (n : Nat) : (s.sat f n).wharf = s.wharf := rfl
@[simp] theorem Dev.sat_ferry (s : Dev) (f : Fld) (n : Nat) : (s.sat f n).ferry = s.ferry := rfl
@[simp] theorem Dev.sat_brakeFrom (s : Dev) (f : Fld) (n : Nat) : (s.sat f n).brakeFrom = s.brakeFrom := rfl
@[simp] theorem Dev.sat_tlhs (s : Dev) (f : Fld) (n : Nat) : (s.sat f n).tlhs = s.tlhs := rfl
@[simp] theorem Dev.sat_can (s : Dev) (f : Fld) (n : Nat) : (s.sat f n).can = s.can := rfl
@[simp] theorem Dev.sat_gauge (s : Dev) (f : Fld) (n : Nat) : (s.sat f n).gauge = s.gauge := rfl
@[simp] theorem Dev.sat_vlt (s : Dev) (f : Fld) (n : Nat) : (s.sat f n).vlt = s.vlt := rfl
@[simp] theorem Dev.sat_tap (s : Dev) (f : Fld) (n : Nat) : (s.sat f n).tap = s.tap := rfl
@[simp] theorem Dev.sat_moorExt (s : Dev) (f : Fld) (n : Nat) : (s.sat f n).moorExt = s.moorExt := rfl

/-! wrap -/

@[simp] theorem Dev.wrap_mem (s : Dev) (f : Fld) (n : Nat) : (s.wrap f n).mem = s.mem := rfl
@[simp] theorem Dev.wrap_stale (s : Dev) (f : Fld) (n : Nat) : (s.wrap f n).stale = s.stale := rfl
@[simp] theorem Dev.wrap_poison (s : Dev) (f : Fld) (n : Nat) : (s.wrap f n).poison = s.poison := rfl
@[simp] theorem Dev.wrap_tide (s : Dev) (f : Fld) (n : Nat) : (s.wrap f n).tide = s.tide := rfl
@[simp] theorem Dev.wrap_free (s : Dev) (f : Fld) (n : Nat) : (s.wrap f n).free = s.free := rfl
@[simp] theorem Dev.wrap_sent (s : Dev) (f : Fld) (n : Nat) : (s.wrap f n).sent = s.sent := rfl
@[simp] theorem Dev.wrap_time (s : Dev) (f : Fld) (n : Nat) : (s.wrap f n).time = s.time := rfl
@[simp] theorem Dev.wrap_clk (s : Dev) (f : Fld) (n : Nat) : (s.wrap f n).clk = s.clk := rfl
@[simp] theorem Dev.wrap_cause (s : Dev) (f : Fld) (n : Nat) : (s.wrap f n).cause = s.cause := rfl
@[simp] theorem Dev.wrap_power (s : Dev) (f : Fld) (n : Nat) : (s.wrap f n).power = s.power := rfl
@[simp] theorem Dev.wrap_slip (s : Dev) (f : Fld) (n : Nat) : (s.wrap f n).slip = s.slip := rfl
@[simp] theorem Dev.wrap_log (s : Dev) (f : Fld) (n : Nat) : (s.wrap f n).log = s.log := rfl
@[simp] theorem Dev.wrap_err (s : Dev) (f : Fld) (n : Nat) : (s.wrap f n).err = s.err := rfl
@[simp] theorem Dev.wrap_toll (s : Dev) (f : Fld) (n : Nat) : (s.wrap f n).toll = s.toll := rfl
@[simp] theorem Dev.wrap_tickets (s : Dev) (f : Fld) (n : Nat) : (s.wrap f n).tickets = s.tickets := rfl
@[simp] theorem Dev.wrap_work (s : Dev) (f : Fld) (n : Nat) : (s.wrap f n).work = s.work := rfl
@[simp] theorem Dev.wrap_gens (s : Dev) (f : Fld) (n : Nat) : (s.wrap f n).gens = s.gens := rfl
@[simp] theorem Dev.wrap_ringH (s : Dev) (f : Fld) (n : Nat) : (s.wrap f n).ringH = s.ringH := rfl
@[simp] theorem Dev.wrap_berthH (s : Dev) (f : Fld) (n : Nat) : (s.wrap f n).berthH = s.berthH := rfl
@[simp] theorem Dev.wrap_moor (s : Dev) (f : Fld) (n : Nat) : (s.wrap f n).moor = s.moor := rfl
@[simp] theorem Dev.wrap_moorPages (s : Dev) (f : Fld) (n : Nat) : (s.wrap f n).moorPages = s.moorPages := rfl
@[simp] theorem Dev.wrap_host (s : Dev) (f : Fld) (n : Nat) : (s.wrap f n).host = s.host := rfl
@[simp] theorem Dev.wrap_outst (s : Dev) (f : Fld) (n : Nat) : (s.wrap f n).outst = s.outst := rfl
@[simp] theorem Dev.wrap_nextTag (s : Dev) (f : Fld) (n : Nat) : (s.wrap f n).nextTag = s.nextTag := rfl
@[simp] theorem Dev.wrap_ringsOn (s : Dev) (f : Fld) (n : Nat) : (s.wrap f n).ringsOn = s.ringsOn := rfl
@[simp] theorem Dev.wrap_credits (s : Dev) (f : Fld) (n : Nat) : (s.wrap f n).credits = s.credits := rfl
@[simp] theorem Dev.wrap_lastServed (s : Dev) (f : Fld) (n : Nat) : (s.wrap f n).lastServed = s.lastServed := rfl
@[simp] theorem Dev.wrap_ports (s : Dev) (f : Fld) (n : Nat) : (s.wrap f n).ports = s.ports := rfl
@[simp] theorem Dev.wrap_xing (s : Dev) (f : Fld) (n : Nat) : (s.wrap f n).xing = s.xing := rfl
@[simp] theorem Dev.wrap_xctLast (s : Dev) (f : Fld) (n : Nat) : (s.wrap f n).xctLast = s.xctLast := rfl
@[simp] theorem Dev.wrap_xctFreed (s : Dev) (f : Fld) (n : Nat) : (s.wrap f n).xctFreed = s.xctFreed := rfl
@[simp] theorem Dev.wrap_tlh (s : Dev) (f : Fld) (n : Nat) : (s.wrap f n).tlh = s.tlh := rfl
@[simp] theorem Dev.wrap_sto (s : Dev) (f : Fld) (n : Nat) : (s.wrap f n).sto = s.sto := rfl
@[simp] theorem Dev.wrap_rakers (s : Dev) (f : Fld) (n : Nat) : (s.wrap f n).rakers = s.rakers := rfl
@[simp] theorem Dev.wrap_pans (s : Dev) (f : Fld) (n : Nat) : (s.wrap f n).pans = s.pans := rfl
@[simp] theorem Dev.wrap_cryStall (s : Dev) (f : Fld) (n : Nat) : (s.wrap f n).cryStall = s.cryStall := rfl
@[simp] theorem Dev.wrap_frames (s : Dev) (f : Fld) (n : Nat) : (s.wrap f n).frames = s.frames := rfl
@[simp] theorem Dev.wrap_txq (s : Dev) (f : Fld) (n : Nat) : (s.wrap f n).txq = s.txq := rfl
@[simp] theorem Dev.wrap_nextFrame (s : Dev) (f : Fld) (n : Nat) : (s.wrap f n).nextFrame = s.nextFrame := rfl
@[simp] theorem Dev.wrap_wharf (s : Dev) (f : Fld) (n : Nat) : (s.wrap f n).wharf = s.wharf := rfl
@[simp] theorem Dev.wrap_ferry (s : Dev) (f : Fld) (n : Nat) : (s.wrap f n).ferry = s.ferry := rfl
@[simp] theorem Dev.wrap_brakeFrom (s : Dev) (f : Fld) (n : Nat) : (s.wrap f n).brakeFrom = s.brakeFrom := rfl
@[simp] theorem Dev.wrap_tlhs (s : Dev) (f : Fld) (n : Nat) : (s.wrap f n).tlhs = s.tlhs := rfl
@[simp] theorem Dev.wrap_can (s : Dev) (f : Fld) (n : Nat) : (s.wrap f n).can = s.can := rfl
@[simp] theorem Dev.wrap_gauge (s : Dev) (f : Fld) (n : Nat) : (s.wrap f n).gauge = s.gauge := rfl
@[simp] theorem Dev.wrap_vlt (s : Dev) (f : Fld) (n : Nat) : (s.wrap f n).vlt = s.vlt := rfl
@[simp] theorem Dev.wrap_tap (s : Dev) (f : Fld) (n : Nat) : (s.wrap f n).tap = s.tap := rfl
@[simp] theorem Dev.wrap_moorExt (s : Dev) (f : Fld) (n : Nat) : (s.wrap f n).moorExt = s.moorExt := rfl

/-! emit -/

@[simp] theorem Dev.emit_regs (s : Dev) (k : EmitKind) (a : List Nat) (b : List Byte) : (s.emit k a b).regs = s.regs := rfl
@[simp] theorem Dev.emit_mem (s : Dev) (k : EmitKind) (a : List Nat) (b : List Byte) : (s.emit k a b).mem = s.mem := rfl
@[simp] theorem Dev.emit_stale (s : Dev) (k : EmitKind) (a : List Nat) (b : List Byte) : (s.emit k a b).stale = s.stale := rfl
@[simp] theorem Dev.emit_poison (s : Dev) (k : EmitKind) (a : List Nat) (b : List Byte) : (s.emit k a b).poison = s.poison := rfl
@[simp] theorem Dev.emit_tide (s : Dev) (k : EmitKind) (a : List Nat) (b : List Byte) : (s.emit k a b).tide = s.tide := rfl
@[simp] theorem Dev.emit_free (s : Dev) (k : EmitKind) (a : List Nat) (b : List Byte) : (s.emit k a b).free = s.free := rfl
@[simp] theorem Dev.emit_time (s : Dev) (k : EmitKind) (a : List Nat) (b : List Byte) : (s.emit k a b).time = s.time := rfl
@[simp] theorem Dev.emit_clk (s : Dev) (k : EmitKind) (a : List Nat) (b : List Byte) : (s.emit k a b).clk = s.clk := rfl
@[simp] theorem Dev.emit_cause (s : Dev) (k : EmitKind) (a : List Nat) (b : List Byte) : (s.emit k a b).cause = s.cause := rfl
@[simp] theorem Dev.emit_power (s : Dev) (k : EmitKind) (a : List Nat) (b : List Byte) : (s.emit k a b).power = s.power := rfl
@[simp] theorem Dev.emit_slip (s : Dev) (k : EmitKind) (a : List Nat) (b : List Byte) : (s.emit k a b).slip = s.slip := rfl
@[simp] theorem Dev.emit_log (s : Dev) (k : EmitKind) (a : List Nat) (b : List Byte) : (s.emit k a b).log = s.log := rfl
@[simp] theorem Dev.emit_err (s : Dev) (k : EmitKind) (a : List Nat) (b : List Byte) : (s.emit k a b).err = s.err := rfl
@[simp] theorem Dev.emit_toll (s : Dev) (k : EmitKind) (a : List Nat) (b : List Byte) : (s.emit k a b).toll = s.toll := rfl
@[simp] theorem Dev.emit_tickets (s : Dev) (k : EmitKind) (a : List Nat) (b : List Byte) : (s.emit k a b).tickets = s.tickets := rfl
@[simp] theorem Dev.emit_work (s : Dev) (k : EmitKind) (a : List Nat) (b : List Byte) : (s.emit k a b).work = s.work := rfl
@[simp] theorem Dev.emit_gens (s : Dev) (k : EmitKind) (a : List Nat) (b : List Byte) : (s.emit k a b).gens = s.gens := rfl
@[simp] theorem Dev.emit_ringH (s : Dev) (k : EmitKind) (a : List Nat) (b : List Byte) : (s.emit k a b).ringH = s.ringH := rfl
@[simp] theorem Dev.emit_berthH (s : Dev) (k : EmitKind) (a : List Nat) (b : List Byte) : (s.emit k a b).berthH = s.berthH := rfl
@[simp] theorem Dev.emit_moor (s : Dev) (k : EmitKind) (a : List Nat) (b : List Byte) : (s.emit k a b).moor = s.moor := rfl
@[simp] theorem Dev.emit_moorPages (s : Dev) (k : EmitKind) (a : List Nat) (b : List Byte) : (s.emit k a b).moorPages = s.moorPages := rfl
@[simp] theorem Dev.emit_host (s : Dev) (k : EmitKind) (a : List Nat) (b : List Byte) : (s.emit k a b).host = s.host := rfl
@[simp] theorem Dev.emit_outst (s : Dev) (k : EmitKind) (a : List Nat) (b : List Byte) : (s.emit k a b).outst = s.outst := rfl
@[simp] theorem Dev.emit_nextTag (s : Dev) (k : EmitKind) (a : List Nat) (b : List Byte) : (s.emit k a b).nextTag = s.nextTag := rfl
@[simp] theorem Dev.emit_ringsOn (s : Dev) (k : EmitKind) (a : List Nat) (b : List Byte) : (s.emit k a b).ringsOn = s.ringsOn := rfl
@[simp] theorem Dev.emit_credits (s : Dev) (k : EmitKind) (a : List Nat) (b : List Byte) : (s.emit k a b).credits = s.credits := rfl
@[simp] theorem Dev.emit_lastServed (s : Dev) (k : EmitKind) (a : List Nat) (b : List Byte) : (s.emit k a b).lastServed = s.lastServed := rfl
@[simp] theorem Dev.emit_ports (s : Dev) (k : EmitKind) (a : List Nat) (b : List Byte) : (s.emit k a b).ports = s.ports := rfl
@[simp] theorem Dev.emit_xing (s : Dev) (k : EmitKind) (a : List Nat) (b : List Byte) : (s.emit k a b).xing = s.xing := rfl
@[simp] theorem Dev.emit_xctLast (s : Dev) (k : EmitKind) (a : List Nat) (b : List Byte) : (s.emit k a b).xctLast = s.xctLast := rfl
@[simp] theorem Dev.emit_xctFreed (s : Dev) (k : EmitKind) (a : List Nat) (b : List Byte) : (s.emit k a b).xctFreed = s.xctFreed := rfl
@[simp] theorem Dev.emit_tlh (s : Dev) (k : EmitKind) (a : List Nat) (b : List Byte) : (s.emit k a b).tlh = s.tlh := rfl
@[simp] theorem Dev.emit_sto (s : Dev) (k : EmitKind) (a : List Nat) (b : List Byte) : (s.emit k a b).sto = s.sto := rfl
@[simp] theorem Dev.emit_rakers (s : Dev) (k : EmitKind) (a : List Nat) (b : List Byte) : (s.emit k a b).rakers = s.rakers := rfl
@[simp] theorem Dev.emit_pans (s : Dev) (k : EmitKind) (a : List Nat) (b : List Byte) : (s.emit k a b).pans = s.pans := rfl
@[simp] theorem Dev.emit_cryStall (s : Dev) (k : EmitKind) (a : List Nat) (b : List Byte) : (s.emit k a b).cryStall = s.cryStall := rfl
@[simp] theorem Dev.emit_frames (s : Dev) (k : EmitKind) (a : List Nat) (b : List Byte) : (s.emit k a b).frames = s.frames := rfl
@[simp] theorem Dev.emit_txq (s : Dev) (k : EmitKind) (a : List Nat) (b : List Byte) : (s.emit k a b).txq = s.txq := rfl
@[simp] theorem Dev.emit_nextFrame (s : Dev) (k : EmitKind) (a : List Nat) (b : List Byte) : (s.emit k a b).nextFrame = s.nextFrame := rfl
@[simp] theorem Dev.emit_wharf (s : Dev) (k : EmitKind) (a : List Nat) (b : List Byte) : (s.emit k a b).wharf = s.wharf := rfl
@[simp] theorem Dev.emit_ferry (s : Dev) (k : EmitKind) (a : List Nat) (b : List Byte) : (s.emit k a b).ferry = s.ferry := rfl
@[simp] theorem Dev.emit_brakeFrom (s : Dev) (k : EmitKind) (a : List Nat) (b : List Byte) : (s.emit k a b).brakeFrom = s.brakeFrom := rfl
@[simp] theorem Dev.emit_tlhs (s : Dev) (k : EmitKind) (a : List Nat) (b : List Byte) : (s.emit k a b).tlhs = s.tlhs := rfl
@[simp] theorem Dev.emit_can (s : Dev) (k : EmitKind) (a : List Nat) (b : List Byte) : (s.emit k a b).can = s.can := rfl
@[simp] theorem Dev.emit_gauge (s : Dev) (k : EmitKind) (a : List Nat) (b : List Byte) : (s.emit k a b).gauge = s.gauge := rfl
@[simp] theorem Dev.emit_vlt (s : Dev) (k : EmitKind) (a : List Nat) (b : List Byte) : (s.emit k a b).vlt = s.vlt := rfl
@[simp] theorem Dev.emit_tap (s : Dev) (k : EmitKind) (a : List Nat) (b : List Byte) : (s.emit k a b).tap = s.tap := rfl
@[simp] theorem Dev.emit_moorExt (s : Dev) (k : EmitKind) (a : List Nat) (b : List Byte) : (s.emit k a b).moorExt = s.moorExt := rfl

/-! tick -/

@[simp] theorem Dev.tick_regs (s : Dev) : (s.tick).regs = s.regs := rfl
@[simp] theorem Dev.tick_mem (s : Dev) : (s.tick).mem = s.mem := rfl
@[simp] theorem Dev.tick_stale (s : Dev) : (s.tick).stale = s.stale := rfl
@[simp] theorem Dev.tick_poison (s : Dev) : (s.tick).poison = s.poison := rfl
@[simp] theorem Dev.tick_tide (s : Dev) : (s.tick).tide = s.tide := rfl
@[simp] theorem Dev.tick_sent (s : Dev) : (s.tick).sent = s.sent := rfl
@[simp] theorem Dev.tick_time (s : Dev) : (s.tick).time = s.time := rfl
@[simp] theorem Dev.tick_clk (s : Dev) : (s.tick).clk = s.clk := rfl
@[simp] theorem Dev.tick_cause (s : Dev) : (s.tick).cause = s.cause := rfl
@[simp] theorem Dev.tick_power (s : Dev) : (s.tick).power = s.power := rfl
@[simp] theorem Dev.tick_slip (s : Dev) : (s.tick).slip = s.slip := rfl
@[simp] theorem Dev.tick_log (s : Dev) : (s.tick).log = s.log := rfl
@[simp] theorem Dev.tick_err (s : Dev) : (s.tick).err = s.err := rfl
@[simp] theorem Dev.tick_toll (s : Dev) : (s.tick).toll = s.toll := rfl
@[simp] theorem Dev.tick_tickets (s : Dev) : (s.tick).tickets = s.tickets := rfl
@[simp] theorem Dev.tick_work (s : Dev) : (s.tick).work = s.work := rfl
@[simp] theorem Dev.tick_gens (s : Dev) : (s.tick).gens = s.gens := rfl
@[simp] theorem Dev.tick_ringH (s : Dev) : (s.tick).ringH = s.ringH := rfl
@[simp] theorem Dev.tick_berthH (s : Dev) : (s.tick).berthH = s.berthH := rfl
@[simp] theorem Dev.tick_moor (s : Dev) : (s.tick).moor = s.moor := rfl
@[simp] theorem Dev.tick_moorPages (s : Dev) : (s.tick).moorPages = s.moorPages := rfl
@[simp] theorem Dev.tick_host (s : Dev) : (s.tick).host = s.host := rfl
@[simp] theorem Dev.tick_outst (s : Dev) : (s.tick).outst = s.outst := rfl
@[simp] theorem Dev.tick_nextTag (s : Dev) : (s.tick).nextTag = s.nextTag := rfl
@[simp] theorem Dev.tick_ringsOn (s : Dev) : (s.tick).ringsOn = s.ringsOn := rfl
@[simp] theorem Dev.tick_credits (s : Dev) : (s.tick).credits = s.credits := rfl
@[simp] theorem Dev.tick_lastServed (s : Dev) : (s.tick).lastServed = s.lastServed := rfl
@[simp] theorem Dev.tick_ports (s : Dev) : (s.tick).ports = s.ports := rfl
@[simp] theorem Dev.tick_xing (s : Dev) : (s.tick).xing = s.xing := rfl
@[simp] theorem Dev.tick_xctLast (s : Dev) : (s.tick).xctLast = s.xctLast := rfl
@[simp] theorem Dev.tick_xctFreed (s : Dev) : (s.tick).xctFreed = s.xctFreed := rfl
@[simp] theorem Dev.tick_tlh (s : Dev) : (s.tick).tlh = s.tlh := rfl
@[simp] theorem Dev.tick_sto (s : Dev) : (s.tick).sto = s.sto := rfl
@[simp] theorem Dev.tick_rakers (s : Dev) : (s.tick).rakers = s.rakers := rfl
@[simp] theorem Dev.tick_pans (s : Dev) : (s.tick).pans = s.pans := rfl
@[simp] theorem Dev.tick_cryStall (s : Dev) : (s.tick).cryStall = s.cryStall := rfl
@[simp] theorem Dev.tick_frames (s : Dev) : (s.tick).frames = s.frames := rfl
@[simp] theorem Dev.tick_txq (s : Dev) : (s.tick).txq = s.txq := rfl
@[simp] theorem Dev.tick_nextFrame (s : Dev) : (s.tick).nextFrame = s.nextFrame := rfl
@[simp] theorem Dev.tick_wharf (s : Dev) : (s.tick).wharf = s.wharf := rfl
@[simp] theorem Dev.tick_ferry (s : Dev) : (s.tick).ferry = s.ferry := rfl
@[simp] theorem Dev.tick_brakeFrom (s : Dev) : (s.tick).brakeFrom = s.brakeFrom := rfl
@[simp] theorem Dev.tick_tlhs (s : Dev) : (s.tick).tlhs = s.tlhs := rfl
@[simp] theorem Dev.tick_can (s : Dev) : (s.tick).can = s.can := rfl
@[simp] theorem Dev.tick_gauge (s : Dev) : (s.tick).gauge = s.gauge := rfl
@[simp] theorem Dev.tick_vlt (s : Dev) : (s.tick).vlt = s.vlt := rfl
@[simp] theorem Dev.tick_tap (s : Dev) : (s.tick).tap = s.tap := rfl
@[simp] theorem Dev.tick_moorExt (s : Dev) : (s.tick).moorExt = s.moorExt := rfl

/-! setCfg -/

@[simp] theorem Dev.setCfg_regs (s : Dev) (f o : Nat) (v : BitVec 32) : (s.setCfg f o v).regs = s.regs := rfl
@[simp] theorem Dev.setCfg_mem (s : Dev) (f o : Nat) (v : BitVec 32) : (s.setCfg f o v).mem = s.mem := rfl
@[simp] theorem Dev.setCfg_stale (s : Dev) (f o : Nat) (v : BitVec 32) : (s.setCfg f o v).stale = s.stale := rfl
@[simp] theorem Dev.setCfg_poison (s : Dev) (f o : Nat) (v : BitVec 32) : (s.setCfg f o v).poison = s.poison := rfl
@[simp] theorem Dev.setCfg_tide (s : Dev) (f o : Nat) (v : BitVec 32) : (s.setCfg f o v).tide = s.tide := rfl
@[simp] theorem Dev.setCfg_free (s : Dev) (f o : Nat) (v : BitVec 32) : (s.setCfg f o v).free = s.free := rfl
@[simp] theorem Dev.setCfg_sent (s : Dev) (f o : Nat) (v : BitVec 32) : (s.setCfg f o v).sent = s.sent := rfl
@[simp] theorem Dev.setCfg_time (s : Dev) (f o : Nat) (v : BitVec 32) : (s.setCfg f o v).time = s.time := rfl
@[simp] theorem Dev.setCfg_clk (s : Dev) (f o : Nat) (v : BitVec 32) : (s.setCfg f o v).clk = s.clk := rfl
@[simp] theorem Dev.setCfg_cause (s : Dev) (f o : Nat) (v : BitVec 32) : (s.setCfg f o v).cause = s.cause := rfl
@[simp] theorem Dev.setCfg_power (s : Dev) (f o : Nat) (v : BitVec 32) : (s.setCfg f o v).power = s.power := rfl
@[simp] theorem Dev.setCfg_slip (s : Dev) (f o : Nat) (v : BitVec 32) : (s.setCfg f o v).slip = s.slip := rfl
@[simp] theorem Dev.setCfg_log (s : Dev) (f o : Nat) (v : BitVec 32) : (s.setCfg f o v).log = s.log := rfl
@[simp] theorem Dev.setCfg_err (s : Dev) (f o : Nat) (v : BitVec 32) : (s.setCfg f o v).err = s.err := rfl
@[simp] theorem Dev.setCfg_toll (s : Dev) (f o : Nat) (v : BitVec 32) : (s.setCfg f o v).toll = s.toll := rfl
@[simp] theorem Dev.setCfg_tickets (s : Dev) (f o : Nat) (v : BitVec 32) : (s.setCfg f o v).tickets = s.tickets := rfl
@[simp] theorem Dev.setCfg_work (s : Dev) (f o : Nat) (v : BitVec 32) : (s.setCfg f o v).work = s.work := rfl
@[simp] theorem Dev.setCfg_gens (s : Dev) (f o : Nat) (v : BitVec 32) : (s.setCfg f o v).gens = s.gens := rfl
@[simp] theorem Dev.setCfg_ringH (s : Dev) (f o : Nat) (v : BitVec 32) : (s.setCfg f o v).ringH = s.ringH := rfl
@[simp] theorem Dev.setCfg_berthH (s : Dev) (f o : Nat) (v : BitVec 32) : (s.setCfg f o v).berthH = s.berthH := rfl
@[simp] theorem Dev.setCfg_moor (s : Dev) (f o : Nat) (v : BitVec 32) : (s.setCfg f o v).moor = s.moor := rfl
@[simp] theorem Dev.setCfg_moorPages (s : Dev) (f o : Nat) (v : BitVec 32) : (s.setCfg f o v).moorPages = s.moorPages := rfl
@[simp] theorem Dev.setCfg_outst (s : Dev) (f o : Nat) (v : BitVec 32) : (s.setCfg f o v).outst = s.outst := rfl
@[simp] theorem Dev.setCfg_nextTag (s : Dev) (f o : Nat) (v : BitVec 32) : (s.setCfg f o v).nextTag = s.nextTag := rfl
@[simp] theorem Dev.setCfg_ringsOn (s : Dev) (f o : Nat) (v : BitVec 32) : (s.setCfg f o v).ringsOn = s.ringsOn := rfl
@[simp] theorem Dev.setCfg_credits (s : Dev) (f o : Nat) (v : BitVec 32) : (s.setCfg f o v).credits = s.credits := rfl
@[simp] theorem Dev.setCfg_lastServed (s : Dev) (f o : Nat) (v : BitVec 32) : (s.setCfg f o v).lastServed = s.lastServed := rfl
@[simp] theorem Dev.setCfg_ports (s : Dev) (f o : Nat) (v : BitVec 32) : (s.setCfg f o v).ports = s.ports := rfl
@[simp] theorem Dev.setCfg_xing (s : Dev) (f o : Nat) (v : BitVec 32) : (s.setCfg f o v).xing = s.xing := rfl
@[simp] theorem Dev.setCfg_xctLast (s : Dev) (f o : Nat) (v : BitVec 32) : (s.setCfg f o v).xctLast = s.xctLast := rfl
@[simp] theorem Dev.setCfg_xctFreed (s : Dev) (f o : Nat) (v : BitVec 32) : (s.setCfg f o v).xctFreed = s.xctFreed := rfl
@[simp] theorem Dev.setCfg_tlh (s : Dev) (f o : Nat) (v : BitVec 32) : (s.setCfg f o v).tlh = s.tlh := rfl
@[simp] theorem Dev.setCfg_sto (s : Dev) (f o : Nat) (v : BitVec 32) : (s.setCfg f o v).sto = s.sto := rfl
@[simp] theorem Dev.setCfg_rakers (s : Dev) (f o : Nat) (v : BitVec 32) : (s.setCfg f o v).rakers = s.rakers := rfl
@[simp] theorem Dev.setCfg_pans (s : Dev) (f o : Nat) (v : BitVec 32) : (s.setCfg f o v).pans = s.pans := rfl
@[simp] theorem Dev.setCfg_cryStall (s : Dev) (f o : Nat) (v : BitVec 32) : (s.setCfg f o v).cryStall = s.cryStall := rfl
@[simp] theorem Dev.setCfg_frames (s : Dev) (f o : Nat) (v : BitVec 32) : (s.setCfg f o v).frames = s.frames := rfl
@[simp] theorem Dev.setCfg_txq (s : Dev) (f o : Nat) (v : BitVec 32) : (s.setCfg f o v).txq = s.txq := rfl
@[simp] theorem Dev.setCfg_nextFrame (s : Dev) (f o : Nat) (v : BitVec 32) : (s.setCfg f o v).nextFrame = s.nextFrame := rfl
@[simp] theorem Dev.setCfg_wharf (s : Dev) (f o : Nat) (v : BitVec 32) : (s.setCfg f o v).wharf = s.wharf := rfl
@[simp] theorem Dev.setCfg_ferry (s : Dev) (f o : Nat) (v : BitVec 32) : (s.setCfg f o v).ferry = s.ferry := rfl
@[simp] theorem Dev.setCfg_brakeFrom (s : Dev) (f o : Nat) (v : BitVec 32) : (s.setCfg f o v).brakeFrom = s.brakeFrom := rfl
@[simp] theorem Dev.setCfg_tlhs (s : Dev) (f o : Nat) (v : BitVec 32) : (s.setCfg f o v).tlhs = s.tlhs := rfl
@[simp] theorem Dev.setCfg_can (s : Dev) (f o : Nat) (v : BitVec 32) : (s.setCfg f o v).can = s.can := rfl
@[simp] theorem Dev.setCfg_gauge (s : Dev) (f o : Nat) (v : BitVec 32) : (s.setCfg f o v).gauge = s.gauge := rfl
@[simp] theorem Dev.setCfg_vlt (s : Dev) (f o : Nat) (v : BitVec 32) : (s.setCfg f o v).vlt = s.vlt := rfl
@[simp] theorem Dev.setCfg_tap (s : Dev) (f o : Nat) (v : BitVec 32) : (s.setCfg f o v).tap = s.tap := rfl
@[simp] theorem Dev.setCfg_moorExt (s : Dev) (f o : Nat) (v : BitVec 32) : (s.setCfg f o v).moorExt = s.moorExt := rfl

/-! resetRegs -/

@[simp] theorem Dev.resetRegs_mem (s : Dev) (p : Nat → Bool) : (s.resetRegs p).mem = s.mem := rfl
@[simp] theorem Dev.resetRegs_stale (s : Dev) (p : Nat → Bool) : (s.resetRegs p).stale = s.stale := rfl
@[simp] theorem Dev.resetRegs_poison (s : Dev) (p : Nat → Bool) : (s.resetRegs p).poison = s.poison := rfl
@[simp] theorem Dev.resetRegs_tide (s : Dev) (p : Nat → Bool) : (s.resetRegs p).tide = s.tide := rfl
@[simp] theorem Dev.resetRegs_free (s : Dev) (p : Nat → Bool) : (s.resetRegs p).free = s.free := rfl
@[simp] theorem Dev.resetRegs_sent (s : Dev) (p : Nat → Bool) : (s.resetRegs p).sent = s.sent := rfl
@[simp] theorem Dev.resetRegs_time (s : Dev) (p : Nat → Bool) : (s.resetRegs p).time = s.time := rfl
@[simp] theorem Dev.resetRegs_clk (s : Dev) (p : Nat → Bool) : (s.resetRegs p).clk = s.clk := rfl
@[simp] theorem Dev.resetRegs_cause (s : Dev) (p : Nat → Bool) : (s.resetRegs p).cause = s.cause := rfl
@[simp] theorem Dev.resetRegs_power (s : Dev) (p : Nat → Bool) : (s.resetRegs p).power = s.power := rfl
@[simp] theorem Dev.resetRegs_slip (s : Dev) (p : Nat → Bool) : (s.resetRegs p).slip = s.slip := rfl
@[simp] theorem Dev.resetRegs_log (s : Dev) (p : Nat → Bool) : (s.resetRegs p).log = s.log := rfl
@[simp] theorem Dev.resetRegs_err (s : Dev) (p : Nat → Bool) : (s.resetRegs p).err = s.err := rfl
@[simp] theorem Dev.resetRegs_toll (s : Dev) (p : Nat → Bool) : (s.resetRegs p).toll = s.toll := rfl
@[simp] theorem Dev.resetRegs_tickets (s : Dev) (p : Nat → Bool) : (s.resetRegs p).tickets = s.tickets := rfl
@[simp] theorem Dev.resetRegs_work (s : Dev) (p : Nat → Bool) : (s.resetRegs p).work = s.work := rfl
@[simp] theorem Dev.resetRegs_gens (s : Dev) (p : Nat → Bool) : (s.resetRegs p).gens = s.gens := rfl
@[simp] theorem Dev.resetRegs_ringH (s : Dev) (p : Nat → Bool) : (s.resetRegs p).ringH = s.ringH := rfl
@[simp] theorem Dev.resetRegs_berthH (s : Dev) (p : Nat → Bool) : (s.resetRegs p).berthH = s.berthH := rfl
@[simp] theorem Dev.resetRegs_moor (s : Dev) (p : Nat → Bool) : (s.resetRegs p).moor = s.moor := rfl
@[simp] theorem Dev.resetRegs_moorPages (s : Dev) (p : Nat → Bool) : (s.resetRegs p).moorPages = s.moorPages := rfl
@[simp] theorem Dev.resetRegs_host (s : Dev) (p : Nat → Bool) : (s.resetRegs p).host = s.host := rfl
@[simp] theorem Dev.resetRegs_outst (s : Dev) (p : Nat → Bool) : (s.resetRegs p).outst = s.outst := rfl
@[simp] theorem Dev.resetRegs_nextTag (s : Dev) (p : Nat → Bool) : (s.resetRegs p).nextTag = s.nextTag := rfl
@[simp] theorem Dev.resetRegs_ringsOn (s : Dev) (p : Nat → Bool) : (s.resetRegs p).ringsOn = s.ringsOn := rfl
@[simp] theorem Dev.resetRegs_credits (s : Dev) (p : Nat → Bool) : (s.resetRegs p).credits = s.credits := rfl
@[simp] theorem Dev.resetRegs_lastServed (s : Dev) (p : Nat → Bool) : (s.resetRegs p).lastServed = s.lastServed := rfl
@[simp] theorem Dev.resetRegs_ports (s : Dev) (p : Nat → Bool) : (s.resetRegs p).ports = s.ports := rfl
@[simp] theorem Dev.resetRegs_xing (s : Dev) (p : Nat → Bool) : (s.resetRegs p).xing = s.xing := rfl
@[simp] theorem Dev.resetRegs_xctLast (s : Dev) (p : Nat → Bool) : (s.resetRegs p).xctLast = s.xctLast := rfl
@[simp] theorem Dev.resetRegs_xctFreed (s : Dev) (p : Nat → Bool) : (s.resetRegs p).xctFreed = s.xctFreed := rfl
@[simp] theorem Dev.resetRegs_tlh (s : Dev) (p : Nat → Bool) : (s.resetRegs p).tlh = s.tlh := rfl
@[simp] theorem Dev.resetRegs_sto (s : Dev) (p : Nat → Bool) : (s.resetRegs p).sto = s.sto := rfl
@[simp] theorem Dev.resetRegs_rakers (s : Dev) (p : Nat → Bool) : (s.resetRegs p).rakers = s.rakers := rfl
@[simp] theorem Dev.resetRegs_pans (s : Dev) (p : Nat → Bool) : (s.resetRegs p).pans = s.pans := rfl
@[simp] theorem Dev.resetRegs_cryStall (s : Dev) (p : Nat → Bool) : (s.resetRegs p).cryStall = s.cryStall := rfl
@[simp] theorem Dev.resetRegs_frames (s : Dev) (p : Nat → Bool) : (s.resetRegs p).frames = s.frames := rfl
@[simp] theorem Dev.resetRegs_txq (s : Dev) (p : Nat → Bool) : (s.resetRegs p).txq = s.txq := rfl
@[simp] theorem Dev.resetRegs_nextFrame (s : Dev) (p : Nat → Bool) : (s.resetRegs p).nextFrame = s.nextFrame := rfl
@[simp] theorem Dev.resetRegs_wharf (s : Dev) (p : Nat → Bool) : (s.resetRegs p).wharf = s.wharf := rfl
@[simp] theorem Dev.resetRegs_ferry (s : Dev) (p : Nat → Bool) : (s.resetRegs p).ferry = s.ferry := rfl
@[simp] theorem Dev.resetRegs_brakeFrom (s : Dev) (p : Nat → Bool) : (s.resetRegs p).brakeFrom = s.brakeFrom := rfl
@[simp] theorem Dev.resetRegs_tlhs (s : Dev) (p : Nat → Bool) : (s.resetRegs p).tlhs = s.tlhs := rfl
@[simp] theorem Dev.resetRegs_can (s : Dev) (p : Nat → Bool) : (s.resetRegs p).can = s.can := rfl
@[simp] theorem Dev.resetRegs_gauge (s : Dev) (p : Nat → Bool) : (s.resetRegs p).gauge = s.gauge := rfl
@[simp] theorem Dev.resetRegs_vlt (s : Dev) (p : Nat → Bool) : (s.resetRegs p).vlt = s.vlt := rfl
@[simp] theorem Dev.resetRegs_tap (s : Dev) (p : Nat → Bool) : (s.resetRegs p).tap = s.tap := rfl
@[simp] theorem Dev.resetRegs_moorExt (s : Dev) (p : Nat → Bool) : (s.resetRegs p).moorExt = s.moorExt := rfl

/-! writeMem -/

@[simp] theorem Dev.writeMem_regs (s : Dev) (a : Nat) (bs : List Byte) (bad : Bool) : (s.writeMem a bs bad).regs = s.regs := rfl
@[simp] theorem Dev.writeMem_stale (s : Dev) (a : Nat) (bs : List Byte) (bad : Bool) : (s.writeMem a bs bad).stale = s.stale := rfl
@[simp] theorem Dev.writeMem_tide (s : Dev) (a : Nat) (bs : List Byte) (bad : Bool) : (s.writeMem a bs bad).tide = s.tide := rfl
@[simp] theorem Dev.writeMem_free (s : Dev) (a : Nat) (bs : List Byte) (bad : Bool) : (s.writeMem a bs bad).free = s.free := rfl
@[simp] theorem Dev.writeMem_sent (s : Dev) (a : Nat) (bs : List Byte) (bad : Bool) : (s.writeMem a bs bad).sent = s.sent := rfl
@[simp] theorem Dev.writeMem_time (s : Dev) (a : Nat) (bs : List Byte) (bad : Bool) : (s.writeMem a bs bad).time = s.time := rfl
@[simp] theorem Dev.writeMem_clk (s : Dev) (a : Nat) (bs : List Byte) (bad : Bool) : (s.writeMem a bs bad).clk = s.clk := rfl
@[simp] theorem Dev.writeMem_cause (s : Dev) (a : Nat) (bs : List Byte) (bad : Bool) : (s.writeMem a bs bad).cause = s.cause := rfl
@[simp] theorem Dev.writeMem_power (s : Dev) (a : Nat) (bs : List Byte) (bad : Bool) : (s.writeMem a bs bad).power = s.power := rfl
@[simp] theorem Dev.writeMem_slip (s : Dev) (a : Nat) (bs : List Byte) (bad : Bool) : (s.writeMem a bs bad).slip = s.slip := rfl
@[simp] theorem Dev.writeMem_log (s : Dev) (a : Nat) (bs : List Byte) (bad : Bool) : (s.writeMem a bs bad).log = s.log := rfl
@[simp] theorem Dev.writeMem_err (s : Dev) (a : Nat) (bs : List Byte) (bad : Bool) : (s.writeMem a bs bad).err = s.err := rfl
@[simp] theorem Dev.writeMem_toll (s : Dev) (a : Nat) (bs : List Byte) (bad : Bool) : (s.writeMem a bs bad).toll = s.toll := rfl
@[simp] theorem Dev.writeMem_tickets (s : Dev) (a : Nat) (bs : List Byte) (bad : Bool) : (s.writeMem a bs bad).tickets = s.tickets := rfl
@[simp] theorem Dev.writeMem_work (s : Dev) (a : Nat) (bs : List Byte) (bad : Bool) : (s.writeMem a bs bad).work = s.work := rfl
@[simp] theorem Dev.writeMem_gens (s : Dev) (a : Nat) (bs : List Byte) (bad : Bool) : (s.writeMem a bs bad).gens = s.gens := rfl
@[simp] theorem Dev.writeMem_ringH (s : Dev) (a : Nat) (bs : List Byte) (bad : Bool) : (s.writeMem a bs bad).ringH = s.ringH := rfl
@[simp] theorem Dev.writeMem_berthH (s : Dev) (a : Nat) (bs : List Byte) (bad : Bool) : (s.writeMem a bs bad).berthH = s.berthH := rfl
@[simp] theorem Dev.writeMem_moor (s : Dev) (a : Nat) (bs : List Byte) (bad : Bool) : (s.writeMem a bs bad).moor = s.moor := rfl
@[simp] theorem Dev.writeMem_moorPages (s : Dev) (a : Nat) (bs : List Byte) (bad : Bool) : (s.writeMem a bs bad).moorPages = s.moorPages := rfl
@[simp] theorem Dev.writeMem_host (s : Dev) (a : Nat) (bs : List Byte) (bad : Bool) : (s.writeMem a bs bad).host = s.host := rfl
@[simp] theorem Dev.writeMem_outst (s : Dev) (a : Nat) (bs : List Byte) (bad : Bool) : (s.writeMem a bs bad).outst = s.outst := rfl
@[simp] theorem Dev.writeMem_nextTag (s : Dev) (a : Nat) (bs : List Byte) (bad : Bool) : (s.writeMem a bs bad).nextTag = s.nextTag := rfl
@[simp] theorem Dev.writeMem_ringsOn (s : Dev) (a : Nat) (bs : List Byte) (bad : Bool) : (s.writeMem a bs bad).ringsOn = s.ringsOn := rfl
@[simp] theorem Dev.writeMem_credits (s : Dev) (a : Nat) (bs : List Byte) (bad : Bool) : (s.writeMem a bs bad).credits = s.credits := rfl
@[simp] theorem Dev.writeMem_lastServed (s : Dev) (a : Nat) (bs : List Byte) (bad : Bool) : (s.writeMem a bs bad).lastServed = s.lastServed := rfl
@[simp] theorem Dev.writeMem_ports (s : Dev) (a : Nat) (bs : List Byte) (bad : Bool) : (s.writeMem a bs bad).ports = s.ports := rfl
@[simp] theorem Dev.writeMem_xing (s : Dev) (a : Nat) (bs : List Byte) (bad : Bool) : (s.writeMem a bs bad).xing = s.xing := rfl
@[simp] theorem Dev.writeMem_xctLast (s : Dev) (a : Nat) (bs : List Byte) (bad : Bool) : (s.writeMem a bs bad).xctLast = s.xctLast := rfl
@[simp] theorem Dev.writeMem_xctFreed (s : Dev) (a : Nat) (bs : List Byte) (bad : Bool) : (s.writeMem a bs bad).xctFreed = s.xctFreed := rfl
@[simp] theorem Dev.writeMem_tlh (s : Dev) (a : Nat) (bs : List Byte) (bad : Bool) : (s.writeMem a bs bad).tlh = s.tlh := rfl
@[simp] theorem Dev.writeMem_sto (s : Dev) (a : Nat) (bs : List Byte) (bad : Bool) : (s.writeMem a bs bad).sto = s.sto := rfl
@[simp] theorem Dev.writeMem_rakers (s : Dev) (a : Nat) (bs : List Byte) (bad : Bool) : (s.writeMem a bs bad).rakers = s.rakers := rfl
@[simp] theorem Dev.writeMem_pans (s : Dev) (a : Nat) (bs : List Byte) (bad : Bool) : (s.writeMem a bs bad).pans = s.pans := rfl
@[simp] theorem Dev.writeMem_cryStall (s : Dev) (a : Nat) (bs : List Byte) (bad : Bool) : (s.writeMem a bs bad).cryStall = s.cryStall := rfl
@[simp] theorem Dev.writeMem_frames (s : Dev) (a : Nat) (bs : List Byte) (bad : Bool) : (s.writeMem a bs bad).frames = s.frames := rfl
@[simp] theorem Dev.writeMem_txq (s : Dev) (a : Nat) (bs : List Byte) (bad : Bool) : (s.writeMem a bs bad).txq = s.txq := rfl
@[simp] theorem Dev.writeMem_nextFrame (s : Dev) (a : Nat) (bs : List Byte) (bad : Bool) : (s.writeMem a bs bad).nextFrame = s.nextFrame := rfl
@[simp] theorem Dev.writeMem_wharf (s : Dev) (a : Nat) (bs : List Byte) (bad : Bool) : (s.writeMem a bs bad).wharf = s.wharf := rfl
@[simp] theorem Dev.writeMem_ferry (s : Dev) (a : Nat) (bs : List Byte) (bad : Bool) : (s.writeMem a bs bad).ferry = s.ferry := rfl
@[simp] theorem Dev.writeMem_brakeFrom (s : Dev) (a : Nat) (bs : List Byte) (bad : Bool) : (s.writeMem a bs bad).brakeFrom = s.brakeFrom := rfl
@[simp] theorem Dev.writeMem_tlhs (s : Dev) (a : Nat) (bs : List Byte) (bad : Bool) : (s.writeMem a bs bad).tlhs = s.tlhs := rfl
@[simp] theorem Dev.writeMem_can (s : Dev) (a : Nat) (bs : List Byte) (bad : Bool) : (s.writeMem a bs bad).can = s.can := rfl
@[simp] theorem Dev.writeMem_gauge (s : Dev) (a : Nat) (bs : List Byte) (bad : Bool) : (s.writeMem a bs bad).gauge = s.gauge := rfl
@[simp] theorem Dev.writeMem_vlt (s : Dev) (a : Nat) (bs : List Byte) (bad : Bool) : (s.writeMem a bs bad).vlt = s.vlt := rfl
@[simp] theorem Dev.writeMem_tap (s : Dev) (a : Nat) (bs : List Byte) (bad : Bool) : (s.writeMem a bs bad).tap = s.tap := rfl
@[simp] theorem Dev.writeMem_moorExt (s : Dev) (a : Nat) (bs : List Byte) (bad : Bool) : (s.writeMem a bs bad).moorExt = s.moorExt := rfl

end Sys2Proof.Machine
end

