-- ==== Sys2Proof/Laws/Memory.lean ====
section
/-! SUPPORT. The memory: what a byte reads as after each operation, and the canonical form kept by every one of them. -/

namespace Sys2Proof.Machine

/-! Bytes entered one after the other -/

theorem tget_putBytes (d : Nat → Byte) (m : Tab Byte) (a : Nat) (bs : List Byte) (k : Nat) :
    tget d (putBytes d m a bs) k = if h : a ≤ k ∧ k < a + bs.length then bs[k - a]'(by omega) else tget d m k := by
  induction bs generalizing m a with
  | nil =>
    simp [putBytes]
  | cons b bs ih =>
    simp only [putBytes, ih, List.length_cons]
    by_cases h : a + 1 ≤ k ∧ k < a + 1 + bs.length
    · have h2 : a ≤ k ∧ k < a + (bs.length + 1) := by omega
      have h3 : k - a = (k - (a + 1)) + 1 := by omega
      simp only [h, and_self, dite_true, h2, h3, List.getElem_cons_succ]
    · simp only [h, dite_false]
      by_cases hk : k = a
      · subst hk
        have h2 : k ≤ k ∧ k < k + (bs.length + 1) := by omega
        simp [h2]
      · have h2 : ¬ (a ≤ k ∧ k < a + (bs.length + 1)) := by omega
        simp [h2, tget_tput_ne _ _ _ hk]

theorem tabWf_putBytes (d : Nat → Byte) (m : Tab Byte) (a : Nat) (bs : List Byte) (h : tabWf d m = true) :
    tabWf d (putBytes d m a bs) = true := by
  induction bs generalizing m a with
  | nil => exact h
  | cons b bs ih => exact ih _ _ (tabWf_tput d a b m h)

/-- Every address outside what is written reads as before. -/
theorem Dev.byte_writeMem_outside (s : Dev) (a : Nat) (bs : List Byte) (bad : Bool) (k : Nat)
    (h : k < a ∨ a + bs.length ≤ k) : (s.writeMem a bs bad).byte k = s.byte k := by
  have h2 : ¬ (a ≤ k ∧ k < a + bs.length) := by omega
  simp [Dev.byte, Dev.writeMem, tget_putBytes, h2]

/-- A byte just written. -/
theorem Dev.byte_writeMem_inside (s : Dev) (a : Nat) (bs : List Byte) (bad : Bool) (i : Nat) (h : i < bs.length) :
    (s.writeMem a bs bad).byte (a + i) = bs[i] := by
  have h2 : a ≤ a + i ∧ a + i < a + bs.length := by omega
  simp [Dev.byte, Dev.writeMem, tget_putBytes, h2]

/-- A read of what was just written. -/
theorem Dev.bytes_writeMem (s : Dev) (a : Nat) (bs : List Byte) (bad : Bool) : (s.writeMem a bs bad).bytes a bs.length = bs := by
  apply List.ext_getElem
  · simp [Dev.bytes]
  · intro i h1 h2
    simp only [Dev.bytes, List.getElem_map, List.getElem_range]
    exact Dev.byte_writeMem_inside s a bs bad i h2

/-! The canonical form -/

theorem Memory.wf_writeMem (s : Dev) (a : Nat) (bs : List Byte) (bad : Bool) (h : Memory.wf s = true) :
    Memory.wf (s.writeMem a bs bad) = true := tabWf_putBytes _ _ _ _ h

theorem Memory.wf_writeMarked (s : Dev) (a : Nat) (bs : List Byte) (ms : List (Nat × Nat)) (h : Memory.wf s = true) :
    Memory.wf (s.writeMarked a bs ms) = true := tabWf_putBytes _ _ _ _ h

theorem memDflt_cons (lo hi tag : Nat) (st : List (Nat × Nat × Nat)) (k : Nat) :
    memDflt ((lo, hi, tag) :: st) k = if lo ≤ k ∧ k < hi then Config.staleByte tag k else memDflt st k := by
  unfold memDflt
  by_cases h : lo ≤ k ∧ k < hi <;> simp [List.find?, h]

/-- An address outside a cleared range has the default it had. -/
theorem memDflt_cut (st : List (Nat × Nat × Nat)) (a n k : Nat) (hk : ¬ (a ≤ k ∧ k < a + n)) :
    memDflt (st.flatMap (fun r =>
      if r.2.1 ≤ a ∨ a + n ≤ r.1 then [r]
      else (if r.1 < a then [(r.1, a, r.2.2)] else []) ++ (if a + n < r.2.1 then [(a + n, r.2.1, r.2.2)] else []))) k = memDflt st k := by
  induction st with
  | nil => rfl
  | cons r st ih =>
    obtain ⟨lo, hi, tag⟩ := r
    rw [List.flatMap_cons, memDflt_cons]
    by_cases h1 : hi ≤ a ∨ a + n ≤ lo
    · rw [if_pos h1, List.singleton_append, memDflt_cons, ih]
    · rw [if_neg h1]
      by_cases h3 : lo < a <;> by_cases h6 : a + n < hi <;>
        simp only [h3, h6, if_true, if_false, List.nil_append, List.append_nil, List.cons_append, memDflt_cons, ih] <;>
        split_ifs <;> first | rfl | omega

theorem mem_tdrop {α : Type} {p : Nat → Bool} {t : Tab α} {e : Nat × α} (h : e ∈ tdrop p t) : e ∈ t ∧ p e.1 = false := by
  simpa [tdrop] using h

theorem Dev.zeroMem_mem (s : Dev) (a n : Nat) : (s.zeroMem a n).mem = tdrop (fun k => decide (a ≤ k ∧ k < a + n)) s.mem := rfl

theorem Dev.zeroMem_stale (s : Dev) (a n : Nat) : (s.zeroMem a n).stale = s.stale.flatMap (fun r =>
      if r.2.1 ≤ a ∨ a + n ≤ r.1 then [r]
      else (if r.1 < a then [(r.1, a, r.2.2)] else []) ++ (if a + n < r.2.1 then [(a + n, r.2.1, r.2.2)] else [])) := rfl

theorem Memory.wf_zeroMem (s : Dev) (a n : Nat) (h : Memory.wf s = true) : Memory.wf (s.zeroMem a n) = true := by
  unfold Memory.wf
  rw [Dev.zeroMem_mem, Dev.zeroMem_stale]
  refine tabWf_congr (d := memDflt s.stale) _ (fun e he => ?_) (tabWf_tdrop _ _ _ h)
  have := (mem_tdrop he).2
  exact memDflt_cut s.stale a n e.1 (by simpa using this)

theorem Memory.wf_scrambleMem (s : Dev) (a n : Nat) (h : Memory.wf s = true) : Memory.wf (s.scrambleMem a n) = true := by
  have h1 := Memory.wf_zeroMem s a n h
  show tabWf (memDflt ((a, a + n, _) :: (s.zeroMem a n).stale)) (s.zeroMem a n).mem = true
  unfold Memory.wf at h1
  refine tabWf_congr (d := memDflt (s.zeroMem a n).stale) _ (fun e he => ?_) h1
  have h2 : ¬ (a ≤ e.1 ∧ e.1 < a + n) := by
    have := (mem_tdrop (show e ∈ tdrop (fun k => decide (a ≤ k ∧ k < a + n)) s.mem from he)).2
    simpa using this
  exact (memDflt_cons a (a + n) _ _ e.1).trans (if_neg h2)

theorem Memory.wf_reset : Memory.wf Dev.reset = true := rfl

/-- Outside a cleared range every byte stays; inside it reads zero. -/
theorem Dev.byte_zeroMem_outside (s : Dev) (a n k : Nat) (h : ¬ (a ≤ k ∧ k < a + n)) : (s.zeroMem a n).byte k = s.byte k := by
  have hd := memDflt_cut s.stale a n k h
  unfold Dev.byte
  rw [Dev.zeroMem_mem, tget_tdrop, Dev.zeroMem_stale]
  simp only [h, decide_false]
  generalize memDflt (List.flatMap _ s.stale) = d' at *
  clear h
  induction s.mem with
  | nil => simpa [tget] using hd
  | cons e t ih => obtain ⟨j, v⟩ := e; by_cases hj : k = j <;> simp_all [tget]

end Sys2Proof.Machine
end

