-- ==== Sys2Proof/Laws/Reset.lean ====
section
/-! SUPPORT. What the registers of a range read after reset (R9), without a look at each of them. -/

namespace Sys2Proof.Machine

/-- The rows whose Reset value a table of the spec fills in (R9). -/
def filledIn : List String :=
  ["CLK_ISL_TARGET", "PWR_ISL", "PWR_STATUS", "PWR_LAT", "GAU_CFG", "GAU_THRESH", "GAU_MINMAX", "ERR_GLEDA", "WHF_MAC_STATUS"]

/-- A property of 0 and of every plain row that meets a range of keys holds of every register of the range at reset. -/
theorem resetReg_range (P : Word → Bool) (lo hi k : Nat) (h0 : P 0 = true) (hl : lo ≤ k) (hh : k < hi)
    (h : regTable.all (fun sp => decide (sp.s1 ≠ 0) && (decide (hi ≤ sp.base) || decide (sp.base + sp.n1 * sp.s1 ≤ lo)
      || (!filledIn.contains sp.name && P sp.resetWord))) = true) : P (resetReg k) = true := by
  unfold resetReg
  cases hf : findSpec k with
  | none => exact h0
  | some sp =>
    have hm := List.mem_of_find?_eq_some hf
    have hc := List.find?_some hf
    have hs := List.all_eq_true.1 h sp hm
    simp only [Bool.and_eq_true, Bool.or_eq_true, decide_eq_true_eq] at hs
    have hp : 0 < sp.s1 := Nat.pos_of_ne_zero hs.1
    simp only [RegSpec.covers, Bool.and_eq_true, decide_eq_true_eq] at hc
    have h1 : k - sp.base < sp.n1 * sp.s1 := (Nat.div_lt_iff_lt_mul hp).1 hc.1.1.2
    have hb := hc.1.1.1
    have hq : (!filledIn.contains sp.name && P sp.resetWord) = true := by
      rcases hs.2 with (h2 | h2) | h2
      · omega
      · omega
      · simpa using h2
    simp only [Bool.and_eq_true, Bool.not_eq_true', filledIn] at hq
    simp only [List.contains_cons, List.contains_nil, Bool.or_false, Bool.or_eq_false_iff, beq_eq_false_iff_ne, ne_eq] at hq
    obtain ⟨⟨n1, n2, n3, n4, n5, n6, n7, n8, n9⟩, hP⟩ := hq
    simp only [n1, n2, n3, n4, n5, n6, n7, n8, n9, if_false, decide_false, Bool.false_and, Bool.false_eq_true]
    exact hP

end Sys2Proof.Machine
end

