-- ==== Sys2Proof/Laws/Settle.lean ====
section
/-! SUPPORT. The end of a command: what follows other state has followed it, and nothing else has moved. -/

namespace Sys2Proof.Machine

/-- Only registers follow. -/
theorem Dev.follow_eq (s : Dev) : s.follow = { s with regs := s.follow.regs } := rfl

@[simp] theorem Dev.follow_mem (s : Dev) : s.follow.mem = s.mem := (congrArg Dev.mem s.follow_eq :)
@[simp] theorem Dev.follow_stale (s : Dev) : s.follow.stale = s.stale := (congrArg Dev.stale s.follow_eq :)
@[simp] theorem Dev.follow_poison (s : Dev) : s.follow.poison = s.poison := (congrArg Dev.poison s.follow_eq :)
@[simp] theorem Dev.follow_tide (s : Dev) : s.follow.tide = s.tide := (congrArg Dev.tide s.follow_eq :)
@[simp] theorem Dev.follow_free (s : Dev) : s.follow.free = s.free := (congrArg Dev.free s.follow_eq :)
@[simp] theorem Dev.follow_sent (s : Dev) : s.follow.sent = s.sent := (congrArg Dev.sent s.follow_eq :)
@[simp] theorem Dev.follow_time (s : Dev) : s.follow.time = s.time := (congrArg Dev.time s.follow_eq :)
@[simp] theorem Dev.follow_clk (s : Dev) : s.follow.clk = s.clk := (congrArg Dev.clk s.follow_eq :)
@[simp] theorem Dev.follow_cause (s : Dev) : s.follow.cause = s.cause := (congrArg Dev.cause s.follow_eq :)
@[simp] theorem Dev.follow_power (s : Dev) : s.follow.power = s.power := (congrArg Dev.power s.follow_eq :)
@[simp] theorem Dev.follow_slip (s : Dev) : s.follow.slip = s.slip := (congrArg Dev.slip s.follow_eq :)
@[simp] theorem Dev.follow_log (s : Dev) : s.follow.log = s.log := (congrArg Dev.log s.follow_eq :)
@[simp] theorem Dev.follow_err (s : Dev) : s.follow.err = s.err := (congrArg Dev.err s.follow_eq :)
@[simp] theorem Dev.follow_toll (s : Dev) : s.follow.toll = s.toll := (congrArg Dev.toll s.follow_eq :)
@[simp] theorem Dev.follow_tickets (s : Dev) : s.follow.tickets = s.tickets := (congrArg Dev.tickets s.follow_eq :)
@[simp] theorem Dev.follow_work (s : Dev) : s.follow.work = s.work := (congrArg Dev.work s.follow_eq :)
@[simp] theorem Dev.follow_gens (s : Dev) : s.follow.gens = s.gens := (congrArg Dev.gens s.follow_eq :)
@[simp] theorem Dev.follow_ringH (s : Dev) : s.follow.ringH = s.ringH := (congrArg Dev.ringH s.follow_eq :)
@[simp] theorem Dev.follow_berthH (s : Dev) : s.follow.berthH = s.berthH := (congrArg Dev.berthH s.follow_eq :)
@[simp] theorem Dev.follow_moor (s : Dev) : s.follow.moor = s.moor := (congrArg Dev.moor s.follow_eq :)
@[simp] theorem Dev.follow_moorPages (s : Dev) : s.follow.moorPages = s.moorPages := (congrArg Dev.moorPages s.follow_eq :)
@[simp] theorem Dev.follow_host (s : Dev) : s.follow.host = s.host := (congrArg Dev.host s.follow_eq :)
@[simp] theorem Dev.follow_outst (s : Dev) : s.follow.outst = s.outst := (congrArg Dev.outst s.follow_eq :)
@[simp] theorem Dev.follow_nextTag (s : Dev) : s.follow.nextTag = s.nextTag := (congrArg Dev.nextTag s.follow_eq :)
@[simp] theorem Dev.follow_ringsOn (s : Dev) : s.follow.ringsOn = s.ringsOn := (congrArg Dev.ringsOn s.follow_eq :)
@[simp] theorem Dev.follow_credits (s : Dev) : s.follow.credits = s.credits := (congrArg Dev.credits s.follow_eq :)
@[simp] theorem Dev.follow_lastServed (s : Dev) : s.follow.lastServed = s.lastServed := (congrArg Dev.lastServed s.follow_eq :)
@[simp] theorem Dev.follow_ports (s : Dev) : s.follow.ports = s.ports := (congrArg Dev.ports s.follow_eq :)
@[simp] theorem Dev.follow_xing (s : Dev) : s.follow.xing = s.xing := (congrArg Dev.xing s.follow_eq :)
@[simp] theorem Dev.follow_xctLast (s : Dev) : s.follow.xctLast = s.xctLast := (congrArg Dev.xctLast s.follow_eq :)
@[simp] theorem Dev.follow_xctFreed (s : Dev) : s.follow.xctFreed = s.xctFreed := (congrArg Dev.xctFreed s.follow_eq :)
@[simp] theorem Dev.follow_tlh (s : Dev) : s.follow.tlh = s.tlh := (congrArg Dev.tlh s.follow_eq :)
@[simp] theorem Dev.follow_sto (s : Dev) : s.follow.sto = s.sto := (congrArg Dev.sto s.follow_eq :)
@[simp] theorem Dev.follow_rakers (s : Dev) : s.follow.rakers = s.rakers := (congrArg Dev.rakers s.follow_eq :)
@[simp] theorem Dev.follow_pans (s : Dev) : s.follow.pans = s.pans := (congrArg Dev.pans s.follow_eq :)
@[simp] theorem Dev.follow_cryStall (s : Dev) : s.follow.cryStall = s.cryStall := (congrArg Dev.cryStall s.follow_eq :)
@[simp] theorem Dev.follow_frames (s : Dev) : s.follow.frames = s.frames := (congrArg Dev.frames s.follow_eq :)
@[simp] theorem Dev.follow_txq (s : Dev) : s.follow.txq = s.txq := (congrArg Dev.txq s.follow_eq :)
@[simp] theorem Dev.follow_nextFrame (s : Dev) : s.follow.nextFrame = s.nextFrame := (congrArg Dev.nextFrame s.follow_eq :)
@[simp] theorem Dev.follow_wharf (s : Dev) : s.follow.wharf = s.wharf := (congrArg Dev.wharf s.follow_eq :)
@[simp] theorem Dev.follow_ferry (s : Dev) : s.follow.ferry = s.ferry := (congrArg Dev.ferry s.follow_eq :)
@[simp] theorem Dev.follow_brakeFrom (s : Dev) : s.follow.brakeFrom = s.brakeFrom := (congrArg Dev.brakeFrom s.follow_eq :)
@[simp] theorem Dev.follow_tlhs (s : Dev) : s.follow.tlhs = s.tlhs := (congrArg Dev.tlhs s.follow_eq :)
@[simp] theorem Dev.follow_can (s : Dev) : s.follow.can = s.can := (congrArg Dev.can s.follow_eq :)
@[simp] theorem Dev.follow_gauge (s : Dev) : s.follow.gauge = s.gauge := (congrArg Dev.gauge s.follow_eq :)
@[simp] theorem Dev.follow_vlt (s : Dev) : s.follow.vlt = s.vlt := (congrArg Dev.vlt s.follow_eq :)
@[simp] theorem Dev.follow_tap (s : Dev) : s.follow.tap = s.tap := (congrArg Dev.tap s.follow_eq :)
@[simp] theorem Dev.follow_moorExt (s : Dev) : s.follow.moorExt = s.moorExt := (congrArg Dev.moorExt s.follow_eq :)

/-- ALERT_N's level and what is sent are all that may change. -/
theorem Dev.syncAlert_eq (s : Dev) : s.syncAlert = { s with log := s.syncAlert.log, sent := s.syncAlert.sent } := by
  unfold Dev.syncAlert; split <;> rfl

@[simp] theorem Dev.syncAlert_regs (s : Dev) : s.syncAlert.regs = s.regs := (congrArg Dev.regs s.syncAlert_eq :)
@[simp] theorem Dev.syncAlert_mem (s : Dev) : s.syncAlert.mem = s.mem := (congrArg Dev.mem s.syncAlert_eq :)
@[simp] theorem Dev.syncAlert_stale (s : Dev) : s.syncAlert.stale = s.stale := (congrArg Dev.stale s.syncAlert_eq :)
@[simp] theorem Dev.syncAlert_poison (s : Dev) : s.syncAlert.poison = s.poison := (congrArg Dev.poison s.syncAlert_eq :)
@[simp] theorem Dev.syncAlert_tide (s : Dev) : s.syncAlert.tide = s.tide := (congrArg Dev.tide s.syncAlert_eq :)
@[simp] theorem Dev.syncAlert_free (s : Dev) : s.syncAlert.free = s.free := (congrArg Dev.free s.syncAlert_eq :)
@[simp] theorem Dev.syncAlert_time (s : Dev) : s.syncAlert.time = s.time := (congrArg Dev.time s.syncAlert_eq :)
@[simp] theorem Dev.syncAlert_clk (s : Dev) : s.syncAlert.clk = s.clk := (congrArg Dev.clk s.syncAlert_eq :)
@[simp] theorem Dev.syncAlert_cause (s : Dev) : s.syncAlert.cause = s.cause := (congrArg Dev.cause s.syncAlert_eq :)
@[simp] theorem Dev.syncAlert_power (s : Dev) : s.syncAlert.power = s.power := (congrArg Dev.power s.syncAlert_eq :)
@[simp] theorem Dev.syncAlert_slip (s : Dev) : s.syncAlert.slip = s.slip := (congrArg Dev.slip s.syncAlert_eq :)
@[simp] theorem Dev.syncAlert_err (s : Dev) : s.syncAlert.err = s.err := (congrArg Dev.err s.syncAlert_eq :)
@[simp] theorem Dev.syncAlert_toll (s : Dev) : s.syncAlert.toll = s.toll := (congrArg Dev.toll s.syncAlert_eq :)
@[simp] theorem Dev.syncAlert_tickets (s : Dev) : s.syncAlert.tickets = s.tickets := (congrArg Dev.tickets s.syncAlert_eq :)
@[simp] theorem Dev.syncAlert_work (s : Dev) : s.syncAlert.work = s.work := (congrArg Dev.work s.syncAlert_eq :)
@[simp] theorem Dev.syncAlert_gens (s : Dev) : s.syncAlert.gens = s.gens := (congrArg Dev.gens s.syncAlert_eq :)
@[simp] theorem Dev.syncAlert_ringH (s : Dev) : s.syncAlert.ringH = s.ringH := (congrArg Dev.ringH s.syncAlert_eq :)
@[simp] theorem Dev.syncAlert_berthH (s : Dev) : s.syncAlert.berthH = s.berthH := (congrArg Dev.berthH s.syncAlert_eq :)
@[simp] theorem Dev.syncAlert_moor (s : Dev) : s.syncAlert.moor = s.moor := (congrArg Dev.moor s.syncAlert_eq :)
@[simp] theorem Dev.syncAlert_moorPages (s : Dev) : s.syncAlert.moorPages = s.moorPages := (congrArg Dev.moorPages s.syncAlert_eq :)
@[simp] theorem Dev.syncAlert_host (s : Dev) : s.syncAlert.host = s.host := (congrArg Dev.host s.syncAlert_eq :)
@[simp] theorem Dev.syncAlert_outst (s : Dev) : s.syncAlert.outst = s.outst := (congrArg Dev.outst s.syncAlert_eq :)
@[simp] theorem Dev.syncAlert_nextTag (s : Dev) : s.syncAlert.nextTag = s.nextTag := (congrArg Dev.nextTag s.syncAlert_eq :)
@[simp] theorem Dev.syncAlert_ringsOn (s : Dev) : s.syncAlert.ringsOn = s.ringsOn := (congrArg Dev.ringsOn s.syncAlert_eq :)
@[simp] theorem Dev.syncAlert_credits (s : Dev) : s.syncAlert.credits = s.credits := (congrArg Dev.credits s.syncAlert_eq :)
@[simp] theorem Dev.syncAlert_lastServed (s : Dev) : s.syncAlert.lastServed = s.lastServed := (congrArg Dev.lastServed s.syncAlert_eq :)
@[simp] theorem Dev.syncAlert_ports (s : Dev) : s.syncAlert.ports = s.ports := (congrArg Dev.ports s.syncAlert_eq :)
@[simp] theorem Dev.syncAlert_xing (s : Dev) : s.syncAlert.xing = s.xing := (congrArg Dev.xing s.syncAlert_eq :)
@[simp] theorem Dev.syncAlert_xctLast (s : Dev) : s.syncAlert.xctLast = s.xctLast := (congrArg Dev.xctLast s.syncAlert_eq :)
@[simp] theorem Dev.syncAlert_xctFreed (s : Dev) : s.syncAlert.xctFreed = s.xctFreed := (congrArg Dev.xctFreed s.syncAlert_eq :)
@[simp] theorem Dev.syncAlert_tlh (s : Dev) : s.syncAlert.tlh = s.tlh := (congrArg Dev.tlh s.syncAlert_eq :)
@[simp] theorem Dev.syncAlert_sto (s : Dev) : s.syncAlert.sto = s.sto := (congrArg Dev.sto s.syncAlert_eq :)
@[simp] theorem Dev.syncAlert_rakers (s : Dev) : s.syncAlert.rakers = s.rakers := (congrArg Dev.rakers s.syncAlert_eq :)
@[simp] theorem Dev.syncAlert_pans (s : Dev) : s.syncAlert.pans = s.pans := (congrArg Dev.pans s.syncAlert_eq :)
@[simp] theorem Dev.syncAlert_cryStall (s : Dev) : s.syncAlert.cryStall = s.cryStall := (congrArg Dev.cryStall s.syncAlert_eq :)
@[simp] theorem Dev.syncAlert_frames (s : Dev) : s.syncAlert.frames = s.frames := (congrArg Dev.frames s.syncAlert_eq :)
@[simp] theorem Dev.syncAlert_txq (s : Dev) : s.syncAlert.txq = s.txq := (congrArg Dev.txq s.syncAlert_eq :)
@[simp] theorem Dev.syncAlert_nextFrame (s : Dev) : s.syncAlert.nextFrame = s.nextFrame := (congrArg Dev.nextFrame s.syncAlert_eq :)
@[simp] theorem Dev.syncAlert_wharf (s : Dev) : s.syncAlert.wharf = s.wharf := (congrArg Dev.wharf s.syncAlert_eq :)
@[simp] theorem Dev.syncAlert_ferry (s : Dev) : s.syncAlert.ferry = s.ferry := (congrArg Dev.ferry s.syncAlert_eq :)
@[simp] theorem Dev.syncAlert_brakeFrom (s : Dev) : s.syncAlert.brakeFrom = s.brakeFrom := (congrArg Dev.brakeFrom s.syncAlert_eq :)
@[simp] theorem Dev.syncAlert_tlhs (s : Dev) : s.syncAlert.tlhs = s.tlhs := (congrArg Dev.tlhs s.syncAlert_eq :)
@[simp] theorem Dev.syncAlert_can (s : Dev) : s.syncAlert.can = s.can := (congrArg Dev.can s.syncAlert_eq :)
@[simp] theorem Dev.syncAlert_gauge (s : Dev) : s.syncAlert.gauge = s.gauge := (congrArg Dev.gauge s.syncAlert_eq :)
@[simp] theorem Dev.syncAlert_vlt (s : Dev) : s.syncAlert.vlt = s.vlt := (congrArg Dev.vlt s.syncAlert_eq :)
@[simp] theorem Dev.syncAlert_tap (s : Dev) : s.syncAlert.tap = s.tap := (congrArg Dev.tap s.syncAlert_eq :)
@[simp] theorem Dev.syncAlert_moorExt (s : Dev) : s.syncAlert.moorExt = s.moorExt := (congrArg Dev.moorExt s.syncAlert_eq :)

@[simp] theorem Dev.settle_mem (s : Dev) : s.settle.mem = s.mem :=
  (Dev.syncAlert_mem s.follow).trans (Dev.follow_mem s)
@[simp] theorem Dev.settle_stale (s : Dev) : s.settle.stale = s.stale :=
  (Dev.syncAlert_stale s.follow).trans (Dev.follow_stale s)
@[simp] theorem Dev.settle_poison (s : Dev) : s.settle.poison = s.poison :=
  (Dev.syncAlert_poison s.follow).trans (Dev.follow_poison s)
@[simp] theorem Dev.settle_tide (s : Dev) : s.settle.tide = s.tide :=
  (Dev.syncAlert_tide s.follow).trans (Dev.follow_tide s)
@[simp] theorem Dev.settle_free (s : Dev) : s.settle.free = s.free :=
  (Dev.syncAlert_free s.follow).trans (Dev.follow_free s)
@[simp] theorem Dev.settle_time (s : Dev) : s.settle.time = s.time :=
  (Dev.syncAlert_time s.follow).trans (Dev.follow_time s)
@[simp] theorem Dev.settle_clk (s : Dev) : s.settle.clk = s.clk :=
  (Dev.syncAlert_clk s.follow).trans (Dev.follow_clk s)
@[simp] theorem Dev.settle_cause (s : Dev) : s.settle.cause = s.cause :=
  (Dev.syncAlert_cause s.follow).trans (Dev.follow_cause s)
@[simp] theorem Dev.settle_power (s : Dev) : s.settle.power = s.power :=
  (Dev.syncAlert_power s.follow).trans (Dev.follow_power s)
@[simp] theorem Dev.settle_slip (s : Dev) : s.settle.slip = s.slip :=
  (Dev.syncAlert_slip s.follow).trans (Dev.follow_slip s)
@[simp] theorem Dev.settle_err (s : Dev) : s.settle.err = s.err :=
  (Dev.syncAlert_err s.follow).trans (Dev.follow_err s)
@[simp] theorem Dev.settle_toll (s : Dev) : s.settle.toll = s.toll :=
  (Dev.syncAlert_toll s.follow).trans (Dev.follow_toll s)
@[simp] theorem Dev.settle_tickets (s : Dev) : s.settle.tickets = s.tickets :=
  (Dev.syncAlert_tickets s.follow).trans (Dev.follow_tickets s)
@[simp] theorem Dev.settle_work (s : Dev) : s.settle.work = s.work :=
  (Dev.syncAlert_work s.follow).trans (Dev.follow_work s)
@[simp] theorem Dev.settle_gens (s : Dev) : s.settle.gens = s.gens :=
  (Dev.syncAlert_gens s.follow).trans (Dev.follow_gens s)
@[simp] theorem Dev.settle_ringH (s : Dev) : s.settle.ringH = s.ringH :=
  (Dev.syncAlert_ringH s.follow).trans (Dev.follow_ringH s)
@[simp] theorem Dev.settle_berthH (s : Dev) : s.settle.berthH = s.berthH :=
  (Dev.syncAlert_berthH s.follow).trans (Dev.follow_berthH s)
@[simp] theorem Dev.settle_moor (s : Dev) : s.settle.moor = s.moor :=
  (Dev.syncAlert_moor s.follow).trans (Dev.follow_moor s)
@[simp] theorem Dev.settle_moorPages (s : Dev) : s.settle.moorPages = s.moorPages :=
  (Dev.syncAlert_moorPages s.follow).trans (Dev.follow_moorPages s)
@[simp] theorem Dev.settle_host (s : Dev) : s.settle.host = s.host :=
  (Dev.syncAlert_host s.follow).trans (Dev.follow_host s)
@[simp] theorem Dev.settle_outst (s : Dev) : s.settle.outst = s.outst :=
  (Dev.syncAlert_outst s.follow).trans (Dev.follow_outst s)
@[simp] theorem Dev.settle_nextTag (s : Dev) : s.settle.nextTag = s.nextTag :=
  (Dev.syncAlert_nextTag s.follow).trans (Dev.follow_nextTag s)
@[simp] theorem Dev.settle_ringsOn (s : Dev) : s.settle.ringsOn = s.ringsOn :=
  (Dev.syncAlert_ringsOn s.follow).trans (Dev.follow_ringsOn s)
@[simp] theorem Dev.settle_credits (s : Dev) : s.settle.credits = s.credits :=
  (Dev.syncAlert_credits s.follow).trans (Dev.follow_credits s)
@[simp] theorem Dev.settle_lastServed (s : Dev) : s.settle.lastServed = s.lastServed :=
  (Dev.syncAlert_lastServed s.follow).trans (Dev.follow_lastServed s)
@[simp] theorem Dev.settle_ports (s : Dev) : s.settle.ports = s.ports :=
  (Dev.syncAlert_ports s.follow).trans (Dev.follow_ports s)
@[simp] theorem Dev.settle_xing (s : Dev) : s.settle.xing = s.xing :=
  (Dev.syncAlert_xing s.follow).trans (Dev.follow_xing s)
@[simp] theorem Dev.settle_xctLast (s : Dev) : s.settle.xctLast = s.xctLast :=
  (Dev.syncAlert_xctLast s.follow).trans (Dev.follow_xctLast s)
@[simp] theorem Dev.settle_xctFreed (s : Dev) : s.settle.xctFreed = s.xctFreed :=
  (Dev.syncAlert_xctFreed s.follow).trans (Dev.follow_xctFreed s)
@[simp] theorem Dev.settle_tlh (s : Dev) : s.settle.tlh = s.tlh :=
  (Dev.syncAlert_tlh s.follow).trans (Dev.follow_tlh s)
@[simp] theorem Dev.settle_sto (s : Dev) : s.settle.sto = s.sto :=
  (Dev.syncAlert_sto s.follow).trans (Dev.follow_sto s)
@[simp] theorem Dev.settle_rakers (s : Dev) : s.settle.rakers = s.rakers :=
  (Dev.syncAlert_rakers s.follow).trans (Dev.follow_rakers s)
@[simp] theorem Dev.settle_pans (s : Dev) : s.settle.pans = s.pans :=
  (Dev.syncAlert_pans s.follow).trans (Dev.follow_pans s)
@[simp] theorem Dev.settle_cryStall (s : Dev) : s.settle.cryStall = s.cryStall :=
  (Dev.syncAlert_cryStall s.follow).trans (Dev.follow_cryStall s)
@[simp] theorem Dev.settle_frames (s : Dev) : s.settle.frames = s.frames :=
  (Dev.syncAlert_frames s.follow).trans (Dev.follow_frames s)
@[simp] theorem Dev.settle_txq (s : Dev) : s.settle.txq = s.txq :=
  (Dev.syncAlert_txq s.follow).trans (Dev.follow_txq s)
@[simp] theorem Dev.settle_nextFrame (s : Dev) : s.settle.nextFrame = s.nextFrame :=
  (Dev.syncAlert_nextFrame s.follow).trans (Dev.follow_nextFrame s)
@[simp] theorem Dev.settle_wharf (s : Dev) : s.settle.wharf = s.wharf :=
  (Dev.syncAlert_wharf s.follow).trans (Dev.follow_wharf s)
@[simp] theorem Dev.settle_ferry (s : Dev) : s.settle.ferry = s.ferry :=
  (Dev.syncAlert_ferry s.follow).trans (Dev.follow_ferry s)
@[simp] theorem Dev.settle_brakeFrom (s : Dev) : s.settle.brakeFrom = s.brakeFrom :=
  (Dev.syncAlert_brakeFrom s.follow).trans (Dev.follow_brakeFrom s)
@[simp] theorem Dev.settle_tlhs (s : Dev) : s.settle.tlhs = s.tlhs :=
  (Dev.syncAlert_tlhs s.follow).trans (Dev.follow_tlhs s)
@[simp] theorem Dev.settle_can (s : Dev) : s.settle.can = s.can :=
  (Dev.syncAlert_can s.follow).trans (Dev.follow_can s)
@[simp] theorem Dev.settle_gauge (s : Dev) : s.settle.gauge = s.gauge :=
  (Dev.syncAlert_gauge s.follow).trans (Dev.follow_gauge s)
@[simp] theorem Dev.settle_vlt (s : Dev) : s.settle.vlt = s.vlt :=
  (Dev.syncAlert_vlt s.follow).trans (Dev.follow_vlt s)
@[simp] theorem Dev.settle_tap (s : Dev) : s.settle.tap = s.tap :=
  (Dev.syncAlert_tap s.follow).trans (Dev.follow_tap s)
@[simp] theorem Dev.settle_moorExt (s : Dev) : s.settle.moorExt = s.moorExt :=
  (Dev.syncAlert_moorExt s.follow).trans (Dev.follow_moorExt s)

@[simp] theorem Dev.reg_syncAlert (s : Dev) (k : Nat) : s.syncAlert.reg k = s.reg k := by simp [Dev.reg]

@[simp] theorem Dev.get_syncAlert (s : Dev) (f : Fld) : s.syncAlert.get f = s.get f := by simp [Dev.get]

/-- The records of the log stay. -/
@[simp] theorem Dev.settle_recs (s : Dev) : s.settle.log.recs = s.log.recs := by
  unfold Dev.settle Dev.syncAlert; split <;> rfl

@[simp] theorem Dev.settle_seq (s : Dev) : s.settle.log.seq = s.log.seq := by
  unfold Dev.settle Dev.syncAlert; split <;> rfl

@[simp] theorem Dev.settle_pers (s : Dev) : s.settle.log.pers = s.log.pers := by
  unfold Dev.settle Dev.syncAlert; split <;> rfl

/-- What is sent besides: at most the new level of ALERT_N. -/
theorem Dev.settle_sent (s : Dev) : s.settle.sent = s.sent ∨ ∃ v, s.settle.sent = ⟨.pin, [3, v], []⟩ :: s.sent := by
  unfold Dev.settle Dev.syncAlert
  split
  · exact .inl rfl
  · exact .inr ⟨_, rfl⟩

/-- What had been sent stays sent. -/
theorem Dev.mem_settle_sent {s : Dev} {e : Emit} (h : e ∈ s.sent) : e ∈ s.settle.sent := by
  rcases Dev.settle_sent s with h1 | ⟨v, h1⟩ <;> simp [h1, h]

/-- A register that follows nothing stays. -/
theorem Dev.reg_settle (s : Dev) (k : Nat) (h : k ∉ followKeys) : s.settle.reg k = s.reg k := by
  simp only [followKeys, List.mem_cons, List.not_mem_nil, or_false, not_or] at h
  obtain ⟨h1, h2, h3, h4⟩ := h
  simp only [Dev.settle, Dev.reg_syncAlert, Dev.follow]
  rw [Dev.reg_put_ne _ _ _ h4, Dev.reg_put_ne _ _ _ h4, Dev.reg_put_ne _ _ _ h4, Dev.reg_put_ne _ _ _ h3, Dev.reg_put_ne _ _ _ h3,
    Dev.reg_put_ne _ _ _ h3, Dev.reg_put_ne _ _ _ h2, Dev.reg_put_ne _ _ _ h1]

/-- A field of a register that follows nothing stays. -/
theorem Dev.get_settle (s : Dev) (f : Fld) (h : f.key ∉ followKeys) : s.settle.get f = s.get f := by
  simp [Dev.get, Dev.reg_settle s f.key h]

/-- The fields that follow, as (register, place, width). -/
def followFields : List Fld :=
  [Fld.LND_HOST_LINK_LINK_UP, Fld.PWR_STATUS_TRIPPED, Fld.TLH_STATUS_LOADED, Fld.TLH_STATUS_SESSIONS, Fld.TLH_STATUS_SESSION_ONLY,
    Fld.VLT_STATUS_CELL_OK, Fld.VLT_STATUS_MAIN_OK, Fld.VLT_STATUS_TRIPPED]

/-- Two fields share no bit. -/
def Fld.apart (f g : Fld) : Bool := decide (f.key ≠ g.key) || decide (f.lo + f.len ≤ g.lo) || decide (g.lo + g.len ≤ f.lo)

/-- A field that shares no bit with those that follow stays. -/
theorem Dev.get_settle_apart (s : Dev) (f : Fld) (hb : f.lo + f.len ≤ 64) (h : followFields.all (f.apart ·) = true) :
    s.settle.get f = s.get f := by
  simp only [followFields, List.all_cons, List.all_nil, Bool.and_true, Bool.and_eq_true, Fld.apart, Bool.or_eq_true,
    decide_eq_true_eq, or_assoc] at h
  obtain ⟨h1, h2, h3, h4, h5, h6, h7, h8⟩ := h
  simp only [Dev.settle, Dev.get_syncAlert, Dev.follow]
  rw [Dev.get_put_apart _ _ _ _ hb h8, Dev.get_put_apart _ _ _ _ hb h7, Dev.get_put_apart _ _ _ _ hb h6, Dev.get_put_apart _ _ _ _ hb h5,
    Dev.get_put_apart _ _ _ _ hb h4, Dev.get_put_apart _ _ _ _ hb h3, Dev.get_put_apart _ _ _ _ hb h2, Dev.get_put_apart _ _ _ _ hb h1]

/-! The outcome of a command's effect on the device -/

theorem State.done_eq (s : State) (d : Dev) : s.done d = .next { s with dev := d.settle } := rfl

@[simp] theorem State.dv_eq (s : State) (f : Dev → Dev) : s.dv f = s.done (f s.dev) := rfl

@[simp] theorem State.dvIf_true (s : State) (f : Dev → Dev) : s.dvIf true f = s.done (f s.dev) := rfl

theorem State.dvIf_eq (s : State) (c : Bool) (f : Dev → Dev) :
    s.dvIf c f = s.done (if c then f s.dev else s.dev) := rfl

end Sys2Proof.Machine
end

