-- ==== Sys2Proof/Laws/Serve.lean ====
section
/-! SUPPORT. What the operations every service shares can do. -/

namespace Sys2Proof.Machine

/-- A later sequence number is not the same one (R13). -/
theorem same_of_after {a b n : Nat} (h : after a b n = true) : same a b n = false := by
  simp only [after, Bool.and_eq_true, decide_eq_true_eq] at h
  simp only [same, decide_eq_false_iff_not]
  intro e
  have hb : b % 2 ^ n < 2 ^ n := Nat.mod_lt _ (Nat.two_pow_pos n)
  have h2 : a = 2 ^ n * (a / 2 ^ n) + a % 2 ^ n := (Nat.div_add_mod a (2 ^ n)).symm
  have : (a + 2 ^ n - b % 2 ^ n) % 2 ^ n = 0 := by
    have h3 : a + 2 ^ n - b % 2 ^ n = 2 ^ n * (a / 2 ^ n + 1) := by
      rw [Nat.mul_add, Nat.mul_one]; omega
    rw [h3]; exact Nat.mul_mod_right _ _
  omega

@[simp] theorem Ticket.begun_words (t : Ticket) : t.begun.words = t.words := rfl
@[simp] theorem Ticket.begun_key (t : Ticket) : t.begun.key = t.key := rfl
@[simp] theorem Ticket.begun_plan (t : Ticket) : t.begun.plan = t.plan := rfl
@[simp] theorem Ticket.begun_right (t : Ticket) (lo len : Nat) : t.begun.right lo len = t.right lo len := rfl
@[simp] theorem Ticket.begun_accel (t : Ticket) : t.begun.accel = t.accel := rfl
@[simp] theorem Ticket.begun_planWord (t : Ticket) (o : Nat) : t.begun.planWord o = t.planWord o := rfl
@[simp] theorem Ticket.begun_result (t : Ticket) : t.begun.result = t.result := rfl

/-- A service acts on a ticket that is ready. -/
theorem Dev.serve_ready {d : Dev} {b r slot svc op : Nat} {t : Ticket} (h : d.Ready b r slot svc op t) (f : Dev → Ticket → Dev) :
    d.serve b r slot svc op f = f (d.begin t) t.begun := by
  obtain ⟨h1, h2, h3, h4, h5, h6⟩ := h
  simp [Dev.serve, h1, h2, h3, h4, h5, h6, Dev.begin, Ticket.begun]

/-- A command of a service changes nothing where no ticket is in flight at the slot. -/
theorem Dev.serve_none {d : Dev} {b r slot : Nat} (svc op : Nat) (f : Dev → Ticket → Dev) (h : d.ticketAt b r slot = none) :
    d.serve b r slot svc op f = d := by simp [Dev.serve, h]

@[simp] theorem Dev.at_reg (d : Dev) (t k : Nat) : (d.at t).reg k = d.reg k := by unfold Dev.at; split <;> rfl
@[simp] theorem Dev.at_get (d : Dev) (t : Nat) (f : Fld) : (d.at t).get f = d.get f := by simp [Dev.get]
@[simp] theorem Dev.at_ringH (d : Dev) (t : Nat) : (d.at t).ringH = d.ringH := by unfold Dev.at; split <;> rfl
@[simp] theorem Dev.at_tickets (d : Dev) (t : Nat) : (d.at t).tickets = d.tickets := by unfold Dev.at; split <;> rfl

end Sys2Proof.Machine
end

