-- ==== Sys2Proof/WellFormed.lean ====
section
/-! DEFINITION. Well-formed commands: the operands that number a unit, a ring, a slot or a register of the block number one that the spec
gives it. exec does not depend on it: a command that names nothing of the block has no effect. -/

namespace Sys2Proof

/-- A ring of a berth: 128 tenant berths and berth 0, 64 rings each (Table 0.6). -/
def ringOk (b r : Nat) : Bool := decide (b ≤ 128) && decide (r < 64)

/-- A Raker of a Pan: 256 Pans of four Rakers (Tables 0.5 and 0.6). -/
def rakerOk (p i : Nat) : Bool := decide (p < 256) && decide (i < 4)

/-- A strand half of a Causeway link: links 0 to 13 and 16 to 20, two directions, up to eight strands (Table 2.2). -/
def strandOk (link dir strand : Nat) : Bool := (decide (link < 14) || (decide (16 ≤ link) && decide (link < 21))) && decide (dir < 2) && decide (strand < 8)

/-- Whether each operand that numbers a part of the block numbers one it has. -/
def wellFormed (c : Instr) : Bool :=
  match c with
  | .registerWrite f off _ size _ | .rcRegisterRead f off size _ | .hostBar0Access f off _ size _ _ _ _ _ => decide (f ≤ 129) && (decide (size = 4) || decide (size = 8)) && decide (off % size = 0)
  | .identNodeWrite _ | .alarmPulseToggle | .alarmBreakDetected _ | .identHbmMapWrite _ | .identCisternWrite _ | .cisternChangeDone
  | .tollInvGo _ | .invalidationDone | .tollRegionWrite _ _ | .tollFaultPtrRead | .provingReadComplete _ _ _ | .tollMoorEnable _
  | .moorTableCleared | .hostCompletionReceived _ _ _ _ _ | .hostCplTimeout _ | .unexpectedCompletion _ | .d3hotEntry | .d0Return
  | .l1IdleTimer _ | .ltrIdleTimer | .perstAssert _ | .perstDeassert | .hotReset | .pfFlr | .hostLinkDown | .frameResidenceTimeout _
  | .framePlace _ | .xctPutPacket _ | .xctPostPacket _ | .xctGetReqPacket _ | .xctGetRespPacket _ | .xctFaddPacket _ | .xctCswapPacket _
  | .xctAtomicRespPacket _ | .xctFlushReqPacket _ | .xctFlushRespPacket _ | .xctAckPacket _ | .xctSackPacket _ | .xctNakPacket _
  | .xctClosingPacket _ | .xctCtrlWrite _ | .stoCtrlEnable _ | .ptpSync _ _ _ _ _ | .ptpFollowUp _ _ _ _ | .ptpDelayResp _ _ _ _ _
  | .ptpAnnounce _ _ _ _ _ _ _ _ | .delayReqTimer | .ptpMasterLost | .reanchor | .wallSet _ | .tidFreqWrite _ | .tidTideRead
  | .pldmRequestFirmwareData _ _ _ | .pldmActivateFirmware _ | .autonomyEnter | .helmLockstepMismatch | .helmRestartDone _
  | .helmWatchdog | .staggerGapTimer _ | .canTxAttemptDone _ | .canLoneProbeTimer _ | .canFrameReceived _ _ _ | .canBusOffRecovered
  | .gaugeWord _ _ | .capLoopTick | .groupRotate | .neapEntryTimer _ | .slackEntryTimer _ | .brakeNAssert _ | .brakeNRelease _
  | .thermalTrip _ | .pwrCtrlWrite _ | .standbyPowerRise | .standbyPowerFall | .slipwayImageVerified _ _ _ _ | .mainPowerBelieved
  | .mainPgFall _ | .mainPgLowTimer | .slipwayStationComplete _ _ | .crystallizerGroupExit | .slackWaterReset | .slackWaterComplete
  | .cellLowFall _ | .tlhSlotLoad _ | .tlhSlotZeroize _ _ | .tlhSlotQuery _ | .sessionOnlySet | .drbgHealthFail _ | .errLastRead _
  | .tapBypass _ | .tapIdcode | .samplePreload _ _ | .extest _ _ | .hostLinkUp _ _ _ | .cellLowRise => true
  | .flitReceive link dir strand actl bctl data => strandOk link dir strand && decide (actl < 65536) && decide (bctl < 65536) && decide (data.length = 64)
  | .replayTimeout link dir strand => strandOk link dir strand
  | .refLost r | .refValidAgain r => decide (r < 2)
  | .clkCommit n _ | .pllLocked n | .muxMoveDone n | .glideDone n | .pllLockLost n | .relockFail n => decide (n < 116)
  | .dllUnlock hbm unit _ | .dllRelock hbm unit _ | .dllTrack hbm unit _ _ _ => decide (unit < (if hbm then 8 else 21))
  | .hbmDllHoldExpiry unit _ => decide (unit < 8)
  | .tollWalk ctx va kind _ _ _ => decide (ctx < 133) && decide (va < 2 ^ 48) && decide (kind < 3)
  | .doorbell b r v _ => ringOk b r && decide (v < 2 ^ 32)
  | .ringReapedWrite b r v => ringOk b r && decide (v < 65536)
  | .ticketTake b r | .msixCoalesceTimer b r | .ringEnable b r _ | .ringDisable b r _ | .ringHalt b r | .ringAbandon b r
  | .ringResume b r => ringOk b r
  | .deadlineExpiry b r slot | .ringNop b r slot | .registerT b r slot | .revoke b r slot | .regen b r slot | .copyT b r slot
  | .placeFlush b r slot | .frameTx b r slot | .frameRx b r slot | .xctOpen b r slot | .xctBind b r slot | .xctKey b r slot
  | .xctSwitch b r slot | .xctRetire b r slot | .xctClose b r slot | .xctRelease b r slot | .xctQuery b r slot | .xctPut b r slot
  | .xctGet b r slot | .xctPost b r slot | .xctFadd b r slot | .xctCswap b r slot | .xctFlush b r slot | .recv b r slot
  | .storageRead b r slot | .storageWrite b r slot | .sync b r slot | .deallocate b r slot | .readExpand b r slot | .writePack b r slot
  | .evaporatorDone b r slot | .timeRead b r slot | .atTide b r slot | .atWall b r slot | .timedOperationFire b r slot
  | .panLoad b r slot | .panStop b r slot | .watch b r slot | .deliver b r slot => ringOk b r && decide (slot < 65536)
  | .bplanCommit b _ | .bplanClear b _ | .berthClearDone b | .bplanExpel b _ | .quarantineLift b | .vfFlr b => decide (b ≤ 128)
  | .berth0SrcWrite o _ => decide (o < 0xC8) && decide (o % 8 = 0)
  | .rateRelease b which n => decide (b ≤ 128) && decide (which < 3) && decide (n ≤ 4096)
  | .mooringKeyQuiesced i gen => decide (i < 2 ^ 20) && decide (gen < 256)
  | .hostConfigRequest f dw _ be _ _ _ => decide (f ≤ 129) && decide (dw < 1024) && decide (be < 16)
  | .hostBar2Request f _ _ _ _ _ _ _ | .hostUnsupportedRequest _ f _ _ | .hostMalformedTlp _ f | .msixEnableSet f
  | .busMasterEnableChange f _ | .flrSilencePoint f | .flrCompletionPoint f => decide (f ≤ 129)
  | .msixUnmask f v => decide (f ≤ 129) && decide (v < 2048)
  | .ideCheckFail stream => decide (stream < 8)
  | .shortDropReturn n _ _ _ | .apCfgGo n _ | .apCfgComplete n _ _ | .accelUpstreamRequest n _ _ _ _ _ _ _ | .apPgFall n | .apPgRise n
  | .apPgTimeout n | .apPerstReleaseTimer n | .apIdeSetup n _ | .apIdeSetupTimeout n _ | .apIdeIntegrityFail n => decide (n < 4)
  | .vfEnableClear _ n => decide (n ≤ 128)
  | .portLinkUp p _ _ | .portTrainTimeout p _ | .portEnumerate p _ _ _ _ _ _ _ | .enumRrsTimeout p | .portSbr p | .dpcRelease p
  | .portEnWrite p _ | .downstreamCompletion p _ _ _ _ | .downstreamCplTimeout p _ | .partnerErrorMessage p _ _ | .surpriseDown p
  | .creditStallTimeout p | .portReceiverDetect p _ => decide (p < 12)
  | .driveUpstreamRequest k cid _ _ _ _ _ _ | .abortTimeout k cid => decide (k < 8) && decide (cid < 65536)
  | .frameReceive m j _ _ _ _ | .macLinkDown m j | .frameTransmit m j | .macLinkUp m j => decide (m < 2) && decide (j < 4)
  | .pfcXoffRefresh m p => decide (m < 2) && decide (p < 8)
  | .pfcPauseReceived m j p _ | .pfcWatchdogExpiry m j p | .pfcWatchdogEnd m j p | .macPauseQuantaExpiry m j p => decide (m < 2) && decide (p < 8) && decide (j < 4)
  | .deckhandRun m | .deckhandBudgetExpiry m | .mnfDhSlotWrite m _ _ | .mnfCommit m _ | .mnfDiscard m | .whfPortCtrlWrite m _ | .taskGo m
  | .heartbeat m | .powerCap m | .thermalPolicy m | .autonomyPolicy m | .accelPowerOn m | .accelPowerOff m | .accelResetPerst m
  | .accelResetSbr m | .drivePowerOn m | .drivePowerOff m | .fwStageBegin m | .fwStageData m | .fwStageEnd m | .fwStageCancel m
  | .fwActivateNextReset m | .fwActivateHelmNow m | .fwActivateConfirm m | .fwActivateRevert m | .fwStatus m | .logRead m | .logClear m
  | .vaultSet m | .vaultArm m _ | .vaultDisarm m | .vaultRestore m _ | .vaultDiscard m | .vaultStatus m | .canSend m | .canFilterSet m
  | .canFilterClear m | .canFilterRead m | .canFilterConfig m | .gaugeConfigChannel m | .gaugeConfigThreshold m | .gaugeReadFifo m
  | .gaugeClear m | .gaugeReadStats m | .staggerPlan m | .spiFlashOperationDone m _ _ => decide (m < 2)
  | .mnfEditWrite m table _ | .mnfEditRemove m table _ => decide (m < 2) && decide (table < 4)
  | .mnfEmMaskWrite m w _ => decide (m < 2) && decide (w < 7)
  | .retireQuiesced x | .closeDrained x | .closingCopyTimer x | .pacedPacketSend x | .rateIncreaseTimer x | .fencedExecute x
  | .ackDelayTimer x => decide (x < 65536)
  | .retransmitTimeout x psn | .retryGiveUp x psn => decide (x < 65536) && decide (psn < 2 ^ 24)
  | .driveCompletion u cid _ _ | .driveCmdTimeout u cid => decide (u < 72) && decide (cid < 65536)
  | .volumeCreate v _ | .volumeDestroy v => decide (v < 4096)
  | .targetEnable t _ _ | .targetDisable t _ | .targetConnectionReset t | .targetReconnectTimer t | .keepAliveTimer t
  | .tcpRetransmitTimeout t => decide (t < 64)
  | .nvmeTcpSegment t _ _ cid _ _ _ _ => decide (t < 64) && decide (cid < 65536)
  | .driveIdleTimer k | .vaultWriteComplete k _ | .vaultFlushComplete k _ | .vaultSealComplete k _ | .restoreReadComplete k _ _ => decide (k < 8)
  | .panLoadStarted p | .barrowDescriptorDone p _ | .panStopAtExpiry p | .panScrubDone p | .cload p _ | .cstore p _ | .cmma p | .crank p
  | .cquantQuantize p _ | .cquantDequantize p _ | .cconv p _ | .cwait p | .cwaitTimeout p | .cfence p _ | .autoRestart p => decide (p < 256)
  | .rakerExit p i _ | .inboxNext p i | .answerGo p i _ | .barrowGo p i | .cryGo p i | .addI p i | .subI p i | .mulI p i | .mulh p i
  | .mulhu p i | .divI p i | .divu p i | .rem p i | .remu p i | .andI p i | .orI p i | .xorI p i | .andn p i | .shl p i | .shr p i
  | .sar p i | .ror p i | .minI p i | .maxI p i | .minu p i | .maxu p i | .clz p i | .ctz p i | .popc p i | .bswap p i | .sext8 p i
  | .sext16 p i | .sext32 p i | .zext8 p i | .zext16 p i | .zext32 p i | .addi p i | .andi p i | .ori p i | .xori p i | .lih p i
  | .shli p i | .shri p i | .sari p i | .rori p i | .cseq p i | .csne p i | .cslt p i | .csltu p i | .csle p i | .csleu p i
  | .cseqImm p i | .csneImm p i | .csltImm p i | .csltuImm p i | .csleImm p i | .csleuImm p i | .ld p i _ | .st p i _ | .aadd p i _
  | .aswap p i _ | .acas p i _ | .fadd p i | .fsub p i | .fmul p i | .fdiv p i | .fsqrt p i | .fmin p i | .fmax p i | .fma p i
  | .fceq p i | .fclt p i | .fcle p i | .fcvt p i | .ftoi p i | .itof p i | .fclass p i | .bz p i | .bnz p i | .jal p i | .jalr p i
  | .nop p i | .yield p i | .fenceS p i | .fenceL p i | .fenceSl p i | .srd p i | .swr p i | .pmovg p i | .gmovp p i | .dadd p i
  | .dsub p i | .dmuld p i | .dcmp p i | .dshl p i | .dshr p i | .drnd p i | .dadj p i | .dval p i | .dtob p i | .btod p i | .vadd p i
  | .vsub p i | .vmul p i | .vmulh p i | .vmulhu p i | .vadds p i | .vaddsu p i | .vsubs p i | .vsubsu p i | .vmin p i | .vmax p i
  | .vminu p i | .vmaxu p i | .vand p i | .vor p i | .vxor p i | .vandn p i | .vshl p i | .vshr p i | .vsar p i | .vpopc p i | .vabs p i
  | .vbswap p i | .vfadd p i | .vfsub p i | .vfmul p i | .vfdiv p i | .vfsqrt p i | .vfmin p i | .vfmax p i | .vfma p i | .vfabs p i
  | .vfneg p i | .vfrmaxa p i | .vcmpPredicate p i | .vcmpGreg p i | .vdadd p i | .vdsub p i | .vdcmp p i | .vdrev p i | .vdbsr p i
  | .vcvtE4m3ToFp32 p i | .vcvtE5m2ToFp32 p i | .vcvtE3m2ToFp32 p i | .vcvtE2m3ToFp32 p i | .vcvtE2m1ToFp32 p i | .vcvtInt8ToFp32 p i
  | .vcvtE8m0ToFp32 p i | .vcvtBf16ToFp32 p i | .vcvtFp16ToFp32 p i | .vcvtInt4ToInt8 p i | .vcvtInt8ToInt32 p i | .vcvtUint8ToInt32 p i
  | .vcvtInt16ToInt32 p i | .vcvtBin1ToInt8 p i | .vcvtInt32ToFp32 p i | .vcvtFp32ToE4m3 p i | .vcvtFp32ToE5m2 p i | .vcvtFp32ToInt8 p i
  | .vcvtFp32ToE8m0 p i | .vcvtFp32ToBf16 p i | .vcvtFp32ToFp16 p i | .vcvtInt32ToInt16 p i | .vcvtInt32ToInt8 p i
  | .vcvtInt32ToUint8 p i | .vcvtInt16ToInt8 p i | .vcvtInt8ToBin1 p i | .vcvtFp32ToInt32 p i | .vmov p i | .vsplat p i | .vext p i
  | .vins p i | .vperm p i | .vradd p i | .vrmin p i | .vrmax p i | .vrminu p i | .vrmaxu p i | .vrand p i | .vror p i | .vrxor p i
  | .pand p i | .por p i | .pxor p i | .pandn p i | .pnot p i | .pbelow p i | .pthru p i | .pspan p i | .vld p i _ | .vst p i _
  | .vldg p i _ | .vsts p i _ | .vldgFf p i _ | .illegalInstruction p i | .fetchFault p i => rakerOk p i
  | .tallyWrite p i t _ => rakerOk p i && decide (t < 16)
  | .cryStepBoundary c _ => decide (c < 32)
  | .taskMessageRead binding _ _ | .taskMessageWrite binding _ _ _ | .mctpControlMessage binding _ _ | .pldmSensorRead binding _ _
  | .keyMsgLoad binding _ _ _ _ _ | .keyMsgZeroize binding _ _ _ | .keyMsgQuery binding _ _ | .getVersion binding
  | .getCapabilities binding | .negotiateAlgorithms binding _ _ _ _ | .getDigests binding _ | .getCertificate binding _ _ _ _
  | .keyExchange binding | .finish binding _ _ | .spdmHeartbeat binding _ | .keyUpdate binding _ _ | .endSession binding _
  | .ideKmQuery binding _ => decide (binding < 2)
  | .islandWake n | .islandExitDone n | .islandEntryDone n => decide (n < 96)
  | .challenge binding _ nonce | .getMeasurements binding _ _ _ nonce => decide (binding < 2) && decide (nonce.length = 32)
  | .keyProg binding _ stream _ _ _ _ | .kSetGo binding _ stream _ | .kSetStop binding _ stream _ => decide (binding < 2) && decide (stream < 8)

end Sys2Proof
end

