-- ==== Sys2Proof/Tests/Slice0.lean ====
section
/-! SUPPORT. The model's own tests: for every clause of every statement with hypotheses a state and operands that meet them all, ill-formed
commands that WellFormed refuses, and small tests whose expected results come from the spec's tables and examples. -/

namespace Sys2Proof.Tests

open Sys2Proof Sys2Proof.Machine

set_option Elab.async false

/-- The device after reset but for some fields: the registers they lie in hold these fields and zeros. -/
def W (l : List (Fld × Nat)) : Dev :=
  { Dev.reset with
    regs := l.foldl (fun t e => tins e.1.key (setBits (tget (fun _ => 0) t e.1.key) e.1.lo e.1.len e.2) t) [] }

/-- The device with its 128 VFs enabled. -/
def vf (d : Dev) : Dev := { d with host := { d.host with cfg := [(0x170, 9), (0x178, 128)] } }

/-- A state with nothing waiting. -/
def S (d : Dev) : State := ⟨[], d⟩

/-- W with a translation in context c: virtual addresses 0 to 1 GiB are the device's HBM from 1 GiB on. -/
def X (c : Nat) (l : List (Fld × Nat)) : Dev :=
  { W ([(Fld.TOLL_CTRL_ENABLE, 1), (Fld.TOLL_REGION_SIZE, 1), (Fld.TOLL_ROOT_VALID c, 1)] ++ l) with
    mem := [(0, 0x01), (1, 0x10), (0x1000, 0x1F), (0x1003, 0x40)] }

/-- X with a mooring table of two entries: index 0, key 0x01000000, of berth b, gives every right to virtual addresses 0 to 64 KiB. -/
def M (b : Nat) (l : List (Fld × Nat)) : Dev :=
  { X b ([(Fld.TOLL_MOOR_ENABLE, 1), (Fld.TOLL_MOOR_LOG2_ENTRIES, 1), (Fld.TOLL_MOOR_BASE, 2)] ++ l) with
    mem := [(0, 0x01), (1, 0x10), (0x1000, 0x1F), (0x1003, 0x40), (0x2000, 0xFF), (0x2001, 0x01), (0x2003, 0x01), (0x2004, BitVec.ofNat 8 b),
      (0x2012, 0x01)] }

/-- The key of that mooring. -/
def key : Nat := 0x01000000

/-- Eight words of a ticket: SVC, OP, and fields (word, place, width, value). -/
def tw (svc op : Nat) (fs : List (Nat × Nat × Nat × Nat)) : List Word :=
  (List.range 8).map (fun i => packW ((if i = 0 then [(0, 8, op), (8, 4, svc)] else [])
    ++ (fs.filter (fun f => f.1 = i)).map (fun f => (f.2.1, f.2.2.1, f.2.2.2))))

/-- A ticket in flight, of berth b, ring r, slot s, generation 0, with every right in its plan where b is a tenant. -/
def T (b r s : Nat) (ws : List Word) : Ticket :=
  ⟨⟨b, r, s, 0⟩, 0, ws, 0, 0, if b = 0 then [] else [(8, 0xFFFFFFFFFFFFFFFF), (0x10, 0xFFFFFFFFFFFFFFFF), (0x18, 0xFFFFFFFFFFFFFFFF)], 0, false, false, 0, 0, 0, 0, [], false, [], false, [], 0, []⟩

/-- The device with a ticket in flight. -/
def inFlight (d : Dev) (t : Ticket) : Dev := { d with tickets := [t] }

/-- A Crystallizer command of this OP with these fields. -/
def cryEnt (op : Nat) (fs : List (Nat × Nat × Nat × Nat)) : CryE := ⟨0, tw 0 op fs, 0, 0, 0, 0, 0⟩

/-- Pan p's command is at the head and its engine runs it. -/
def cryDev (p op : Nat) (fs : List (Nat × Nat × Nat × Nat)) : Dev :=
  { W [(Fld.CRY_STATE_BUSY (p / 8), 1), (Fld.CRY_STATE_CUR_SLOT (p / 8), p % 8)] with pans := [(p, { PanS.init with cry := [cryEnt op fs] })] }

/-- Task set m has accepted the task op with these arguments. -/
def A (m op : Nat) (args : List Nat) (l : List (Fld × Nat)) : Dev :=
  { W ([(Fld.TASK_STATE_STATE m, 1), (Fld.TASK_OP_OP m, op)] ++ (List.range args.length).map (fun i => (Fld.TASK_ARG_ARG m i, args.getD i 0)) ++ l) with
    ferry := { FerryS.init with prog := [(m, 1)] } }

/-- A valid image in the moored memory: one section of 64 zero bytes at the start of the Pan window, EXEC, Raker 0 starting there. -/
def imageMem : List (Nat × Byte) :=
  [(0x40000000, 0x31), (0x40000001, 0x4E), (0x40000002, 0x41), (0x40000003, 0x50), (0x40000004, 0x01), (0x40000005, 0x21),
    (0x4000000A, 0xC0), (0x4000000B, 0xFF), (0x4000000C, 0xFF), (0x4000000D, 0xFF),
    (0x40000042, 0xC0), (0x40000043, 0xFF), (0x40000044, 0xFF), (0x40000045, 0xFF), (0x40000048, 0x40), (0x4000004C, 0x03)]

/-- A Deckhand image whose program is one YIELD (0x00000002), BUDGET 1. -/
def yieldImage : DhImage := ⟨[(0, 2)], [(0xFFFFFFC00000, 0xFFFFFFC00004)], 0xFFFFFFC00000, 1⟩

/-- An instruction word of one word, guard p0: major, rd, ra, rb, function (Table 16.2). -/
def ins (major rd ra rb fn : Nat) : Insn := ⟨major * 2 ^ 22 + rd * 2 ^ 17 + ra * 2 ^ 12 + rb * 2 ^ 7 + fn, false, 0⟩

/-- Raker 3 of Pan 255 runs with these registers, and this word stands at its PC. -/
def R (x : Insn) (r : RakerS) (l : List (Fld × Nat)) : Dev :=
  { W l with
    pans := [(255, { PanS.init with exec := [(0xFFFFFFC00000, 0xFFFFFFC00008)] })]
    rakers := [(1023, { r with live := true, pc := 0xFFFFFFC00000 })]
    mem := (List.range 4).map (fun i => (0x4100000000 + 0x200000 * 255 + i, BitVec.ofNat 8 (x.w / 256 ^ i))) }

/-! WellFormed: for each check a command that it refuses, and beside them commands that pass every check. -/

theorem test_wellFormed_refuses1 : ∀ c ∈ ([
    .registerWrite 130 0 0 8 [], .registerWrite 0 4 0 8 [], .registerWrite 0 0 0 2 [], .flitReceive 14 0 0 0 0 (List.replicate 64 0),
    .flitReceive 0 2 0 0 0 (List.replicate 64 0), .flitReceive 0 0 8 0 0 (List.replicate 64 0),
    .flitReceive 0 0 0 65536 0 (List.replicate 64 0), .flitReceive 0 0 0 0 65536 (List.replicate 64 0), .flitReceive 0 0 0 0 0 [],
    .replayTimeout 14 0 0, .replayTimeout 0 2 0, .replayTimeout 0 0 8, .refLost 2, .clkCommit 116 0, .dllUnlock false 21 0,
    .hbmDllHoldExpiry 8 0, .tollWalk 133 0 0 0 0 0, .tollWalk 0 (2 ^ 48) 0 0 0 0, .tollWalk 0 0 3 0 0 0, .doorbell 129 0 0 false,
    .doorbell 0 64 0 false, .doorbell 0 0 (2 ^ 32) false, .ringReapedWrite 129 0 0, .ringReapedWrite 0 64 0, .ringReapedWrite 0 0 65536,
    .ticketTake 129 0, .ticketTake 0 64, .deadlineExpiry 129 0 0, .deadlineExpiry 0 64 0, .deadlineExpiry 0 0 65536, .bplanCommit 129 0,
    .berth0SrcWrite 0xC8 0, .berth0SrcWrite 1 0, .rateRelease 129 0 0, .rateRelease 0 3 0, .rateRelease 0 0 4097,
    .mooringKeyQuiesced (2 ^ 20) 0, .mooringKeyQuiesced 0 256, .hostConfigRequest 130 0 false 0 0 0 false,
    .hostConfigRequest 0 1024 false 0 0 0 false] : List Instr), wellFormed c = false := by decide +kernel

theorem test_wellFormed_refuses2 : ∀ c ∈ ([
    .hostConfigRequest 0 0 false 16 0 0 false, .hostBar2Request 130 0 false 0 0 false false [], .msixUnmask 130 0, .msixUnmask 0 2048,
    .ideCheckFail 8, .shortDropReturn 4 0 0 false, .vfEnableClear false 129, .portLinkUp 12 0 0,
    .driveUpstreamRequest 8 0 0 0 0 false false [], .driveUpstreamRequest 0 65536 0 0 0 false false [], .frameReceive 2 0 [] false false 0,
    .frameReceive 0 4 [] false false 0, .pfcXoffRefresh 2 0, .pfcXoffRefresh 0 8, .pfcPauseReceived 2 0 0 false,
    .pfcPauseReceived 0 4 0 false, .pfcPauseReceived 0 0 8 false, .deckhandRun 2, .mnfEditWrite 2 0 0, .mnfEditWrite 0 4 0,
    .mnfEmMaskWrite 2 0 0, .mnfEmMaskWrite 0 7 0, .retireQuiesced 65536, .retransmitTimeout 65536 0, .retransmitTimeout 0 (2 ^ 24),
    .driveCompletion 72 0 0 0, .driveCompletion 0 65536 0 0, .volumeCreate 4096 0, .targetEnable 64 0 [],
    .nvmeTcpSegment 64 0 0 0 0 0 [] false, .nvmeTcpSegment 0 0 0 65536 0 0 [] false, .driveIdleTimer 8, .panLoadStarted 256,
    .rakerExit 256 0 0, .rakerExit 0 4 0, .tallyWrite 256 0 0 0, .tallyWrite 0 4 0 0, .tallyWrite 0 0 16 0, .cryStepBoundary 32 0,
    .taskMessageRead 2 0 0] : List Instr), wellFormed c = false := by decide +kernel

theorem test_wellFormed_refuses3 : ∀ c ∈ ([
    .islandWake 96, .challenge 2 0 (List.replicate 32 0), .challenge 0 0 [], .keyProg 2 0 0 0 0 0 [], .keyProg 0 0 8 0 0 0 []] : List Instr), wellFormed c = false := by decide +kernel

theorem test_wellFormed_accepts : ∀ c ∈ ([
    .registerWrite 0 0 0 8 [], .identNodeWrite 0, .flitReceive 0 0 0 0 0 (List.replicate 64 0), .replayTimeout 0 0 0, .refLost 0,
    .clkCommit 0 0, .dllUnlock false 0 0, .hbmDllHoldExpiry 0 0, .tollWalk 0 0 0 0 0 0, .doorbell 0 0 0 false, .ringReapedWrite 0 0 0,
    .ticketTake 0 0, .deadlineExpiry 0 0 0, .bplanCommit 0 0, .berth0SrcWrite 0 0, .rateRelease 0 0 0, .mooringKeyQuiesced 0 0,
    .hostConfigRequest 0 0 false 0 0 0 false, .hostBar2Request 0 0 false 0 0 false false [], .msixUnmask 0 0, .ideCheckFail 0,
    .shortDropReturn 0 0 0 false, .vfEnableClear false 0, .portLinkUp 0 0 0, .driveUpstreamRequest 0 0 0 0 0 false false [],
    .frameReceive 0 0 [] false false 0, .pfcXoffRefresh 0 0, .pfcPauseReceived 0 0 0 false, .deckhandRun 0, .mnfEditWrite 0 0 0,
    .mnfEmMaskWrite 0 0 0, .retireQuiesced 0, .retransmitTimeout 0 0, .driveCompletion 0 0 0 0, .volumeCreate 0 0, .targetEnable 0 0 [],
    .nvmeTcpSegment 0 0 0 0 0 0 [] false, .driveIdleTimer 0, .panLoadStarted 0, .rakerExit 0 0 0, .tallyWrite 0 0 0 0,
    .cryStepBoundary 0 0, .taskMessageRead 0 0 0, .islandWake 0, .challenge 0 0 (List.replicate 32 0), .keyProg 0 0 0 0 0 0 []] : List Instr), wellFormed c = true := by decide +kernel

theorem test_wellFormed_edges : wellFormed (.ringHalt 128 63) = true ∧ wellFormed (.addI 255 3) = true ∧ wellFormed (.replayTimeout 13 1 7) = true
    ∧ wellFormed (.replayTimeout 20 0 0) = true ∧ wellFormed (.replayTimeout 21 0 0) = false ∧ wellFormed (.dllUnlock true 8 0) = false := by decide +kernel

/-! Worked examples of the spec. -/

/-- Chapter 0, a ring sequence across the wrap. -/
theorem test_sequence_wraps : after 0x10 0xFFFFFFF0 32 = true ∧ after 0x80000010 0x10 32 = false ∧ before 0x80000010 0x10 32 = false := by decide +kernel

/-- Chapter 2, one address in both forms. -/
theorem test_hbm_spread : (W []).stackOf 0x1234567000 = (3, 0x2468AC000) := by decide +kernel
theorem test_hbm_home : (W [(Fld.IDENT_HBM_MAP_QUAD_HOME, 4)]).stackOf 0x1234567000 = (3, 0x21A2B3000) := by decide +kernel

/-- Chapter 13, locating one block: volume 17 on DP0 to DP3, SU_LOG2 17, START_LBA 0x10000, volume block 1,000. -/
theorem test_volume_block : ((W [(Fld.STO_VOL_CTRL_STATE 17, 1), (Fld.STO_VOL_CTRL_DRIVE_SET 17, 0xF), (Fld.STO_VOL_CTRL_SU_LOG2 17, 17),
    (Fld.STO_VOL_BASE_START_LBA 17, 0x10000), (Fld.STO_VOL_SIZE_BLOCKS 17, 0x10000)]).volAt 17 1000).1 = 3
  ∧ ((W [(Fld.STO_VOL_CTRL_STATE 17, 1), (Fld.STO_VOL_CTRL_DRIVE_SET 17, 0xF), (Fld.STO_VOL_CTRL_SU_LOG2 17, 17),
    (Fld.STO_VOL_BASE_START_LBA 17, 0x10000), (Fld.STO_VOL_SIZE_BLOCKS 17, 0x10000)]).volAt 17 1000).2.1 = 0x100E8 := by decide +kernel

/-- A Raker's state after one command. -/
def after1 (c : Instr) (x : Insn) (r : RakerS) : RakerS :=
  match exec c (S (R x r [])) with
  | .next t => t.dev.rk 255 3
  | _ => RakerS.init

/-- Chapter 16, settling a ledger record, steps 6 to 8 with the words of Table 16.13. -/
theorem test_ledger_add : (after1 (.dadd 255 3) ⟨0x0A1CB600, false, 0⟩ { RakerS.init with g := [(11, 0x1234567C), (12, 0x98765D)] }).gr 14 = 0x1135802C := by
  decide +kernel
theorem test_ledger_multiply : (after1 (.dmuld 255 3) (ins 40 16 14 13 2) { RakerS.init with g := [(13, 0x350C), (14, 0x1135802C)] }).gr 16 = 0x397530700C := by
  decide +kernel
theorem test_ledger_round : (after1 (.drnd 255 3) ⟨0x0A250216, false, 0⟩ { RakerS.init with g := [(16, 0x397530700C), (17, 0xC)] }).gr 18 = 0x39753C
    ∧ (after1 (.drnd 255 3) ⟨0x0A250216, false, 0⟩ { RakerS.init with g := [(16, 0x397530700C), (17, 0xC)] }).dflags = 32 := by decide +kernel

/-- The same record's first load, LD g11, 8(g10), W 3: the word's fields. -/
theorem test_ledger_load_word : (⟨0x0416A301, false, 0⟩ : Insn).key = 0x10 * 128 ∧ (⟨0x0416A301, false, 0⟩ : Insn).rd = 11 ∧ (⟨0x0416A301, false, 0⟩ : Insn).ra = 10
    ∧ (⟨0x0416A301, false, 0⟩ : Insn).offset 8 = 8 ∧ (⟨0x0416A301, false, 0⟩ : Insn).legal = true := by decide +kernel

/-- Chapter 17, the gather's word: VLDG v4, (g10, v2), guarded by p1. -/
theorem test_gather_word : (⟨0x2EC8A150, false, 0⟩ : Insn).major = 0x3B ∧ (⟨0x2EC8A150, false, 0⟩ : Insn).rd = 4 ∧ (⟨0x2EC8A150, false, 0⟩ : Insn).ra = 10
    ∧ (⟨0x2EC8A150, false, 0⟩ : Insn).rb = 2 ∧ (⟨0x2EC8A150, false, 0⟩ : Insn).guardReg = 1 ∧ (⟨0x2EC8A150, false, 0⟩ : Insn).legal = true := by decide +kernel

/-- Chapter 18, four elements of a block to FP8-E4M3 at the scale 0x78 (Table 18.6): 3.7, 0.3, 0.001 and −0.3. -/
theorem test_quantize_block :
    velem ((after1 (.vcvtFp32ToE4m3 255 3) (ins 0x35 1 2 3 0) { RakerS.init with g := [(3, 0x78)], v := [(2, 0xBE99999A3A83126F3E99999A406CCCCD)] }).vr 1) 32 0
      = 0xE220627E
    ∧ (after1 (.vcvtFp32ToE4m3 255 3) (ins 0x35 1 2 3 0) { RakerS.init with g := [(3, 0x78)], v := [(2, 0xBE99999A3A83126F3E99999A406CCCCD)] }).dflags = 4 + 16 := by
  decide +kernel

/-- Chapter 3, Pan quad 12 at 1.33 GHz: NINT 79, FRAC 0xCCCCCD, DIV 3. -/
theorem test_island_frequency : pllKhz 79 0xCCCCCD 3 = 1330000 := by decide +kernel

/-! For each clause of each statement that has hypotheses, a state and operands that meet them all. -/

theorem witness_RingSequences_1 : ∃ (s : State) (b r v : Nat), b ≤ 128 ∧ r < 64 ∧ s.dev.ringState b r ≠ 0 ∧ after (v % 2 ^ 32) (s.dev.get (Fld.RING_TAIL_TAIL_SEQ b r)) 32 = true ∧ subMod (v % 2 ^ 32) (s.dev.get (Fld.RING_SEQS_CONSUMED_SEQ b r)) 32 ≤ s.dev.ringSize b r :=
  ⟨S (W [(Fld.RING_STATE_STATE 128 63, 1), (Fld.RING_TAIL_TAIL_SEQ 128 63, 0xFFFFFFFF), (Fld.RING_SEQS_CONSUMED_SEQ 128 63, 0xFFFFFFFF), (Fld.RING_DESC_CTRL_LOG2_SIZE 128 63, 3)]), 128, 63, 7, by decide +kernel, by decide +kernel, by decide +kernel, by decide +kernel, by decide +kernel⟩

theorem witness_RingSequences_2 : ∃ (s : State) (b r v : Nat), b ≤ 128 ∧ r < 64 ∧ after (v % 2 ^ 32) (s.dev.get (Fld.RING_REAPED_REAPED_SEQ b r)) 32 = true ∧ after (v % 2 ^ 32) (s.dev.get (Fld.RING_SEQS_PRODUCED_SEQ b r)) 32 = false :=
  ⟨S (W [(Fld.RING_REAPED_REAPED_SEQ 0 0, 4), (Fld.RING_SEQS_PRODUCED_SEQ 0 0, 5)]), 0, 0, 5, by decide +kernel, by decide +kernel, by decide +kernel, by decide +kernel⟩

theorem witness_RingSequences_3 : ∃ (s : State) (b r : Nat), b ≤ 128 ∧ r < 64 ∧ s.dev.get (Fld.RING_DESC_COAL_COAL_US b r) ≠ 0 ∧ 0 < (s.dev.rh b r).unann ∧ s.dev.on (Fld.RING_DESC_CTRL_INTR_EN b r) = true :=
  ⟨S { W [(Fld.RING_DESC_COAL_COAL_US 128 63, 1), (Fld.RING_DESC_CTRL_INTR_EN 128 63, 1)] with ringH := [(128 * 64 + 63, { RingH.init with unann := 1 })] }, 128, 63, by decide +kernel, by decide +kernel, by decide +kernel, by decide +kernel, by decide +kernel⟩

theorem witness_RingSequences_4 : ∃ (s : State) (b r slot : Nat) (t : Ticket), s.dev.ticketAt b r slot = some t ∧ t.deadlineUs ≠ 0 :=
  ⟨S (inFlight (W []) { T 1 2 3 (tw 0 0 []) with deadlineUs := 5 }), 1, 2, 3, { T 1 2 3 (tw 0 0 []) with deadlineUs := 5 }, by decide +kernel, by decide +kernel⟩

theorem witness_RingSequences_5 : ∃ (s : State) (b r slot : Nat) (t : Ticket), s.dev.Ready b r slot 0 0 t :=
  ⟨S (inFlight (W []) (T 1 2 3 (tw 0 0 []))), 1, 2, 3, T 1 2 3 (tw 0 0 []), by unfold Dev.Ready; decide +kernel⟩

theorem witness_TicketTaken_1 : ∃ (s : State) (b r dpa : Nat) (leaf : Word) (d : Dev), b ≤ 128 ∧ r < 64 ∧ s.dev.canTake b r = true ∧ s.dev.scheduled b r = true ∧ (s.dev.served b r).ringXlate b ((s.dev.served b r).get (Fld.RING_DESC_TBASE_TBASE b r) + 64 * ((s.dev.served b r).get (Fld.RING_SEQS_CONSUMED_SEQ b r) % (s.dev.served b r).ringSize b r)) 0 64 = (.ok dpa leaf, d) ∧ d.destOf b dpa leaf = .mem dpa ∧ d.poisoned dpa 64 = false ∧ ticketOk (toWords 8 (d.bytes dpa 64)) = true ∧ Machine.wf (toWords 8 (d.bytes dpa 64)) 1 0 32 = 0 ∧ (b = 0 ∨ d.get (Fld.BPLAN_CTRL_QUARANTINED b) = 0) :=
  ⟨S { X 1 [(Fld.RING_STATE_STATE 1 0, 1), (Fld.RING_TAIL_TAIL_SEQ 1 0, 1), (Fld.RING_DESC_CTRL_LOG2_SIZE 1 0, 3), (Fld.RING_SEQS_CONSUMED_SEQ 1 0, 0), (Fld.RING_REAPED_REAPED_SEQ 1 0, 0), (Fld.RING_DESC_TBASE_TBASE 1 0, 0)] with ringsOn := [64] }, 1, 0, _, _, _, by decide +kernel, by decide +kernel, by decide +kernel, by decide +kernel, rfl, by decide +kernel, by decide +kernel, by decide +kernel, by decide +kernel, by decide +kernel⟩

theorem witness_RingControl_1 : ∃ (s : State) (b r : Nat) (v : Word), b ≤ 128 ∧ r < 64 ∧ s.dev.on (Fld.RING_DESC_CTRL_ENABLE b r) = false ∧ (s.dev.writeReg (descKey b r 0) (v ||| 1) 8 0).on (Fld.RING_DESC_CTRL_ENABLE b r) = true ∧ (((s.dev.writeReg (descKey b r 0) (v ||| 1) 8 0).put (Fld.RING_DESC_CTRL_ENABLE b r) 0).enableRefused b r) = false :=
  ⟨S (W []), 0, 0, 0, by decide +kernel, by decide +kernel, by decide +kernel, by decide +kernel, by decide +kernel⟩

theorem witness_RingControl_2 : ∃ (s : State) (b r : Nat) (v : Word), b ≤ 128 ∧ r < 64 ∧ s.dev.on (Fld.RING_DESC_CTRL_ENABLE b r) = true ∧ (s.dev.writeReg (descKey b r 0) (v &&& ~~~1) 8 0).on (Fld.RING_DESC_CTRL_ENABLE b r) = false ∧ setBits ((s.dev.writeReg (descKey b r 0) (v &&& ~~~1) 8 0).reg (descKey b r 0)) 0 1 1 = s.dev.reg (descKey b r 0) :=
  ⟨S (W [(Fld.RING_DESC_CTRL_ENABLE 0 0, 1)]), 0, 0, 0, by decide +kernel, by decide +kernel, by decide +kernel, by decide +kernel, by decide +kernel⟩

theorem witness_RingControl_3 : ∃ (s : State) (b r : Nat), b ≤ 128 ∧ r < 64 ∧ s.dev.ringState b r = 1 ∧ s.dev.isSignal b r = true :=
  ⟨S (W [(Fld.RING_STATE_STATE 0 63, 1), (Fld.RING_DESC_CTRL_KIND 0 63, 1)]), 0, 63, by decide +kernel, by decide +kernel, by decide +kernel, by decide +kernel⟩

theorem witness_RingControl_4 : ∃ (s : State) (b r : Nat), b ≤ 128 ∧ r < 64 ∧ s.dev.ringState b r = 1 ∧ s.dev.isSignal b r = false ∧ (∀ d : Dev, d.tickets = s.dev.tickets → d.waiting b r = []) :=
  ⟨S (W [(Fld.RING_STATE_STATE 0 63, 1), (Fld.RING_DESC_CTRL_KIND 0 63, 0)]), 0, 63, by decide +kernel, by decide +kernel, by decide +kernel, by decide +kernel, (by intro d h; unfold Dev.waiting; rw [h]; rfl)⟩

theorem witness_RingControl_5 : ∃ (s : State) (b r : Nat) (d : Dev), b ≤ 128 ∧ r < 64 ∧ s.dev.isSignal b r = false ∧ (s.dev.ringState b r = 1 ∨ s.dev.ringState b r = 2 ∨ s.dev.ringState b r = 3) ∧ d = (s.dev.tickets.filter (fun t => t.key.b = b && t.key.r = r)).foldl (fun e t => e.finish t 2 0 0) { (s.dev.put (Fld.RING_STATE_STATE b r) 4).put (Fld.RING_STATE_CAUSE b r) 0 with outst := s.dev.outst.filter (fun o => o.purpose ≠ Purpose.fetch b r) } :=
  ⟨S (W [(Fld.RING_STATE_STATE 0 63, 2), (Fld.RING_DESC_CTRL_KIND 0 63, 0)]), 0, 63, _, by decide +kernel, by decide +kernel, by decide +kernel, (by decide +kernel), rfl⟩

theorem witness_RingControl_6 : ∃ (s : State) (b r : Nat), b ≤ 128 ∧ r < 64 ∧ s.dev.ringState b r = 3 ∧ (b = 0 ∨ s.dev.get (Fld.BPLAN_CTRL_QUARANTINED b) = 0) :=
  ⟨S (W [(Fld.RING_STATE_STATE 0 63, 3)]), 0, 63, by decide +kernel, by decide +kernel, by decide +kernel, by decide +kernel⟩

theorem witness_RegisterIssuesKey_1 : ∃ (s : State) (b : Nat) (r : Nat) (slot : Nat) (i : Nat) (t : Ticket) (p : PageSum), s.dev.Ready b r slot 1 1 t ∧ t.key.b = b ∧ bodyZero t.words [(2, 2 ^ 48 - 1), (3, 2 ^ 41 - 1), (4, 2 ^ 20 - 1)] = true ∧ Machine.wf t.words 3 0 41 ≠ 0 ∧ Machine.wf t.words 3 0 41 ≤ 2 ^ 40 ∧ Machine.wf t.words 2 0 48 + Machine.wf t.words 3 0 41 ≤ 2 ^ 48 ∧ (Machine.wf t.words 4 0 6 < 8 ∨ t.right 7 1 ≠ 0) ∧ Machine.wf t.words 4 6 1 = 0 ∧ (s.dev.begin t).moorOn = true ∧ (s.dev.begin t).regWalk b t.accel (Machine.wf t.words 4 0 6) (Machine.wf t.words 2 0 48 + Machine.wf t.words 3 0 41 - 1) (Machine.wf t.words 3 0 41 / 4096 + 2) (Machine.wf t.words 2 0 48 / 4096 * 4096) ⟨0, 0, [], false, []⟩ = .ok p ∧ p.hbm < 2 ^ 27 ∧ p.cis < 2 ^ 17 ∧ (b = 0 ∨ ((s.dev.begin t).get (Fld.USAGE_MOORINGS_USED b) + 1 ≤ getBits (t.planWord 0x10) 8 21 ∧ pagesMib ((tget (fun _ => BerthH.init) (s.dev.begin t).berthH b).hbmPages + p.hbm) ≤ getBits (t.planWord 0x18) 0 19 ∧ pagesMib ((tget (fun _ => BerthH.init) (s.dev.begin t).berthH b).cisPages + p.cis) ≤ getBits (t.planWord 0x18) 32 9)) ∧ (s.dev.begin t).freeIndex (min (s.dev.begin t).moorEntries ((s.dev.begin t).moor.reg.length + 1)) (s.dev.begin t).moor.lastPlus1 = some i :=
  ⟨S (inFlight (M 1 [(Fld.USAGE_MOORINGS_USED 1, 0), (Fld.CPLAN_RIGHTS_ACCEL 1, 0)]) (T 1 0 0 (tw 1 1 [(3, 0, 41, 4096), (4, 0, 6, 1)]))), 1, 0, 0, 0, T 1 0 0 (tw 1 1 [(3, 0, 41, 4096), (4, 0, 6, 1)]), ⟨1, 0, [(0, 1)], false, [(1073741824, 0, 1)]⟩, by unfold Dev.Ready; decide +kernel, by decide +kernel, by decide +kernel, by decide +kernel, by decide +kernel, by decide +kernel, by decide +kernel, by decide +kernel, by decide +kernel, by decide +kernel, by decide +kernel, by decide +kernel, by decide +kernel, by decide +kernel⟩

set_option maxRecDepth 200000 in
theorem witness_MooringLifecycle_1 : ∃ (s : State) (b : Nat) (r : Nat) (slot : Nat) (t : Ticket) (e : List Word), s.dev.Ready b r slot 1 2 t ∧ bodyZero t.words [(2, 2 ^ 32 - 1)] = true ∧ (s.dev.begin t).keyOpen (.loc t.key.b) (Machine.wf t.words 2 0 32) = .ok e :=
  ⟨S (inFlight (M 128 []) (T 128 0 0 (tw 1 2 [(2, 0, 32, key)]))), 128, 0, 0, T 128 0 0 (tw 1 2 [(2, 0, 32, key)]), _, by unfold Dev.Ready; decide +kernel, by decide +kernel, rfl⟩

set_option maxRecDepth 200000 in
theorem witness_MooringLifecycle_2 : ∃ (s : State) (b : Nat) (r : Nat) (slot : Nat) (t : Ticket) (e : List Word), s.dev.Ready b r slot 1 3 t ∧ bodyZero t.words [(2, 2 ^ 32 - 1)] = true ∧ (s.dev.begin t).keyOpen (.loc t.key.b) (Machine.wf t.words 2 0 32) = .ok e :=
  ⟨S (inFlight (M 0 []) (T 0 0 0 (tw 1 3 [(2, 0, 32, key)]))), 0, 0, 0, T 0 0 0 (tw 1 3 [(2, 0, 32, key)]), _, by unfold Dev.Ready; decide +kernel, by decide +kernel, rfl⟩

theorem witness_MooringLifecycle_3 : ∃ (s : State) (i : Nat) (g : Nat) (q : Quiesce), s.dev.moor.waiting.find? (fun q => decide (q.index = i ∧ q.oldGen = g)) = some q ∧ s.dev.keyBusy i g = false :=
  ⟨S { W [] with moor := ⟨0, [⟨3, 7, ⟨0, 0, 0, 0⟩, true⟩], [3]⟩ }, 3, 7, ⟨3, 7, ⟨0, 0, 0, 0⟩, true⟩, by decide +kernel, by decide +kernel⟩

set_option maxRecDepth 200000 in
theorem witness_MooringLifecycle_4 : ∃ (s : State) (b : Nat) (r : Nat) (slot : Nat) (a : Nat) (t : Ticket) (d1 : Dev), s.dev.Ready b r slot 2 2 t ∧ s.dev.tickets.any (fun u => u.key.b = b && u.key.r = r && before u.seq t.seq 32) = false ∧ bodyZero t.words [(4, 2 ^ 32 - 1), (5, 2 ^ 41 - 1)] = true ∧ (s.dev.begin t).keyedPiece (.loc t.key.b) (Machine.wf t.words 4 0 32) (Machine.wf t.words 5 0 41) 0 1 t.accel 6 0 = (.ok (.mem a), d1) :=
  ⟨S (inFlight (M 1 [(Fld.CPLAN_RIGHTS_ACCEL 1, 0)]) (T 1 0 0 (tw 2 2 [(4, 0, 32, key)]))), 1, 0, 0, _, T 1 0 0 (tw 2 2 [(4, 0, 32, key)]), _, by unfold Dev.Ready; decide +kernel, by decide +kernel, by decide +kernel, rfl⟩

theorem witness_MooringLifecycle_5 : ∃ (s : State) (v : Word) (w : Dev), w = s.dev.writeReg Reg.TOLL_MOOR v 8 0 ∧ s.dev.on Fld.TOLL_MOOR_ENABLE = false ∧ w.on Fld.TOLL_MOOR_ENABLE = true ∧ s.dev.on Fld.TOLL_CTRL_ENABLE = true ∧ s.dev.tollBase ≤ w.get Fld.TOLL_MOOR_BASE * 4096 ∧ w.get Fld.TOLL_MOOR_BASE * 4096 + 32 * 2 ^ w.get Fld.TOLL_MOOR_LOG2_ENTRIES ≤ s.dev.tollBase + s.dev.tollSize :=
  ⟨S (W [(Fld.TOLL_MOOR_ENABLE, 0), (Fld.TOLL_CTRL_ENABLE, 1), (Fld.TOLL_REGION_SIZE, 1)]), 0x2009, _, rfl, by decide +kernel, by decide +kernel, by decide +kernel, by decide +kernel, by decide +kernel⟩

theorem witness_MooringLifecycle_6 : ∃ (s : State), s.dev.on Fld.TOLL_MOOR_BUSY = true :=
  ⟨S (W [(Fld.TOLL_MOOR_BUSY, 1)]), by decide +kernel⟩

set_option maxRecDepth 200000 in
theorem witness_CopyMoves_1 : ∃ (s : State) (b : Nat) (r : Nat) (slot : Nat) (t : Ticket) (u : Ticket) (t1 : Ticket) (t2 : Ticket) (d1 : Dev) (d2 : Dev) (o : Nat × Nat), s.dev.Ready b r slot 2 1 t ∧ t.key.b = b ∧ t.result = 0 ∧ u = { t.begun with prove := Machine.wf t.words 6 32 1 = 1 } ∧ bodyZero t.words [(2, 2 ^ 32 - 1), (3, 2 ^ 41 - 1), (4, 2 ^ 32 - 1), (5, 2 ^ 41 - 1), (6, 2 ^ 31 - 1 + 2 ^ 32)] = true ∧ 0 < Machine.wf t.words 6 0 31 ∧ Machine.wf t.words 6 0 31 ≤ 2 ^ 30 ∧ Machine.wf t.words 6 0 31 ≤ 4096 - (s.dev.begin t).keyVa (Machine.wf t.words 4 0 32) (Machine.wf t.words 5 0 41) % 4096 ∧ (s.dev.begin t).gatherPieces (.loc b) { u with data := [], left := 0, bad := false, marks := [] } (Machine.wf t.words 2 0 32) 6 0 ((s.dev.begin t).keyedPieces (Machine.wf t.words 2 0 32) (Machine.wf t.words 3 0 41) (Machine.wf t.words 6 0 31)) 0 = (.ok (), d1, t1) ∧ t1.left = 0 ∧ t1.words = t.words ∧ d1.keyCheck (.loc b) (Machine.wf t.words 4 0 32) (Machine.wf t.words 5 0 41) (Machine.wf t.words 6 0 31) 1 = .ok o ∧ d1.placePieces (.loc b) t1 (Machine.wf t.words 4 0 32) 6 0 t1.marks [(Machine.wf t.words 5 0 41, Machine.wf t.words 6 0 31)] (t1.bytesAt 0 (Machine.wf t.words 6 0 31)) = (.ok (), d2, t2) ∧ t2.words = t.words :=
  ⟨S (inFlight (M 0 []) (T 0 0 0 (tw 2 1 [(2, 0, 32, key), (4, 0, 32, key), (5, 0, 41, 256), (6, 0, 31, 3)]))), 0, 0, 0, T 0 0 0 (tw 2 1 [(2, 0, 32, key), (4, 0, 32, key), (5, 0, 41, 256), (6, 0, 31, 3)]), _, _, _, _, _, _, by unfold Dev.Ready; decide +kernel, by decide +kernel, by decide +kernel, rfl, by decide +kernel, by decide +kernel, by decide +kernel, by decide +kernel, rfl, by decide +kernel, by decide +kernel, rfl, rfl, by decide +kernel⟩

theorem witness_CapLoop_1 : ∃ (s : State) (p : Int) (d0 : Dev) (d1 : Dev) (d2 : Dev), d0 = s.dev.at s.dev.nextMs ∧ d0.powerNow = (p, none) ∧ d1 = (d0.put Fld.PWR_STATUS_STALE 0).put Fld.PWR_STATUS_POWER_W (p / 2 ^ 27).toNat ∧ (d1.capTemp d1.hottest.1).on (Fld.TASK_HELM_AUTONOMOUS 0) = false ∧ d2 = (d1.capTemp d1.hottest.1).put Fld.PWR_CAPS_AUTO_W 750 ∧ d1.hottest.1 < (d2.power.thermBrake : Int) * 1024 ∧ d2.on Fld.PWR_STATUS_THERMAL = false :=
  ⟨S { W ((List.range 24).map (fun c => (Fld.GAU_LAST_TIDE_TIDE c, 1)) ++ (List.range 24).map (fun c => (Fld.GAU_LAST_WORD c, 0)) ++ [(Fld.PWR_CTRL_OTHER_W, 25), (Fld.TASK_HELM_AUTONOMOUS 0, 0), (Fld.PWR_STATUS_THERMAL, 0), (Fld.PWR_CAPS_AUTO_W, 0)]) with tide := 1 }, 25 * 2 ^ 27, _, _, _, rfl, by decide +kernel, rfl, by decide +kernel, rfl, by decide +kernel, by decide +kernel⟩

theorem witness_PowerStates_2 : ∃ (s : State) (n : Nat), n < 96 ∧ s.dev.on Fld.PWR_CTRL_IDLE_EN = true ∧ s.dev.on (Fld.PWR_IDLE_NEAP_NS (idleKind n)) = true ∧ s.dev.islandIdle n = true ∧ s.dev.get (Fld.PWR_ISL_STATE n) < 2 ∧ tget (fun _ => 0) s.dev.power.moving n = 0 :=
  ⟨S (W [(Fld.PWR_CTRL_IDLE_EN, 1), (Fld.PWR_IDLE_NEAP_NS (idleKind 0), 1), (Fld.PWR_ISL_STATE 0, 1), (Fld.PAN_STATE_STATE 0, 0), (Fld.PAN_STATE_STATE 1, 0), (Fld.PAN_STATE_STATE 2, 0), (Fld.PAN_STATE_STATE 3, 0)]), 0, by decide +kernel, by decide +kernel, by decide +kernel, by decide +kernel, by decide +kernel, by decide +kernel⟩

theorem witness_PowerStates_3 : ∃ (s : State) (n : Nat), n < 96 ∧ s.dev.on Fld.PWR_CTRL_IDLE_EN = true ∧ s.dev.on (Fld.PWR_IDLE_SLACK_US (idleKind n)) = true ∧ s.dev.islandIdle n = true ∧ s.dev.get (Fld.PWR_ISL_STATE n) = 2 ∧ tget (fun _ => 0) s.dev.power.moving n = 0 :=
  ⟨S (W [(Fld.PWR_CTRL_IDLE_EN, 1), (Fld.PWR_IDLE_SLACK_US (idleKind 95), 1), (Fld.PWR_ISL_STATE 95, 2), (Fld.CRY_STATE_QUEUED 31, 0)]), 95, by decide +kernel, by decide +kernel, by decide +kernel, by decide +kernel, by decide +kernel, by decide +kernel⟩

theorem witness_PowerStates_4 : ∃ (s : State) (n : Nat), n < 96 ∧ (s.dev.get (Fld.PWR_ISL_STATE n) = 2 ∨ s.dev.get (Fld.PWR_ISL_STATE n) = 3) ∧ tget (fun _ => 0) s.dev.power.moving n = 0 :=
  ⟨S (W [(Fld.PWR_ISL_STATE 95, 3)]), 95, by decide +kernel, (by decide +kernel), by decide +kernel⟩

theorem witness_PowerStates_5 : ∃ (s : State) (n : Nat), n < 96 ∧ tget (fun _ => 0) s.dev.power.moving n = 3 :=
  ⟨S { W [] with power := { Dev.reset.power with moving := [(95, 3)] } }, 95, by decide +kernel, by decide +kernel⟩

theorem witness_PowerStates_6 : ∃ (s : State) (n : Nat), n < 96 ∧ tget (fun _ => 0) s.dev.power.moving n = 1 :=
  ⟨S { W [] with power := { Dev.reset.power with moving := [(0, 1)] } }, 0, by decide +kernel, by decide +kernel⟩

theorem witness_PowerStates_7 : ∃ (ns : Nat), 20 ≤ ns :=
  ⟨20, by decide +kernel⟩

theorem witness_PowerStates_8 : ∃ (ns : Nat), 20 ≤ ns :=
  ⟨20, by decide +kernel⟩

theorem witness_PowerStates_9 : ∃ (v : Word), 1 ≤ getBits v 16 16 ∧ getBits v 16 16 ≤ 100 ∧ getBits v 32 16 ≤ 200 ∧ getBits v 1 1 = 0 :=
  ⟨packW [(16, 16, 100), (32, 16, 200)], by decide +kernel, by decide +kernel, by decide +kernel, by decide +kernel⟩

theorem witness_PtpPort_1 : ∃ (s : State) (src : Nat), s.dev.fromMaster src = true :=
  ⟨S { W [(Fld.TID_CTRL_PTP_EN, 1)] with time := { TimeS.init with master := 8 } }, 7, by decide +kernel⟩

theorem witness_PtpPort_2 : ∃ (s : State) (src : Nat), s.dev.fromMaster src = true ∧ s.dev.time.t2 ≠ 0 ∧ s.dev.time.t1 = 0 :=
  ⟨S { W [(Fld.TID_CTRL_PTP_EN, 1)] with time := { TimeS.init with master := 8, t2 := 1 } }, 7, by decide +kernel, by decide +kernel, by decide +kernel⟩

theorem witness_PtpPort_3 : ∃ (s : State) (src : Nat) (t4 : Nat) (corr : Int) (ms : Int) (sm : Int), s.dev.fromMaster src = true ∧ s.dev.time.t1 ≠ 0 ∧ s.dev.time.t2 ≠ 0 ∧ s.dev.time.t3 ≠ 0 ∧ ms = (s.dev.time.t2 : Int) - s.dev.time.t1 - s.dev.time.corr ∧ sm = (t4 : Int) - (s.dev.time.t3 - 1 : Nat) - corr :=
  ⟨S { W [(Fld.TID_CTRL_PTP_EN, 1)] with time := { TimeS.init with master := 8, t1 := 1, t2 := 2, t3 := 3 } }, 7, 9, 0, _, _, by decide +kernel, by decide +kernel, by decide +kernel, by decide +kernel, rfl, rfl⟩

theorem witness_PtpPort_4 : ∃ (s : State), s.dev.on Fld.TID_CTRL_PTP_EN = true ∧ s.dev.time.heard = [] ∧ s.dev.time.master = 0 :=
  ⟨S (W [(Fld.TID_CTRL_PTP_EN, 1)]), by decide +kernel, by decide +kernel, by decide +kernel⟩

theorem witness_PtpPort_5 : ∃ (s : State), s.dev.on Fld.TID_CTRL_PTP_EN = true ∧ s.dev.time.master ≠ 0 :=
  ⟨S { W [(Fld.TID_CTRL_PTP_EN, 1)] with time := { TimeS.init with master := 8 } }, by decide +kernel, by decide +kernel⟩

theorem witness_PtpPort_6 : ∃ (s : State), s.dev.on Fld.TID_CTRL_PTP_EN = true ∧ s.dev.time.master ≠ 0 ∧ s.dev.time.outputs ≠ [] :=
  ⟨S { W [(Fld.TID_CTRL_PTP_EN, 1)] with time := { TimeS.init with master := 8, outputs := [-3] } }, by decide +kernel, by decide +kernel, by decide +kernel⟩

theorem witness_WallTime_1 : ∃ (s : State), s.dev.on Fld.TID_STATUS_WALL_VALID = true :=
  ⟨S (W [(Fld.TID_STATUS_WALL_VALID, 1)]), by decide +kernel⟩

theorem witness_WallTime_2 : ∃ (s : State) (v : Word) (w : Dev), w = s.dev.writeReg Reg.TID_WALL_SET_NS v 8 0 ∧ woBits v 8 0 63 1 = 1 ∧ s.dev.on Fld.TID_CTRL_PTP_EN = false ∧ w.get Fld.TID_WALL_SET_NS_NS ≤ 999999999 ∧ w.on Fld.TID_STATUS_WALL_VALID = false :=
  ⟨S (W [(Fld.TID_CTRL_PTP_EN, 0), (Fld.TID_STATUS_WALL_VALID, 0)]), packW [(63, 1, 1), (0, 30, 999999999)], _, rfl, by decide +kernel, by decide +kernel, by decide +kernel, by decide +kernel⟩

theorem witness_WallTime_3 : ∃ (s : State) (v : Word) (w : Dev), w = s.dev.writeReg Reg.TID_FREQ v 8 0 ∧ s.dev.on Fld.TID_CTRL_PTP_EN = false ∧ (signed 32 (w.get Fld.TID_FREQ_FREQ_PPB)).natAbs ≤ 4000000 :=
  ⟨S (W [(Fld.TID_CTRL_PTP_EN, 0)]), packW [(0, 32, 4000000)], _, rfl, by decide +kernel, by decide +kernel⟩

set_option maxRecDepth 20000 in
theorem witness_WallTime_5 : ∃ (s : State) (b : Nat) (r : Nat) (slot : Nat) (t : Ticket) (t1 : Ticket) (d1 : Dev), s.dev.Ready b r slot 6 1 t ∧ bodyZero t.words [(2, 2 ^ 32 - 1), (3, 2 ^ 41 - 1)] = true ∧ Machine.wf t.words 3 0 41 % 32 = 0 ∧ (s.dev.begin t).placePieces (.loc t.key.b) t.begun (Machine.wf t.words 2 0 32) 6 0 [] ((s.dev.begin t).keyedPieces (Machine.wf t.words 2 0 32) (Machine.wf t.words 3 0 41) 32) (s.dev.begin t).timeRecord = (.ok (), d1, t1) :=
  ⟨S (inFlight (M 0 []) (T 0 0 0 (tw 6 1 [(2, 0, 32, key)]))), 0, 0, 0, T 0 0 0 (tw 6 1 [(2, 0, 32, key)]), _, _, by unfold Dev.Ready; decide +kernel, by decide +kernel, by decide +kernel, rfl⟩

theorem witness_WallTime_6 : ∃ (s : State) (b : Nat) (r : Nat) (slot : Nat) (t : Ticket), s.dev.Ready b r slot 6 0x10 t ∧ bodyZero t.words [(2, 2 ^ 64 - 1)] = true ∧ t.right 11 1 ≠ 0 ∧ (s.dev.begin t).timers.length ≤ 65536 :=
  ⟨S (inFlight (W []) (T 1 0 0 (tw 6 0x10 []))), 1, 0, 0, T 1 0 0 (tw 6 0x10 []), by unfold Dev.Ready; decide +kernel, by decide +kernel, by decide +kernel, by decide +kernel⟩

theorem witness_WallTime_7 : ∃ (s : State) (b : Nat) (r : Nat) (slot : Nat) (t : Ticket), s.dev.Ready b r slot 6 0x11 t ∧ bodyZero t.words [(2, 2 ^ 48 - 1), (3, 2 ^ 30 - 1 + 2 ^ 32 + (2 ^ 16 - 1) * 2 ^ 48)] = true ∧ Machine.wf t.words 3 0 30 ≤ 999999999 ∧ t.right 11 1 ≠ 0 ∧ (s.dev.begin t).timers.length ≤ 65536 ∧ s.dev.on Fld.TID_STATUS_WALL_VALID = true ∧ Machine.wf t.words 3 32 1 = 0 :=
  ⟨S (inFlight (W [(Fld.TID_STATUS_WALL_VALID, 1)]) (T 1 0 0 (tw 6 0x11 [(3, 0, 30, 999999999)]))), 1, 0, 0, T 1 0 0 (tw 6 0x11 [(3, 0, 30, 999999999)]), by unfold Dev.Ready; decide +kernel, by decide +kernel, by decide +kernel, by decide +kernel, by decide +kernel, by decide +kernel, by decide +kernel⟩

theorem witness_WallTime_8 : ∃ (s : State) (b : Nat) (r : Nat) (slot : Nat) (t : Ticket), s.dev.timers.find? (fun t => t.key.b = b && t.key.r = r && t.key.slot = slot) = some t ∧ Machine.wf t.words 0 0 8 = 0x10 :=
  ⟨S (inFlight (W []) { T 1 0 0 (tw 6 0x10 []) with started := true }), 1, 0, 0, { T 1 0 0 (tw 6 0x10 []) with started := true }, by decide +kernel, by decide +kernel⟩

theorem witness_RegisterAccess_1 : ∃ (f : Nat) (r : Nat), 1 ≤ f ∧ f ≤ 128 ∧ r < 64 :=
  ⟨128, 63, by decide +kernel, by decide +kernel, by decide +kernel⟩

theorem witness_RegisterAccess_2 : ∃ (off : Nat), 0x1000000 ≤ off ∧ off < 0x2000000 ∧ off % 8 = 0 :=
  ⟨0x1FFFFF8, by decide +kernel, by decide +kernel, by decide +kernel⟩

theorem witness_RegisterAccess_3 : ∃ (off : Nat), 0x400000 ≤ off ∧ off < 0x2000000 ∧ off % 8 = 0 :=
  ⟨0x400000, by decide +kernel, by decide +kernel, by decide +kernel⟩

theorem witness_RegisterAccess_4 : ∃ (off : Nat), off % 8 = 0 ∧ off < 0xC0 ∧ (findSpec (taskBase 1 + off)).isNone = false :=
  ⟨0, by decide +kernel, by decide +kernel, by decide +kernel⟩

theorem witness_RegisterAccess_5 : ∃ (off : Nat), off % 8 = 0 ∧ off < 0xC0 ∧ (findSpec (taskBase 1 + off)).isNone = false :=
  ⟨0, by decide +kernel, by decide +kernel, by decide +kernel⟩

set_option maxRecDepth 200000 in
theorem witness_PlanCommands_1 : ∃ (s : State) (b : Nat) (v : Word) (w : Dev), 1 ≤ b ∧ b ≤ 128 ∧ w = s.dev.writeReg (Reg.BPLAN_CTRL b) (setBits v 2 1 1) 8 0 ∧ w.on (Fld.BPLAN_CTRL_QUARANTINED b) = s.dev.on (Fld.BPLAN_CTRL_QUARANTINED b) ∧ getBits v 3 2 = 0 ∧ w.commitCause b = 0 :=
  ⟨S (vf (W [(Fld.BPLAN_RIGHTS_CLASS_MIN 128, 1)])), 128, 0, _, by decide +kernel, by decide +kernel, rfl, by decide +kernel, by decide +kernel, by decide +kernel⟩

set_option maxRecDepth 200000 in
theorem witness_PlanCommands_2 : ∃ (s : State) (b : Nat) (v : Word) (w : Dev), 1 ≤ b ∧ b ≤ 128 ∧ w = s.dev.writeReg (Reg.BPLAN_CTRL b) (setBits v 3 1 1) 8 0 ∧ w.on (Fld.BPLAN_CTRL_QUARANTINED b) = s.dev.on (Fld.BPLAN_CTRL_QUARANTINED b) ∧ getBits v 2 1 = 0 ∧ getBits v 4 1 = 0 ∧ w.get (Fld.BPLAN_CTRL_STATE b) ≠ 3 :=
  ⟨S (W []), 128, 0, _, by decide +kernel, by decide +kernel, rfl, by decide +kernel, by decide +kernel, by decide +kernel, by decide +kernel⟩

set_option maxRecDepth 200000 in
theorem witness_PlanCommands_3 : ∃ (s : State) (b : Nat) (v : Word) (w : Dev), 1 ≤ b ∧ b ≤ 128 ∧ w = s.dev.writeReg (Reg.BPLAN_CTRL b) (setBits v 4 1 1) 8 0 ∧ w.on (Fld.BPLAN_CTRL_QUARANTINED b) = s.dev.on (Fld.BPLAN_CTRL_QUARANTINED b) ∧ getBits v 2 2 = 0 ∧ w.get (Fld.BPLAN_CTRL_STATE b) = 2 :=
  ⟨S (W [(Fld.BPLAN_CTRL_STATE 1, 2)]), 1, 0, _, by decide +kernel, by decide +kernel, rfl, by decide +kernel, by decide +kernel, by decide +kernel⟩

set_option maxRecDepth 200000 in
theorem witness_PlanCommands_4 : ∃ (s : State) (b : Nat) (w : Dev), 1 ≤ b ∧ b ≤ 128 ∧ w = s.dev.writeReg (Reg.BPLAN_CTRL b) 0x40 8 0 ∧ s.dev.on (Fld.BPLAN_CTRL_QUARANTINED b) = true ∧ w.on (Fld.BPLAN_CTRL_QUARANTINED b) = false :=
  ⟨S (W [(Fld.BPLAN_CTRL_QUARANTINED 1, 1)]), 1, _, by decide +kernel, by decide +kernel, rfl, by decide +kernel, by decide +kernel⟩

theorem witness_PlanCommands_5 : ∃ (s : State) (b : Nat), 1 ≤ b ∧ b ≤ 128 ∧ s.dev.get (Fld.BPLAN_CTRL_STATE b) = 3 ∧ (tget (fun _ => BerthH.init) s.dev.berthH b).withdrawn = [] ∧ s.dev.xingsOf (fun o => o = b) = [] :=
  ⟨S (W [(Fld.BPLAN_CTRL_STATE 128, 3)]), 128, by decide +kernel, by decide +kernel, by decide +kernel, by decide +kernel, by decide +kernel⟩

theorem witness_PlanCommands_6 : ∃ (o : Nat), o < 0xC8 ∧ o % 8 = 0 :=
  ⟨0xC0, by decide +kernel, by decide +kernel⟩

theorem witness_PlanCommands_7 : ∃ (b : Nat) (which : Nat), 1 ≤ b ∧ b ≤ 128 ∧ which < 3 :=
  ⟨128, 2, by decide +kernel, by decide +kernel, by decide +kernel⟩

set_option maxRecDepth 200000 in
theorem witness_TollCommands_1 : ∃ (s : State) (ctx : Nat) (va : Nat) (kind : Nat) (len : Nat) (source : Nat) (dpa : Nat) (leaf : Word) (d1 : Dev), ctx ≤ 132 ∧ kind ≤ 2 ∧ s.dev.xlate ctx (va % 2 ^ 48) kind len { accel := if 1 ≤ ctx ∧ ctx ≤ 128 then s.dev.accelOf ctx else 15, hostBar := source = 1 } = (.ok dpa leaf, d1) :=
  ⟨S (X 129 []), 129, 4096, 2, 64, 3, _, _, _, by decide +kernel, by decide +kernel, rfl⟩

set_option maxRecDepth 200000 in
theorem witness_TollCommands_2 : ∃ (s : State) (ctx : Nat) (va : Nat) (kind : Nat) (len : Nat) (source : Nat) (k : Nat) (lvl : Nat) (d1 : Dev), ctx ≤ 132 ∧ kind ≤ 2 ∧ s.dev.xlate ctx (va % 2 ^ 48) kind len { accel := if 1 ≤ ctx ∧ ctx ≤ 128 then s.dev.accelOf ctx else 15, hostBar := source = 1 } = (.fault k lvl, d1) :=
  ⟨S (W []), 132, 0, 0, 64, 3, _, _, _, by decide +kernel, by decide +kernel, rfl⟩

set_option maxRecDepth 200000 in
theorem witness_TollCommands_3 : ∃ (s : State) (v : Word) (n : Nat), getBits v 0 2 ≠ 3 ∧ getBits v 2 8 ≤ 132 ∧ s.dev.get Fld.TOLL_INV_FLAGS_PENDING ≠ 16 ∧ n = (s.dev.get Fld.TOLL_INV_STATUS_ISSUED + 1) % 2 ^ 32 :=
  ⟨S (W [(Fld.TOLL_INV_FLAGS_PENDING, 15), (Fld.TOLL_INV_STATUS_ISSUED, 0xFFFFFFFF)]), packW [(2, 8, 132)], _, by decide +kernel, by decide +kernel, by decide +kernel, rfl⟩

theorem witness_TollCommands_4 : ∃ (s : State) (i : Inval) (q : List Inval), s.dev.toll.queue = i :: q ∧ (∀ o ∈ s.dev.outst, ∀ c, s.dev.outstCtx o = some c → i.scope ≠ 0 ∧ c ≠ i.ctx) :=
  ⟨S { W [] with toll := ⟨[], [⟨1, 132, 0, 12, 7⟩], false⟩ }, ⟨1, 132, 0, 12, 7⟩, [], by decide +kernel, (by intro o h; cases h)⟩

set_option maxRecDepth 200000 in
theorem witness_TollCommands_5 : ∃ (s : State) (v : Word) (w : Dev), w = s.dev.writeReg Reg.TOLL_REGION v 8 0 ∧ s.dev.on Fld.TOLL_CTRL_ENABLE = false ∧ w.tollBase + w.tollSize ≤ 2 ^ 38 :=
  ⟨S (W [(Fld.TOLL_CTRL_ENABLE, 0)]), packW [(48, 13, 0x1FFF)], _, rfl, by decide +kernel, by decide +kernel⟩

set_option maxRecDepth 200000 in
theorem witness_TollCommands_6 : ∃ (s : State) (v : Word) (w : Dev), w = s.dev.writeReg Reg.TOLL_CTRL v 8 0 ∧ w.get Fld.TOLL_REGION_SIZE ≠ 0 ∧ s.dev.on Fld.TOLL_MOOR_ENABLE = false :=
  ⟨S (W [(Fld.TOLL_REGION_SIZE, 1), (Fld.TOLL_MOOR_ENABLE, 0)]), 1, _, rfl, by decide +kernel, by decide +kernel⟩

set_option maxRecDepth 200000 in
theorem witness_TollCommands_8 : ∃ (s : State) (v : Word) (w : Dev), w = s.dev.writeReg Reg.IDENT_NODE v 8 0 ∧ s.dev.on Fld.IDENT_NODE_NODE_LOCKED = false ∧ (w.get Fld.IDENT_NODE_NODE_ID ≠ s.dev.get Fld.IDENT_NODE_NODE_ID ∨ w.get Fld.IDENT_NODE_NODE_VALID ≠ s.dev.get Fld.IDENT_NODE_NODE_VALID) :=
  ⟨S (W [(Fld.IDENT_NODE_NODE_LOCKED, 0)]), packW [(0, 12, 0xFFF), (16, 1, 1)], _, rfl, by decide +kernel, by decide +kernel⟩

set_option maxRecDepth 200000 in
theorem witness_CausewayCommands_1 : ∃ (s : State) (link : Nat) (dir : Nat) (strand : Nat) (actl : Nat) (bctl : Nat) (data : List Byte) (h : StrandHalf), linkOk link = true ∧ strand < strandCount link ∧ s.dev.on (Fld.ERR_GLEDA_LINK_LOST link) = false ∧ bitsOf actl 14 2 = 1 ∧ bitsOf bctl 14 2 = 2 ∧ flitCrc data actl bctl = bitsOf actl 0 2 * 2 ^ 14 + bitsOf bctl 0 14 ∧ s.dev.cause.dllLinks.contains (halfKey link (dir % 2) strand) = false ∧ bitsOf actl 2 2 ≠ 3 ∧ h = s.dev.half (halfKey link (dir % 2) strand) ∧ same (bitsOf actl 4 10) (h.lastGood + 1) 10 = true :=
  ⟨S (W []), 20, 0, 0, 0x4000 + flitCrc [] 0x4000 0x8000 / 2 ^ 14, 0x8000 + flitCrc [] 0x4000 0x8000 % 2 ^ 14, [], _, by decide +kernel, by decide +kernel, by decide +kernel, by decide +kernel, by decide +kernel, by decide +kernel, by decide +kernel, by decide +kernel, rfl, by decide +kernel⟩

set_option maxRecDepth 200000 in
theorem witness_CausewayCommands_2 : ∃ (s : State) (link : Nat) (dir : Nat) (strand : Nat) (h : StrandHalf), linkOk link = true ∧ strand < strandCount link ∧ h = s.dev.half (halfKey link (dir % 2) strand) ∧ h.replayFrom ≠ 0 ∧ h.fails < 7 :=
  ⟨S { W [] with cause := { Dev.reset.cause with half := [(halfKey 0 1 5, ⟨0, 6, 1, [], []⟩)] } }, 0, 1, 5, _, by decide +kernel, by decide +kernel, rfl, by decide +kernel, by decide +kernel⟩

set_option maxRecDepth 200000 in
theorem witness_CausewayCommands_4 : ∃ (s : State) (ccw : Bool) (d1 : Dev) (d2 : Dev), d1 = s.dev.put (if ccw then Fld.ERR_ALARM_BREAK_CCW else Fld.ERR_ALARM_BREAK_CW) 1 ∧ (d1.on Fld.ERR_ALARM_BREAK_CW && d1.on Fld.ERR_ALARM_BREAK_CCW) = false ∧ d1.reg Reg.ERR_ALARM ≠ s.dev.reg Reg.ERR_ALARM ∧ d2 = (d1.put Fld.ERR_ALARM_BRAKE_HELD 1).setBrakeSource 1 true :=
  ⟨S (W []), true, _, _, rfl, by decide +kernel, by decide +kernel, rfl⟩

set_option maxRecDepth 200000 in
theorem witness_CausewayCommands_5 : ∃ (s : State) (v : Word) (w : Dev) (changed : List Nat), w = s.dev.writeReg Reg.IDENT_HBM_MAP v 8 0 ∧ changed = (List.range 8).filter (fun q => s.dev.get Fld.IDENT_HBM_MAP_QUAD_HOME / 2 ^ q % 2 ≠ w.get Fld.IDENT_HBM_MAP_QUAD_HOME / 2 ^ q % 2) ∧ (∀ q ∈ changed, s.dev.moorIn q = false ∧ s.dev.tollIn q = false ∧ s.dev.ringQuads.contains q = false) :=
  ⟨S (W []), 0x81, _, _, rfl, rfl, by decide +kernel⟩

set_option maxRecDepth 200000 in
theorem witness_CausewayCommands_6 : ∃ (s : State) (v : Word) (w : Dev) (units : List (Nat × Bool)), w = s.dev.writeReg Reg.IDENT_CISTERN v 8 0 ∧ units = (List.range 64).filterMap (fun x => let a := decide (x % 16 < scratchOf (s.dev.reg Reg.IDENT_CISTERN) (x / 16)); let b := decide (x % 16 < scratchOf (w.reg Reg.IDENT_CISTERN) (x / 16)); if a = b then none else some (x, b)) ∧ s.dev.on Fld.IDENT_CISTERN_BUSY = false ∧ (∀ u ∈ units, u.2 = false → s.dev.moorIn (8 + u.1) = false) ∧ units ≠ [] :=
  ⟨S (W []), 1, _, _, rfl, rfl, by decide +kernel, by decide +kernel, by decide +kernel⟩

set_option maxRecDepth 200000 in
theorem witness_CausewayCommands_7 : ∃ (s : State) (d1 : Dev), s.dev.on Fld.IDENT_CISTERN_BUSY = true ∧ d1 = s.dev.cause.cisChange.foldl (fun s u => s.zeroMem (0x4000000000 + u.1 / 16 * 0x4000000 + u.1 % 16 * 0x400000) 0x400000) s.dev :=
  ⟨S (W [(Fld.IDENT_CISTERN_BUSY, 1)]), _, by decide +kernel, rfl⟩

set_option maxRecDepth 200000 in
theorem witness_ClockChanges_1 : ∃ (s : State) (n : Nat) (v : Word) (c : ClkIsl) (s1 : Dev), n < 96 ∧ getBits v 63 1 = 1 ∧ settingOk n (getBits v 24 7) (getBits v 0 24) (getBits v 32 4) = true ∧ s.dev.on (Fld.CLK_ISL_STATUS_BUSY n) = false ∧ s.dev.get (Fld.PWR_ISL_STATE n) ≠ 3 ∧ s1 = (s.dev.setReg (Reg.CLK_ISL_TARGET n) (BitVec.ofNat 64 (packSetting (getBits v 24 7) (getBits v 0 24) (getBits v 32 4) (getBits v 36 1)))).put (Fld.CLK_ISL_STATUS_LOCK_FAIL n) 0 ∧ c = s1.isl n ∧ getBits v 32 4 = (s.dev.inUse n).2.2 ∧ getBits v 36 1 = s.dev.get (Fld.CLK_ISL_STATUS_REF_IN_USE n) ∧ c.onSafe = false ∧ s.dev.on (Fld.CLK_ISL_STATUS_LOCKED n) = true :=
  ⟨S { W [(Fld.CLK_ISL_STATUS_LOCKED 0, 1), (Fld.PWR_ISL_STATE 0, 1)] with clk := [(0, ⟨0, 0, 0, 0, false⟩)] }, 0, packW [(63, 1, 1), (24, 7, 80), (32, 4, 2)], _, _, by decide +kernel, by decide +kernel, by decide +kernel, by decide +kernel, by decide +kernel, rfl, rfl, by decide +kernel, by decide +kernel, by decide +kernel, by decide +kernel⟩

set_option maxRecDepth 200000 in
theorem witness_ClockChanges_2 : ∃ (s : State) (n : Nat) (v : Word) (c : ClkIsl) (s1 : Dev) (s2 : Dev), n < 96 ∧ getBits v 63 1 = 1 ∧ settingOk n (getBits v 24 7) (getBits v 0 24) (getBits v 32 4) = true ∧ s.dev.on (Fld.CLK_ISL_STATUS_BUSY n) = false ∧ s.dev.get (Fld.PWR_ISL_STATE n) ≠ 3 ∧ s1 = (s.dev.setReg (Reg.CLK_ISL_TARGET n) (BitVec.ofNat 64 (packSetting (getBits v 24 7) (getBits v 0 24) (getBits v 32 4) (getBits v 36 1)))).put (Fld.CLK_ISL_STATUS_LOCK_FAIL n) 0 ∧ c = s1.isl n ∧ (getBits v 32 4 ≠ (s.dev.inUse n).2.2 ∨ getBits v 36 1 ≠ s.dev.get (Fld.CLK_ISL_STATUS_REF_IN_USE n)) ∧ s2 = s1.setIsl n { c with target := packSetting (getBits v 24 7) (getBits v 0 24) (getBits v 32 4) (getBits v 36 1), change := 2, fails := 0, onSafe := true } :=
  ⟨S { W [(Fld.CLK_ISL_STATUS_LOCKED 0, 1), (Fld.PWR_ISL_STATE 0, 1)] with clk := [(0, ⟨0, 0, 0, 0, false⟩)] }, 0, packW [(63, 1, 1), (24, 7, 80), (32, 4, 3)], _, _, _, by decide +kernel, by decide +kernel, by decide +kernel, by decide +kernel, by decide +kernel, rfl, rfl, by decide +kernel, rfl⟩

theorem witness_ClockChanges_3 : ∃ (s : State) (n : Nat), n < 96 ∧ (s.dev.isl n).change = 2 ∧ s.dev.on (Fld.CLK_ISL_STATUS_LOCKED n) = false ∧ s.dev.refValid (s.dev.get (Fld.CLK_ISL_STATUS_REF_IN_USE n)) = true ∧ (s.dev.put (Fld.CLK_ISL_STATUS_LOCKED n) 1).get (Fld.PWR_ISL_STATE n) < 2 :=
  ⟨S { W [(Fld.CLK_ISL_STATUS_LOCKED 95, 0), (Fld.PWR_ISL_STATE 95, 1), (Fld.CLK_REF_STATUS_REF0_VALID, 1)] with clk := [(95, ⟨0, 2, 0, 0, true⟩)] }, 95, by decide +kernel, by decide +kernel, by decide +kernel, by decide +kernel, by decide +kernel⟩

theorem witness_ClockChanges_4 : ∃ (s : State) (n : Nat), n < 116 ∧ ((s.dev.isl n).change = 2 ∨ (s.dev.isl n).change = 6) ∧ s.dev.on (Fld.CLK_ISL_STATUS_LOCKED n) = true ∧ (s.dev.isl n).onSafe = true ∧ s.dev.cause.kill = false ∧ s.dev.on Fld.PWR_STATUS_BRAKE = false :=
  ⟨S { W [(Fld.CLK_ISL_STATUS_LOCKED 115, 1), (Fld.PWR_STATUS_BRAKE, 0)] with clk := [(115, ⟨0, 2, 0, 0, true⟩)] }, 115, by decide +kernel, by decide +kernel, by decide +kernel, by decide +kernel, by decide +kernel, by decide +kernel⟩

theorem witness_ClockChanges_5 : ∃ (s : State) (n : Nat), n < 96 ∧ (s.dev.isl n).change = 1 ∧ s.dev.on Fld.PWR_STATUS_BRAKE = false :=
  ⟨S { W [(Fld.PWR_STATUS_BRAKE, 0)] with clk := [(95, ⟨0, 1, 0, 0, false⟩)] }, 95, by decide +kernel, by decide +kernel, by decide +kernel⟩

theorem witness_ClockChanges_6 : ∃ (s : State) (n : Nat), n < 116 ∧ s.dev.on (Fld.CLK_ISL_STATUS_LOCKED n) = true ∧ s.dev.cause.kill = false ∧ (s.dev.isl n).change = 0 :=
  ⟨S (W [(Fld.CLK_ISL_STATUS_LOCKED 115, 1)]), 115, by decide +kernel, by decide +kernel, by decide +kernel, by decide +kernel⟩

theorem witness_ClockChanges_7 : ∃ (s : State) (n : Nat), n < 116 ∧ s.dev.on (Fld.CLK_ISL_STATUS_LOCKED n) = false ∧ 2 ≤ (s.dev.isl n).change ∧ (s.dev.isl n).fails = 2 :=
  ⟨S { W [] with clk := [(0, ⟨0, 3, 0, 2, true⟩)] }, 0, by decide +kernel, by decide +kernel, by decide +kernel, by decide +kernel⟩

set_option maxRecDepth 200000 in
theorem witness_ReferencesAndDelays_1 : ∃ (s : State) (s1 : Dev), s.dev.refValid 0 = true ∧ s1 = (s.dev.put Fld.CLK_REF_STATUS_REF0_VALID 0).put Fld.CLK_REF_STATUS_REF0_LOST 1 ∧ s1.refValid 1 = true :=
  ⟨S (W [(Fld.CLK_REF_STATUS_REF0_VALID, 1), (Fld.CLK_REF_STATUS_REF1_VALID, 1)]), _, by decide +kernel, rfl, by decide +kernel⟩

set_option maxRecDepth 200000 in
theorem witness_ReferencesAndDelays_2 : ∃ (s : State) (s1 : Dev), s.dev.refValid 1 = true ∧ s1 = (s.dev.put Fld.CLK_REF_STATUS_REF1_VALID 0).put Fld.CLK_REF_STATUS_REF1_LOST 1 ∧ s1.refValid 0 = true :=
  ⟨S (W [(Fld.CLK_REF_STATUS_REF0_VALID, 1), (Fld.CLK_REF_STATUS_REF1_VALID, 1)]), _, by decide +kernel, rfl, by decide +kernel⟩

theorem witness_ReferencesAndDelays_5 : ∃ (s : State) (unit : Nat) (ch : Nat), linkOk unit = true ∧ s.dev.cause.dllLinks.contains (unit * 32 + ch % 32) = false :=
  ⟨S (W []), 20, 16, by decide +kernel, by decide +kernel⟩

theorem witness_ReferencesAndDelays_6 : ∃ (s : State) (unit : Nat) (ch : Nat), s.dev.cause.dllLinks.contains (unit * 32 + ch % 32) = true :=
  ⟨S { W [] with cause := { Dev.reset.cause with dllLinks := [16 * 32 + 1] } }, 16, 1, by decide +kernel⟩

theorem witness_ReferencesAndDelays_7 : ∃ (s : State) (unit : Nat) (ch : Nat), s.dev.cause.dllHbm.contains (unit * 64 + ch, false) = true :=
  ⟨S { W [] with cause := { Dev.reset.cause with dllHbm := [(7 * 64 + 63, false)] } }, 7, 63, by decide +kernel⟩

set_option maxRecDepth 200000 in
theorem witness_ReferencesAndDelays_8 : ∃ (s : State) (unit : Nat) (lane : Nat) (up : Bool) (t : Int) (t' : Int), linkOk unit = true ∧ t = tget (fun _ => 0) s.dev.cause.drift (unit * 4096 + lane) ∧ t' = (if up then t + 1 else t - 1) ∧ t'.natAbs ≤ 16 :=
  ⟨S { W [] with cause := { Dev.reset.cause with drift := [(0, 15)] } }, 0, 0, true, _, _, by decide +kernel, rfl, rfl, by decide +kernel⟩

set_option maxRecDepth 200000 in
theorem witness_CrystallizerWork_1 : ∃ (s : State) (p : Nat) (out : List Nat) (e : CryE) (rest : List CryE) (r : CryOut), s.dev.CryHead p 1 e rest ∧ feedOk (Machine.wf e.words 2 0 22) (Machine.wf e.words 3 48 16 * Machine.wf e.words 2 32 23) = true ∧ s.dev.sliceOk p (Machine.wf e.words 2 0 22) (Machine.wf e.words 3 48 16 * Machine.wf e.words 2 32 23) = true ∧ s.dev.cryRows p e.words true (Machine.wf e.words 3 48 16) 0 out = r :=
  ⟨S (cryDev 255 1 [(1, 0, 48, 0), (2, 32, 23, 64), (3, 48, 16, 0)]), 255, [], cryEnt 1 [(1, 0, 48, 0), (2, 32, 23, 64), (3, 48, 16, 0)], [], _, by unfold Dev.CryHead; decide +kernel, by decide +kernel, by decide +kernel, rfl⟩

set_option maxRecDepth 200000 in
theorem witness_CrystallizerWork_2 : ∃ (s : State) (p : Nat) (out : List Nat) (e : CryE) (rest : List CryE) (r : CryOut), s.dev.CryHead p 2 e rest ∧ feedOk (Machine.wf e.words 2 0 22) (Machine.wf e.words 3 48 16 * Machine.wf e.words 2 32 23) = true ∧ s.dev.sliceOk p (Machine.wf e.words 2 0 22) (Machine.wf e.words 3 48 16 * Machine.wf e.words 2 32 23) = true ∧ s.dev.cryRows p e.words false (Machine.wf e.words 3 48 16) 0 out = r :=
  ⟨S (cryDev 0 2 [(2, 32, 23, 64), (3, 48, 16, 0)]), 0, [], cryEnt 2 [(2, 32, 23, 64), (3, 48, 16, 0)], [], _, by unfold Dev.CryHead; decide +kernel, by decide +kernel, by decide +kernel, rfl⟩

set_option maxRecDepth 200000 in
theorem witness_CrystallizerWork_3 : ∃ (s : State) (p : Nat) (e : CryE) (rest : List CryE) (M : Nat) (N : Nat) (K : Nat) (base : Nat) (fa : Nat) (fb : Nat) (fc : Nat), s.dev.CryHead p 0x10 e rest ∧ M = Machine.wf e.words 4 0 13 ∧ N = Machine.wf e.words 4 16 13 ∧ K = Machine.wf e.words 4 32 17 ∧ base = feedBase (p / 8) ∧ fa = Machine.wf e.words 1 0 22 ∧ fb = Machine.wf e.words 1 32 22 ∧ fc = Machine.wf e.words 2 0 22 ∧ Machine.wf e.words 5 0 8 = 12 ∧ Machine.wf e.words 5 8 8 = 12 ∧ Machine.wf e.words 5 16 1 = 0 ∧ Machine.wf e.words 5 17 1 = 0 ∧ Machine.wf e.words 5 18 1 = 0 ∧ (∀ r ∈ [(fa, M * (K * 8 / 8)), (fb, N * (K * 8 / 8)), (fc, 4 * M * N)], feedOk r.1 r.2 = true ∧ s.dev.sliceOk p r.1 r.2 = true) ∧ (∀ r ∈ [(fa, M * (K * 8 / 8)), (fb, N * (K * 8 / 8))], (fc + 4 * M * N ≤ r.1 ∨ r.1 + r.2 ≤ fc) ∧ s.dev.poisoned (base + r.1) r.2 = false) :=
  ⟨S (cryDev 0 0x10 [(1, 32, 22, 64), (2, 0, 22, 128), (4, 0, 13, 1), (4, 16, 13, 1), (4, 32, 17, 32), (5, 0, 8, 12), (5, 8, 8, 12)]), 0, cryEnt 0x10 [(1, 32, 22, 64), (2, 0, 22, 128), (4, 0, 13, 1), (4, 16, 13, 1), (4, 32, 17, 32), (5, 0, 8, 12), (5, 8, 8, 12)], [], 1, 1, 32, _, 0, 64, 128, by unfold Dev.CryHead; decide +kernel, by decide +kernel, by decide +kernel, by decide +kernel, rfl, by decide +kernel, by decide +kernel, by decide +kernel, by decide +kernel, by decide +kernel, by decide +kernel, by decide +kernel, by decide +kernel, by decide +kernel, by decide +kernel⟩

set_option maxRecDepth 200000 in
theorem witness_CrystallizerWork_4 : ∃ (s : State) (p : Nat) (e : CryE) (rest : List CryE) (R : Nat) (N : Nat) (K : Nat) (base : Nat) (fs : Nat) (fo : Nat), s.dev.CryHead p 0x20 e rest ∧ R = Machine.wf e.words 2 0 13 ∧ N = Machine.wf e.words 2 32 17 ∧ K = Machine.wf e.words 3 0 11 ∧ base = feedBase (p / 8) ∧ fs = Machine.wf e.words 1 0 22 ∧ fo = Machine.wf e.words 1 32 22 ∧ Machine.wf e.words 3 16 1 = 0 ∧ Machine.wf e.words 3 17 1 = 0 ∧ Machine.wf e.words 3 18 1 = 1 ∧ feedOk fs (4 * R * N) = true ∧ feedOk fo (8 * R * K) = true ∧ (fo + 8 * R * K ≤ fs ∨ fs + 4 * R * N ≤ fo) ∧ Machine.wf e.words 4 0 32 + N - 1 < 0xFFFFFFFF ∧ s.dev.sliceOk p fs (4 * R * N) = true ∧ s.dev.sliceOk p fo (8 * R * K) = true ∧ s.dev.poisoned (base + fs) (4 * R * N) = false :=
  ⟨S (cryDev 0 0x20 [(1, 32, 22, 64), (2, 0, 13, 1), (2, 32, 17, 2), (3, 0, 11, 1), (3, 18, 1, 1)]), 0, cryEnt 0x20 [(1, 32, 22, 64), (2, 0, 13, 1), (2, 32, 17, 2), (3, 0, 11, 1), (3, 18, 1, 1)], [], 1, 2, 1, _, 0, 64, by unfold Dev.CryHead; decide +kernel, by decide +kernel, by decide +kernel, by decide +kernel, rfl, by decide +kernel, by decide +kernel, by decide +kernel, by decide +kernel, by decide +kernel, by decide +kernel, by decide +kernel, by decide +kernel, by decide +kernel, by decide +kernel, by decide +kernel, by decide +kernel⟩

set_option maxRecDepth 200000 in
theorem witness_CrystallizerWork_5 : ∃ (s : State) (p : Nat) (out : List Nat) (e : CryE) (rest : List CryE) (r : CryOut), s.dev.CryHead p 0x30 e rest ∧ Machine.wf e.words 5 16 1 = 0 ∧ (s.dev.crySeed p e.words).quantRun p e.words (Machine.wf e.words 4 0 31 / 32) 0 0 out = r :=
  ⟨S (cryDev 0 0x30 []), 0, [], cryEnt 0x30 [], [], _, by unfold Dev.CryHead; decide +kernel, by decide +kernel, rfl⟩

set_option maxRecDepth 200000 in
theorem witness_CrystallizerWork_6 : ∃ (s : State) (p : Nat) (out : List Nat) (e : CryE) (rest : List CryE) (r : CryOut), s.dev.CryHead p 0x30 e rest ∧ Machine.wf e.words 5 16 1 = 1 ∧ (s.dev.crySeed p e.words).dequantRun p e.words (Machine.wf e.words 4 0 31 / 32) 0 0 out = r :=
  ⟨S (cryDev 0 0x30 [(5, 16, 1, 1)]), 0, [], cryEnt 0x30 [(5, 16, 1, 1)], [], _, by unfold Dev.CryHead; decide +kernel, by decide +kernel, rfl⟩

set_option maxRecDepth 200000 in
theorem witness_CrystallizerWork_7 : ∃ (s : State) (p : Nat) (n : Nat) (out : List Nat) (e : CryE) (rest : List CryE) (r : CryOut), s.dev.CryHead p 0x31 e rest ∧ n = Machine.wf e.words 4 0 31 ∧ n * fmtBits (Machine.wf e.words 5 0 8) % 8 = 0 ∧ n * fmtBits (Machine.wf e.words 5 8 8) % 8 = 0 ∧ (s.dev.crySeed p e.words).convRun p e.words n (n / 64 + 1) 0 0 out = r :=
  ⟨S (cryDev 0 0x31 []), 0, 0, [], cryEnt 0x31 [], [], _, by unfold Dev.CryHead; decide +kernel, by decide +kernel, by decide +kernel, by decide +kernel, rfl⟩

set_option maxRecDepth 200000 in
theorem witness_CrystallizerStream_1 : ∃ (s : State) (p : Nat) (e : CryE) (rest : List CryE) (t : Word), (s.dev.pan p).cry = e :: rest ∧ Machine.wf e.words 0 0 8 = 0x40 ∧ s.dev.stopped = false ∧ (s.dev.pan p).skip = false ∧ t = tget (fun _ => (0 : Word)) (s.dev.pan p).tally (Machine.wf e.words 1 0 4) ∧ after ((getBits t 0 32 + getBits t 32 32) % 2 ^ 32) (Machine.wf e.words 1 32 32) 32 = true :=
  ⟨S (cryDev 0 0x40 [(1, 32, 32, 0xFFFFFFFF)]), 0, cryEnt 0x40 [(1, 32, 32, 0xFFFFFFFF)], [], _, by decide +kernel, by decide +kernel, by decide +kernel, by decide +kernel, rfl, by decide +kernel⟩

theorem witness_CrystallizerStream_2 : ∃ (s : State) (p : Nat) (e : CryE) (rest : List CryE), (s.dev.pan p).cry = e :: rest ∧ Machine.wf e.words 0 0 8 = 0x40 ∧ Machine.wf e.words 2 0 32 ≠ 0 ∧ s.dev.stopped = false :=
  ⟨S (cryDev 0 0x40 [(2, 0, 32, 1)]), 0, cryEnt 0x40 [(2, 0, 32, 1)], [], by decide +kernel, by decide +kernel, by decide +kernel, by decide +kernel⟩

set_option maxRecDepth 200000 in
theorem witness_CrystallizerStream_3 : ∃ (s : State) (p : Nat) (e : CryE) (rest : List CryE) (s3 : Dev), s.dev.CryHead p 0x41 e rest ∧ Machine.wf e.words 1 48 1 = 0 ∧ s3 = (s.dev.setPan p { s.dev.pan p with fcode := 0, fails := 0 }).cryEnd p 0 0 0 0 :=
  ⟨S (cryDev 0 0x41 []), 0, cryEnt 0x41 [], [], _, by unfold Dev.CryHead; decide +kernel, by decide +kernel, rfl⟩

set_option maxRecDepth 200000 in
theorem witness_CrystallizerStream_4 : ∃ (s : State) (c : Nat) (p : Nat), c < 32 ∧ p = 8 * c + s.dev.get (Fld.CRY_STATE_CUR_SLOT c) :=
  ⟨S (W []), 31, _, by decide +kernel, rfl⟩

set_option maxRecDepth 200000 in
theorem witness_TaskGoAccepts_1 : ∃ (s : State) (m : Nat) (host : Bool) (bmc : Bool) (d1 : Dev) (d2 : Dev), m < 2 ∧ d1 = s.dev.speech m ∧ d1.taskBusy m = false ∧ d1.on (Fld.TASK_STATE_HELM_DOWN m) = false ∧ d1.get (Fld.TASK_TAG_TAG m) ≠ d1.get (Fld.TASK_STATE_DONE_TAG m) ∧ d2 = (d1.put (Fld.TASK_STATE_STATE m) 1).put (Fld.TASK_STATE_REPEATED m) 0 ∧ taskRights (d2.taskOp m) = some (host, bmc) ∧ (if m = 0 then host else bmc) = true ∧ d2.argsGood m (d2.taskOp m) = true ∧ d2.slip.recovery = false ∧ d2.taskBusy (1 - m) = false ∧ d2.taskOp m ≠ 0x30 :=
  ⟨S (W [(Fld.TASK_OP_OP 0, 1), (Fld.TASK_TAG_TAG 0, 1)]), 0, true, true, _, _, by decide +kernel, rfl, by decide +kernel, by decide +kernel, by decide +kernel, rfl, by decide +kernel, by decide +kernel, by decide +kernel, by decide +kernel, by decide +kernel, by decide +kernel⟩

theorem witness_PolicyTasks_1 : ∃ (s : State) (m : Nat), s.dev.accepted m 0x01 = true :=
  ⟨S (A 0 1 [] []), 0, by decide +kernel⟩

set_option maxRecDepth 200000 in
theorem witness_PolicyTasks_2 : ∃ (s : State) (m : Nat) (d1 : Dev), s.dev.accepted m 0x10 = true ∧ d1 = ((s.dev.put (if m = 0 then Fld.PWR_CAPS_HOST_W else Fld.PWR_CAPS_BMC_W) (s.dev.argF m 0 0 16)).setBrakeSource (3 + m) (s.dev.argF m 0 16 1 = 1)).updateCap :=
  ⟨S (A 1 0x10 [750] []), 1, _, by decide +kernel, rfl⟩

theorem witness_PolicyTasks_3 : ∃ (s : State) (m : Nat), s.dev.accepted m 0x11 = true :=
  ⟨S (A 1 0x11 [100] []), 1, by decide +kernel⟩

theorem witness_PolicyTasks_4 : ∃ (s : State) (m : Nat), s.dev.accepted m 0x12 = true :=
  ⟨S (A 1 0x12 [600] []), 1, by decide +kernel⟩

theorem witness_PolicyTasks_5 : ∃ (s : State) (m : Nat), s.dev.accepted m 0x80 = true :=
  ⟨S (A 1 0x80 [5000] []), 1, by decide +kernel⟩

set_option maxRecDepth 200000 in
theorem witness_PolicyTasks_6 : ∃ (s : State) (m : Nat) (rs : List LogRec), s.dev.accepted m 0x40 = true ∧ s.dev.argF m 0 32 1 = 0 ∧ rs = (s.dev.log.recs.reverse.filter (fun r => !before r.seq (s.dev.argF m 0 0 32) 32)).take 2 :=
  ⟨S (A 0 0x40 [0] []), 0, _, by decide +kernel, by decide +kernel, rfl⟩

theorem witness_PolicyTasks_7 : ∃ (s : State) (m : Nat), s.dev.accepted m 0x41 = true ∧ before (s.dev.arg m 0) (s.dev.get (Fld.TASK_LOG_CURSOR m)) 32 = false ∧ after (s.dev.arg m 0) (s.dev.get (Fld.TASK_LOG_NEWEST_SEQ m) + 1) 32 = false :=
  ⟨S (A 1 0x41 [1] []), 1, by decide +kernel, by decide +kernel, by decide +kernel⟩

set_option maxRecDepth 200000 in
theorem witness_CanCommands_1 : ∃ (s : State) (m : Nat) (d1 : Dev), s.dev.accepted m 0x60 = true ∧ s.dev.can.txq.length < 32 ∧ d1 = (s.dev.setCan { s.dev.can with txq := s.dev.can.txq ++ [⟨s.dev.arg m 0, ((List.range 6).flatMap (fun i => leBytes 8 (s.dev.arg m (1 + i)))).take (s.dev.argF m 0 32 7), s.dev.tide⟩] }).canQueued :=
  ⟨S (A 1 0x60 [0x800000000] []), 1, _, by decide +kernel, by decide +kernel, rfl⟩

theorem witness_CanCommands_2 : ∃ (s : State) (m : Nat), s.dev.accepted m 0x61 = true ∧ s.dev.argF m 0 0 2 = 0 :=
  ⟨S (A 1 0x61 [0xF0] []), 1, by decide +kernel, by decide +kernel⟩

theorem witness_CanCommands_3 : ∃ (s : State) (m : Nat), s.dev.accepted m 0x61 = true ∧ s.dev.argF m 0 0 2 = 1 :=
  ⟨S (A 1 0x61 [1] []), 1, by decide +kernel, by decide +kernel⟩

theorem witness_CanCommands_4 : ∃ (s : State) (m : Nat) (f : CanF) (t : List CanF), s.dev.accepted m 0x61 = true ∧ s.dev.argF m 0 0 2 = 2 ∧ s.dev.can.fifo = f :: t :=
  ⟨S { A 1 0x61 [2] [] with can := { Dev.reset.can with fifo := [⟨0, [], 1⟩] } }, 1, ⟨0, [], 1⟩, [], by decide +kernel, by decide +kernel, by decide +kernel⟩

theorem witness_CanCommands_5 : ∃ (s : State) (m : Nat), s.dev.accepted m 0x61 = true ∧ s.dev.argF m 0 0 2 = 3 :=
  ⟨S (A 1 0x61 [3, 0x1F] []), 1, by decide +kernel, by decide +kernel⟩

theorem witness_CanCommands_6 : ∃ (s : State) (f : CanF) (t : List CanF), s.dev.can.txq = f :: t ∧ s.dev.canOpen = true ∧ s.dev.on (Fld.TASK_CAN_LONE 0) = false :=
  ⟨S { W [] with can := { Dev.reset.can with enabled := true, txq := [⟨0, [], 1⟩] } }, ⟨0, [], 1⟩, [], by decide +kernel, by decide +kernel, by decide +kernel⟩

set_option maxRecDepth 200000 in
theorem witness_CanCommands_7 : ∃ (s : State) (f : CanF) (t : List CanF) (d1 : Dev) (d2 : Dev), s.dev.can.txq = f :: t ∧ s.dev.canOpen = true ∧ s.dev.on (Fld.TASK_CAN_LONE 0) = true ∧ d1 = ((s.dev.at s.dev.can.probeAt).canEmit f).canTec 0 ∧ d2 = d1.canSent.canPut Fld.TASK_CAN_LONE 0 :=
  ⟨S { W [(Fld.TASK_CAN_LONE 0, 1)] with can := { Dev.reset.can with enabled := true, txq := [⟨0, [], 1⟩] } }, ⟨0, [], 1⟩, [], _, _, by decide +kernel, by decide +kernel, by decide +kernel, rfl, rfl⟩

set_option maxRecDepth 200000 in
theorem witness_CanCommands_8 : ∃ (s : State) (word : Nat) (d1 : Dev), s.dev.can.enabled = true ∧ s.dev.get (Fld.TASK_CAN_REC 0) ≤ 127 ∧ d1 = s.dev.canErrors (s.dev.get (Fld.TASK_CAN_TEC 0)) (s.dev.get (Fld.TASK_CAN_REC 0) - 1) ∧ d1.can.accepts (word % 2 ^ 30) = true ∧ d1.can.fifo.length < 64 :=
  ⟨S { W [] with can := { Dev.reset.can with enabled := true, filters := [(0, some (5, 0x1FFFFFFF))] } }, 5, _, by decide +kernel, by decide +kernel, rfl, by decide +kernel, by decide +kernel⟩

theorem witness_CanCommands_9 : ∃ (s : State), s.dev.get (Fld.TASK_CAN_FAULT 0) = 2 :=
  ⟨S (W [(Fld.TASK_CAN_FAULT 0, 2)]), by decide +kernel⟩

set_option maxRecDepth 200000 in
theorem witness_GaugeCommands_1 : ∃ (s : State) (v : Nat) (ch : Nat) (osr : Nat) (w : Nat) (d1 : Dev) (d2 : Dev), s.dev.gaugeOver = false ∧ s.dev.gauge.cur = ch + 1 ∧ 4 ≤ s.dev.gauge.pos ∧ osr = s.dev.get (Fld.GAU_CFG_OSR ch) ∧ d1 = (s.dev.at (s.dev.gauge.lastAt + 5120 * 2 ^ osr)).put Fld.GAU_STATUS_RUNNING 1 ∧ d2 = d1.setGauge { d1.gauge with pos := s.dev.gauge.pos + 1, lastAt := d1.tide } ∧ w = gaugeWord false false ch (s.dev.get (Fld.GAU_CFG_GAIN ch)) osr v :=
  ⟨S { W [(Fld.GAU_CFG_DWELL 0, 1)] with gauge := { GaugeS.init with cur := 1, pos := 4 } }, 7, 0, _, _, _, _, by decide +kernel, by decide +kernel, by decide +kernel, rfl, rfl, rfl, rfl⟩

theorem witness_GaugeCommands_2 : ∃ (s : State) (m : Nat), s.dev.accepted m 0x70 = true ∧ s.dev.argF m 0 0 3 = 0 :=
  ⟨S (A 1 0x70 [0xFF00000000] []), 1, by decide +kernel, by decide +kernel⟩

theorem witness_GaugeCommands_3 : ∃ (s : State) (m : Nat), s.dev.accepted m 0x70 = true ∧ s.dev.argF m 0 0 3 = 1 :=
  ⟨S (A 1 0x70 [0x100001] []), 1, by decide +kernel, by decide +kernel⟩

set_option maxRecDepth 200000 in
theorem witness_GaugeCommands_4 : ∃ (s : State) (m : Nat) (n : Nat) (d1 : Dev), s.dev.accepted m 0x70 = true ∧ s.dev.argF m 0 0 3 = 2 ∧ n = s.dev.argF m 0 8 4 ∧ d1 = (s.dev.setGauge { s.dev.gauge with fifo := s.dev.gauge.fifo.drop n }).gaugeLevel :=
  ⟨S { A 1 0x70 [0xE02] [] with gauge := { GaugeS.init with fifo := [1, 2] } }, 1, _, _, by decide +kernel, by decide +kernel, rfl, rfl⟩

theorem witness_GaugeCommands_5 : ∃ (s : State) (m : Nat), s.dev.accepted m 0x70 = true ∧ s.dev.argF m 0 0 3 = 3 ∧ s.dev.argF m 0 13 1 = 0 ∧ s.dev.argF m 0 16 1 = 1 ∧ s.dev.argF m 0 17 1 = 0 :=
  ⟨S (A 1 0x70 [0x11F03] []), 1, by decide +kernel, by decide +kernel, by decide +kernel, by decide +kernel, by decide +kernel⟩

set_option maxRecDepth 200000 in
theorem witness_GaugeCommands_6 : ∃ (s : State) (m : Nat) (ch : Nat), s.dev.accepted m 0x70 = true ∧ s.dev.argF m 0 0 3 = 4 ∧ ch = s.dev.argF m 0 8 5 :=
  ⟨S (A 1 0x70 [0x1F04] []), 1, _, by decide +kernel, by decide +kernel, rfl⟩

theorem witness_PartnerCommands_1 : ∃ (s : State) (n : Nat), n < 4 ∧ (s.dev.port n).pwren = true ∧ (s.dev.port n).pg = false ∧ s.dev.starter n = 2 :=
  ⟨S { W [] with ports := [(3, { PortH.init with pwren := true })], slip := { Dev.reset.slip with starts := [(3, 2)] } }, 3, by decide +kernel, by decide +kernel, by decide +kernel, by decide +kernel⟩

theorem witness_PartnerCommands_2 : ∃ (s : State) (n : Nat), n < 4 ∧ (s.dev.port n).pg = false ∧ s.dev.starter n = 1 :=
  ⟨S { W [] with ports := [(3, { PortH.init with pwren := true })], slip := { Dev.reset.slip with starts := [(3, 1)] } }, 3, by decide +kernel, by decide +kernel, by decide +kernel⟩

theorem witness_PartnerCommands_3 : ∃ (s : State) (n : Nat), n < 4 ∧ s.dev.starter n = 1 ∧ (s.dev.port n).pwren = true ∧ (s.dev.port n).perst = true ∧ (s.dev.port n).pg = true :=
  ⟨S { W [] with ports := [(0, { PortH.init with pwren := true, pg := true, perst := true })], slip := { Dev.reset.slip with starts := [(0, 1)] } }, 0, by decide +kernel, by decide +kernel, by decide +kernel, by decide +kernel, by decide +kernel⟩

theorem witness_PartnerCommands_4 : ∃ (s : State) (w : Nat), s.dev.gapAt w ≠ 0 :=
  ⟨S { W [] with slip := { Dev.reset.slip with gaps := [(1, 1)] } }, 1, by decide +kernel⟩

set_option maxRecDepth 200000 in
theorem witness_PartnerCommands_5 : ∃ (s : State) (m : Nat) (d1 : Dev), s.dev.accepted m 0x20 = true ∧ s.dev.argF m 0 4 1 = 1 ∧ s.dev.portsFree m = true ∧ d1 = (s.dev.powerTask m).setProg m 2 :=
  ⟨S (A 1 0x20 [0x1F] []), 1, _, by decide +kernel, by decide +kernel, by decide +kernel, rfl⟩

theorem witness_PartnerCommands_6 : ∃ (s : State) (m : Nat), s.dev.accepted m 0x20 = true ∧ s.dev.argF m 0 4 1 = 0 ∧ s.dev.portsFree m = true :=
  ⟨S (A 1 0x20 [0x0F] []), 1, by decide +kernel, by decide +kernel, by decide +kernel⟩

set_option maxRecDepth 200000 in
theorem witness_PartnerCommands_7 : ∃ (s : State) (m : Nat) (ps : List Nat), s.dev.accepted m 0x21 = true ∧ s.dev.argF m 0 4 2 = 0 ∧ s.dev.portsFree m = true ∧ ps = (bitsSet 4 (s.dev.argF m 0 0 4)).filter (fun n => (s.dev.port n).pwren) ∧ ps ≠ [] :=
  ⟨S { A 1 0x21 [0x0F] [] with ports := [(2, { PortH.init with pwren := true })] }, 1, _, by decide +kernel, by decide +kernel, by decide +kernel, rfl, by decide +kernel⟩

set_option maxRecDepth 200000 in
theorem witness_PartnerCommands_8 : ∃ (s : State) (m : Nat) (ps : List Nat), s.dev.accepted m 0x21 = true ∧ s.dev.argF m 0 4 2 = 1 ∧ s.dev.portsFree m = true ∧ ps = (bitsSet 4 (s.dev.argF m 0 0 4)).filter (fun n => (s.dev.port n).pwren) ∧ ps ≠ [] :=
  ⟨S { A 1 0x21 [0x1F] [] with ports := [(2, { PortH.init with pwren := true })] }, 1, _, by decide +kernel, by decide +kernel, by decide +kernel, rfl, by decide +kernel⟩

set_option maxRecDepth 200000 in
theorem witness_PartnerCommands_9 : ∃ (s : State) (m : Nat) (d1 : Dev), s.dev.accepted m 0x22 = true ∧ s.dev.argF m 0 8 1 = 1 ∧ s.dev.argF m 0 0 8 ≠ 0 ∧ d1 = (s.dev.powerTask m).setProg m 2 :=
  ⟨S (A 1 0x22 [0x180] []), 1, _, by decide +kernel, by decide +kernel, by decide +kernel, rfl⟩

theorem witness_PartnerCommands_10 : ∃ (s : State) (m : Nat), s.dev.accepted m 0x22 = true ∧ s.dev.argF m 0 8 1 = 0 ∧ s.dev.argF m 0 0 8 ≠ 0 :=
  ⟨S (A 1 0x22 [0x80] []), 1, by decide +kernel, by decide +kernel, by decide +kernel⟩

theorem witness_FirmwareTasks_1 : ∃ (s : State) (m : Nat), s.dev.accepted m 0x30 = true ∧ s.dev.argF m 0 0 2 = 0 ∧ s.dev.stageHeld = false :=
  ⟨S (A 0 0x30 [0, 0x2000000] []), 0, by decide +kernel, by decide +kernel, by decide +kernel⟩

set_option maxRecDepth 200000 in
theorem witness_FirmwareTasks_2 : ∃ (s : State) (bs : List Byte) (d1 : Dev), s.dev.accepted 1 0x30 = true ∧ s.dev.argF 1 0 0 2 = 1 ∧ s.dev.ferry.stageOwner = 2 ∧ s.dev.argF 1 1 0 26 = s.dev.ferry.stageBytes.length ∧ s.dev.ferry.stageBytes.length + s.dev.argF 1 1 32 6 ≤ s.dev.ferry.stageLen ∧ bs = ((List.range 6).flatMap (fun i => leBytes 8 (s.dev.arg 1 (2 + i)))).take (s.dev.argF 1 1 32 6) ∧ d1 = s.dev.setFerry { s.dev.ferry with stageGot := putBytes (fun _ => 0) [] 0 bs, stageLeft := 0, stageBad := false } :=
  ⟨S { A 1 0x30 [1, 0x800000000] [] with ferry := { FerryS.init with prog := [(1, 1)], stageOwner := 2, stageLen := 8 } }, _, _, by decide +kernel, by decide +kernel, by decide +kernel, by decide +kernel, by decide +kernel, rfl, rfl⟩

theorem witness_FirmwareTasks_3 : ∃ (s : State) (m : Nat), s.dev.accepted m 0x30 = true ∧ s.dev.argF m 0 0 2 = 2 ∧ s.dev.ferry.stageOwner = m + 1 :=
  ⟨S { A 1 0x30 [2] [] with ferry := { FerryS.init with prog := [(1, 1)], stageOwner := 2, stageLen := 8 } }, 1, by decide +kernel, by decide +kernel, by decide +kernel⟩

theorem witness_FirmwareTasks_4 : ∃ (s : State) (m : Nat), s.dev.accepted m 0x30 = true ∧ s.dev.argF m 0 0 2 = 3 ∧ s.dev.ferry.stageOwner = m + 1 :=
  ⟨S { A 0 0x30 [3] [] with ferry := { FerryS.init with prog := [(0, 1)], stageOwner := 1, stageLen := 8 } }, 0, by decide +kernel, by decide +kernel, by decide +kernel⟩

theorem witness_FirmwareTasks_5 : ∃ (s : State) (m : Nat), s.dev.accepted m 0x31 = true ∧ s.dev.arg m 0 = 0 ∧ (s.dev.fw s.dev.stageSlot).staged = true :=
  ⟨S { A 0 0x31 [0] [] with ferry := { FerryS.init with prog := [(0, 1)], slotB := { FwSlot.init with staged := true } } }, 0, by decide +kernel, by decide +kernel, by decide +kernel⟩

theorem witness_FirmwareTasks_6 : ∃ (s : State) (m : Nat), s.dev.accepted m 0x31 = true ∧ s.dev.arg m 0 = 1 :=
  ⟨S { A 0 0x31 [1] [] with ferry := { FerryS.init with prog := [(0, 1)], slotB := { FwSlot.init with staged := true } } }, 0, by decide +kernel, by decide +kernel⟩

set_option maxRecDepth 200000 in
theorem witness_FirmwareTasks_7 : ∃ (s : State) (m : Nat) (d1 : Dev) (d2 : Dev), s.dev.accepted m 0x31 = true ∧ s.dev.arg m 0 = 2 ∧ s.dev.trial = true ∧ d1 = s.dev.helmPut Fld.TASK_HELM_TRIAL 0 ∧ d1.tlhs.minSvn < (d1.fw d1.bootSlot).svn ∧ d1.tlhs.advances < 63 ∧ d2 = ({ d1 with tlhs := { d1.tlhs with minSvn := (d1.fw d1.bootSlot).svn, advances := d1.tlhs.advances + 1 } }.put Fld.TLH_STATUS_MIN_SVN (d1.fw d1.bootSlot).svn).logAdd 2 0x0504 0xFF (d1.fw d1.bootSlot).svn (d1.tlhs.advances + 1) :=
  ⟨S { A 0 0x31 [2] [(Fld.TASK_HELM_TRIAL 0, 1)] with ferry := { FerryS.init with prog := [(0, 1)], slotA := { FwSlot.init with svn := 1 } } }, 0, _, _, by decide +kernel, by decide +kernel, by decide +kernel, rfl, by decide +kernel, by decide +kernel, rfl⟩

theorem witness_FirmwareTasks_8 : ∃ (s : State) (m : Nat), s.dev.accepted m 0x31 = true ∧ s.dev.arg m 0 = 4 ∧ (s.dev.fw (1 - s.dev.bootSlot)).valid = true ∧ s.dev.tlhs.minSvn ≤ (s.dev.fw (1 - s.dev.bootSlot)).svn :=
  ⟨S { A 0 0x31 [4] [] with ferry := { FerryS.init with prog := [(0, 1)], slotB := { FwSlot.init with valid := true } } }, 0, by decide +kernel, by decide +kernel, by decide +kernel, by decide +kernel⟩

theorem witness_FirmwareTasks_9 : ∃ (s : State) (m : Nat), s.dev.accepted m 0x32 = true :=
  ⟨S (A 0 0x32 [] []), 0, by decide +kernel⟩

theorem witness_FirmwareTasks_10 : ∃ (s : State) (m : Nat), m < 2 ∧ s.dev.flashOf m ≠ 0 ∧ s.dev.flashOf m < 7 ∧ s.dev.taskBusy m = true ∧ s.dev.on (Fld.TASK_STATE_HELM_DOWN m) = false :=
  ⟨S { W [(Fld.TASK_STATE_STATE 1, 1)] with ferry := { FerryS.init with flash := [(1, 6)] } }, 1, by decide +kernel, by decide +kernel, by decide +kernel, by decide +kernel, by decide +kernel⟩

set_option maxRecDepth 200000 in
theorem witness_HelmEvents_1 : ∃ (s : State) (d : Dev) (d1 : Dev) (cap : Nat), s.dev.on (Fld.TASK_HELM_AUTONOMOUS 0) = false ∧ s.dev.on (Fld.TASK_STATE_HELM_DOWN 0) = false ∧ d = s.dev.at s.dev.silenceEnd ∧ cap = curveCap d.ferry.autoTable (d.chanTemp d.ferry.tempCh) ∧ d1 = (((d.helmPut Fld.TASK_HELM_AUTONOMOUS 1).put Fld.IDENT_TRAY_HELM_AUTONOMOUS 1).put Fld.PWR_CAPS_AUTO_W cap).setFerry { d.ferry with autoSince := d.tide + 1, restarts := [] } :=
  ⟨S (W [(Fld.TASK_HELM_SILENCE_S 0, 5)]), _, _, _, by decide +kernel, by decide +kernel, rfl, rfl, rfl⟩

set_option maxRecDepth 200000 in
theorem witness_HelmEvents_2 : ∃ (s : State) (p : Nat) (since : Nat) (n : Nat) (d : Dev) (d1 : Dev), p < 4 ∧ since = tget (fun _ => 0) s.dev.ferry.contained6 p ∧ n = tget (fun _ => 0) s.dev.ferry.restarts p ∧ s.dev.on (Fld.TASK_HELM_AUTONOMOUS 0) = true ∧ s.dev.ferry.restartEn = true ∧ since ≠ 0 ∧ n < 3 ∧ s.dev.starter p = 0 ∧ s.dev.get (pState p) = 4 ∧ d = s.dev.at (since - 1 + 10000000000) ∧ d1 = (d.setFerry { d.ferry with contained6 := tdel p d.ferry.contained6, restarts := tput (fun _ => 0) d.ferry.restarts p (n + 1) }).logAdd 3 0x0005 0xFF p (n + 1) ∧ d1.gapAt 4 = 0 ∧ (∀ q ∈ List.range 4, d1.starter q ≠ 3) :=
  ⟨S { W [(Fld.TASK_HELM_AUTONOMOUS 0, 1), (pState 3, 4)] with ferry := { FerryS.init with contained6 := [(3, 1)], restartEn := true } }, 3, _, _, _, _, by decide +kernel, rfl, rfl, by decide +kernel, by decide +kernel, by decide +kernel, by decide +kernel, by decide +kernel, by decide +kernel, rfl, rfl, by decide +kernel, by decide +kernel⟩

theorem witness_HelmEvents_3 : ∃ (s : State), s.dev.on (Fld.TASK_STATE_HELM_DOWN 0) = false :=
  ⟨S (W []), by decide +kernel⟩

set_option maxRecDepth 200000 in
theorem witness_HelmEvents_4 : ∃ (s : State) (d : Dev), s.dev.on (Fld.TASK_STATE_HELM_DOWN 0) = false ∧ d = s.dev.logAdd 5 0x0001 0xFF 2 (s.dev.fw s.dev.ferry.running).version ∧ d.trial = true :=
  ⟨S (W [(Fld.TASK_HELM_TRIAL 0, 1)]), _, by decide +kernel, rfl, by decide +kernel⟩

set_option maxRecDepth 200000 in
theorem witness_HelmEvents_5 : ∃ (s : State) (d1 : Dev), s.dev.ferry.helmWhy = 1 ∧ d1 = ((s.dev.helmPut Fld.TASK_STATE_HELM_DOWN 0).setFerry { s.dev.ferry with helmWhy := 0, helmTask := 0 }).endSessions (fun _ => true) :=
  ⟨S { W [(Fld.TASK_STATE_HELM_DOWN 0, 1)] with ferry := { FerryS.init with helmWhy := 1 } }, _, by decide +kernel, rfl⟩

theorem witness_ManagementCommands_1 : ∃ (binding : Nat) (eid : Nat), binding < 2 ∧ 0 < eid ∧ eid < 255 :=
  ⟨1, 254, by decide +kernel, by decide +kernel, by decide +kernel⟩

theorem witness_ManagementCommands_2 : ∃ (s : State) (binding : Nat) (ch : Nat) (n : Int), binding < 2 ∧ ch ≤ 0x1D ∧ s.dev.gaugeN ch = some n ∧ s.dev.on (Fld.GAU_CFG_EN ch) = true ∧ s.dev.gaugeAge ch ≤ 1000000000 :=
  ⟨S (W [(Fld.GAU_LAST_TIDE_TIDE 0x1D, 1), (Fld.GAU_CFG_EN 0x1D, 1)]), 1, 0x1D, 0, by decide +kernel, by decide +kernel, by decide +kernel, by decide +kernel, by decide +kernel⟩

theorem witness_ManagementCommands_3 : ∃ (s : State) (off : Nat) (total : Nat) (data : List Byte), 0 < off ∧ total ≤ 0x2000000 ∧ data.length ≤ 1024 ∧ s.dev.ferry.stageOwner = 3 ∧ s.dev.ferry.stageBytes.length = off ∧ off + data.length < total :=
  ⟨S { W [] with ferry := { FerryS.init with stageOwner := 3, stageBytes := [1] } }, 1, 0x2000000, [], by decide +kernel, by decide +kernel, by decide +kernel, by decide +kernel, by decide +kernel, by decide +kernel⟩

theorem witness_ManagementCommands_4 : ∃ (s : State), s.dev.ferry.stageOwner = 3 ∧ (s.dev.fw s.dev.stageSlot).staged = true ∧ s.dev.on (Fld.TASK_STATE_HELM_DOWN 0) = false :=
  ⟨S { W [] with ferry := { FerryS.init with stageOwner := 3, slotB := { FwSlot.init with staged := true } } }, by decide +kernel, by decide +kernel, by decide +kernel⟩

theorem witness_ManagementCommands_8 : ∃ (s : State), s.dev.anyPwren = false :=
  ⟨S (W []), by decide +kernel⟩

theorem witness_ResetCommands_1 : ∃ (s : State), s.dev.host.perstHigh = true ∧ (s.dev.host.link = 1 ∨ s.dev.host.link = 2 ∨ s.dev.host.link = 3) :=
  ⟨S { W [] with host := { Dev.reset.host with perstHigh := true, link := 1 } }, by decide +kernel, (Or.inl (by decide +kernel))⟩

theorem witness_ResetCommands_2 : ∃ (s : State), s.dev.inFlr 0 = false ∧ s.dev.slip.slack = false :=
  ⟨S (W []), by decide +kernel, by decide +kernel⟩

set_option maxRecDepth 200000 in
theorem witness_ResetCommands_3 : ∃ (s : State) (b : Nat) (s1 : Dev) (s2 : Dev) (s3 : Dev), 1 ≤ b ∧ b ≤ 128 ∧ s.dev.funcOn b = true ∧ s.dev.inFlr b = false ∧ s1 = ((((s.dev.flrBegin b).berthRingsReset b).stoBerths (fun x => x = b)).revokeAll b).xctEnd (fun o => o = b) 3 ∧ s2 = (s1.pansHeld b).foldl (fun d p => d.panKill p) s1 ∧ s3 = ((s2.keysZeroize (fun k => k.owner = b) 2 b).xctZeroOwner b).put (Fld.TOLL_ROOT_VALID b) 0 :=
  ⟨S (vf (W [])), 128, _, _, _, by decide +kernel, by decide +kernel, by decide +kernel, by decide +kernel, rfl, rfl, rfl⟩

set_option maxRecDepth 200000 in
theorem witness_ResetCommands_5 : ∃ (s : State) (f : Nat) (d : Dev), f ≠ 0 ∧ s.dev.host.flr.contains (f, true) = true ∧ d = (s.dev.copiesLeave (fun b => b = f)).scrubsEnd (fun b => b = f) :=
  ⟨S { W [] with host := { Dev.reset.host with flr := [(128, true)] } }, 128, _, by decide +kernel, by decide +kernel, rfl⟩

theorem witness_ResetCommands_6 : ∃ (s : State), s.dev.host.dropTimer ≠ 0 ∧ s.dev.host.perstHigh = true :=
  ⟨S { W [] with host := { Dev.reset.host with perstHigh := true, dropTimer := 1 } }, by decide +kernel, by decide +kernel⟩

theorem witness_ResetCommands_7 : ∃ (s : State) (s1 : Dev) (s2 : Dev), s.dev.slip.slack = true ∧ ((s.dev.copiesLeave (fun _ => true)).scrubsEnd (fun _ => true)).teardownDone = some s1 ∧ s2 = { s1 with slip := { s1.slip with slack := false, slackWaits := true } }.logAdd 4 0x0205 0xFF 2 s1.slip.slackCrossings ∧ s2.linkUp = true :=
  ⟨S { W [(Fld.LND_HOST_LINK_LINK_UP, 1)] with slip := { Dev.reset.slip with slack := true } }, { W [(Fld.LND_HOST_LINK_LINK_UP, 1)] with slip := { Dev.reset.slip with slack := true } }, ({ W [(Fld.LND_HOST_LINK_LINK_UP, 1)] with slip := { Dev.reset.slip with slack := false, slackWaits := true } } : Dev).logAdd 4 0x0205 0xFF 2 0, by decide +kernel, by decide +kernel, by decide +kernel, by decide +kernel⟩

set_option maxRecDepth 200000 in
theorem witness_ResetCommands_8 : ∃ (s : State) (enable : Bool) (n : Nat) (d : Dev), d = (s.dev.putCfg 0 0x170 0 1 (if enable then 1 else 0)).putCfg 0 0x178 0 16 (min n 128) :=
  ⟨S (W []), true, 129, _, rfl⟩

theorem witness_SlipwayCommands_1 : ∃ (s : State), s.dev.slip.standby = false :=
  ⟨S { W [] with slip := { Dev.reset.slip with standby := false } }, by decide +kernel⟩

set_option maxRecDepth 200000 in
theorem witness_SlipwayCommands_2 : ∃ (s : State) (d : Dev), d = s.dev.partnersOff.tilesDown :=
  ⟨S (W []), _, rfl⟩

theorem witness_SlipwayCommands_3 : ∃ (s : State), s.dev.get Fld.IDENT_BOOT_STATION = 8 ∧ s.dev.slipRuns = true :=
  ⟨S { W [(Fld.IDENT_BOOT_STATION, 8)] with slip := { Dev.reset.slip with standby := true } }, by decide +kernel, by decide +kernel⟩

theorem witness_SlipwayCommands_4 : ∃ (s : State), s.dev.get Fld.IDENT_BOOT_STATION = 7 ∧ s.dev.slipRuns = true :=
  ⟨S { W [(Fld.IDENT_BOOT_STATION, 7)] with slip := { Dev.reset.slip with standby := true } }, by decide +kernel, by decide +kernel⟩

set_option maxRecDepth 200000 in
theorem witness_SlipwayCommands_5 : ∃ (s : State) (g : Nat) (d : Dev), s.dev.get Fld.IDENT_BOOT_STATION = 10 ∧ s.dev.slipRuns = true ∧ s.dev.slip.cryGroups ≠ 0 ∧ g = 4 - s.dev.slip.cryGroups ∧ d = s.dev.at (s.dev.slip.stationStart + g * s.dev.slip.cryGap * 1000000) :=
  ⟨S { W [(Fld.IDENT_BOOT_STATION, 10)] with slip := { Dev.reset.slip with standby := true, cryGroups := 4 } }, _, _, by decide +kernel, by decide +kernel, by decide +kernel, rfl, rfl⟩

set_option maxRecDepth 200000 in
theorem witness_SlipwayCommands_6 : ∃ (s : State) (a : List Byte) (b : List Byte) (ra : Bool) (rb : Bool) (d : Dev) (i : Nat) (r : Nat → Bool × List Byte), s.dev.get Fld.IDENT_BOOT_STATION = 2 ∧ s.dev.slipRuns = true ∧ d = s.dev.trialStart ∧ i = d.bootSlot ∧ r = (fun j => if j = 0 then (ra, d.slotBytes 0 a) else (rb, d.slotBytes 1 b)) :=
  ⟨S { W [(Fld.IDENT_BOOT_STATION, 2)] with slip := { Dev.reset.slip with standby := true } }, [1], [2], true, true, _, _, _, by decide +kernel, by decide +kernel, rfl, rfl, rfl⟩

set_option maxRecDepth 200000 in
theorem witness_SlipwayCommands_7 : ∃ (s : State) (ns : Nat) (d : Dev), 1000 ≤ ns ∧ d = { s.dev with host := { s.dev.host with perstHigh := false } } ∧ s.dev.slip.standby = true ∧ s.dev.slip.recovery = false ∧ s.dev.slip.hardOff = false ∧ d.get Fld.IDENT_BOOT_STATION = 11 :=
  ⟨S { W [(Fld.IDENT_BOOT_STATION, 11)] with slip := { Dev.reset.slip with standby := true } }, 1000, _, by decide +kernel, rfl, by decide +kernel, by decide +kernel, by decide +kernel, by decide +kernel⟩

set_option maxRecDepth 200000 in
theorem witness_SlipwayCommands_8 : ∃ (s : State) (d : Dev), s.dev.host.perstHigh = false ∧ d = { s.dev with host := { s.dev.host with perstHigh := true, link := 4 } } ∧ d.cfgBits 0 0x44 15 1 = 0 :=
  ⟨S { W [] with host := { Dev.reset.host with perstHigh := false } }, _, by decide +kernel, rfl, by decide +kernel⟩

set_option maxRecDepth 200000 in
theorem witness_PowerEvents_1 : ∃ (s : State) (d : Dev), s.dev.slip.standby = true ∧ s.dev.power.thermTrip = false ∧ d = s.dev.setSlip { s.dev.slip with mainPg := true, believed := true } ∧ d.slip.hardOff = false ∧ d.vltState ≠ 4 ∧ d.get Fld.IDENT_BOOT_STATION = 3 ∧ d.slipRuns = true ∧ d.mainReady = true :=
  ⟨S { W [(Fld.IDENT_BOOT_STATION, 3), (Fld.CLK_REF_STATUS_REF0_VALID, 1)] with slip := { Dev.reset.slip with standby := true } }, _, by decide +kernel, by decide +kernel, rfl, by decide +kernel, by decide +kernel, by decide +kernel, by decide +kernel, by decide +kernel⟩

set_option maxRecDepth 200000 in
theorem witness_PowerEvents_2 : ∃ (s : State) (d : Dev), d = s.dev.setSlip { s.dev.slip with mainPg := false, believed := false, pgSince := s.dev.tide } ∧ d.vltState = 2 ∧ s.dev.slip.believed = true :=
  ⟨S { W [(Fld.VLT_STATUS_STATE, 2)] with slip := { Dev.reset.slip with believed := true } }, _, rfl, by decide +kernel, by decide +kernel⟩

set_option maxRecDepth 200000 in
theorem witness_PowerEvents_3 : ∃ (s : State) (d : Dev), s.dev.slip.mainPg = false ∧ s.dev.slip.standby = true ∧ s.dev.slip.hardOff = false ∧ s.dev.slip.recovery = false ∧ d = s.dev.at (s.dev.slip.pgSince + 50000) ∧ d.vltState = 2 :=
  ⟨S { W [(Fld.VLT_STATUS_STATE, 2)] with slip := { Dev.reset.slip with standby := true } }, _, by decide +kernel, by decide +kernel, by decide +kernel, by decide +kernel, rfl, by decide +kernel⟩

theorem witness_PowerEvents_4 : ∃ (s : State), s.dev.slip.standby = true ∧ s.dev.slip.hardOff = false ∧ s.dev.slip.cellLowHigh = true ∧ s.dev.slip.believed = true :=
  ⟨S { W [] with slip := { Dev.reset.slip with standby := true, believed := true, cellLowHigh := true } }, by decide +kernel, by decide +kernel, by decide +kernel, by decide +kernel⟩

set_option maxRecDepth 200000 in
theorem witness_PowerEvents_6 : ∃ (s : State) (d : Dev), s.dev.power.thermTrip = false ∧ s.dev.slip.standby = true ∧ s.dev.vltState ≠ 3 ∧ d = ({ s.dev with power := { s.dev.power with thermTrip := true } }.emit .pin [5, 0]).kill.partnersOff :=
  ⟨S { W [] with slip := { Dev.reset.slip with standby := true } }, _, by decide +kernel, by decide +kernel, by decide +kernel, rfl⟩

set_option maxRecDepth 200000 in
theorem witness_VaultTasks_1 : ∃ (s : State) (m : Nat) (set : Nat) (slot : Nat) (limit : Nat) (lba : Nat) (d : Dev), s.dev.accepted m 0x50 = true ∧ s.dev.argF m 0 0 3 = 0 ∧ set = s.dev.argF m 1 0 8 ∧ slot = s.dev.argF m 1 16 16 ∧ limit = s.dev.argF m 1 32 14 ∧ lba = s.dev.argF m 2 0 36 ∧ s.dev.setCause set slot limit lba = 0 ∧ d = ((((s.dev.put Fld.VLT_STATUS_DRIVE_SET set).put Fld.VLT_AREA_SLOT_MIB slot).put Fld.VLT_USED_LIMIT_MIB limit).put Fld.VLT_AREA_VAULT_LBA lba).put Fld.VLT_STATUS_CFG_OK 1 :=
  ⟨S (A 1 0x50 [0, 0x200080001, 0] [(Fld.STO_DRV_SIZE_BLOCKS 0, 0x1000)]), 1, _, _, _, _, _, by decide +kernel, by decide +kernel, rfl, rfl, rfl, rfl, by decide +kernel, rfl⟩

set_option maxRecDepth 200000 in
theorem witness_VaultTasks_2 : ∃ (s : State) (m : Nat) (heads : List (List Byte)) (d : Dev), s.dev.accepted m 0x50 = true ∧ s.dev.argF m 0 0 3 = 1 ∧ s.dev.on Fld.VLT_STATUS_PENDING = false ∧ s.dev.vltState < 3 ∧ d = (match s.dev.bestSlot heads with | some (slot, h) => ((s.dev.put Fld.VLT_STATUS_NEXT_SLOT (1 - slot)).put Fld.VLT_SEQ_SEQ (Machine.wf h 1 0 64)).setVlt { s.dev.vlt with nextSeq := Machine.wf h 1 0 64 + 1 } | none => ((s.dev.put Fld.VLT_STATUS_NEXT_SLOT 0).put Fld.VLT_SEQ_SEQ 0).setVlt { s.dev.vlt with nextSeq := 1 }) :=
  ⟨S (A 1 0x50 [1] []), 1, [], _, by decide +kernel, by decide +kernel, by decide +kernel, by decide +kernel, rfl⟩

theorem witness_VaultTasks_3 : ∃ (s : State) (m : Nat), s.dev.accepted m 0x50 = true ∧ s.dev.argF m 0 0 3 = 2 :=
  ⟨S (A 1 0x50 [2] []), 1, by decide +kernel, by decide +kernel⟩

theorem witness_VaultTasks_4 : ∃ (s : State) (m : Nat), s.dev.accepted m 0x50 = true ∧ s.dev.argF m 0 0 3 = 4 ∧ s.dev.on Fld.VLT_STATUS_PENDING = true :=
  ⟨S (A 1 0x50 [4] [(Fld.VLT_STATUS_PENDING, 1)]), 1, by decide +kernel, by decide +kernel, by decide +kernel⟩

theorem witness_VaultTasks_5 : ∃ (s : State) (m : Nat), s.dev.accepted m 0x51 = true :=
  ⟨S (A 0 0x51 [] []), 0, by decide +kernel⟩

set_option maxRecDepth 200000 in
theorem witness_VaultTasks_6 : ∃ (s : State) (m : Nat) (d : Dev), s.dev.accepted m 0x50 = true ∧ s.dev.argF m 0 0 3 = 3 ∧ (∀ b, b < 128 → s.dev.get (Fld.BPLAN_CTRL_STATE (b + 1)) = 0) ∧ s.dev.on Fld.VLT_STATUS_PENDING = true ∧ s.dev.vltState < 3 ∧ s.dev.vltDrivesOk = true ∧ d = (s.dev.setProg m 2).put Fld.VLT_STATUS_STATE 5 :=
  ⟨S (A 1 0x50 [3] [(Fld.VLT_STATUS_PENDING, 1)]), 1, _, by decide +kernel, by decide +kernel, by decide +kernel, by decide +kernel, by decide +kernel, by decide +kernel, rfl⟩

set_option maxRecDepth 200000 in
theorem witness_VaultProgress_1 : ∃ (s : State) (k : Nat) (p : Nat), p = s.dev.vltDrives.findIdx (· = k) ∧ s.dev.vlt.phase = 1 ∧ s.dev.vlt.out.any (fun o => o.1 = p) = true :=
  ⟨S { W [(Fld.VLT_STATUS_DRIVE_SET, 0x81)] with vlt := { VltS.init with phase := 1, out := [(1, 0)] } }, 7, _, rfl, by decide +kernel, by decide +kernel⟩

theorem witness_VaultProgress_2 : ∃ (s : State), s.dev.vlt.phase = 2 :=
  ⟨S { W [] with vlt := { VltS.init with phase := 2 } }, by decide +kernel⟩

set_option maxRecDepth 200000 in
theorem witness_VaultProgress_3 : ∃ (s : State) (d1 : Dev) (d2 : Dev) (d3 : Dev), s.dev.vlt.phase = 3 ∧ d1 = ((s.dev.vltLast 1 0).put Fld.VLT_SEQ_SEQ s.dev.vlt.seq).put Fld.VLT_STATUS_PENDING 1 ∧ d2 = (d1.put Fld.VLT_STATUS_STATE 4).setVlt { d1.vlt with phase := 4 } ∧ d3 = (d2.storeKeep 5).logAdd 2 0x0403 0xFF s.dev.vlt.seq ((s.dev.tide - s.dev.vlt.start) / 1000) ∧ d3.slip.mainPg = true ∧ d3.slip.believed = true :=
  ⟨S { W [] with vlt := { VltS.init with phase := 3 }, slip := { Dev.reset.slip with mainPg := true, believed := true } }, _, _, _, by decide +kernel, rfl, rfl, rfl, by decide +kernel, by decide +kernel⟩

theorem witness_VaultProgress_4 : ∃ (s : State) (k : Nat), s.dev.vlt.rphase ≠ 0 ∧ s.dev.vltState = 5 ∧ s.dev.vltDrives.getD (s.dev.vlt.runit % max 1 s.dev.vltDrives.length) 8 = k :=
  ⟨S { W [(Fld.VLT_STATUS_STATE, 5), (Fld.VLT_STATUS_DRIVE_SET, 0x80)] with vlt := { VltS.init with rphase := 2 } }, 7, by decide +kernel, by decide +kernel, by decide +kernel⟩

set_option maxRecDepth 200000 in
theorem witness_HostRequests_1 : ∃ (s : State) (f : Nat) (dw : Nat) (o : Nat) (sec : Bool), o = dw / 4 * 4 % 4096 ∧ s.dev.linkUp = true ∧ s.dev.ideWrong f sec = false ∧ s.dev.cfgRetry f = false ∧ s.dev.funcOn f = true :=
  ⟨S { W [(Fld.LND_HOST_LINK_LINK_UP, 1)] with host := { Dev.reset.host with cfgReady := true } }, 0, 4, _, false, rfl, by decide +kernel, by decide +kernel, by decide +kernel, by decide +kernel⟩

theorem witness_HostRequests_2 : ∃ (s : State) (f : Nat) (off : Nat) (size : Nat) (tag : Nat) (sec : Bool), off + size ≤ bar0Size f ∧ barAligned off size = true ∧ s.dev.memGate f true size tag sec = none ∧ s.dev.bar0Served f off = true :=
  ⟨S { W [(Fld.LND_HOST_LINK_LINK_UP, 1), (Fld.LND_HOST_LINK_DEVICE_READY, 1)] with host := { Dev.reset.host with cfg := [(4, 6)] } }, 0, 0x3FFFFF8, 8, 1, false, by decide +kernel, by decide +kernel, by decide +kernel, by decide +kernel⟩

theorem witness_HostRequests_3 : ∃ (s : State) (f : Nat) (off : Nat) (size : Nat) (tag : Nat) (sec : Bool), off + size ≤ bar0Size f ∧ barAligned off size = true ∧ s.dev.memGate f false size tag sec = none ∧ s.dev.bar0Served f off = true :=
  ⟨S { vf (W [(Fld.LND_HOST_LINK_LINK_UP, 1), (Fld.LND_HOST_LINK_DEVICE_READY, 1)]) with host := { (vf (W [])).host with cfg := [(4, 6), (0x170, 9), (0x178, 128)] } }, 128, 0x3FFFC, 4, 1, false, by decide +kernel, by decide +kernel, by decide +kernel, by decide +kernel⟩

set_option maxRecDepth 200000 in
theorem witness_HostRequests_4 : ∃ (s : State) (f : Nat) (off : Nat) (tag : Nat) (sec : Bool) (ep : Bool) (data : List Byte) (d : Dev), off + data.length ≤ bar2Size f ∧ s.dev.memGate f true data.length tag sec = none ∧ d = (if ep then s.dev.poisonRx f else s.dev) ∧ d.stopped = false :=
  ⟨S { W [(Fld.LND_HOST_LINK_LINK_UP, 1), (Fld.LND_HOST_LINK_DEVICE_READY, 1)] with host := { Dev.reset.host with cfg := [(4, 6)] } }, 0, 0xFFFFFFFFFF, 1, false, true, [1], _, by decide +kernel, by decide +kernel, rfl, by decide +kernel⟩

theorem witness_HostRequests_5 : ∃ (s : State) (f : Nat) (off : Nat) (len : Nat) (tag : Nat) (sec : Bool), off + len ≤ bar2Size f ∧ s.dev.memGate f false len tag sec = none ∧ s.dev.stopped = false :=
  ⟨S { W [(Fld.LND_HOST_LINK_LINK_UP, 1), (Fld.LND_HOST_LINK_DEVICE_READY, 1)] with host := { Dev.reset.host with cfg := [(4, 6)] } }, 0, 0xFFFFFFFFF8, 8, 1, false, by decide +kernel, by decide +kernel, by decide +kernel⟩

theorem witness_HostRequests_6 : ∃ (s : State) (kind : Nat), s.dev.linkUp = true ∧ kind < 3 :=
  ⟨S (W [(Fld.LND_HOST_LINK_LINK_UP, 1)]), 2, by decide +kernel, by decide +kernel⟩

theorem witness_HostRequests_7 : ∃ (s : State), (s.dev.host.link = 1 ∨ s.dev.host.link = 2 ∨ s.dev.host.link = 3) :=
  ⟨S { W [] with host := { Dev.reset.host with link := 3 } }, by decide +kernel⟩

theorem witness_HostRequests_8 : ∃ (s : State) (tag : Nat) (sec : Bool) (o : Outst), s.dev.linkUp = true ∧ s.dev.hostOutst tag = some o ∧ s.dev.ideWrong o.func sec = false :=
  ⟨S { W [(Fld.LND_HOST_LINK_LINK_UP, 1)] with outst := [⟨7, 0, 0, 0, 4, .fetch 0 0⟩] }, 7, false, ⟨7, 0, 0, 0, 4, .fetch 0 0⟩, by decide +kernel, by decide +kernel, by decide +kernel⟩

theorem witness_HostRequests_9 : ∃ (s : State) (tag : Nat) (o : Outst), s.dev.hostOutst tag = some o :=
  ⟨S { W [] with outst := [⟨7, 0, 0, 0, 4, .fetch 0 0⟩] }, 7, ⟨7, 0, 0, 0, 4, .fetch 0 0⟩, by decide +kernel⟩

theorem witness_HostRequests_10 : ∃ (s : State) (tag : Nat), s.dev.linkUp = true ∧ s.dev.hostOutst tag = none :=
  ⟨S { W [(Fld.LND_HOST_LINK_LINK_UP, 1)] with outst := [⟨7, 1, 0, 0, 4, .cfg 0⟩] }, 7, by decide +kernel, by decide +kernel⟩

theorem witness_HostLink_1 : ∃ (s : State) (v : Nat), s.dev.funcOn 0 = true ∧ v < vectorsOf 0 :=
  ⟨S (W []), 2047, by decide +kernel, by decide +kernel⟩

theorem witness_HostLink_2 : ∃ (s : State) (f : Nat), s.dev.funcOn f = true :=
  ⟨S (vf (W [])), 128, by decide +kernel⟩

theorem witness_HostLink_3 : ∃ (s : State) (f : Nat), s.dev.funcOn f = true :=
  ⟨S (vf (W [])), 128, by decide +kernel⟩

set_option maxRecDepth 200000 in
theorem witness_HostLink_5 : ∃ (s : State) (d : Dev), s.dev.d3hot = true ∧ d = s.dev.putCfg 0 0x44 0 2 0 :=
  ⟨S { W [] with host := { Dev.reset.host with cfg := [(0x44, 3)] } }, _, by decide +kernel, rfl⟩

theorem witness_HostLink_6 : ∃ (s : State), s.dev.host.link = 1 ∧ s.dev.cfgBits 0 0x70 1 1 = 1 ∧ s.dev.on Fld.LND_HOST_ASPM_L1_IDLE_US = true ∧ s.dev.hostIdle = true :=
  ⟨S { W [(Fld.LND_HOST_ASPM_L1_IDLE_US, 1)] with host := { Dev.reset.host with link := 1, cfg := [(0x70, 2)] } }, by decide +kernel, by decide +kernel, by decide +kernel, by decide +kernel⟩

theorem witness_HostLink_7 : ∃ (s : State), s.dev.ltrOn = true ∧ s.dev.host.ltrActive = true ∧ s.dev.hostIdle = true ∧ s.dev.hostRingBusy = false ∧ s.dev.d3hot = false ∧ (s.dev.host.link = 1 ∨ s.dev.host.link = 2) :=
  ⟨S { W [] with host := { Dev.reset.host with link := 2, ltrActive := true, cfg := [(0x88, 0x400)] } }, by decide +kernel, by decide +kernel, by decide +kernel, by decide +kernel, by decide +kernel, (Or.inr (by decide +kernel))⟩

set_option maxRecDepth 200000 in
theorem witness_HostLink_8 : ∃ (s : State) (i : Nat) (d : Dev), i < 8 ∧ (s.dev.ideStream i).state = 1 ∧ d = (((s.dev.setIde i { s.dev.ideStream i with state := 2 }).put Fld.LND_HOST_EVENTS_IDE_INSECURE 1).sat Fld.LND_HOST_COUNTS_IDE_FAIL).aerUncor 0 28 :=
  ⟨S { W [] with host := { Dev.reset.host with ide := [(7, { IdeStream.init with state := 1 })] } }, 7, _, by decide +kernel, by decide +kernel, rfl⟩

set_option maxRecDepth 200000 in
theorem witness_HostLink_9 : ∃ (s : State) (d : Dev), (s.dev.host.link = 1 ∨ s.dev.host.link = 2 ∨ s.dev.host.link = 3) ∧ d = s.dev.hostLinkLost 4 ∧ d.host.perstHigh = true ∧ d.get Fld.IDENT_BOOT_STATION = 11 ∧ d.slip.slack = false :=
  ⟨S { W [(Fld.IDENT_BOOT_STATION, 11)] with host := { Dev.reset.host with link := 3, perstHigh := true } }, _, (Or.inr (Or.inr (by decide +kernel))), rfl, by decide +kernel, by decide +kernel, by decide +kernel⟩

set_option maxRecDepth 200000 in
theorem witness_HostLink_10 : ∃ (s : State) (speed : Nat) (width : Nat) (flit : Bool) (d : Dev), s.dev.mayTrain = true ∧ s.dev.linkUp = false ∧ s.dev.host.dropTimer = 0 ∧ 1 ≤ speed ∧ speed ≤ 6 ∧ [1, 4, 8, 16].contains width = true ∧ d = (s.dev.hostTrained speed width flit).hostFlush ∧ d.slip.slackWaits = false ∧ d.host.cfgReady = true ∧ d.slip.slack = false ∧ d.inFlr 0 = false :=
  ⟨S { W [(Fld.IDENT_BOOT_STATION, 11)] with host := { Dev.reset.host with perstHigh := true, cfgReady := true }, slip := { Dev.reset.slip with standby := true, believed := true } }, 6, 16, true, _, by decide +kernel, by decide +kernel, by decide +kernel, by decide +kernel, by decide +kernel, by decide +kernel, rfl, by decide +kernel, by decide +kernel, by decide +kernel, by decide +kernel⟩

set_option maxRecDepth 200000 in
theorem witness_HostLink_11 : ∃ (s : State) (speed : Nat) (width : Nat) (flit : Bool) (d : Dev), s.dev.host.dropTimer ≠ 0 ∧ s.dev.host.perstHigh = true ∧ s.dev.tide ≤ s.dev.host.dropTimer - 1 + 2000000 ∧ 1 ≤ speed ∧ speed ≤ 6 ∧ [1, 4, 8, 16].contains width = true ∧ d = (s.dev.hostTrained speed width flit).put Fld.LND_HOST_EVENTS_SHORT_DROP 1 :=
  ⟨S { W [] with host := { Dev.reset.host with perstHigh := true, dropTimer := 1 } }, 1, 1, false, _, by decide +kernel, by decide +kernel, by decide +kernel, by decide +kernel, by decide +kernel, by decide +kernel, rfl⟩

set_option maxRecDepth 200000 in
theorem witness_PortBringUp_1 : ∃ (s : State) (p : Nat) (d : Dev), p < 12 ∧ (s.dev.get (pState p) = 1 ∨ s.dev.get (pState p) = 5) ∧ d = s.dev.at (s.dev.port p).trainAt :=
  ⟨S (W [(pState 11, 5)]), 11, _, by decide +kernel, (Or.inr (by decide +kernel)), rfl⟩

theorem witness_PortBringUp_2 : ∃ (s : State) (p : Nat), p < 12 ∧ (s.dev.get (pState p) = 1 ∨ s.dev.get (pState p) = 5) :=
  ⟨S (W [(pState 11, 1)]), 11, by decide +kernel, (Or.inl (by decide +kernel))⟩

set_option maxRecDepth 200000 in
theorem witness_PortBringUp_3 : ∃ (s : State) (k : Nat) (mps : Nat) (d : Dev) (d1 : Dev), k < 8 ∧ s.dev.get (pState (4 + k)) = 2 ∧ d = s.dev.at ((s.dev.port (4 + k)).upAt + 100000000) ∧ d1 = d.setPort (4 + k) { d.port (4 + k) with mps := max 128 (min 512 mps), owned := [] } :=
  ⟨S (W [(pState 11, 2)]), 7, 512, _, _, by decide +kernel, by decide +kernel, rfl, rfl⟩

theorem witness_PortBringUp_4 : ∃ (s : State) (p : Nat), p < 12 ∧ s.dev.get (pState p) = 2 :=
  ⟨S (W [(pState 3, 2)]), 3, by decide +kernel, by decide +kernel⟩

set_option maxRecDepth 200000 in
theorem witness_PortBringUp_5 : ∃ (s : State) (p : Nat) (d : Dev), p < 12 ∧ s.dev.portPowered p = true ∧ s.dev.on (pEn p) = true ∧ s.dev.get (pState p) ≠ 5 ∧ d = (((s.dev.put (pState p) 5).setPresent p 0).portWorkEnds p).portLinkDown p :=
  ⟨S { W [(pEn 11, 1), (pState 11, 3)] with ports := [(11, { PortH.init with pwren := true, perst := false })] }, 11, _, by decide +kernel, by decide +kernel, by decide +kernel, by decide +kernel, rfl⟩

theorem witness_PortBringUp_6 : ∃ (s : State) (p : Nat), p < 12 ∧ s.dev.get (pState p) = 4 ∧ s.dev.portPowered p = true ∧ s.dev.on (pEn p) = true :=
  ⟨S { W [(pEn 0, 1), (pState 0, 4)] with ports := [(0, { PortH.init with pwren := true, perst := false })] }, 0, by decide +kernel, by decide +kernel, by decide +kernel, by decide +kernel⟩

theorem witness_PortBringUp_7 : ∃ (p : Nat), p < 12 :=
  ⟨11, by decide +kernel⟩

theorem witness_PortBringUp_8 : ∃ (s : State) (p : Nat), p < 12 ∧ (s.dev.get (pState p) = 4 ∨ s.dev.get (pState p) = 0) :=
  ⟨S (W [(pState 4, 4)]), 4, by decide +kernel, (Or.inl (by decide +kernel))⟩

set_option maxRecDepth 200000 in
theorem witness_PortTraffic_1 : ∃ (s : State) (n : Nat) (f : Nat) (dw : Nat) (be : Nat) (v : Word) (w : Dev) (d : Dev), n < 4 ∧ w = s.dev.writeReg (Reg.LND_AP_CFG_ADDR n) (setBits v 63 1 1) 8 0 ∧ f = w.get (Fld.LND_AP_CFG_ADDR_FUNC n) ∧ dw = w.get (Fld.LND_AP_CFG_ADDR_DWORD n) ∧ be = w.get (Fld.LND_AP_CFG_ADDR_BE n) ∧ w.on (Fld.LND_AP_CFG_ADDR_WRITE n) = false ∧ w.get (pState n) = 3 ∧ w.on (Fld.LND_AP_CFG_DATA_BUSY n) = false ∧ d = (w.put (Fld.LND_AP_CFG_DATA_BUSY n) 1).emit .cfgReq [n, f, dw, 0, be, 0, w.nextTag] :=
  ⟨S (W [(pState 3, 3)]), 3, _, _, _, 0x1, _, _, by decide +kernel, rfl, rfl, rfl, rfl, by decide +kernel, by decide +kernel, by decide +kernel, rfl⟩

theorem witness_PortTraffic_2 : ∃ (s : State) (n : Nat) (status : Nat) (o : Outst), s.dev.outst.find? (fun o => o.link = 1 + n && o.purpose = Purpose.cfg n) = some o ∧ status < 2 :=
  ⟨S { W [] with outst := [⟨7, 4, 0, 0, 4, .cfg 3⟩] }, 3, 1, ⟨7, 4, 0, 0, 4, .cfg 3⟩, by decide +kernel, by decide +kernel⟩

set_option maxRecDepth 200000 in
theorem witness_PortTraffic_3 : ∃ (s : State) (n : Nat) (rid : Nat) (addr : Nat) (a : Nat) (data : List Byte) (leaf : Word) (d : Dev), n < 4 ∧ s.dev.on (pLinkUp n) = true ∧ s.dev.apInsecure n = false ∧ rid / 256 = 1 + n ∧ rid / 8 % 32 = 0 ∧ s.dev.get (pFuncs n) / 2 ^ (rid % 8) % 2 ≠ 0 ∧ 0 < data.length ∧ addr % 4096 + data.length ≤ 4096 ∧ s.dev.xlate (129 + n) addr 1 data.length { accel := 15 } = (.ok a leaf, d) ∧ d.destOf (129 + n) a leaf = .mem a :=
  ⟨S (X 132 [(pLinkUp 3, 1), (pFuncs 3, 0x80)]), 3, 0x407, 4095, _, [1], _, _, by decide +kernel, by decide +kernel, by decide +kernel, by decide +kernel, by decide +kernel, by decide +kernel, by decide +kernel, by decide +kernel, rfl, by decide +kernel⟩

theorem witness_PortTraffic_4 : ∃ (s : State) (p : Nat) (tag : Nat) (o : Outst), p < 12 ∧ s.dev.on (pLinkUp p) = true ∧ s.dev.outst.find? (fun o => o.link = portLink p && o.tag = tag) = some o :=
  ⟨S { W [(pLinkUp 11, 1)] with outst := [⟨7, 23, 0, 0, 4, .fetch 0 0⟩] }, 11, 7, ⟨7, 23, 0, 0, 4, .fetch 0 0⟩, by decide +kernel, by decide +kernel, by decide +kernel⟩

theorem witness_PortTraffic_5 : ∃ (s : State) (p : Nat) (tag : Nat) (o : Outst), p < 12 ∧ s.dev.outst.find? (fun o => o.link = portLink p && o.tag = tag) = some o :=
  ⟨S { W [] with outst := [⟨7, 4, 0, 0, 4, .fetch 0 0⟩] }, 3, 7, ⟨7, 4, 0, 0, 4, .fetch 0 0⟩, by decide +kernel, by decide +kernel⟩

theorem witness_PortTraffic_6 : ∃ (s : State) (p : Nat), p < 12 ∧ s.dev.on (pLinkUp p) = true :=
  ⟨S (W [(pLinkUp 11, 1)]), 11, by decide +kernel, by decide +kernel⟩

theorem witness_PortTraffic_7 : ∃ (s : State) (p : Nat), p < 12 ∧ s.dev.on (pLinkUp p) = true :=
  ⟨S (W [(pLinkUp 0, 1)]), 0, by decide +kernel, by decide +kernel⟩

set_option maxRecDepth 200000 in
theorem witness_PortTraffic_8 : ∃ (s : State) (n : Nat) (d : Dev), n < 4 ∧ (s.dev.port n).pg = true ∧ (s.dev.port n).pwren = true ∧ d = s.dev.setPort n { s.dev.port n with pg := false } :=
  ⟨S { W [] with ports := [(3, { PortH.init with pwren := true, pg := true })] }, 3, _, by decide +kernel, by decide +kernel, by decide +kernel, rfl⟩

theorem witness_PortTraffic_9 : ∃ (s : State) (k : Nat) (cid : Nat) (off : Nat) (len : Nat) (c : StoCmd), k < 8 ∧ s.dev.stoCmd k cid = some c ∧ c.op = 1 ∧ c.issued = true ∧ c.dead = false ∧ off + len ≤ c.n * 4096 :=
  ⟨S { W [] with sto := { Dev.reset.sto with cmds := [⟨7, 5, 1, none, 0, 0, 0, 1, false, [], [], [], 0, false, true, 0, false⟩] } }, 7, 5, 0, 4096, ⟨7, 5, 1, none, 0, 0, 0, 1, false, [], [], [], 0, false, true, 0, false⟩, by decide +kernel, by decide +kernel, by decide +kernel, by decide +kernel, by decide +kernel, by decide +kernel⟩

theorem witness_PortTraffic_10 : ∃ (s : State) (tag : Nat) (o : Outst) (t : TKey), s.dev.outst.find? (fun o => o.tag = tag) = some o ∧ o.purpose = .prove t :=
  ⟨S { W [] with outst := [⟨7, 1, 0, 0, 4, .prove ⟨0, 0, 0, 0⟩⟩] }, 7, ⟨7, 1, 0, 0, 4, .prove ⟨0, 0, 0, 0⟩⟩, ⟨0, 0, 0, 0⟩, by decide +kernel, by decide +kernel⟩

set_option maxRecDepth 200000 in
theorem witness_KeySlots_1 : ∃ (s : State) (v : Word) (h : Nat) (owner : Nat) (kind : Nat) (key : List Byte) (w : Dev) (d : Dev), w = s.dev.writeReg Reg.TLH_SLOT_CMD (setBits (setBits v 25 2 1) 63 1 1) 8 0 ∧ w.get Fld.TLH_SLOT_CMD_OP = 1 ∧ h = w.get Fld.TLH_SLOT_CMD_HANDLE ∧ owner = w.get Fld.TLH_SLOT_CMD_OWNER ∧ kind = w.get Fld.TLH_SLOT_CMD_KIND ∧ key = (if kind = 1 then w.keyData.take 64 else w.keyData.take 32) ∧ w.on Fld.TLH_STATUS_ZERO_FAIL = false ∧ w.on Fld.TLH_CTRL_SESSION_ONLY = false ∧ h < 16384 ∧ (w.keySlot h).key = [] ∧ loadCause owner kind key = 0 ∧ d = ((w.setKeySlot h ⟨owner, kind, key, w.keyId key⟩).keysChanged).logAdd 1 0x0506 0xFF (h + owner * 2 ^ 24) (w.keyId key) :=
  ⟨S (W [(Fld.TLH_KEY_DATA_KEY 0, 1)]), packW [(0, 14, 16383), (16, 8, 128)], _, _, _, _, _, _, rfl, by decide +kernel, rfl, rfl, rfl, rfl, by decide +kernel, by decide +kernel, by decide +kernel, by decide +kernel, by decide +kernel, rfl⟩

set_option maxRecDepth 200000 in
theorem witness_KeySlots_2 : ∃ (s : State) (v : Word) (w : Dev), w = s.dev.writeReg Reg.TLH_SLOT_CMD (setBits (setBits v 25 2 1) 63 1 1) 8 0 ∧ w.get Fld.TLH_SLOT_CMD_OP = 1 ∧ w.on Fld.TLH_STATUS_ZERO_FAIL = false ∧ w.on Fld.TLH_CTRL_SESSION_ONLY = true :=
  ⟨S (W [(Fld.TLH_CTRL_SESSION_ONLY, 1)]), 5, _, rfl, by decide +kernel, by decide +kernel, by decide +kernel⟩

set_option maxRecDepth 200000 in
theorem witness_KeySlots_3 : ∃ (s : State) (v : Word) (w : Dev) (d : Dev) (h : Nat), w = s.dev.writeReg Reg.TLH_SLOT_CMD (setBits (setBits v 25 2 2) 63 1 1) 8 0 ∧ w.get Fld.TLH_SLOT_CMD_OP = 2 ∧ h = w.get Fld.TLH_SLOT_CMD_HANDLE ∧ (w.keySlot h).key ≠ [] ∧ d = (w.setKeySlot h TlhKey.init).keysChanged :=
  ⟨S { W [] with tlh := [(16383, ⟨0, 0, [1], 5⟩)] }, 16383, _, _, _, rfl, by decide +kernel, rfl, by decide +kernel, rfl⟩

set_option maxRecDepth 200000 in
theorem witness_KeySlots_4 : ∃ (s : State) (v : Word) (w : Dev) (k : TlhKey), w = s.dev.writeReg Reg.TLH_SLOT_CMD (setBits (setBits v 25 2 3) 63 1 1) 8 0 ∧ w.get Fld.TLH_SLOT_CMD_OP = 3 ∧ k = w.keySlot (w.get Fld.TLH_SLOT_CMD_HANDLE) ∧ k.key ≠ [] :=
  ⟨S { W [] with tlh := [(16383, ⟨0, 0, [1], 5⟩)] }, 16383, _, _, rfl, by decide +kernel, rfl, by decide +kernel⟩

set_option maxRecDepth 200000 in
theorem witness_KeySlots_5 : ∃ (s : State) (d : Dev), d = s.dev.writeReg Reg.TLH_CTRL 1 8 0 :=
  ⟨S (W []), _, rfl⟩

set_option maxRecDepth 200000 in
theorem witness_KeySlots_6 : ∃ (s : State) (sess : Nat) (handle : Nat) (owner : Nat) (kind : Nat) (key : List Byte) (d : Dev), s.dev.secured 0 sess = true ∧ s.dev.keyLoad false handle owner (kind % 2) key = (0, d) :=
  ⟨S { W [] with tlhs := { Dev.reset.tlhs with sess := [⟨9, 0, true, 0⟩] } }, 9, 16383, 128, 0, List.replicate 32 1, _, by decide +kernel, rfl⟩

theorem witness_KeySlots_7 : ∃ (s : State) (sess : Nat) (handle : Nat), s.dev.secured 0 sess = true ∧ handle < 16384 ∧ (s.dev.keySlot handle).key ≠ [] :=
  ⟨S { W [] with tlhs := { Dev.reset.tlhs with sess := [⟨9, 0, true, 0⟩] }, tlh := [(16383, ⟨0, 0, [1], 5⟩)] }, 9, 16383, by decide +kernel, by decide +kernel, by decide +kernel⟩

set_option maxRecDepth 200000 in
theorem witness_KeySlots_8 : ∃ (s : State) (sess : Nat) (handle : Nat) (k : TlhKey), s.dev.secured 0 sess = true ∧ handle < 16384 ∧ k = s.dev.keySlot handle ∧ k.key ≠ [] :=
  ⟨S { W [] with tlhs := { Dev.reset.tlhs with sess := [⟨9, 0, true, 0⟩] }, tlh := [(16383, ⟨0, 0, [1], 5⟩)] }, 9, 16383, _, by decide +kernel, by decide +kernel, rfl, by decide +kernel⟩

theorem witness_KeySlots_9 : ∃ (binding : Nat), binding ≠ 0 :=
  ⟨1, by decide +kernel⟩

theorem witness_SpdmMessages_2 : ∃ (s : State) (b : Nat), s.dev.conn b ≠ 0 :=
  ⟨S { W [] with tlhs := { Dev.reset.tlhs with conn := [(1, 1)] } }, 1, by decide +kernel⟩

theorem witness_SpdmMessages_3 : ∃ (s : State) (b : Nat), 2 ≤ s.dev.conn b :=
  ⟨S { W [] with tlhs := { Dev.reset.tlhs with conn := [(1, 2)] } }, 1, by decide +kernel⟩

theorem witness_SpdmMessages_4 : ∃ (s : State) (b : Nat) (sess : Nat), s.dev.conn b = 3 ∧ (sess = 0 ∨ s.dev.secured b sess = true) :=
  ⟨S { W [] with tlhs := { Dev.reset.tlhs with conn := [(1, 3)] } }, 1, 0, by decide +kernel, (Or.inl rfl)⟩

set_option maxRecDepth 200000 in
theorem witness_SpdmMessages_5 : ∃ (s : State) (b : Nat) (sess : Nat) (off : Nat) (len : Nat) (c : List Byte) (part : List Byte), s.dev.conn b = 3 ∧ (sess = 0 ∨ s.dev.secured b sess = true) ∧ c = s.dev.certChain ∧ part = (c.drop off).take len :=
  ⟨S { W [] with tlhs := { Dev.reset.tlhs with conn := [(0, 3)], sess := [⟨9, 0, true, 0⟩] } }, 0, 9, 0, 16, _, _, by decide +kernel, (Or.inr (by decide +kernel)), rfl, rfl⟩

set_option maxRecDepth 200000 in
theorem witness_SpdmMessages_6 : ∃ (s : State) (b : Nat) (r : List Byte) (body : List Byte) (d : Dev), s.dev.conn b = 3 ∧ s.dev.on Fld.TLH_STATUS_DRBG_FAIL = false ∧ d = s.dev.tick ∧ r = Config.record 3 s.dev.free ∧ body = Config.sha384 d.certChain ++ r ++ Config.sha384 ((List.range 6).flatMap (fun i => d.measureBlock (i + 1))) :=
  ⟨S { W [] with tlhs := { Dev.reset.tlhs with conn := [(1, 3)] } }, 1, _, _, _, by decide +kernel, by decide +kernel, rfl, rfl, rfl⟩

set_option maxRecDepth 200000 in
theorem witness_SpdmMessages_7 : ∃ (s : State) (b : Nat) (sess : Nat) (op : Nat) (body : List Byte), s.dev.conn b = 3 ∧ (sess = 0 ∨ s.dev.secured b sess = true) ∧ 1 ≤ op ∧ op ≤ 6 ∧ body = s.dev.measureBlock op :=
  ⟨S { W [] with tlhs := { Dev.reset.tlhs with conn := [(1, 3)] } }, 1, 0, 6, _, by decide +kernel, (Or.inl rfl), by decide +kernel, by decide +kernel, rfl⟩

set_option maxRecDepth 200000 in
theorem witness_SpdmMessages_8 : ∃ (s : State) (b : Nat) (id : Nat) (r : List Byte) (d : Dev) (d1 : Dev), s.dev.conn b = 3 ∧ s.dev.tlhs.sess.length < 4 ∧ s.dev.on Fld.TLH_STATUS_DRBG_FAIL = false ∧ d = s.dev.tick ∧ r = Config.record 3 s.dev.free ∧ id = d.tlhs.nextSess % 0xFFFF + 1 ∧ d1 = { d with tlhs := { d.tlhs with nextSess := d.tlhs.nextSess + 1 } } :=
  ⟨S { W [] with tlhs := { Dev.reset.tlhs with conn := [(1, 3)] } }, 1, _, _, _, _, by decide +kernel, by decide +kernel, by decide +kernel, rfl, rfl, rfl, rfl⟩

theorem witness_SpdmMessages_9 : ∃ (s : State) (b : Nat), s.dev.conn b = 3 ∧ 4 ≤ s.dev.tlhs.sess.length :=
  ⟨S { W [] with tlhs := { Dev.reset.tlhs with conn := [(1, 3)], sess := List.replicate 4 ⟨9, 0, true, 0⟩ } }, 1, by decide +kernel, by decide +kernel⟩

theorem witness_SpdmMessages_10 : ∃ (s : State) (b : Nat) (sess : Nat), s.dev.tlhs.sess.any (fun e => e.id = sess && e.binding = b && !e.up) = true :=
  ⟨S { W [] with tlhs := { Dev.reset.tlhs with sess := [⟨9, 1, false, 0⟩] } }, 1, 9, by decide +kernel⟩

theorem witness_SpdmMessages_11 : ∃ (s : State) (b : Nat) (sess : Nat) (op : Nat), s.dev.secured b sess = true ∧ 1 ≤ op ∧ op < 3 :=
  ⟨S { W [] with tlhs := { Dev.reset.tlhs with sess := [⟨9, 1, true, 0⟩] } }, 1, 9, 2, by decide +kernel, by decide +kernel, by decide +kernel⟩

theorem witness_IdeKeys_1 : ∃ (s : State) (sess : Nat), s.dev.secured 0 sess = true :=
  ⟨S { W [] with tlhs := { Dev.reset.tlhs with sess := [⟨9, 0, true, 0⟩] } }, 9, by decide +kernel⟩

theorem witness_IdeKeys_2 : ∃ (s : State) (sess : Nat) (i : Nat) (set : Nat) (dir : Nat) (sub : Nat) (key : List Byte), s.dev.secured 0 sess = true ∧ i < 8 ∧ set < 2 ∧ dir < 2 ∧ sub < 3 ∧ key.length = 32 :=
  ⟨S { W [] with tlhs := { Dev.reset.tlhs with sess := [⟨9, 0, true, 0⟩] } }, 9, 7, 1, 1, 2, List.replicate 32 1, by decide +kernel, by decide +kernel, by decide +kernel, by decide +kernel, by decide +kernel, by decide +kernel⟩

theorem witness_IdeKeys_3 : ∃ (s : State) (sess : Nat) (i : Nat) (set : Nat), s.dev.secured 0 sess = true ∧ i < 8 ∧ set < 2 ∧ (s.dev.ideStream i).full set = true ∧ (s.dev.ideStream i).state ≠ 2 :=
  ⟨S { W [] with tlhs := { Dev.reset.tlhs with sess := [⟨9, 0, true, 0⟩] }, host := { Dev.reset.host with ide := [(7, { IdeStream.init with keys := (List.range 6).map (fun i => (i + 6, [1])) })] } }, 9, 7, 1, by decide +kernel, by decide +kernel, by decide +kernel, by decide +kernel, by decide +kernel⟩

theorem witness_IdeKeys_4 : ∃ (s : State) (sess : Nat) (i : Nat) (set : Nat), s.dev.secured 0 sess = true ∧ i < 8 ∧ set < 2 ∧ (s.dev.ideStream i).setInUse = set ∧ (s.dev.ideStream i).state = 1 :=
  ⟨S { W [] with tlhs := { Dev.reset.tlhs with sess := [⟨9, 0, true, 0⟩] }, host := { Dev.reset.host with ide := [(7, { IdeStream.init with state := 1, setInUse := 1 })] } }, 9, 7, 1, by decide +kernel, by decide +kernel, by decide +kernel, by decide +kernel, by decide +kernel⟩

set_option maxRecDepth 200000 in
theorem witness_IdeKeys_5 : ∃ (s : State) (n : Nat) (cert : List Byte) (d : Dev), n < 4 ∧ s.dev.get (Fld.TLH_AP_IDE_STATE n) = 1 ∧ s.dev.on Fld.TLH_STATUS_DRBG_FAIL = false ∧ d = (List.range 6).foldl (fun d w => d.setReg (Reg.TLH_AP_CERT n w) (BitVec.ofNat 64 (ofLe (((Config.sha384 cert).drop (8 * w)).take 8)))) s.dev :=
  ⟨S (W [(Fld.TLH_AP_IDE_STATE 3, 1)]), 3, [], _, by decide +kernel, by decide +kernel, by decide +kernel, rfl⟩

theorem witness_IdeKeys_6 : ∃ (s : State) (n : Nat), n < 4 ∧ s.dev.get (Fld.TLH_AP_IDE_STATE n) = 1 :=
  ⟨S (W [(Fld.TLH_AP_IDE_STATE 3, 1)]), 3, by decide +kernel, by decide +kernel⟩

theorem witness_IdeKeys_7 : ∃ (s : State) (n : Nat), n < 4 ∧ s.dev.get (Fld.TLH_AP_IDE_STATE n) = 2 :=
  ⟨S (W [(Fld.TLH_AP_IDE_STATE 3, 2)]), 3, by decide +kernel, by decide +kernel⟩

set_option maxRecDepth 200000 in
theorem witness_PanTickets_1 : ∃ (s : State) (b : Nat) (r : Nat) (slot : Nat) (p : Nat) (n : Nat) (t : Ticket) (t1 : Ticket) (d : Dev), s.dev.Ready b r slot 5 1 t ∧ n = Machine.wf t.words 4 0 22 ∧ p = Machine.wf t.words 4 32 8 ∧ bodyZero t.words [(2, 2 ^ 32 - 1), (3, 2 ^ 41 - 1), (4, 2 ^ 22 - 1 + (2 ^ 40 - 2 ^ 32))] = true ∧ 64 ≤ n ∧ n ≤ 2097152 ∧ t.right 9 1 ≠ 0 ∧ (s.dev.begin t).holder p = t.key.b ∧ (s.dev.begin t).panState p = 0 ∧ (s.dev.begin t).gatherPieces (.loc t.key.b) t.begun (Machine.wf t.words 2 0 32) 6 0 ((s.dev.begin t).keyedPieces (Machine.wf t.words 2 0 32) (Machine.wf t.words 3 0 41) n) 0 = (.ok (), d, t1) ∧ t1.left = 0 ∧ t1.bad = false ∧ t1.words = t.words ∧ d.panState p = 0 ∧ imageOk (t1.bytesAt 0 n) panWindow controlSpace false = true :=
  ⟨S (inFlight { M 128 [(Fld.PAN_STATE_HOLDER 255, 128)] with mem := (M 128 []).mem ++ imageMem } (T 128 0 0 (tw 5 1 [(2, 0, 32, key), (4, 0, 22, 80), (4, 32, 8, 255)]))), 128, 0, 0, 255, 80, T 128 0 0 (tw 5 1 [(2, 0, 32, key), (4, 0, 22, 80), (4, 32, 8, 255)]), _, _, by unfold Dev.Ready; decide +kernel, by decide +kernel, by decide +kernel, by decide +kernel, by decide +kernel, by decide +kernel, by decide +kernel, by decide +kernel, by decide +kernel, rfl, by decide +kernel, by decide +kernel, by decide +kernel, by decide +kernel, by decide +kernel⟩

set_option maxRecDepth 200000 in
theorem witness_PanTickets_2 : ∃ (s : State) (p : Nat) (id : Nat) (k : TKey) (d1 : Dev), (s.dev.pan p).loading = some k ∧ s.dev.get (Fld.PWR_ISL_STATE (p / 4)) < 2 ∧ id = s.dev.get (Fld.PAN_STATE_RUN_ID p) ∧ d1 = (List.range 4).foldl (fun d i => if bitsOf (s.dev.pan p).rakers i 1 = 1 then d.setRk p i { RakerS.init with started := true, live := true, pc := (s.dev.pan p).entry, g := ([(2, i), (3, p), (4, id)].filter (fun x => x.2 ≠ 0)).map (fun x => (x.1, BitVec.ofNat 64 x.2)) } else d) (s.dev.setPan p { s.dev.pan p with loading := none }) :=
  ⟨S { W [(Fld.PWR_ISL_STATE 63, 1)] with pans := [(255, { PanS.init with loading := some ⟨0, 0, 0, 0⟩, rakers := 15 })] }, 255, _, ⟨0, 0, 0, 0⟩, _, by decide +kernel, by decide +kernel, rfl, rfl⟩

theorem witness_PanTickets_3 : ∃ (s : State) (b : Nat) (r : Nat) (slot : Nat) (p : Nat) (t : Ticket), s.dev.Ready b r slot 5 2 t ∧ p = Machine.wf t.words 2 0 8 ∧ bodyZero t.words [(2, 2 ^ 9 - 1)] = true ∧ t.right 9 1 ≠ 0 ∧ (s.dev.begin t).holder p = t.key.b ∧ (s.dev.begin t).panState p = 0 :=
  ⟨S (inFlight (W []) (T 0 0 0 (tw 5 2 [(2, 0, 8, 255)]))), 0, 0, 0, 255, T 0 0 0 (tw 5 2 [(2, 0, 8, 255)]), by unfold Dev.Ready; decide +kernel, by decide +kernel, by decide +kernel, by decide +kernel, by decide +kernel, by decide +kernel⟩

set_option maxRecDepth 200000 in
theorem witness_PanTickets_4 : ∃ (s : State) (b : Nat) (r : Nat) (slot : Nat) (p : Nat) (id : Nat) (t : Ticket) (d : Dev), s.dev.Ready b r slot 5 3 t ∧ d = s.dev.begin t ∧ p = Machine.wf t.words 2 0 8 ∧ id = Machine.wf t.words 2 32 32 ∧ bodyZero t.words [(2, 2 ^ 8 - 1 + (2 ^ 64 - 2 ^ 32))] = true ∧ d.holder p = t.key.b ∧ id ≠ 0 ∧ d.get (Fld.PAN_STATE_RUN_ID p) = id ∧ (d.panState p = 0 ∨ d.panState p = 4) :=
  ⟨S (inFlight (W [(Fld.PAN_STATE_RUN_ID 255, 7)]) (T 0 0 0 (tw 5 3 [(2, 0, 8, 255), (2, 32, 32, 7)]))), 0, 0, 0, 255, 7, T 0 0 0 (tw 5 3 [(2, 0, 8, 255), (2, 32, 32, 7)]), _, by unfold Dev.Ready; decide +kernel, rfl, by decide +kernel, by decide +kernel, by decide +kernel, by decide +kernel, by decide +kernel, by decide +kernel, (Or.inl (by decide +kernel))⟩

set_option maxRecDepth 200000 in
theorem witness_PanTickets_5 : ∃ (s : State) (b : Nat) (r : Nat) (slot : Nat) (p : Nat) (i : Nat) (t : Ticket) (d : Dev) (q : RakerS) (e : List Word), s.dev.Ready b r slot 5 0x10 t ∧ d = s.dev.begin t ∧ p = Machine.wf t.words 2 0 8 ∧ i = Machine.wf t.words 2 8 2 ∧ Machine.wf t.words 2 10 1 = 0 ∧ zeroOutside (wordAt t.words 2) [(0, 11)] = true ∧ d.holder p = t.key.b ∧ (d.panState p = 2 ∨ d.panState p = 3) ∧ q = d.rk p i ∧ q.started = true ∧ q.exited = false ∧ q.inbox.length < 16 ∧ e = [packW [(0, 32, pack [(0, 16, t.key.slot), (16, 6, t.key.r), (22, 8, t.key.gen), (31, 1, 0)]), (32, 32, Machine.wf t.words 0 32 32)], BitVec.ofNat 64 d.tide] ++ (t.words.drop 3).take 5 ++ [packW [(0, 32, t.seq)]] :=
  ⟨S { inFlight (W [(Fld.PAN_STATE_STATE 255, 2)]) (T 0 0 0 (tw 5 0x10 [(2, 0, 8, 255), (2, 8, 2, 3)])) with rakers := [(1023, { RakerS.init with started := true })] }, 0, 0, 0, 255, 3, T 0 0 0 (tw 5 0x10 [(2, 0, 8, 255), (2, 8, 2, 3)]), _, _, _, by unfold Dev.Ready; decide +kernel, rfl, by decide +kernel, by decide +kernel, by decide +kernel, by decide +kernel, by decide +kernel, (Or.inl (by decide +kernel)), rfl, by decide +kernel, by decide +kernel, by decide +kernel, rfl⟩

theorem witness_PanRun_1 : ∃ (s : State) (p : Nat) (i : Nat), (s.dev.rk p i).live = true ∧ s.dev.stopped = false :=
  ⟨S { W [] with rakers := [(1023, { RakerS.init with live := true })] }, 255, 3, by decide +kernel, by decide +kernel⟩

theorem witness_PanRun_2 : ∃ (s : State) (p : Nat) (i : Nat), (s.dev.rk p i).live = true ∧ s.dev.stopped = false :=
  ⟨S { W [] with rakers := [(1023, { RakerS.init with live := true })] }, 255, 3, by decide +kernel, by decide +kernel⟩

theorem witness_PanRun_3 : ∃ (s : State) (p : Nat) (i : Nat) (v : Word), (s.dev.rk p i).live = true ∧ s.dev.stopped = false ∧ v.getLsbD 63 = true :=
  ⟨S { W [] with rakers := [(1023, { RakerS.init with live := true })] }, 255, 3, BitVec.ofNat 64 (2 ^ 63), by decide +kernel, by decide +kernel, by decide +kernel⟩

theorem witness_PanRun_4 : ∃ (s : State) (p : Nat) (i : Nat) (t : Nat), (s.dev.rk p i).live = true ∧ s.dev.stopped = false ∧ t < 16 :=
  ⟨S { W [] with rakers := [(1023, { RakerS.init with live := true })] }, 255, 3, 15, by decide +kernel, by decide +kernel, by decide +kernel⟩

set_option maxRecDepth 200000 in
theorem witness_PanRun_5 : ∃ (s : State) (p : Nat) (i : Nat) (d : Nat → Word), (s.dev.rk p i).live = true ∧ s.dev.stopped = false ∧ d = tget (fun _ => (0 : Word)) (s.dev.rk p i).desc ∧ zeroOutside (d 0) [(0, 48)] = true ∧ zeroOutside (d 1) [(0, 48)] = true ∧ zeroOutside (d 2) [(0, 31)] = true ∧ zeroOutside (d 3) [(0, 4)] = true ∧ 1 ≤ getBits (d 2) 0 31 ∧ getBits (d 2) 0 31 ≤ 2 ^ 30 ∧ (s.dev.pan p).barrow.length < 32 :=
  ⟨S { W [] with rakers := [(0, { RakerS.init with live := true, desc := [(2, 1), (3, 15)] })] }, 0, 0, _, by decide +kernel, by decide +kernel, rfl, by decide +kernel, by decide +kernel, by decide +kernel, by decide +kernel, by decide +kernel, by decide +kernel, by decide +kernel⟩

set_option maxRecDepth 200000 in
theorem witness_PanRun_6 : ∃ (s : State) (p : Nat) (out : List Nat) (q : BarrowD) (qs : List BarrowD) (d : Dev) (d1 : Dev), (s.dev.pan p).barrow = q :: qs ∧ s.dev.stopped = false ∧ s.dev.barrowRun p (pieces2 (2 * (q.len / 4096) + 4) q.src q.dst q.len) out = (none, d) ∧ d1 = d.setPan p { d.pan p with barrow := qs } :=
  ⟨S { W [] with pans := [(255, { PanS.init with barrow := [⟨0xFFFFFFC00000, 0xFFFFFFC01000, 64, 1⟩] })] }, 255, [], ⟨0xFFFFFFC00000, 0xFFFFFFC01000, 64, 1⟩, [], _, _, by decide +kernel, by decide +kernel, rfl, rfl⟩

set_option maxRecDepth 200000 in
theorem witness_PanRun_7 : ∃ (s : State) (p : Nat) (out : List Nat) (q : BarrowD) (qs : List BarrowD) (d : Dev) (d1 : Dev) (c : Nat) (k : Nat) (va : Nat), (s.dev.pan p).barrow = q :: qs ∧ s.dev.stopped = false ∧ s.dev.barrowRun p (pieces2 (2 * (q.len / 4096) + 4) q.src q.dst q.len) out = (some (c, k, va), d) ∧ d1 = d.setPan p { d.pan p with barrow := qs } :=
  ⟨S { W [] with pans := [(255, { PanS.init with barrow := [⟨0xFFFFFFE00000, 0xFFFFFFC01000, 64, 1⟩] })] }, 255, [], ⟨0xFFFFFFE00000, 0xFFFFFFC01000, 64, 1⟩, [], _, _, _, _, _, by decide +kernel, by decide +kernel, rfl, rfl⟩

set_option maxRecDepth 200000 in
theorem witness_PanRun_8 : ∃ (s : State) (p : Nat) (i : Nat) (ws : List Word) (q : PanS) (d : Dev), (s.dev.rk p i).live = true ∧ s.dev.stopped = false ∧ ws = (List.range 8).map (fun k => tget (fun _ => (0 : Word)) (s.dev.rk p i).cmd k) ∧ cryCheck ws = true ∧ s.dev.cryHeld (p / 8) < 64 ∧ tget (fun _ => []) s.dev.cryStall (p / 8) = [] ∧ q = s.dev.pan p ∧ q.cry = [] ∧ d = { s.dev with cryStall := tput (fun _ => []) s.dev.cryStall (p / 8) [] } :=
  ⟨S { W [] with rakers := [(1023, { RakerS.init with live := true, cmd := [(0, 1), (2, 0x4000000000), (3, 0x1000000000000)] })] }, 255, 3, _, _, _, by decide +kernel, by decide +kernel, rfl, by decide +kernel, by decide +kernel, by decide +kernel, rfl, by decide +kernel, rfl⟩

set_option maxRecDepth 200000 in
theorem witness_PanRun_9 : ∃ (s : State) (p : Nat) (b : Nat), p < 256 ∧ s.dev.on (Fld.PAN_STATE_STOP_PEND p) = true ∧ b = s.dev.holder p ∧ b ≠ 0 :=
  ⟨S (W [(Fld.PAN_STATE_STOP_PEND 255, 1), (Fld.PAN_STATE_HOLDER 255, 128)]), 255, _, by decide +kernel, by decide +kernel, rfl, by decide +kernel⟩

set_option maxRecDepth 200000 in
theorem witness_PanRun_10 : ∃ (s : State) (p : Nat) (d1 : Dev) (d2 : Dev) (d3 : Dev), p < 256 ∧ s.dev.panState p = 4 ∧ (s.dev.pan p).cry = [] ∧ d1 = ((s.dev.zeroMem (panSram p) 0x200000).zeroMem (panFeed p) 0x80000).setPan p PanS.init ∧ d2 = ((List.range 4).foldl (fun d i => d.setRk p i RakerS.init) d1).put (Fld.PAN_STATE_STATE p) 0 ∧ d3 = (s.dev.pan p).stops.foldl (fun d k => (d.workOff k).finishKey k 0 0 0) d2 ∧ d3.holder p = 0 :=
  ⟨S (W [(Fld.PAN_STATE_STATE 255, 4)]), 255, _, _, _, by decide +kernel, by decide +kernel, by decide +kernel, rfl, rfl, rfl, by decide +kernel⟩

theorem witness_MacsAndPause_1 : ∃ (s : State) (m : Nat) (j : Nat), m < 2 ∧ j < 4 ∧ s.dev.on (Fld.WHF_PORT_CTRL_PORT_EN m) = true ∧ s.dev.macThere m j = true ∧ s.dev.on (Fld.WHF_MAC_CTRL_MAC_EN m j) = true :=
  ⟨S (W [(Fld.WHF_PORT_CTRL_PORT_EN 1, 1), (Fld.WHF_PORT_CTRL_MODE 1, 2), (Fld.WHF_MAC_CTRL_MAC_EN 1 3, 1)]), 1, 3, by decide +kernel, by decide +kernel, by decide +kernel, by decide +kernel, by decide +kernel⟩

set_option maxRecDepth 200000 in
theorem witness_MacsAndPause_2 : ∃ (s : State) (m : Nat) (j : Nat) (d : Dev), m < 2 ∧ j < 4 ∧ s.dev.macUp m j = true ∧ d = ((s.dev.put (Fld.WHF_MAC_STATUS_LINK_UP m j) 0).sat (Fld.WHF_MAC_STATUS_LINK_DOWNS m j)).put (Fld.WHF_MAC_STATUS_PAUSED m j) 0 :=
  ⟨S (W [(Fld.WHF_MAC_STATUS_LINK_UP 1 3, 1)]), 1, 3, _, by decide +kernel, by decide +kernel, by decide +kernel, rfl⟩

set_option maxRecDepth 200000 in
theorem witness_MacsAndPause_3 : ∃ (s : State) (m : Nat) (j : Nat) (len : Nat) (f : TxFrame) (k : TKey) (d : Dev) (d1 : Dev), m < 2 ∧ j < 4 ∧ s.dev.macUp m j = true ∧ s.dev.nextTx m j = some f ∧ f.source = .ticket k len ∧ k.b ≠ 0 ∧ d = { s.dev with txq := s.dev.txq.erase f }.setWhf m { s.dev.whf m with lastSource := tput (fun _ => 0) (s.dev.whf m).lastSource (8 * j + f.prio) 3 } ∧ d1 = ((d.emit .frame [4 * m + j] f.data).sat (Fld.WHF_MAC_FRAMES_TX_FRAMES m j)).wrap (Fld.CNT_NET_TX_BYTES k.b) f.data.length :=
  ⟨S { W [(Fld.WHF_MAC_STATUS_LINK_UP 1 3, 1)] with txq := [⟨1, 3, 7, .ticket ⟨128, 0, 0, 0⟩ 60, [1]⟩] }, 1, 3, 60, ⟨1, 3, 7, .ticket ⟨128, 0, 0, 0⟩ 60, [1]⟩, ⟨128, 0, 0, 0⟩, _, _, by decide +kernel, by decide +kernel, by decide +kernel, by decide +kernel, rfl, by decide +kernel, rfl, rfl⟩

theorem witness_MacsAndPause_4 : ∃ (s : State) (m : Nat) (p : Nat), m < 2 ∧ p < 8 ∧ s.dev.get (Fld.WHF_RXPOOL_XOFF_KIB m) * 1024 < s.dev.poolHeld m p :=
  ⟨S { W [(Fld.WHF_RXPOOL_XOFF_KIB 1, 0)] with frames := [⟨5, 1, 3, 7, [1], 0, 0, [], 0, 0, []⟩] }, 1, 7, by decide +kernel, by decide +kernel, by decide +kernel⟩

set_option maxRecDepth 200000 in
theorem witness_MacsAndPause_5 : ∃ (s : State) (m : Nat) (j : Nat) (p : Nat) (w : WharfS), m < 2 ∧ j < 4 ∧ p < 8 ∧ s.dev.macUp m j = true ∧ s.dev.on (macBit (Fld.WHF_MAC_CTRL_PFC_EN m j) p) = true ∧ s.dev.on (macBit (Fld.WHF_MAC_STATUS_STORM m j) p) = false ∧ tget (fun _ => 0) (s.dev.whf m).pausedAt (8 * j + p) = 0 ∧ w = { s.dev.whf m with lastPause := tput (fun _ => 0) (s.dev.whf m).lastPause (8 * j + p) (s.dev.tide + 1), pausedAt := tput (fun _ => 0) (s.dev.whf m).pausedAt (8 * j + p) (s.dev.tide + 1) } :=
  ⟨S (W [(Fld.WHF_MAC_STATUS_LINK_UP 1 3, 1), (Fld.WHF_MAC_CTRL_PFC_EN 1 3, 0x80)]), 1, 3, 7, _, by decide +kernel, by decide +kernel, by decide +kernel, by decide +kernel, by decide +kernel, by decide +kernel, by decide +kernel, rfl⟩

theorem witness_MacsAndPause_6 : ∃ (m : Nat) (j : Nat) (p : Nat), m < 2 ∧ j < 4 ∧ p < 8 :=
  ⟨1, 3, 7, by decide +kernel, by decide +kernel, by decide +kernel⟩

set_option maxRecDepth 200000 in
theorem witness_MacsAndPause_7 : ∃ (s : State) (m : Nat) (j : Nat) (p : Nat) (t : Nat) (d : Dev), m < 2 ∧ j < 4 ∧ p < 8 ∧ t = tget (fun _ => 0) (s.dev.whf m).pausedAt (8 * j + p) ∧ t ≠ 0 ∧ s.dev.on (macBit (Fld.WHF_MAC_STATUS_PAUSED m j) p) = true ∧ d = (s.dev.at (t - 1 + s.dev.get (Fld.WHF_MAC_CTRL_PFC_WD_MS m j) * 1000000)).pauseEnds m j p :=
  ⟨S { W [(Fld.WHF_MAC_STATUS_PAUSED 1 3, 0x80)] with wharf := [(1, { WharfS.init with pausedAt := [(31, 1)] })] }, 1, 3, 7, _, _, by decide +kernel, by decide +kernel, by decide +kernel, rfl, by decide +kernel, by decide +kernel, rfl⟩

set_option maxRecDepth 200000 in
theorem witness_MacsAndPause_8 : ∃ (s : State) (m : Nat) (j : Nat) (p : Nat) (t : Nat), m < 2 ∧ j < 4 ∧ p < 8 ∧ t = tget (fun _ => 0) (s.dev.whf m).lastPause (8 * j + p) ∧ s.dev.on (macBit (Fld.WHF_MAC_STATUS_STORM m j) p) = true :=
  ⟨S { W [(Fld.WHF_MAC_STATUS_STORM 1 3, 0x80)] with wharf := [(1, { WharfS.init with lastPause := [(31, 1)] })] }, 1, 3, 7, _, by decide +kernel, by decide +kernel, by decide +kernel, rfl, by decide +kernel⟩

set_option maxRecDepth 200000 in
theorem witness_MacsAndPause_9 : ∃ (s : State) (m : Nat) (v : Word) (d : Dev) (d1 : Dev), m < 2 ∧ d = s.dev.writeReg (Reg.WHF_PORT_CTRL m) v 8 0 ∧ s.dev.on (Fld.WHF_PORT_CTRL_PORT_EN m) = true ∧ d.get (Fld.WHF_PORT_CTRL_MODE m) ≠ s.dev.get (Fld.WHF_PORT_CTRL_MODE m) ∧ d1 = (d.put (Fld.WHF_PORT_CTRL_MODE m) (s.dev.get (Fld.WHF_PORT_CTRL_MODE m))).put (Fld.WHF_PORT_CTRL_MODE_REFUSED m) 1 ∧ d1.on (Fld.WHF_PORT_CTRL_PORT_EN m) = true :=
  ⟨S (W [(Fld.WHF_PORT_CTRL_PORT_EN 1, 1), (Fld.WHF_PORT_CTRL_MODE 1, 2)]), 1, 1, _, _, by decide +kernel, rfl, by decide +kernel, by decide +kernel, rfl, by decide +kernel⟩

set_option maxRecDepth 200000 in
theorem witness_FramesThroughTheWharf_1 : ∃ (s : State) (m : Nat) (j : Nat) (p : Nat) (data : List Byte) (a : Word) (f : FrameS) (d : Dev), m < 2 ∧ j < 4 ∧ s.dev.macUp m j = true ∧ 60 ≤ data.length ∧ data.length + 4 ≤ s.dev.get (Fld.WHF_MAC_CTRL_MAX_FRAME m j) ∧ d = s.dev.sat (Fld.WHF_MAC_FRAMES_RX_FRAMES m j) ∧ p = d.framePrio m j data ∧ d.poolHeld m p + data.length ≤ 2097152 ∧ d.poolHeld m p ≤ d.get (Fld.WHF_RXPOOL_ECN_KIB m) * 1024 ∧ d.lookup m (frameKey data (4 * m + j)) = (a, false) ∧ f = ⟨d.nextFrame, m, j, p, data, d.tide, d.get (Fld.MNF_CTRL_EPOCH m), frameKey data (4 * m + j), a, 0, []⟩ :=
  ⟨S { W [(Fld.WHF_MAC_STATUS_LINK_UP 1 3, 1), (Fld.WHF_MAC_CTRL_MAX_FRAME 1 3, 64), (Fld.WHF_RXPOOL_ECN_KIB 1, 0)] with wharf := [(1, { WharfS.init with exact := [(frameKey (List.replicate 60 0) 7, 1)] })] }, 1, 3, _, List.replicate 60 0, 1, _, _, by decide +kernel, by decide +kernel, by decide +kernel, by decide +kernel, by decide +kernel, rfl, rfl, by decide +kernel, by decide +kernel, by decide +kernel, rfl⟩

theorem witness_FramesThroughTheWharf_2 : ∃ (s : State) (m : Nat) (j : Nat) (data : List Byte), m < 2 ∧ j < 4 ∧ s.dev.macUp m j = true ∧ data.length < 60 :=
  ⟨S (W [(Fld.WHF_MAC_STATUS_LINK_UP 1 3, 1)]), 1, 3, List.replicate 59 0, by decide +kernel, by decide +kernel, by decide +kernel, by decide +kernel⟩

theorem witness_FramesThroughTheWharf_3 : ∃ (s : State) (n : Nat) (f : FrameS), s.dev.frames.find? (fun f => f.id = n) = some f :=
  ⟨S { W [] with frames := [⟨5, 1, 3, 7, [1], 0, 0, [], 0, 0, []⟩] }, 5, ⟨5, 1, 3, 7, [1], 0, 0, [], 0, 0, []⟩, by decide +kernel⟩

theorem witness_FramesThroughTheWharf_4_1 : ∃ (s : State) (n : Nat) (b : Nat) (f : FrameS) (t : Ticket), s.dev.frameAt n 0 = some f ∧ b = getBits f.action 8 8 ∧ b ≠ 0 ∧ s.dev.ringStale f = false ∧ (s.dev.wrap (Fld.CNT_NET_RX_BYTES b) f.data.length).waitingRx b (getBits f.action 16 6) = some t :=
  ⟨S { W [(Fld.BPLAN_CTRL_STATE 128, 1), (Fld.CPLAN_RIGHTS_NET 128, 1)] with frames := [⟨5, 1, 3, 7, [1], 0, 0, [], packW [(8, 8, 128), (16, 6, 63)], 0, []⟩], ringsOn := [8255], tickets := [{ T 128 63 0 (tw 2 0x11 []) with started := true }] }, 5, 128, ⟨5, 1, 3, 7, [1], 0, 0, [], packW [(8, 8, 128), (16, 6, 63)], 0, []⟩, { T 128 63 0 (tw 2 0x11 []) with started := true }, by decide +kernel, by decide +kernel, by decide +kernel, by decide +kernel, by decide +kernel⟩

theorem witness_FramesThroughTheWharf_4_2 : ∃ (s : State) (n : Nat) (b : Nat) (f : FrameS), s.dev.frameAt n 0 = some f ∧ b = getBits f.action 8 8 ∧ b ≠ 0 ∧ s.dev.ringStale f = false ∧ (s.dev.wrap (Fld.CNT_NET_RX_BYTES b) f.data.length).waitingRx b (getBits f.action 16 6) = none :=
  ⟨S { W [(Fld.BPLAN_CTRL_STATE 1, 1), (Fld.CPLAN_RIGHTS_NET 1, 1)] with frames := [⟨5, 0, 0, 7, [1], 0, 0, [], packW [(8, 8, 1)], 0, []⟩], ringsOn := [64] }, 5, 1, ⟨5, 0, 0, 7, [1], 0, 0, [], packW [(8, 8, 1)], 0, []⟩, by decide +kernel, by decide +kernel, by decide +kernel, by decide +kernel, by decide +kernel⟩

theorem witness_FramesThroughTheWharf_5 : ∃ (s : State) (m : Nat) (slot : Nat) (f : FrameS) (img : DhImage) (img1 : DhImage) (a : Word), m < 2 ∧ s.dev.deckHead m = some (f, slot, img) ∧ deckRun s.dev f (deckFuel img.budget) ⟨img, [], { RakerS.init with pc := img.entry }⟩ = (.verdict a, img1) ∧ getBits a 0 4 < 4 :=
  ⟨S { W [] with frames := [⟨5, 1, 3, 7, [1], 0, 0, [], packW [(22, 4, 15)], 1, []⟩], wharf := [(1, { WharfS.init with slots := [(15, some yieldImage)] })] }, 1, 15, ⟨5, 1, 3, 7, [1], 0, 0, [], packW [(22, 4, 15)], 1, []⟩, yieldImage, yieldImage, 0, by decide +kernel, by decide +kernel, by decide +kernel, by decide +kernel⟩

theorem witness_FramesThroughTheWharf_6 : ∃ (s : State) (m : Nat) (slot : Nat) (f : FrameS) (img : DhImage), m < 2 ∧ s.dev.deckHead m = some (f, slot, img) :=
  ⟨S { W [] with frames := [⟨5, 0, 3, 7, [1], 0, 0, [], 0, 1, []⟩], wharf := [(0, { WharfS.init with slots := [(0, some yieldImage)] })] }, 0, 0, ⟨5, 0, 3, 7, [1], 0, 0, [], 0, 1, []⟩, yieldImage, by decide +kernel, by decide +kernel⟩

set_option maxRecDepth 200000 in
theorem witness_FramesThroughTheWharf_7 : ∃ (s : State) (b : Nat) (r : Nat) (slot : Nat) (n : Nat) (m : Nat) (j : Nat) (key : Nat) (t : Ticket) (t1 : Ticket) (d : Dev), s.dev.Ready b r slot 2 0x10 t ∧ bodyZero t.words [(2, 2 ^ 32 - 1), (3, 2 ^ 41 - 1), (4, 2 ^ 17 - 1)] = true ∧ t.right 6 1 ≠ 0 ∧ n = Machine.wf t.words 4 0 14 ∧ j = Machine.wf t.words 4 14 2 ∧ m = Machine.wf t.words 4 16 1 ∧ key = Machine.wf t.words 2 0 32 ∧ 60 ≤ n ∧ n ≤ (s.dev.begin t).get (Fld.WHF_MAC_CTRL_MAX_FRAME m j) - 4 ∧ (s.dev.begin t).macThere m j = true ∧ (s.dev.begin t).gatherPieces (.loc t.key.b) t.begun key 5 m ((s.dev.begin t).keyedPieces key (Machine.wf t.words 3 0 41) n) 0 = (.ok (), d, t1) ∧ t1.left = 0 ∧ t1.bad = false ∧ t1.words = t.words ∧ t1.key = t.key ∧ t.key.b = 0 :=
  ⟨S (inFlight (M 0 [(Fld.WHF_PORT_CTRL_MODE 1, 2), (Fld.WHF_MAC_CTRL_MAX_FRAME 1 3, 64)]) (T 0 0 0 (tw 2 0x10 [(2, 0, 32, key), (4, 0, 14, 60), (4, 14, 2, 3), (4, 16, 1, 1)]))), 0, 0, 0, 60, 1, 3, key, T 0 0 0 (tw 2 0x10 [(2, 0, 32, key), (4, 0, 14, 60), (4, 14, 2, 3), (4, 16, 1, 1)]), _, _, by unfold Dev.Ready; decide +kernel, by decide +kernel, by decide +kernel, by decide +kernel, by decide +kernel, by decide +kernel, by decide +kernel, by decide +kernel, by decide +kernel, by decide +kernel, rfl, by decide +kernel, by decide +kernel, by decide +kernel, by decide +kernel, by decide +kernel⟩

theorem witness_FramesThroughTheWharf_8 : ∃ (s : State) (b : Nat) (r : Nat) (slot : Nat) (t : Ticket), s.dev.Ready b r slot 2 0x11 t ∧ bodyZero t.words [(2, 2 ^ 32 - 1), (3, 2 ^ 41 - 1), (4, 2 ^ 14 - 1)] = true ∧ t.right 6 1 ≠ 0 ∧ 64 ≤ Machine.wf t.words 4 0 14 ∧ Machine.wf t.words 4 0 14 ≤ 9216 :=
  ⟨S (inFlight (W []) (T 128 0 0 (tw 2 0x11 [(4, 0, 14, 9216)]))), 128, 0, 0, T 128 0 0 (tw 2 0x11 [(4, 0, 14, 9216)]), by unfold Dev.Ready; decide +kernel, by decide +kernel, by decide +kernel, by decide +kernel, by decide +kernel⟩

set_option maxRecDepth 200000 in
theorem witness_ManifestEdits_1 : ∃ (s : State) (m : Nat) (table : Nat) (index : Nat) (op : Nat) (e : MnfEdit) (d : Dev) (w : WharfS), m < 2 ∧ index < 4096 ∧ op < 2 ∧ table < 2 ∧ s.dev.makeEdit m table op index [] = (.ok e, d) ∧ (d.whf m).judge e = 0 ∧ w = { d.whf m with pend := (d.whf m).pend.filter (fun o => !e.same o) ++ [e] } :=
  ⟨S (W []), 1, 1, 4095, 0, _, _, _, by decide +kernel, by decide +kernel, by decide +kernel, by decide +kernel, rfl, by decide +kernel, rfl⟩

set_option maxRecDepth 200000 in
theorem witness_ManifestEdits_2 : ∃ (s : State) (m : Nat) (index : Nat) (out : List Nat) (e : MnfEdit) (d : Dev) (w : WharfS), m < 2 ∧ index < 4096 ∧ s.dev.makeEdit m 2 0 index out = (.ok e, d) ∧ (d.whf m).judge e = 0 ∧ w = { d.whf m with pend := (d.whf m).pend.filter (fun o => !e.same o) ++ [e] } :=
  ⟨S { M 0 [(Fld.MNF_EDIT_DATA_DATA 1 0, key), (Fld.MNF_EDIT_DATA_DATA 1 2, 80), (Fld.MNF_EDIT_DATA_DATA 1 3, 400)] with mem := (M 0 []).mem ++ imageMem }, 1, 15, [], _, _, _, by decide +kernel, by decide +kernel, rfl, by decide +kernel, rfl⟩

set_option maxRecDepth 200000 in
theorem witness_ManifestEdits_3 : ∃ (s : State) (m : Nat) (d : Dev) (d1 : Dev) (w : WharfS) (w2 : WharfS), m < 2 ∧ s.dev.on (Fld.MNF_CTRL_DRAINING m) = false ∧ d = s.dev.writeReg (Reg.MNF_CTRL m) (packW [(16, 1, 1), (17, 1, 0)]) 8 0 ∧ d.frames.filter (fun f => f.m = m && f.epoch = d.get (Fld.MNF_CTRL_EPOCH m)) = [] ∧ w = (d.whf m).pend.foldl WharfS.apply { d.whf m with oldSlots := (d.whf m).slots } ∧ w2 = { w with pend := [], oldSlots := [] } ∧ d1 = (((((((d.setWhf m w2).setReg (Reg.MNF_MISS_CUR m) (d.reg (Reg.MNF_MISS m))).wrap (Fld.MNF_CTRL_EPOCH m)).put (Fld.MNF_CTRL_OLD_INFLIGHT m) 0).put (Fld.MNF_CTRL_DRAINING m) 0).put (Fld.MNF_EDIT_STATUS_PENDING m) 0).put (Fld.MNF_USED_EXACT m) w2.exact.length).put (Fld.MNF_USED_TERNARY m) w2.ternary.length :=
  ⟨S (W []), 1, _, _, _, _, by decide +kernel, by decide +kernel, rfl, by decide +kernel, rfl, rfl, rfl⟩

theorem witness_ManifestEdits_4 : ∃ (m : Nat), m < 2 :=
  ⟨1, by decide +kernel⟩

set_option maxRecDepth 200000 in
theorem witness_ManifestEdits_5 : ∃ (s : State) (m : Nat) (d : Dev), m < 2 ∧ d = s.dev.writeReg (Reg.MNF_CTRL m) (packW [(17, 1, 1)]) 8 0 :=
  ⟨S (W []), 1, _, by decide +kernel, rfl⟩

theorem witness_ManifestEdits_6_1 : ∃ (s : State) (m : Nat) (w : Nat), m < 2 ∧ w < 7 ∧ s.dev.on (Fld.MNF_USED_EXACT m) = false ∧ (s.dev.whf m).pend.any (fun e => e.table = 0) = false :=
  ⟨S (W []), 1, 6, by decide +kernel, by decide +kernel, by decide +kernel, by decide +kernel⟩

theorem witness_ManifestEdits_6_2 : ∃ (s : State) (m : Nat) (w : Nat), m < 2 ∧ w < 7 ∧ s.dev.on (Fld.MNF_USED_EXACT m) = true :=
  ⟨S (W [(Fld.MNF_USED_EXACT 1, 1)]), 1, 6, by decide +kernel, by decide +kernel, by decide +kernel⟩

/-- An Ethernet frame that carries a packet of an XCT TYPE without payload to crossing 65,535 (Tables 11.5, 11.6): IPv4 from 10.0.0.1, UDP port
4,791, an extension of eight bytes whose first is 1. -/
def xctBytes (ty : Nat) : List Byte :=
  [0, 0, 0, 0, 0, 0, 0, 0, 0, 0, 0, 0, 0x08, 0x00]
    ++ [0x45, 0, 0, 0x3C, 0, 0, 0, 0, 0x40, 0x11, 0x66, 0xAF, 10, 0, 0, 1, 10, 0, 0, 2]
    ++ [0xC0, 0, 0x12, 0xB7, 0, 0x28, 0, 0]
    ++ ([BitVec.ofNat 8 (16 + ty), 0, 0, 0, 0, 0, 0, 0, 0xFF, 0xFF, 0, 0, 0, 0, 0, 1] ++ List.replicate 8 0 ++ [1] ++ List.replicate 7 0)

/-- A device in which such a frame has reached the XCT engine, and crossing 65,535 is READY, of berth 128. -/
def xctDev (ty : Nat) : Dev :=
  { W [(Fld.XCT_CTRL_ENABLE, 1), (Fld.XCT_CTRL_UDP_PORT, 4791), (Fld.XCT_XING_STATE 65535, 2), (Fld.XCT_XING_OWNER 65535, 128), (Fld.IDENT_NODE_NODE_ID, 0)] with
    frames := [⟨5, 0, 0, 0, xctBytes ty, 0, 0, [], 0, 2, []⟩], xing := [(65535, { Xing.init with record := [0, 0, 0xFFFF0A000001, 0, 0, 0, 0, 0] })] }


set_option maxRecDepth 200000 in
theorem witness_CrossingLifecycle_1 : ∃ (s : State) (b : Nat) (r : Nat) (slot : Nat) (x : Nat) (t : Ticket) (d : Dev) (d1 : Dev), s.dev.Ready b r slot 3 1 t ∧ d = s.dev.begin t ∧ bodyZero t.words [] = true ∧ d.on Fld.IDENT_NODE_NODE_VALID = true ∧ d.on Fld.XCT_CTRL_ENABLE = true ∧ t.right 7 1 ≠ 0 ∧ (t.key.b = 0 ∨ d.get (Fld.USAGE_CROSSINGS_USED t.key.b) + 1 ≤ getBits (t.planWord 0x10) 32 17) ∧ d.get Fld.XCT_USED_ALLOCATED < 65536 ∧ d.xctPick 65536 d.xctLast = some x ∧ d1 = ({ d with xctLast := x + 1 }.setReg (Reg.XCT_XING x) (packW [(0, 3, 1), (8, 8, t.key.b)])).setReg (Reg.XCT_XING_CC x) 0 :=
  ⟨S (inFlight (W [(Fld.IDENT_NODE_NODE_VALID, 1), (Fld.XCT_CTRL_ENABLE, 1)]) (T 128 0 0 (tw 3 1 []))), 128, 0, 0, 0, T 128 0 0 (tw 3 1 []), _, _, by unfold Dev.Ready; decide +kernel, rfl, by decide +kernel, by decide +kernel, by decide +kernel, by decide +kernel, by decide +kernel, by decide +kernel, by decide +kernel, rfl⟩

set_option maxRecDepth 200000 in
theorem witness_CrossingLifecycle_2 : ∃ (s : State) (b : Nat) (r : Nat) (slot : Nat) (x : Nat) (key : Nat) (ip : Nat) (r0 : Nat) (t : Ticket) (t1 : Ticket) (d : Dev) (d1 : Dev) (d2 : Dev) (ws : List Word) (mac : Word) (g : Xing), s.dev.Ready b r slot 3 2 t ∧ x = Machine.wf t.words 2 0 16 ∧ key = Machine.wf t.words 3 0 32 ∧ bodyZero t.words [(2, 2 ^ 16 - 1), (3, 2 ^ 32 - 1), (4, 2 ^ 41 - 1)] = true ∧ (s.dev.begin t).xst x = 1 ∧ (s.dev.begin t).xowner x = t.key.b ∧ t.right 7 1 ≠ 0 ∧ (s.dev.begin t).gatherPieces (.loc t.key.b) t.begun key 5 0 ((s.dev.begin t).keyedPieces key (Machine.wf t.words 4 0 41) 64) 0 = (.ok (), d, t1) ∧ t1.left = 0 ∧ t1.bad = false ∧ t1.words = t.words ∧ t1.key = t.key ∧ t1.plan = t.plan ∧ d.xst x = 1 ∧ d.xowner x = t.key.b ∧ ws = toWords 8 (t1.bytesAt 0 64) ∧ d.recordBad x ws = false ∧ d.srcMacAt t.key.b (Machine.wf ws 0 32 3) = some mac ∧ d.srcIpAt t.key.b (Machine.wf ws 0 35 3) = some ip ∧ (Machine.wf ws 0 29 1 ≠ 0 ∨ isMapped ip = true) ∧ g = { Xing.init with record := ws, srcMac := mac, srcIp := ip, slot0 := (d.xg x).slot0, slot1 := (d.xg x).slot1, pktMax := if d.get (Fld.WHF_MAC_CTRL_MAX_FRAME (Machine.wf ws 0 38 1) (Machine.wf ws 0 39 2)) = 9216 then 8192 else 4096, nextPsn := Machine.wf ws 5 0 32, lastAck := Machine.wf ws 5 0 32, exp := Machine.wf ws 5 32 32, lastFlush := subMod (Machine.wf ws 5 32 32) 1 32, depart := d.tide * 1000, incAt := d.tide } ∧ d1 = (((d.setXg x g).put (Fld.XCT_XING_SEALED x) (Machine.wf ws 0 28 1)).put (Fld.XCT_XING_REMOTE_NODE x) (Machine.wf ws 0 0 12)).put (Fld.XCT_XING_REMOTE_XING x) (Machine.wf ws 0 12 16) ∧ r0 = (if Machine.wf ws 6 16 16 = 0 then d1.get Fld.XCT_CC_R_INIT else Machine.wf ws 6 16 16) ∧ d2 = (d1.setRate x r0).xingState x 2 0 0 :=
  ⟨S (inFlight { M 0 [(Fld.IDENT_NODE_NODE_ID, 1), (Fld.XCT_XING_STATE 65535, 1), (Fld.WHF_MAC_CTRL_MAX_FRAME 0 0, 9216), (Fld.BERTH0_SRC_VALID_MAC_VALID, 1), (Fld.BERTH0_SRC_VALID_IP_VALID, 1), (Fld.BERTH0_SRC_IP_ADDR 0 0, 0xFFFF0A000002)] with mem := (M 0 []).mem ++ [(0x40000010, 1), (0x40000013, 10), (0x40000014, 0xFF), (0x40000015, 0xFF)] } (T 0 0 0 (tw 3 2 [(2, 0, 16, 65535), (3, 0, 32, key)]))), 0, 0, 0, 65535, key, 0xFFFF0A000002, _, T 0 0 0 (tw 3 2 [(2, 0, 16, 65535), (3, 0, 32, key)]), _, _, _, _, _, _, _, by unfold Dev.Ready; decide +kernel, by decide +kernel, by decide +kernel, by decide +kernel, by decide +kernel, by decide +kernel, by decide +kernel, rfl, by decide +kernel, by decide +kernel, by decide +kernel, by decide +kernel, by decide +kernel, by decide +kernel, by decide +kernel, rfl, by decide +kernel, rfl, by decide +kernel, by decide +kernel, rfl, rfl, rfl, rfl⟩

set_option maxRecDepth 200000 in
theorem witness_CrossingLifecycle_3 : ∃ (s : State) (b : Nat) (r : Nat) (slot : Nat) (x : Nat) (t : Ticket) (d : Dev) (k : List Byte), s.dev.Ready b r slot 3 3 t ∧ d = s.dev.begin t ∧ x = Machine.wf t.words 2 0 16 ∧ bodyZero t.words [(2, 2 ^ 24 - 1), (3, 2 ^ 24 - 1), (4, 2 ^ 64 - 1)] = true ∧ (d.xst x = 1 ∨ d.xst x = 2) ∧ d.xowner x = t.key.b ∧ t.right 7 1 ≠ 0 ∧ (d.xg x).slot0 = none ∧ (d.xg x).slot1 = none ∧ d.crossingKey t.key.b (Machine.wf t.words 3 0 24) = some k ∧ Machine.wf t.words 4 0 32 ≠ Machine.wf t.words 4 32 32 :=
  ⟨S (inFlight { W [(Fld.XCT_XING_STATE 65535, 2), (Fld.XCT_XING_OWNER 65535, 128)] with tlh := [(5, ⟨128, 0, [1], 9⟩)] } (T 128 0 0 (tw 3 3 [(2, 0, 16, 65535), (2, 16, 8, 255), (3, 0, 24, 5), (4, 0, 32, 1), (4, 32, 32, 2)]))), 128, 0, 0, _, T 128 0 0 (tw 3 3 [(2, 0, 16, 65535), (2, 16, 8, 255), (3, 0, 24, 5), (4, 0, 32, 1), (4, 32, 32, 2)]), _, [1], by unfold Dev.Ready; decide +kernel, rfl, rfl, by decide +kernel, by decide +kernel, by decide +kernel, by decide +kernel, by decide +kernel, by decide +kernel, by decide +kernel, by decide +kernel⟩

set_option maxRecDepth 200000 in
theorem witness_CrossingLifecycle_4 : ∃ (s : State) (b : Nat) (r : Nat) (slot : Nat) (x : Nat) (i : Nat) (t : Ticket) (d : Dev) (k : XKey), s.dev.Ready b r slot 3 4 t ∧ d = s.dev.begin t ∧ x = Machine.wf t.words 2 0 16 ∧ bodyZero t.words [(2, 2 ^ 16 - 1)] = true ∧ (d.xst x = 2 ∨ d.xst x = 3) ∧ d.xowner x = t.key.b ∧ t.right 7 1 ≠ 0 ∧ i = 1 - d.get (Fld.XCT_XING_TX_SLOT x) ∧ (d.xg x).slot i = some k :=
  ⟨S (inFlight { W [(Fld.XCT_XING_STATE 65535, 3), (Fld.XCT_XING_OWNER 65535, 128)] with xing := [(65535, { Xing.init with slot1 := some ⟨[1], 7, 0, 0, 0, 0⟩ })] } (T 128 0 0 (tw 3 4 [(2, 0, 16, 65535)]))), 128, 0, 0, _, 1, T 128 0 0 (tw 3 4 [(2, 0, 16, 65535)]), _, ⟨[1], 7, 0, 0, 0, 0⟩, by unfold Dev.Ready; decide +kernel, rfl, rfl, by decide +kernel, by decide +kernel, by decide +kernel, by decide +kernel, by decide +kernel, by decide +kernel⟩

set_option maxRecDepth 200000 in
theorem witness_CrossingLifecycle_5 : ∃ (s : State) (b : Nat) (r : Nat) (slot : Nat) (x : Nat) (i : Nat) (t : Ticket) (d : Dev) (k : XKey), s.dev.Ready b r slot 3 5 t ∧ d = s.dev.begin t ∧ x = Machine.wf t.words 2 0 16 ∧ bodyZero t.words [(2, 2 ^ 24 - 1)] = true ∧ (d.xst x = 2 ∨ d.xst x = 3) ∧ d.xowner x = t.key.b ∧ t.right 7 1 ≠ 0 ∧ i = 1 - d.get (Fld.XCT_XING_TX_SLOT x) ∧ (d.xg x).slot i = some k ∧ k.epoch = Machine.wf t.words 2 16 8 :=
  ⟨S (inFlight { W [(Fld.XCT_XING_STATE 65535, 2), (Fld.XCT_XING_OWNER 65535, 128)] with xing := [(65535, { Xing.init with slot1 := some ⟨[1], 7, 0, 0, 0, 0⟩ })] } (T 128 0 0 (tw 3 5 [(2, 0, 16, 65535), (2, 16, 8, 7)]))), 128, 0, 0, _, 1, T 128 0 0 (tw 3 5 [(2, 0, 16, 65535), (2, 16, 8, 7)]), _, ⟨[1], 7, 0, 0, 0, 0⟩, by unfold Dev.Ready; decide +kernel, rfl, rfl, by decide +kernel, by decide +kernel, by decide +kernel, by decide +kernel, by decide +kernel, by decide +kernel, by decide +kernel⟩

theorem witness_CrossingLifecycle_6 : ∃ (s : State) (x : Nat) (k : TKey), x < 65536 ∧ (s.dev.xg x).retireTk = some k ∧ s.dev.xctStill x = true :=
  ⟨S { W [] with xing := [(65535, { Xing.init with retireTk := some ⟨0, 0, 0, 0⟩ })] }, 65535, ⟨0, 0, 0, 0⟩, by decide +kernel, by decide +kernel, by decide +kernel⟩

set_option maxRecDepth 200000 in
theorem witness_CrossingLifecycle_7_1 : ∃ (s : State) (b : Nat) (r : Nat) (slot : Nat) (x : Nat) (t : Ticket) (d : Dev) (d1 : Dev), s.dev.Ready b r slot 3 6 t ∧ d = s.dev.begin t ∧ x = Machine.wf t.words 2 0 16 ∧ bodyZero t.words [(2, 2 ^ 17 - 1)] = true ∧ d.xst x = 2 ∧ d.xowner x = t.key.b ∧ t.right 7 1 ≠ 0 ∧ d1 = (d.setXg x { d.xg x with closeTk := some t.key }).xingState x 3 0 0 ∧ Machine.wf t.words 2 16 1 = 0 :=
  ⟨S (inFlight (W [(Fld.XCT_XING_STATE 65535, 2), (Fld.XCT_XING_OWNER 65535, 128)]) (T 128 0 0 (tw 3 6 [(2, 0, 16, 65535)]))), 128, 0, 0, _, T 128 0 0 (tw 3 6 [(2, 0, 16, 65535)]), _, _, by unfold Dev.Ready; decide +kernel, rfl, rfl, by decide +kernel, by decide +kernel, by decide +kernel, by decide +kernel, rfl, by decide +kernel⟩

set_option maxRecDepth 200000 in
theorem witness_CrossingLifecycle_7_2 : ∃ (s : State) (b : Nat) (r : Nat) (slot : Nat) (x : Nat) (t : Ticket) (d : Dev) (d1 : Dev), s.dev.Ready b r slot 3 6 t ∧ d = s.dev.begin t ∧ x = Machine.wf t.words 2 0 16 ∧ bodyZero t.words [(2, 2 ^ 17 - 1)] = true ∧ d.xst x = 2 ∧ d.xowner x = t.key.b ∧ t.right 7 1 ≠ 0 ∧ d1 = (d.setXg x { d.xg x with closeTk := some t.key }).xingState x 3 0 0 ∧ Machine.wf t.words 2 16 1 = 1 :=
  ⟨S (inFlight (W [(Fld.XCT_XING_STATE 65535, 2), (Fld.XCT_XING_OWNER 65535, 128)]) (T 128 0 0 (tw 3 6 [(2, 0, 16, 65535), (2, 16, 1, 1)]))), 128, 0, 0, _, T 128 0 0 (tw 3 6 [(2, 0, 16, 65535), (2, 16, 1, 1)]), _, _, by unfold Dev.Ready; decide +kernel, rfl, rfl, by decide +kernel, by decide +kernel, by decide +kernel, by decide +kernel, rfl, by decide +kernel⟩

theorem witness_CrossingLifecycle_8 : ∃ (s : State) (x : Nat), x < 65536 ∧ s.dev.xst x = 3 ∧ s.dev.xctOps x = [] :=
  ⟨S (W [(Fld.XCT_XING_STATE 65535, 3)]), 65535, by decide +kernel, by decide +kernel, by decide +kernel⟩

set_option maxRecDepth 200000 in
theorem witness_CrossingLifecycle_9 : ∃ (s : State) (b : Nat) (r : Nat) (slot : Nat) (x : Nat) (t : Ticket) (d : Dev), s.dev.Ready b r slot 3 7 t ∧ d = s.dev.begin t ∧ x = Machine.wf t.words 2 0 16 ∧ bodyZero t.words [(2, 2 ^ 16 - 1)] = true ∧ (d.xst x = 1 ∨ d.xst x = 4) ∧ d.xowner x = t.key.b ∧ t.right 7 1 ≠ 0 ∧ (d.xg x).copies = 0 :=
  ⟨S (inFlight (W [(Fld.XCT_XING_STATE 65535, 4), (Fld.XCT_XING_OWNER 65535, 128)]) (T 128 0 0 (tw 3 7 [(2, 0, 16, 65535)]))), 128, 0, 0, _, T 128 0 0 (tw 3 7 [(2, 0, 16, 65535)]), _, by unfold Dev.Ready; decide +kernel, rfl, rfl, by decide +kernel, by decide +kernel, by decide +kernel, by decide +kernel, by decide +kernel⟩

set_option maxRecDepth 200000 in
theorem witness_CrossingLifecycle_10 : ∃ (s : State) (b : Nat) (r : Nat) (slot : Nat) (x : Nat) (t : Ticket) (d : Dev), s.dev.Ready b r slot 3 8 t ∧ d = s.dev.begin t ∧ x = Machine.wf t.words 2 0 16 ∧ bodyZero t.words [(2, 2 ^ 16 - 1)] = true ∧ 1 ≤ d.xst x ∧ d.xst x ≤ 4 ∧ d.xowner x = t.key.b :=
  ⟨S (inFlight (W [(Fld.XCT_XING_STATE 65535, 4), (Fld.XCT_XING_OWNER 65535, 128)]) (T 128 0 0 (tw 3 8 [(2, 0, 16, 65535)]))), 128, 0, 0, _, T 128 0 0 (tw 3 8 [(2, 0, 16, 65535)]), _, by unfold Dev.Ready; decide +kernel, rfl, rfl, by decide +kernel, by decide +kernel, by decide +kernel, by decide +kernel⟩

set_option maxRecDepth 200000 in
theorem witness_CrossingLifecycle_11 : ∃ (s : State) (x : Nat) (g : Xing) (d : Dev), x < 65536 ∧ g = s.dev.xg x ∧ 1 < g.copies ∧ d = (s.dev.at g.copyAt).closingCopy x g.reason :=
  ⟨S { W [] with xing := [(65535, { Xing.init with copies := 2 })] }, 65535, _, _, by decide +kernel, rfl, by decide +kernel, rfl⟩

set_option maxRecDepth 200000 in
theorem witness_CrossingLifecycle_12 : ∃ (s : State) (x : Nat) (t : Nat) (d : Dev), x < 65536 ∧ (s.dev.xst x = 2 ∨ s.dev.xst x = 3) ∧ t = (s.dev.xg x).incAt + 1000 * s.dev.get Fld.XCT_CC_AI_US ∧ d = s.dev.at t :=
  ⟨S (W [(Fld.XCT_XING_STATE 65535, 3)]), 65535, _, _, by decide +kernel, by decide +kernel, rfl, rfl⟩

theorem witness_CrossingLifecycle_13_1 : ∃ (s : State), s.dev.on Fld.XCT_USED_ALLOCATED = false :=
  ⟨S (W [(Fld.XCT_USED_ALLOCATED, 0)]), by decide +kernel⟩

theorem witness_CrossingLifecycle_13_2 : ∃ (s : State) (v : Word), s.dev.on Fld.XCT_USED_ALLOCATED = true ∧ s.dev.get Fld.XCT_CTRL_UDP_PORT ≠ (s.dev.writeReg Reg.XCT_CTRL v 8 0).get Fld.XCT_CTRL_UDP_PORT :=
  ⟨S (W [(Fld.XCT_USED_ALLOCATED, 1)]), packW [(16, 16, 1)], by decide +kernel, by decide +kernel⟩

set_option maxRecDepth 200000 in
theorem witness_CrossingOperations_1 : ∃ (s : State) (b : Nat) (r : Nat) (slot : Nat) (op : Nat) (x : Nat) (t : Ticket) (d : Dev) (c : Instr), s.dev.Ready b r slot 3 op t ∧ d = s.dev.begin t ∧ (op, c) ∈ [(0x10, Instr.xctPut b r slot), (0x11, Instr.xctGet b r slot), (0x12, Instr.xctPost b r slot)] ∧ op = Machine.wf t.words 0 0 8 ∧ x = Machine.wf t.words 2 0 16 ∧ opBody op t.words = (true, true) ∧ d.xst x = 2 ∧ d.xowner x = t.key.b ∧ t.right 7 1 ≠ 0 ∧ (∃ e, d.keyCheck (.loc t.key.b) (Machine.wf t.words 3 0 32) (Machine.wf t.words 4 0 41) (Machine.wf t.words 6 0 31) (if op = 0x11 then 1 else 0) = .ok e) :=
  ⟨S (inFlight (M 0 [(Fld.XCT_XING_STATE 65535, 2)]) (T 0 0 0 (tw 3 0x11 [(2, 0, 16, 65535), (3, 0, 32, key), (6, 0, 31, 1)]))), 0, 0, 0, 0x11, _, T 0 0 0 (tw 3 0x11 [(2, 0, 16, 65535), (3, 0, 32, key), (6, 0, 31, 1)]), _, Instr.xctGet 0 0 0, by unfold Dev.Ready; decide +kernel, rfl, by simp, by decide +kernel, rfl, by decide +kernel, by decide +kernel, by decide +kernel, by decide +kernel, ⟨_, rfl⟩⟩

set_option maxRecDepth 200000 in
theorem witness_CrossingOperations_2 : ∃ (s : State) (b : Nat) (r : Nat) (slot : Nat) (op : Nat) (x : Nat) (t : Ticket) (d : Dev) (c : Instr), s.dev.Ready b r slot 3 op t ∧ d = s.dev.begin t ∧ (op, c) ∈ [(0x13, Instr.xctFadd b r slot), (0x14, Instr.xctCswap b r slot), (0x15, Instr.xctFlush b r slot)] ∧ op = Machine.wf t.words 0 0 8 ∧ x = Machine.wf t.words 2 0 16 ∧ opBody op t.words = (true, true) ∧ d.xst x = 2 ∧ d.xowner x = t.key.b ∧ t.right 7 1 ≠ 0 :=
  ⟨S (inFlight (W [(Fld.XCT_XING_STATE 65535, 2), (Fld.XCT_XING_OWNER 65535, 128)]) (T 128 0 0 (tw 3 0x14 [(2, 0, 16, 65535), (5, 3, 38, 1)]))), 128, 0, 0, 0x14, _, T 128 0 0 (tw 3 0x14 [(2, 0, 16, 65535), (5, 3, 38, 1)]), _, Instr.xctCswap 128 0 0, by unfold Dev.Ready; decide +kernel, rfl, by simp, by decide +kernel, rfl, by decide +kernel, by decide +kernel, by decide +kernel, by decide +kernel⟩

theorem witness_CrossingOperations_3 : ∃ (s : State) (b : Nat) (r : Nat) (slot : Nat) (t : Ticket), s.dev.Ready b r slot 3 0x18 t ∧ bodyZero t.words [(2, 2 ^ 32 - 1), (3, 2 ^ 41 - 1), (4, 2 ^ 31 - 1)] = true ∧ t.right 7 1 ≠ 0 ∧ 1 ≤ Machine.wf t.words 4 0 31 ∧ Machine.wf t.words 4 0 31 ≤ 2 ^ 30 :=
  ⟨S (inFlight (W []) (T 128 0 0 (tw 3 0x18 [(4, 0, 31, 2 ^ 30)]))), 128, 0, 0, T 128 0 0 (tw 3 0x18 [(4, 0, 31, 2 ^ 30)]), by unfold Dev.Ready; decide +kernel, by decide +kernel, by decide +kernel, by decide +kernel, by decide +kernel⟩

set_option maxRecDepth 200000 in
theorem witness_CrossingOperations_4 : ∃ (s : State) (x : Nat) (ty : Nat) (psn : Nat) (n : Nat) (ext : List Byte) (pay : List Byte) (g : Xing) (rest : List XReady) (d : Dev), x < 65536 ∧ (s.dev.xst x = 2 ∨ s.dev.xst x = 3) ∧ g = s.dev.xg x ∧ g.making = none ∧ g.ready = .resp ty psn ext pay :: rest ∧ ((s.dev.at ((g.depart + 999) / 1000)).setXg x { g with ready := rest }).xctPacket x { ty := ty, psn := psn } ext pay = (d, n) :=
  ⟨S { W [(Fld.XCT_XING_STATE 65535, 2)] with xing := [(65535, { Xing.init with ready := [.resp 4 0 [] [1]] })] }, 65535, 4, 0, _, [], [1], _, [], _, by decide +kernel, by decide +kernel, rfl, by decide +kernel, rfl, rfl⟩

theorem witness_CrossingOperations_5 : ∃ (s : State) (x : Nat), x < 65536 ∧ 0 < (s.dev.xg x).unacked ∧ (s.dev.xst x = 2 ∨ s.dev.xst x = 3) :=
  ⟨S { W [(Fld.XCT_XING_STATE 65535, 2)] with xing := [(65535, { Xing.init with unacked := 1, oldest := 1 })] }, 65535, by decide +kernel, by decide +kernel, by decide +kernel⟩

set_option maxRecDepth 200000 in
theorem witness_CrossingOperations_6 : ∃ (s : State) (x : Nat) (psn : Nat) (p : XPkt) (d : Dev) (d1 : Dev), x < 65536 ∧ s.dev.xctTimer x psn = some p ∧ p.expiries < 7 ∧ d = s.dev.at (p.lastSent - 1 + s.dev.rto x p.expiries) ∧ d1 = (d.setXg x { d.xg x with out := (d.xg x).out.map (fun q => if q.psn = psn then { q with expiries := q.expiries + 1 } else q) }).setRate x (d.get (Fld.XCT_XING_CC_RATE x) / 2) ∧ (d1.xg x).ready.contains (.retx psn) = false :=
  ⟨S { W [(Fld.XCT_XING_STATE 65535, 2)] with xing := [(65535, { Xing.init with out := [⟨7, ⟨0, 0, 0, 0⟩, 1, true, true, false, [], 0, 0, 1, 1, 1, 1, 6, false, false, 0⟩] })] }, 65535, 7, ⟨7, ⟨0, 0, 0, 0⟩, 1, true, true, false, [], 0, 0, 1, 1, 1, 1, 6, false, false, 0⟩, _, _, by decide +kernel, by decide +kernel, by decide +kernel, rfl, rfl, by decide +kernel⟩

theorem witness_CrossingOperations_7 : ∃ (s : State) (x : Nat) (psn : Nat) (p : XPkt), x < 65536 ∧ s.dev.xctTimer x psn = some p ∧ 8 ≤ p.expiries :=
  ⟨S { W [(Fld.XCT_XING_STATE 65535, 2)] with xing := [(65535, { Xing.init with out := [⟨7, ⟨0, 0, 0, 0⟩, 1, true, true, false, [], 0, 0, 1, 1, 1, 1, 8, false, false, 0⟩] })] }, 65535, 7, ⟨7, ⟨0, 0, 0, 0⟩, 1, true, true, false, [], 0, 0, 1, 1, 1, 1, 8, false, false, 0⟩, by decide +kernel, by decide +kernel, by decide +kernel⟩

set_option maxRecDepth 200000 in
theorem witness_CrossingPackets_1 : ∃ (s : State) (n : Nat) (ty : Nat) (b : Nat) (c : Instr) (f : Dev → XRx → Dev) (fr : FrameS) (p : List Byte) (r : XRx) (g : Xing) (d : Dev) (d1 : Dev), (ty, c, f) ∈ [(1, Instr.xctPutPacket n, Dev.xctSequenced), (2, Instr.xctPostPacket n, Dev.xctSequenced), (3, Instr.xctGetReqPacket n, Dev.xctSequenced), (4, Instr.xctGetRespPacket n, fun d p => (d.xctGetResp p).ceAck p), (5, Instr.xctFaddPacket n, Dev.xctSequenced), (6, Instr.xctCswapPacket n, Dev.xctSequenced), (7, Instr.xctAtomicRespPacket n, fun d p => (d.xctResp p [5, 6] (fbe p.ext 0 8)).ceAck p), (8, Instr.xctFlushReqPacket n, Dev.xctSequenced), (9, Instr.xctFlushRespPacket n, fun d p => (d.xctResp p [8] 0).ceAck p), (0xA, Instr.xctAckPacket n, fun d p => (d.xctAcked p).ceAck p), (0xB, Instr.xctSackPacket n, fun d p => (d.xctAcked p).ceAck p), (0xC, Instr.xctNakPacket n, fun d p => (d.xctNaked p).ceAck p), (0xD, Instr.xctClosingPacket n, fun d p => d.xingError p.x 2 (fbe p.ext 0 1))] ∧ s.dev.frameAt n 2 = some fr ∧ xctType fr.data = some ty ∧ d = s.dev.frameGone fr ∧ d.on Fld.XCT_CTRL_ENABLE = true ∧ d.xctOuter fr.data = .ok p ∧ d.xctInner fr.data p = .ok (r, g) ∧ b = d.xowner r.x ∧ b ≠ 0 ∧ d1 = (d.setXg r.x { g with rxCe := if r.ce then (g.rxCe + 1) % 2 ^ 32 else g.rxCe }).wrap (Fld.CNT_NET_RX_BYTES b) fr.data.length :=
  ⟨S (xctDev 13), 5, 13, _, Instr.xctClosingPacket 5, fun d p => d.xingError p.x 2 (fbe p.ext 0 1), ⟨5, 0, 0, 0, xctBytes 13, 0, 0, [], 0, 2, []⟩, (xctBytes 13).drop 42, ⟨65535, ⟨13, false, false, false, 1⟩, [1, 0, 0, 0, 0, 0, 0, 0], [], false⟩, { Xing.init with record := [0, 0, 0xFFFF0A000001, 0, 0, 0, 0, 0] }, _, _, (by simp), by decide +kernel, by decide +kernel, rfl, by decide +kernel, rfl, rfl, rfl, by decide +kernel, rfl⟩

set_option maxRecDepth 200000 in
theorem witness_CrossingPackets_2 : ∃ (s : State) (n : Nat) (fr : FrameS) (e : XDrop) (p : List Byte) (d : Dev), s.dev.frameAt n 2 = some fr ∧ xctType fr.data = some 1 ∧ d = s.dev.frameGone fr ∧ d.on Fld.XCT_CTRL_ENABLE = true ∧ (d.xctOuter fr.data = .error e ∨ (d.xctOuter fr.data = .ok p ∧ d.xctInner fr.data p = .error e)) :=
  ⟨S (xctDev 1), 5, ⟨5, 0, 0, 0, xctBytes 1, 0, 0, [], 0, 2, []⟩, .malformed, [], _, by decide +kernel, by decide +kernel, rfl, by decide +kernel, (Or.inl rfl)⟩

set_option maxRecDepth 200000 in
theorem witness_CrossingPackets_3 : ∃ (d : Dev) (p : XRx) (d1 : Dev), p.h.ty = 1 ∧ p.h.psn = (d.xg p.x).exp ∧ (d.xg p.x).rcv = 0 ∧ (d.xg p.x).exp < 2 ^ 32 ∧ d1 = (d.setXg p.x { d.xg p.x with rcv := 1 }).xctPut p ∧ (d1.xg p.x).rcv = 1 ∧ (d1.xg p.x).exp = (d.xg p.x).exp :=
  ⟨W [], ⟨65535, ⟨1, false, true, true, 0⟩, List.replicate 16 0, [], false⟩, _, by decide +kernel, by decide +kernel, by decide +kernel, by decide +kernel, rfl, by decide +kernel, by decide +kernel⟩

set_option maxRecDepth 200000 in
theorem witness_CrossingPackets_4_1 : ∃ (s : State) (x : Nat) (psn : Nat) (ty : Nat) (ext : List Byte) (d : Dev), x < 65536 ∧ (s.dev.xg x).fenced = [(psn, ty, ext)] ∧ after (s.dev.xg x).exp psn 32 = true ∧ (s.dev.xg x).atoms = [] ∧ (s.dev.xst x = 2 ∨ s.dev.xst x = 3) ∧ d = s.dev.setXg x { s.dev.xg x with fenced := [] } ∧ ty = 3 :=
  ⟨S { W [(Fld.XCT_XING_STATE 65535, 2)] with xing := [(65535, { Xing.init with exp := 1, fenced := [(0, 3, [])] })] }, 65535, 0, 3, [], _, by decide +kernel, by decide +kernel, by decide +kernel, by decide +kernel, by decide +kernel, rfl, by decide +kernel⟩

set_option maxRecDepth 200000 in
theorem witness_CrossingPackets_4_2 : ∃ (s : State) (x : Nat) (psn : Nat) (ty : Nat) (ext : List Byte) (d : Dev), x < 65536 ∧ (s.dev.xg x).fenced = [(psn, ty, ext)] ∧ after (s.dev.xg x).exp psn 32 = true ∧ (s.dev.xg x).atoms = [] ∧ (s.dev.xst x = 2 ∨ s.dev.xst x = 3) ∧ d = s.dev.setXg x { s.dev.xg x with fenced := [] } ∧ ty = 8 :=
  ⟨S { W [(Fld.XCT_XING_STATE 65535, 2)] with xing := [(65535, { Xing.init with exp := 1, fenced := [(0, 8, [])] })] }, 65535, 0, 8, [], _, by decide +kernel, by decide +kernel, by decide +kernel, by decide +kernel, by decide +kernel, rfl, by decide +kernel⟩

set_option maxRecDepth 200000 in
theorem witness_CrossingPackets_4_3 : ∃ (s : State) (x : Nat) (psn : Nat) (ty : Nat) (ext : List Byte) (d : Dev), x < 65536 ∧ (s.dev.xg x).fenced = [(psn, ty, ext)] ∧ after (s.dev.xg x).exp psn 32 = true ∧ (s.dev.xg x).atoms = [] ∧ (s.dev.xst x = 2 ∨ s.dev.xst x = 3) ∧ d = s.dev.setXg x { s.dev.xg x with fenced := [] } ∧ (ty = 5 ∨ ty = 6) :=
  ⟨S { W [(Fld.XCT_XING_STATE 65535, 3)] with xing := [(65535, { Xing.init with exp := 1, fenced := [(0, 6, [])] })] }, 65535, 0, 6, [], _, by decide +kernel, by decide +kernel, by decide +kernel, by decide +kernel, by decide +kernel, rfl, by decide +kernel⟩

/-- A device with one volume, number 4095, ready. -/
def oneVol : Dev := { Dev.reset with regs := [(Reg.STO_VOL_CTRL 4095, setBits 0 (Fld.STO_VOL_CTRL_STATE 4095).lo (Fld.STO_VOL_CTRL_STATE 4095).len 1)] }

theorem oneVol_plans (k : Nat) (hl : 0x100000 ≤ k) (hh : k < 0x200000) : getBits (oneVol.reg k) 12 1 = 0 := by
  have h : oneVol.reg k = resetReg k := by
    simp only [Dev.reg, oneVol, tget, Reg.STO_VOL_CTRL]
    rw [if_neg (by omega)]
  rw [h]
  simpa using resetReg_range (fun w => getBits w 12 1 == 0) 0x100000 0x200000 k (by decide) hl hh (by decide +kernel)

theorem oneVol_unnamed : berths.any (fun b => oneVol.planNames b 4095 || oneVol.stageNames b 4095) = false := by
  rw [List.any_eq_false]
  intro b hb
  have hb2 : 1 ≤ b ∧ b ≤ 128 := by simp [berths] at hb; omega
  simp only [Dev.planNames, Dev.stageNames, Bool.or_eq_true, not_or, Bool.not_eq_true]
  constructor <;>
  · rw [List.any_eq_false]
    intro i hi
    have hi2 : i < 16 := by simpa using hi
    simp only [Dev.on, Dev.get, Fld.CPLAN_VOL_VALID, Fld.BPLAN_VOL_VALID, Reg.CPLAN_VOL, Reg.BPLAN_VOL]
    rw [oneVol_plans _ (by omega) (by omega)]
    simp


set_option maxRecDepth 200000 in
theorem witness_StorageTickets_1 : ∃ (s : State) (b : Nat) (r : Nat) (slot : Nat) (n : Nat) (t : Ticket) (t1 : Ticket) (d : Dev), s.dev.Ready b r slot 4 1 t ∧ d = s.dev.begin t ∧ n = Machine.wf t.words 6 0 19 ∧ bodyZero t.words [(2, 0x10FFF), (3, 2 ^ 36 - 1), (4, 2 ^ 32 - 1), (5, 2 ^ 41 - 1), (6, 2 ^ 19 - 1)] = true ∧ d.StoOpen t.begun false (d.stoRange t.begun) ∧ (∃ e, d.keyCheck (.loc t.key.b) (Machine.wf t.words 4 0 32) (Machine.wf t.words 5 0 41) (n * 4096) 1 = .ok e) ∧ t1 = { t.begun with aux := [1], result := n * 4096 } :=
  ⟨S (inFlight (M 0 [(Fld.STO_CTRL_ENABLE, 1), (Fld.STO_VOL_CTRL_STATE 4095, 1), (Fld.STO_VOL_CTRL_DRIVE_SET 4095, 0x80), (Fld.STO_VOL_CTRL_SU_LOG2 4095, 17), (Fld.STO_VOL_SIZE_BLOCKS 4095, 16)]) (T 0 0 0 (tw 4 1 [(2, 0, 12, 4095), (4, 0, 32, key), (6, 0, 19, 1)]))), 0, 0, 0, _, T 0 0 0 (tw 4 1 [(2, 0, 12, 4095), (4, 0, 32, key), (6, 0, 19, 1)]), _, _, by unfold Dev.Ready; decide +kernel, rfl, rfl, by decide +kernel, ⟨by decide +kernel, by decide +kernel, by decide +kernel, by decide +kernel, Or.inl rfl⟩, ⟨_, rfl⟩, rfl⟩

set_option maxRecDepth 200000 in
theorem witness_StorageTickets_2 : ∃ (s : State) (b : Nat) (r : Nat) (slot : Nat) (n : Nat) (t : Ticket) (d : Dev), s.dev.Ready b r slot 4 2 t ∧ d = s.dev.begin t ∧ n = Machine.wf t.words 6 0 19 ∧ bodyZero t.words [(2, 0x20FFF), (3, 2 ^ 36 - 1), (4, 2 ^ 32 - 1), (5, 2 ^ 41 - 1), (6, 2 ^ 19 - 1)] = true ∧ d.StoOpen t.begun true (d.stoRange t.begun) :=
  ⟨S (inFlight (M 0 [(Fld.STO_CTRL_ENABLE, 1), (Fld.STO_VOL_CTRL_STATE 4095, 1), (Fld.STO_VOL_CTRL_DRIVE_SET 4095, 0x80), (Fld.STO_VOL_CTRL_SU_LOG2 4095, 17), (Fld.STO_VOL_SIZE_BLOCKS 4095, 16)]) (T 0 0 0 (tw 4 2 [(2, 0, 12, 4095), (3, 0, 36, 15), (4, 0, 32, key), (6, 0, 19, 1)]))), 0, 0, 0, _, T 0 0 0 (tw 4 2 [(2, 0, 12, 4095), (3, 0, 36, 15), (4, 0, 32, key), (6, 0, 19, 1)]), _, by unfold Dev.Ready; decide +kernel, rfl, rfl, by decide +kernel, ⟨by decide +kernel, by decide +kernel, by decide +kernel, by decide +kernel, Or.inl rfl⟩⟩

set_option maxRecDepth 200000 in
theorem witness_StorageTickets_3 : ∃ (s : State) (b : Nat) (r : Nat) (slot : Nat) (v : Nat) (t : Ticket) (t1 : Ticket) (d : Dev), s.dev.Ready b r slot 4 3 t ∧ d = s.dev.begin t ∧ v = Machine.wf t.words 2 0 12 ∧ bodyZero t.words [(2, 0xFFF)] = true ∧ d.StoOpen t.begun false true ∧ d.volRemote v = false ∧ t1 = { t.begun with aux := [1] } :=
  ⟨S (inFlight (M 0 [(Fld.STO_CTRL_ENABLE, 1), (Fld.STO_VOL_CTRL_STATE 4095, 1), (Fld.STO_VOL_CTRL_DRIVE_SET 4095, 0x80), (Fld.STO_VOL_CTRL_SU_LOG2 4095, 17), (Fld.STO_VOL_SIZE_BLOCKS 4095, 16)]) (T 0 0 0 (tw 4 3 [(2, 0, 12, 4095)]))), 0, 0, 0, 4095, T 0 0 0 (tw 4 3 [(2, 0, 12, 4095)]), _, _, by unfold Dev.Ready; decide +kernel, rfl, by decide +kernel, by decide +kernel, ⟨by decide +kernel, by decide +kernel, by decide +kernel, by decide +kernel, Or.inl rfl⟩, by decide +kernel, rfl⟩

set_option maxRecDepth 200000 in
theorem witness_StorageTickets_4 : ∃ (s : State) (b : Nat) (r : Nat) (slot : Nat) (n : Nat) (t : Ticket) (t1 : Ticket) (d : Dev), s.dev.Ready b r slot 4 4 t ∧ d = s.dev.begin t ∧ n = Machine.wf t.words 6 0 19 ∧ bodyZero t.words [(2, 0xFFF), (3, 2 ^ 36 - 1), (6, 2 ^ 19 - 1)] = true ∧ d.StoOpen t.begun true (d.stoRange t.begun) ∧ t1 = { t.begun with aux := [1] } :=
  ⟨S (inFlight (M 0 [(Fld.STO_CTRL_ENABLE, 1), (Fld.STO_VOL_CTRL_STATE 4095, 1), (Fld.STO_VOL_CTRL_DRIVE_SET 4095, 0x80), (Fld.STO_VOL_CTRL_SU_LOG2 4095, 17), (Fld.STO_VOL_SIZE_BLOCKS 4095, 16)]) (T 0 0 0 (tw 4 4 [(2, 0, 12, 4095), (3, 0, 36, 0), (6, 0, 19, 16)]))), 0, 0, 0, _, T 0 0 0 (tw 4 4 [(2, 0, 12, 4095), (3, 0, 36, 0), (6, 0, 19, 16)]), _, _, by unfold Dev.Ready; decide +kernel, rfl, rfl, by decide +kernel, ⟨by decide +kernel, by decide +kernel, by decide +kernel, by decide +kernel, Or.inl rfl⟩, rfl⟩

set_option maxRecDepth 200000 in
theorem witness_StorageTickets_5 : ∃ (s : State) (b : Nat) (r : Nat) (slot : Nat) (n : Nat) (t : Ticket) (t1 : Ticket) (d : Dev) (d1 : Dev), s.dev.Ready b r slot 4 5 t ∧ s.dev.evapBusy t = false ∧ d = s.dev.begin t ∧ n = Machine.wf t.words 6 0 19 ∧ packBody t.words 16 = true ∧ d.StoOpen t.begun false (d.packRange t.begun) ∧ (∃ e, d.keyCheck (.loc t.key.b) (Machine.wf t.words 4 0 32) (Machine.wf t.words 5 0 41) (Machine.wf t.words 6 32 31) 1 = .ok e) ∧ d.stageCheck t.begun = (none, d1) ∧ t1 = { t.begun with aux := [1] } :=
  ⟨S (inFlight (M 0 [(Fld.STO_CTRL_ENABLE, 1), (Fld.STO_VOL_CTRL_STATE 4095, 1), (Fld.STO_VOL_CTRL_DRIVE_SET 4095, 0x80), (Fld.STO_VOL_CTRL_SU_LOG2 4095, 17), (Fld.STO_VOL_SIZE_BLOCKS 4095, 16)]) (T 0 0 0 (tw 4 5 [(2, 0, 12, 4095), (4, 0, 32, key), (4, 32, 32, key), (6, 0, 19, 1), (6, 32, 31, 64)]))), 0, 0, 0, _, T 0 0 0 (tw 4 5 [(2, 0, 12, 4095), (4, 0, 32, key), (4, 32, 32, key), (6, 0, 19, 1), (6, 32, 31, 64)]), _, _, _, by unfold Dev.Ready; decide +kernel, by decide +kernel, rfl, rfl, by decide +kernel, ⟨by decide +kernel, by decide +kernel, by decide +kernel, by decide +kernel, Or.inl rfl⟩, ⟨_, rfl⟩, rfl, rfl⟩

set_option maxRecDepth 200000 in
theorem witness_StorageTickets_6 : ∃ (s : State) (b : Nat) (r : Nat) (slot : Nat) (key : Nat) (t : Ticket) (t1 : Ticket) (d : Dev) (d1 : Dev) (d2 : Dev), s.dev.Ready b r slot 4 6 t ∧ s.dev.evapBusy t = false ∧ d = s.dev.begin t ∧ key = Machine.wf t.words 4 0 32 ∧ packBody t.words 17 = true ∧ d.StoOpen t.begun true (d.packRange t.begun) ∧ d.stageCheck t.begun = (none, d1) ∧ d1.gatherPieces (.loc t.key.b) { t.begun with aux := [2] } key 5 (d1.evapWharf t.begun) (d1.keyedPieces key (Machine.wf t.words 5 0 41) (Machine.wf t.words 6 32 31)) 0 = (.ok (), d2, t1) :=
  ⟨S (inFlight (M 0 [(Fld.STO_CTRL_ENABLE, 1), (Fld.STO_VOL_CTRL_STATE 4095, 1), (Fld.STO_VOL_CTRL_DRIVE_SET 4095, 0x80), (Fld.STO_VOL_CTRL_SU_LOG2 4095, 17), (Fld.STO_VOL_SIZE_BLOCKS 4095, 16)]) (T 0 0 0 (tw 4 6 [(2, 0, 12, 4095), (4, 0, 32, key), (4, 32, 32, key), (6, 0, 19, 1), (6, 32, 31, 64)]))), 0, 0, 0, _, T 0 0 0 (tw 4 6 [(2, 0, 12, 4095), (4, 0, 32, key), (4, 32, 32, key), (6, 0, 19, 1), (6, 32, 31, 64)]), _, _, _, _, by unfold Dev.Ready; decide +kernel, by decide +kernel, rfl, rfl, by decide +kernel, ⟨by decide +kernel, by decide +kernel, by decide +kernel, by decide +kernel, Or.inl rfl⟩, rfl, rfl⟩

theorem witness_StorageTickets_7_1 : ∃ (s : State) (b : Nat) (r : Nat) (slot : Nat) (t : Ticket), s.dev.ticketAt b r slot = some t ∧ t.started = true ∧ Machine.wf t.words 0 8 4 = 4 ∧ t.aux.getD 0 0 = 2 ∧ Machine.wf t.words 0 0 8 = 5 :=
  ⟨S (inFlight (W []) { T 128 63 7 (tw 4 5 []) with started := true, aux := [2] }), 128, 63, 7, { T 128 63 7 (tw 4 5 []) with started := true, aux := [2] }, by decide +kernel, by decide +kernel, by decide +kernel, by decide +kernel, by decide +kernel⟩

theorem witness_StorageTickets_7_2 : ∃ (s : State) (b : Nat) (r : Nat) (slot : Nat) (t : Ticket), s.dev.ticketAt b r slot = some t ∧ t.started = true ∧ Machine.wf t.words 0 8 4 = 4 ∧ t.aux.getD 0 0 = 2 ∧ Machine.wf t.words 0 0 8 = 6 :=
  ⟨S (inFlight (W []) { T 128 63 7 (tw 4 6 []) with started := true, aux := [2] }), 128, 63, 7, { T 128 63 7 (tw 4 6 []) with started := true, aux := [2] }, by decide +kernel, by decide +kernel, by decide +kernel, by decide +kernel, by decide +kernel⟩

theorem witness_DrivesAndVolumes_1_1 : ∃ (s : State) (u : Nat) (cid : Nat) (c : StoCmd), s.dev.stoCmd u cid = some c ∧ c.issued = true ∧ c.op < 256 ∧ c.op = 2 :=
  ⟨S { W [] with sto := { Dev.reset.sto with cmds := [⟨7, 5, 2, none, 0, 0, 0, 1, false, [], [], [], 0, false, true, 0, false⟩] } }, 7, 5, ⟨7, 5, 2, none, 0, 0, 0, 1, false, [], [], [], 0, false, true, 0, false⟩, by decide +kernel, by decide +kernel, by decide +kernel, by decide +kernel⟩

theorem witness_DrivesAndVolumes_1_2 : ∃ (s : State) (u : Nat) (cid : Nat) (c : StoCmd), s.dev.stoCmd u cid = some c ∧ c.issued = true ∧ c.op < 256 ∧ c.op ≠ 2 :=
  ⟨S { W [] with sto := { Dev.reset.sto with cmds := [⟨71, 5, 1, none, 0, 0, 0, 1, false, [], [], [], 0, false, true, 0, false⟩] } }, 71, 5, ⟨71, 5, 1, none, 0, 0, 0, 1, false, [], [], [], 0, false, true, 0, false⟩, by decide +kernel, by decide +kernel, by decide +kernel, by decide +kernel⟩

theorem witness_DrivesAndVolumes_1_3 : ∃ (s : State) (u : Nat) (cid : Nat) (c : StoCmd), s.dev.stoCmd u cid = some c ∧ c.issued = true ∧ c.op < 256 ∧ u < 8 :=
  ⟨S { W [] with sto := { Dev.reset.sto with cmds := [⟨7, 5, 2, none, 0, 0, 0, 1, false, [], [], [], 0, false, true, 0, false⟩] } }, 7, 5, ⟨7, 5, 2, none, 0, 0, 0, 1, false, [], [], [], 0, false, true, 0, false⟩, by decide +kernel, by decide +kernel, by decide +kernel, by decide +kernel⟩

theorem witness_DrivesAndVolumes_2 : ∃ (s : State) (u : Nat) (cid : Nat) (c : StoCmd), s.dev.stoCmd u cid = some c ∧ c.issued = true ∧ c.op ≠ 0x108 ∧ u < 8 ∧ c.touts = 0 :=
  ⟨S { W [] with sto := { Dev.reset.sto with cmds := [⟨7, 5, 2, none, 0, 0, 0, 1, false, [], [], [], 0, false, true, 0, false⟩] } }, 7, 5, ⟨7, 5, 2, none, 0, 0, 0, 1, false, [], [], [], 0, false, true, 0, false⟩, by decide +kernel, by decide +kernel, by decide +kernel, by decide +kernel, by decide +kernel⟩

set_option maxRecDepth 200000 in
theorem witness_DrivesAndVolumes_3 : ∃ (s : State) (k : Nat) (cid : Nat) (c : StoCmd) (d : Dev), s.dev.stoCmd k cid = some c ∧ c.op = 0x108 ∧ d = (((s.dev.at (c.at_ + 1000000000)).sat (Fld.STO_DRV_COUNTS_RESETS k)).emit .stoCtl [k, 1]) :=
  ⟨S { W [] with sto := { Dev.reset.sto with cmds := [⟨7, 5, 264, none, 0, 0, 0, 1, false, [], [], [], 0, false, true, 0, false⟩] } }, 7, 5, ⟨7, 5, 264, none, 0, 0, 0, 1, false, [], [], [], 0, false, true, 0, false⟩, _, by decide +kernel, by decide +kernel, rfl⟩

theorem witness_DrivesAndVolumes_4 : ∃ (s : State) (k : Nat), k < 8 ∧ s.dev.get (Fld.STO_DRV_STATE_STATE k) = 2 ∧ s.dev.get (Fld.STO_DRV_PM_IDLE_MS k) ≠ 0 ∧ (s.dev.drv k).phase = 0 ∧ s.dev.on (Fld.STO_DRV_PM_CUR_PS k) = false ∧ s.dev.sto.cmds.any (fun c => c.unit = k) = false ∧ s.dev.vltHolds k = false :=
  ⟨S (W [(Fld.STO_DRV_STATE_STATE 7, 2), (Fld.STO_DRV_PM_IDLE_MS 7, 1)]), 7, by decide +kernel, by decide +kernel, by decide +kernel, by decide +kernel, by decide +kernel, by decide +kernel, by decide +kernel⟩

set_option maxRecDepth 200000 in
theorem witness_DrivesAndVolumes_5 : ∃ (s : State) (v : Word) (d : Dev), d = s.dev.writeReg Reg.STO_CTRL v 8 0 ∧ s.dev.on Fld.STO_CTRL_ENABLE = false ∧ d.on Fld.STO_CTRL_ENABLE = true :=
  ⟨S (W [(Fld.STO_CTRL_ENABLE, 0)]), packW [(0, 1, 1), (16, 16, 5000)], _, rfl, by decide +kernel, by decide +kernel⟩

set_option maxRecDepth 200000 in
theorem witness_DrivesAndVolumes_6 : ∃ (s : State) (v : Nat) (w : Word) (d : Dev) (d1 : Dev), v < 4096 ∧ s.dev.volState v = 0 ∧ d = s.dev.writeReg (Reg.STO_VOL_CTRL v) (setBits (w ||| 1) 1 1 0) 8 0 ∧ d.createCause v (getBits w 24 5) = none ∧ d1 = { d with sto := { d.sto with ids := (d.volSet v).foldl (fun t k => tput (fun _ => 0) t (8 * v + k) (d.reg (Reg.STO_DRV_ID k))) d.sto.ids } } :=
  ⟨S (W [(Fld.STO_VOL_SIZE_BLOCKS 4095, 16), (Fld.STO_DRV_STATE_STATE 7, 2), (Fld.STO_DRV_SIZE_BLOCKS 7, 32)]), 4095, packW [(16, 8, 0x80), (24, 5, 17)], _, _, by decide +kernel, by decide +kernel, rfl, by decide +kernel, rfl⟩

set_option maxRecDepth 200000 in
theorem witness_DrivesAndVolumes_7 : ∃ (s : State) (v : Nat) (d : Dev), v < 4096 ∧ s.dev.volState v ≠ 0 ∧ berths.any (fun b => s.dev.planNames b v || s.dev.stageNames b v) = false ∧ s.dev.tickets.any (fun t => Machine.wf t.words 0 8 4 = 4 && Machine.wf t.words 2 0 12 = v) = false ∧ d = s.dev.put (Fld.STO_VOL_CTRL_VOL_REFUSED v) (s.dev.get (Fld.STO_VOL_CTRL_VOL_REFUSED v)) :=
  ⟨S oneVol, 4095, _, by decide +kernel, by decide +kernel, oneVol_unnamed, rfl, rfl⟩

set_option maxRecDepth 200000 in
theorem witness_TargetConnections_1 : ∃ (s : State) (t : Nat) (key : Nat) (v : Word) (out : List Nat) (w : Dev) (d : Dev) (r : List Byte), t < 64 ∧ s.dev.on (Fld.STO_TGT_CTRL_ENABLE t) = false ∧ w = s.dev.writeReg (Reg.STO_TGT_CTRL t) (v ||| 1) 8 0 ∧ w.on (Fld.STO_TGT_CTRL_ENABLE t) = true ∧ key = w.get (Fld.STO_TGT_CTRL_REC_KEY t) ∧ w.copyImage key 0 (w.keyedPieces key (w.get (Fld.STO_TGT_OFF_REC_OFF t)) 1024) out [] = (some r, d) ∧ recordRefused r = false :=
  ⟨S { M 0 [] with mem := (M 0 []).mem ++ [(0x40000031, 0x10), (0x40000032, 0x10), (0x40000033, 0x80), (0x40000034, 0x3E)] }, 63, key, packW [(32, 32, key)], [], _, _, _, by decide +kernel, by decide +kernel, rfl, by decide +kernel, by decide +kernel, rfl, by decide +kernel⟩

set_option maxRecDepth 200000 in
theorem witness_TargetConnections_2 : ∃ (s : State) (t : Nat) (v : Word) (w : Dev), t < 64 ∧ s.dev.on (Fld.STO_TGT_CTRL_ENABLE t) = true ∧ w = s.dev.writeReg (Reg.STO_TGT_CTRL t) (setBits v 0 1 0) 8 0 ∧ w.on (Fld.STO_TGT_CTRL_ENABLE t) = false :=
  ⟨S (W [(Fld.STO_TGT_CTRL_ENABLE 63, 1)]), 63, 1, _, by decide +kernel, by decide +kernel, rfl, by decide +kernel⟩

theorem witness_TargetConnections_3 : ∃ (s : State) (t : Nat), t < 64 ∧ s.dev.get (Fld.STO_TGT_CTRL_STATE t) = 1 :=
  ⟨S (W [(Fld.STO_TGT_CTRL_STATE 63, 1)]), 63, by decide +kernel, by decide +kernel⟩

theorem witness_TargetConnections_4 : ∃ (s : State) (t : Nat) (cid : Nat) (off : Nat) (data : List Byte) (c : StoCmd), t < 64 ∧ s.dev.tcpOpen t = true ∧ s.dev.stoCmd (8 + t) cid = some c ∧ c.op = 2 ∧ off + data.length ≤ c.n * 4096 :=
  ⟨S { W [(Fld.STO_TGT_CTRL_STATE 63, 2)] with sto := { Dev.reset.sto with cmds := [⟨71, 5, 2, none, 0, 0, 0, 1, false, [], [], [], 0, false, true, 0, false⟩] } }, 63, 5, 4095, [1], ⟨71, 5, 2, none, 0, 0, 0, 1, false, [], [], [], 0, false, true, 0, false⟩, by decide +kernel, by decide +kernel, by decide +kernel, by decide +kernel, by decide +kernel⟩

theorem witness_TargetConnections_5 : ∃ (s : State) (t : Nat), t < 64 ∧ s.dev.tcpOpen t = true :=
  ⟨S (W [(Fld.STO_TGT_CTRL_STATE 63, 2)]), 63, by decide +kernel, by decide +kernel⟩

theorem witness_TargetConnections_6 : ∃ (s : State) (t : Nat), t < 64 ∧ s.dev.on (Fld.STO_TGT_CTRL_ENABLE t) = true ∧ s.dev.get (Fld.STO_TGT_CTRL_STATE t) = 1 :=
  ⟨S (W [(Fld.STO_TGT_CTRL_ENABLE 63, 1), (Fld.STO_TGT_CTRL_STATE 63, 1)]), 63, by decide +kernel, by decide +kernel, by decide +kernel⟩

set_option maxRecDepth 200000 in
theorem witness_TargetConnections_7_1 : ∃ (s : State) (t : Nat) (d : Dev), t < 64 ∧ s.dev.get (Fld.STO_TGT_CTRL_STATE t) = 2 ∧ d = s.dev.at ((s.dev.tgt t).kaAt + s.dev.katoNs t) ∧ (d.tgt t).kaOut = true :=
  ⟨S { W [(Fld.STO_TGT_CTRL_STATE 63, 2)] with sto := { Dev.reset.sto with tgt := [(63, { TgtH.init with kaOut := true })] } }, 63, _, by decide +kernel, by decide +kernel, rfl, by decide +kernel⟩

set_option maxRecDepth 200000 in
theorem witness_TargetConnections_7_2 : ∃ (s : State) (t : Nat) (d : Dev), t < 64 ∧ s.dev.get (Fld.STO_TGT_CTRL_STATE t) = 2 ∧ d = s.dev.at ((s.dev.tgt t).kaAt + s.dev.katoNs t) ∧ (d.tgt t).kaOut = false :=
  ⟨S (W [(Fld.STO_TGT_CTRL_STATE 63, 2)]), 63, _, by decide +kernel, by decide +kernel, rfl, by decide +kernel⟩

theorem witness_TargetConnections_8 : ∃ (s : State) (t : Nat) (seg : List Byte) (rest : List (List Byte)), t < 64 ∧ s.dev.tcpOpen t = true ∧ (s.dev.tgt t).unacked = seg :: rest :=
  ⟨S { W [(Fld.STO_TGT_CTRL_STATE 63, 2)] with sto := { Dev.reset.sto with tgt := [(63, { TgtH.init with unacked := [[1]] })] } }, 63, [1], [], by decide +kernel, by decide +kernel, by decide +kernel⟩

set_option maxRecDepth 200000 in
theorem witness_ScalarIntegers_1 : ∃ (s : State) (p : Nat) (i : Nat) (x : Insn) (r : RakerS) (a : Word) (b : Word) (e : Instr × Nat × Word), r = (s.dev.rk p i).next x ∧ a = r.gr x.ra ∧ b = r.gr x.rb ∧ e ∈ [(.addI p i, 0, a + b), (.subI p i, 1, a - b), (.mulI p i, 2, a * b), (.mulh p i, 3, BitVec.ofInt 64 (a.toInt * b.toInt / 2 ^ 64)), (.mulhu p i, 4, BitVec.ofNat 64 (a.toNat * b.toNat / 2 ^ 64)), (.andI p i, 16, a &&& b), (.orI p i, 17, a ||| b), (.xorI p i, 18, a ^^^ b), (.andn p i, 19, a &&& ~~~b), (.shl p i, 20, a <<< (b.toNat % 64)), (.shr p i, 21, a >>> (b.toNat % 64)), (.sar p i, 22, a.sshiftRight (b.toNat % 64)), (.ror p i, 23, a.rotateRight (b.toNat % 64)), (.minI p i, 24, if a.toInt < b.toInt then a else b), (.maxI p i, 25, if a.toInt < b.toInt then b else a), (.minu p i, 26, if a.toNat < b.toNat then a else b), (.maxu p i, 27, if a.toNat < b.toNat then b else a), (.clz p i, 32, BitVec.ofNat 64 (Machine.clz 64 a.toNat)), (.ctz p i, 33, BitVec.ofNat 64 (Machine.ctz 64 a.toNat)), (.popc p i, 34, BitVec.ofNat 64 (Machine.popc 64 a.toNat)), (.bswap p i, 35, BitVec.ofNat 64 (ofBe (leBytes 8 a.toNat))), (.sext8 p i, 40, BitVec.ofInt 64 (signed 8 a.toNat)), (.sext16 p i, 41, BitVec.ofInt 64 (signed 16 a.toNat)), (.sext32 p i, 42, BitVec.ofInt 64 (signed 32 a.toNat)), (.zext8 p i, 44, BitVec.ofNat 64 (a.toNat % 2 ^ 8)), (.zext16 p i, 45, BitVec.ofNat 64 (a.toNat % 2 ^ 16)), (.zext32 p i, 46, BitVec.ofNat 64 (a.toNat % 2 ^ 32))] ∧ s.dev.Runs p i (128 + e.2.1) x :=
  ⟨S (R (ins 1 1 2 3 0) RakerS.init []), 255, 3, ins 1 1 2 3 0, _, _, _, _, rfl, rfl, rfl, List.mem_cons_self, by unfold Dev.Runs; decide +kernel⟩

set_option maxRecDepth 200000 in
theorem witness_ScalarIntegers_2 : ∃ (s : State) (p : Nat) (i : Nat) (x : Insn) (r : RakerS) (a : Word) (b : Word) (e : Instr × Nat × Word), r = (s.dev.rk p i).next x ∧ a = r.gr x.ra ∧ b = BitVec.ofInt 64 x.value ∧ e ∈ [(.addi p i, 2 * 128, a + b), (.andi p i, 3 * 128, a &&& b), (.ori p i, 4 * 128, a ||| b), (.xori p i, 5 * 128, a ^^^ b), (.shli p i, 7 * 128, a <<< (b.toNat % 64)), (.shri p i, 7 * 128 + 1, a >>> (b.toNat % 64)), (.sari p i, 7 * 128 + 2, a.sshiftRight (b.toNat % 64)), (.rori p i, 7 * 128 + 3, a.rotateRight (b.toNat % 64)), (.cseqImm p i, 9 * 128, if a = b then 1 else 0), (.csneImm p i, 9 * 128 + 1, if a ≠ b then 1 else 0), (.csltImm p i, 9 * 128 + 2, if a.toInt < b.toInt then 1 else 0), (.csltuImm p i, 9 * 128 + 3, if a.toNat < b.toNat then 1 else 0), (.csleImm p i, 9 * 128 + 4, if a.toInt ≤ b.toInt then 1 else 0), (.csleuImm p i, 9 * 128 + 5, if a.toNat ≤ b.toNat then 1 else 0)] ∧ s.dev.Runs p i e.2.1 x :=
  ⟨S (R (ins 2 1 2 0 0) RakerS.init []), 255, 3, ins 2 1 2 0 0, _, _, _, _, rfl, rfl, rfl, List.mem_cons_self, by unfold Dev.Runs; decide +kernel⟩

set_option maxRecDepth 200000 in
theorem witness_ScalarIntegers_3 : ∃ (s : State) (p : Nat) (i : Nat) (x : Insn) (r : RakerS) (a : Word) (b : Word) (e : Instr × Nat × Word), r = (s.dev.rk p i).next x ∧ a = r.gr x.ra ∧ b = r.gr x.rb ∧ e ∈ [(.cseq p i, 0, if a = b then 1 else 0), (.csne p i, 1, if a ≠ b then 1 else 0), (.cslt p i, 2, if a.toInt < b.toInt then 1 else 0), (.csltu p i, 3, if a.toNat < b.toNat then 1 else 0), (.csle p i, 4, if a.toInt ≤ b.toInt then 1 else 0), (.csleu p i, 5, if a.toNat ≤ b.toNat then 1 else 0)] ∧ s.dev.Runs p i (8 * 128 + e.2.1) x :=
  ⟨S (R (ins 8 1 2 3 0) RakerS.init []), 255, 3, ins 8 1 2 3 0, _, _, _, _, rfl, rfl, rfl, List.mem_cons_self, by unfold Dev.Runs; decide +kernel⟩

set_option maxRecDepth 200000 in
theorem witness_ScalarIntegers_4_1 : ∃ (s : State) (p : Nat) (i : Nat) (x : Insn) (r : RakerS) (a : Word) (b : Word) (e : Instr × Nat × Word), r = (s.dev.rk p i).next x ∧ a = r.gr x.ra ∧ b = r.gr x.rb ∧ e ∈ [(.divI p i, 5, BitVec.ofInt 64 (a.toInt.tdiv b.toInt)), (.divu p i, 6, BitVec.ofNat 64 (a.toNat / b.toNat)), (.rem p i, 7, BitVec.ofInt 64 (a.toInt.tmod b.toInt)), (.remu p i, 8, BitVec.ofNat 64 (a.toNat % b.toNat))] ∧ s.dev.Runs p i (128 + e.2.1) x ∧ b ≠ 0 :=
  ⟨S (R (ins 1 1 2 3 5) { RakerS.init with g := [(3, 1)] } []), 255, 3, ins 1 1 2 3 5, _, _, _, _, rfl, rfl, rfl, List.mem_cons_self, by unfold Dev.Runs; decide +kernel, by decide +kernel⟩

set_option maxRecDepth 200000 in
theorem witness_ScalarIntegers_4_2 : ∃ (s : State) (p : Nat) (i : Nat) (x : Insn) (r : RakerS) (a : Word) (b : Word) (e : Instr × Nat × Word), r = (s.dev.rk p i).next x ∧ a = r.gr x.ra ∧ b = r.gr x.rb ∧ e ∈ [(.divI p i, 5, BitVec.ofInt 64 (a.toInt.tdiv b.toInt)), (.divu p i, 6, BitVec.ofNat 64 (a.toNat / b.toNat)), (.rem p i, 7, BitVec.ofInt 64 (a.toInt.tmod b.toInt)), (.remu p i, 8, BitVec.ofNat 64 (a.toNat % b.toNat))] ∧ s.dev.Runs p i (128 + e.2.1) x ∧ b = 0 :=
  ⟨S (R (ins 1 1 2 3 5) RakerS.init []), 255, 3, ins 1 1 2 3 5, _, _, _, _, rfl, rfl, rfl, List.mem_cons_self, by unfold Dev.Runs; decide +kernel, by decide +kernel⟩

set_option maxRecDepth 200000 in
theorem witness_ScalarIntegers_5 : ∃ (s : State) (p : Nat) (i : Nat) (x : Insn) (r : RakerS), r = (s.dev.rk p i).next x ∧ s.dev.Runs p i (6 * 128) x :=
  ⟨S (R (⟨6 * 2 ^ 22 + 2 ^ 17 + 2 ^ 11, true, 0⟩) RakerS.init []), 255, 3, ⟨6 * 2 ^ 22 + 2 ^ 17 + 2 ^ 11, true, 0⟩, _, rfl, by unfold Dev.Runs; decide +kernel⟩

set_option maxRecDepth 200000 in
theorem witness_ScalarControl_1_1 : ∃ (s : State) (p : Nat) (i : Nat) (x : Insn) (r : RakerS) (t : Nat), r = (s.dev.rk p i).next x ∧ t = ((((s.dev.rk p i).pc : Int) + x.value) % 2 ^ 48).toNat ∧ (s.dev.rk p i).pc < 2 ^ 48 ∧ s.dev.Runs p i (32 * 128) x :=
  ⟨S (R (ins 32 1 0 0 0) RakerS.init []), 255, 3, ins 32 1 0 0 0, _, _, rfl, rfl, by decide +kernel, by unfold Dev.Runs; decide +kernel⟩

set_option maxRecDepth 200000 in
theorem witness_ScalarControl_1_2 : ∃ (s : State) (p : Nat) (i : Nat) (x : Insn) (r : RakerS) (t : Nat), r = (s.dev.rk p i).next x ∧ t = ((((s.dev.rk p i).pc : Int) + x.value) % 2 ^ 48).toNat ∧ (s.dev.rk p i).pc < 2 ^ 48 ∧ s.dev.Runs p i (33 * 128) x :=
  ⟨S (R (ins 33 1 0 0 0) RakerS.init []), 255, 3, ins 33 1 0 0 0, _, _, rfl, rfl, by decide +kernel, by unfold Dev.Runs; decide +kernel⟩

set_option maxRecDepth 200000 in
theorem witness_ScalarControl_1_3 : ∃ (s : State) (p : Nat) (i : Nat) (x : Insn) (r : RakerS) (t : Nat), r = (s.dev.rk p i).next x ∧ t = ((((s.dev.rk p i).pc : Int) + x.value) % 2 ^ 48).toNat ∧ (s.dev.rk p i).pc < 2 ^ 48 ∧ s.dev.Runs p i (34 * 128) x :=
  ⟨S (R (ins 34 1 0 0 0) RakerS.init []), 255, 3, ins 34 1 0 0 0, _, _, rfl, rfl, by decide +kernel, by unfold Dev.Runs; decide +kernel⟩

set_option maxRecDepth 200000 in
theorem witness_ScalarControl_2_1 : ∃ (s : State) (p : Nat) (i : Nat) (x : Insn) (r : RakerS) (t : Nat), r = (s.dev.rk p i).next x ∧ t = getBits (r.gr x.ra) 0 48 ∧ s.dev.Runs p i (35 * 128) x ∧ t % 4 = 0 :=
  ⟨S (R (ins 35 0 2 0 0) RakerS.init []), 255, 3, ins 35 0 2 0 0, _, _, rfl, rfl, by unfold Dev.Runs; decide +kernel, by decide +kernel⟩

set_option maxRecDepth 200000 in
theorem witness_ScalarControl_2_2 : ∃ (s : State) (p : Nat) (i : Nat) (x : Insn) (r : RakerS) (t : Nat), r = (s.dev.rk p i).next x ∧ t = getBits (r.gr x.ra) 0 48 ∧ s.dev.Runs p i (35 * 128) x ∧ t % 4 ≠ 0 :=
  ⟨S (R (ins 35 0 2 0 0) { RakerS.init with g := [(2, 1)] } []), 255, 3, ins 35 0 2 0 0, _, _, rfl, rfl, by unfold Dev.Runs; decide +kernel, by decide +kernel⟩

set_option maxRecDepth 200000 in
theorem witness_ScalarControl_3 : ∃ (s : State) (p : Nat) (i : Nat) (x : Insn) (r : RakerS) (e : Instr × Nat × RakerS), r = (s.dev.rk p i).next x ∧ e ∈ [(.nop p i, 1, r), (.fenceS p i, 3, r), (.fenceL p i, 4, { r with lines := [] }), (.fenceSl p i, 5, { r with lines := [] }), (.swr p i, 9, r.writeSpecial x.rd (r.gr x.ra)), (.pmovg p i, 10, r.setP x.rd (BitVec.ofNat 16 (r.gr x.ra).toNat)), (.gmovp p i, 11, r.setG x.rd (BitVec.ofNat 64 (r.pr x.ra).toNat))] ∧ s.dev.Runs p i e.2.1 x :=
  ⟨S (R (ins 0 0 0 0 1) RakerS.init []), 255, 3, ins 0 0 0 0 1, _, _, rfl, List.mem_cons_self, by unfold Dev.Runs; decide +kernel⟩

set_option maxRecDepth 200000 in
theorem witness_ScalarControl_4 : ∃ (s : State) (p : Nat) (i : Nat) (x : Insn) (r : RakerS) (v : Word) (d : Dev), r = (s.dev.rk p i).next x ∧ s.dev.Runs p i 8 x ∧ s.dev.readSpecial r x.ra = (v, d) :=
  ⟨S (R (ins 0 1 0 0 8) RakerS.init []), 255, 3, ins 0 1 0 0 8, _, _, _, rfl, by unfold Dev.Runs; decide +kernel, rfl⟩

set_option maxRecDepth 200000 in
theorem witness_ScalarControl_5_1 : ∃ (s : State) (p : Nat) (i : Nat) (x : Insn) (r : RakerS) (d : Dev), r = (s.dev.rk p i).next x ∧ s.dev.Runs p i 2 x ∧ d = (s.dev.setRk p i { r with live := false }).checkRun p ∧ s.dev.on (Fld.PAN_STATE_STOP_PEND p) = false :=
  ⟨S (R (ins 0 0 0 0 2) RakerS.init []), 255, 3, ins 0 0 0 0 2, _, _, rfl, by unfold Dev.Runs; decide +kernel, rfl, by decide +kernel⟩

set_option maxRecDepth 200000 in
theorem witness_ScalarControl_5_2 : ∃ (s : State) (p : Nat) (i : Nat) (x : Insn) (r : RakerS) (d : Dev), r = (s.dev.rk p i).next x ∧ s.dev.Runs p i 2 x ∧ d = (s.dev.setRk p i { r with live := false }).checkRun p ∧ s.dev.on (Fld.PAN_STATE_STOP_PEND p) = true :=
  ⟨S (R (ins 0 0 0 0 2) RakerS.init [(Fld.PAN_STATE_STOP_PEND 255, 1)]), 255, 3, ins 0 0 0 0 2, _, _, rfl, by unfold Dev.Runs; decide +kernel, rfl, by decide +kernel⟩

theorem witness_ScalarControl_6_1 : ∃ (s : State) (p : Nat) (i : Nat) (x : Insn), (s.dev.rk p i).live = true ∧ s.dev.stopped = false ∧ s.dev.fetchInsn p (s.dev.rk p i).pc = some x ∧ x.legal = false :=
  ⟨S (R (ins 0 0 0 0 127) RakerS.init []), 255, 3, ins 0 0 0 0 127, by decide +kernel, by decide +kernel, by decide +kernel, by decide +kernel⟩

theorem witness_ScalarControl_6_2 : ∃ (s : State) (p : Nat) (i : Nat), (s.dev.rk p i).live = true ∧ s.dev.stopped = false ∧ s.dev.fetchInsn p (s.dev.rk p i).pc = none :=
  ⟨S { W [] with rakers := [(1023, { RakerS.init with live := true })] }, 255, 3, by decide +kernel, by decide +kernel, by decide +kernel⟩

theorem witness_ScalarControl_7 : ∃ (s : State) (p : Nat) (i : Nat) (key : Nat) (out : List Nat) (x : Insn) (c : Instr), ScalarRow p i out key c ∧ (s.dev.rk p i).live = true ∧ s.dev.stopped = false ∧ s.dev.fetchInsn p (s.dev.rk p i).pc = some x ∧ x.legal = true ∧ x.key = key ∧ x.major < 0x30 ∧ x.passes (s.dev.rk p i) = false :=
  ⟨S (R (⟨2 ^ 29 + 2 ^ 22, false, 0⟩) RakerS.init []), 255, 3, 128, [], ⟨2 ^ 29 + 2 ^ 22, false, 0⟩, Instr.addI 255 3, (by unfold ScalarRow; exact List.mem_cons_self), by decide +kernel, by decide +kernel, by decide +kernel, by decide +kernel, by decide +kernel, by decide +kernel, by decide +kernel⟩

set_option maxRecDepth 200000 in
theorem witness_ScalarMemory_1 : ∃ (s : State) (p : Nat) (i : Nat) (w : Nat) (n : Nat) (a : Nat) (m : Nat) (x : Insn) (r : RakerS) (d : Dev), r = (s.dev.rk p i).next x ∧ s.dev.Runs p i (16 * 128) x ∧ w = bitsOf x.w 8 3 ∧ n = accessBytes w ∧ a = x.ea r n ∧ a % n = 0 ∧ inControl a = false ∧ s.dev.panXlate p a n 0 2 p = (.mem m, d) ∧ bitsOf x.w 7 1 = 1 ∧ d.poisoned m n = false :=
  ⟨S (R (ins 16 1 2 1 0) { RakerS.init with g := [(2, 0xFFFFFFC01000)] } []), 255, 3, 0, 1, 0xFFFFFFC01000, 279707652096, ins 16 1 2 1 0, _, R (ins 16 1 2 1 0) { RakerS.init with g := [(2, 0xFFFFFFC01000)] } [], rfl, by unfold Dev.Runs; decide +kernel, by decide +kernel, by decide +kernel, by decide +kernel, by decide +kernel, by decide +kernel, by decide +kernel, by decide +kernel, by decide +kernel⟩

set_option maxRecDepth 200000 in
theorem witness_ScalarMemory_2 : ∃ (s : State) (p : Nat) (i : Nat) (n : Nat) (a : Nat) (m : Nat) (x : Insn) (r : RakerS) (d : Dev), r = (s.dev.rk p i).next x ∧ s.dev.Runs p i (17 * 128) x ∧ n = accessBytes (bitsOf x.w 8 3) ∧ a = x.ea r n ∧ a % n = 0 ∧ inControl a = false ∧ s.dev.panXlate p a n 1 2 p = (.mem m, d) :=
  ⟨S (R (ins 17 1 2 0 0) { RakerS.init with g := [(2, 0xFFFFFFC01000)] } []), 255, 3, 1, 0xFFFFFFC01000, 279707652096, ins 17 1 2 0 0, _, R (ins 17 1 2 0 0) { RakerS.init with g := [(2, 0xFFFFFFC01000)] } [], rfl, by unfold Dev.Runs; decide +kernel, by decide +kernel, by decide +kernel, by decide +kernel, by decide +kernel, by decide +kernel⟩

set_option maxRecDepth 200000 in
theorem witness_ScalarMemory_3 : ∃ (s : State) (p : Nat) (i : Nat) (a : Nat) (m : Nat) (out : List Nat) (x : Insn) (r : RakerS) (d : Dev) (old : Word) (e : Instr × Nat × Word), r = (s.dev.rk p i).next x ∧ a = getBits (r.gr x.ra) 0 48 ∧ a % 8 = 0 ∧ s.dev.panXlate p a 8 2 2 p = (.mem m, d) ∧ d.poisoned m 8 = false ∧ old = BitVec.ofNat 64 (ofLe (d.bytes m 8)) ∧ e ∈ [(.aadd p i out, 0, old + r.gr x.rb), (.aswap p i out, 1, r.gr x.rb)] ∧ s.dev.Runs p i (18 * 128 + e.2.1) x :=
  ⟨S (R (ins 18 1 2 3 0) { RakerS.init with g := [(2, 0xFFFFFFC01000)] } []), 255, 3, 0xFFFFFFC01000, 279707652096, [], ins 18 1 2 3 0, _, R (ins 18 1 2 3 0) { RakerS.init with g := [(2, 0xFFFFFFC01000)] } [], 0, (Instr.aadd 255 3 [], 0, 0), rfl, by decide +kernel, by decide +kernel, by decide +kernel, by decide +kernel, by decide +kernel, (List.mem_cons.2 (Or.inl (by decide +kernel))), by unfold Dev.Runs; decide +kernel⟩

set_option maxRecDepth 200000 in
theorem witness_ScalarMemory_4 : ∃ (s : State) (p : Nat) (i : Nat) (a : Nat) (m : Nat) (x : Insn) (r : RakerS) (d : Dev) (old : Word), r = (s.dev.rk p i).next x ∧ a = getBits (r.gr x.ra) 0 48 ∧ a % 8 = 0 ∧ s.dev.panXlate p a 8 2 2 p = (.mem m, d) ∧ d.poisoned m 8 = false ∧ old = BitVec.ofNat 64 (ofLe (d.bytes m 8)) ∧ s.dev.Runs p i (18 * 128 + 2) x :=
  ⟨S (R (ins 18 1 2 3 2) { RakerS.init with g := [(2, 0xFFFFFFC01000)] } []), 255, 3, 0xFFFFFFC01000, 279707652096, ins 18 1 2 3 2, _, R (ins 18 1 2 3 2) { RakerS.init with g := [(2, 0xFFFFFFC01000)] } [], 0, rfl, by decide +kernel, by decide +kernel, by decide +kernel, by decide +kernel, by decide +kernel, by unfold Dev.Runs; decide +kernel⟩

set_option maxRecDepth 200000 in
theorem witness_ScalarMemory_5_1 : ∃ (s : State) (p : Nat) (i : Nat) (n : Nat) (a : Nat) (x : Insn) (r : RakerS), r = (s.dev.rk p i).next x ∧ n = accessBytes (bitsOf x.w 8 3) ∧ a = x.ea r n ∧ a % n ≠ 0 ∧ s.dev.Runs p i (16 * 128) x :=
  ⟨S (R (ins 16 1 2 6 0) { RakerS.init with g := [(2, 0xFFFFFFC01001)] } []), 255, 3, _, _, ins 16 1 2 6 0, _, rfl, rfl, rfl, by decide +kernel, by unfold Dev.Runs; decide +kernel⟩

set_option maxRecDepth 200000 in
theorem witness_ScalarMemory_5_2 : ∃ (s : State) (p : Nat) (i : Nat) (n : Nat) (a : Nat) (x : Insn) (r : RakerS), r = (s.dev.rk p i).next x ∧ n = accessBytes (bitsOf x.w 8 3) ∧ a = x.ea r n ∧ a % n ≠ 0 ∧ s.dev.Runs p i (17 * 128) x :=
  ⟨S (R (ins 17 1 2 6 0) { RakerS.init with g := [(2, 0xFFFFFFC01001)] } []), 255, 3, _, _, ins 17 1 2 6 0, _, rfl, rfl, rfl, by decide +kernel, by unfold Dev.Runs; decide +kernel⟩

set_option maxRecDepth 200000 in
theorem witness_ScalarFloats_1_1 : ∃ (s : State) (p : Nat) (i : Nat) (x : Insn) (r : RakerS) (r1 : RakerS) (a : Nat) (b : Nat) (c : Nat) (f : FFmt) (e : Instr × Nat × Nat × Nat), r = (s.dev.rk p i).next x ∧ a = r.fp x x.ra ∧ b = r.fp x x.rb ∧ c = r.fp x x.rd ∧ f = x.ffmt ∧ e ∈ [(.fadd p i, 0, floatOp f 0 r.mode a b), (.fsub p i, 1, floatOp f 1 r.mode a b), (.fmul p i, 2, floatOp f 2 r.mode a b), (.fdiv p i, 3, floatOp f 3 r.mode a b), (.fsqrt p i, 4, floatSqrt f r.mode a), (.fmin p i, 5, floatOp f 5 r.mode a b), (.fmax p i, 6, floatOp f 6 r.mode a b), (.fma p i, 7, floatFma f r.mode a b c), (.fceq p i, 8, if (numTest 0 (decodeF f a) (decodeF f b)).1 then 1 else 0, (numTest 0 (decodeF f a) (decodeF f b)).2), (.fclt p i, 9, if (numTest 2 (decodeF f a) (decodeF f b)).1 then 1 else 0, (numTest 2 (decodeF f a) (decodeF f b)).2), (.fcle p i, 10, if (numTest 3 (decodeF f a) (decodeF f b)).1 then 1 else 0, (numTest 3 (decodeF f a) (decodeF f b)).2), (.fcvt p i, 11, encodeF f r.mode 0 (decodeF (ffmt (x.rb % 8)) (bitsOf (r.gr x.ra).toNat 0 (fmtBits (x.rb % 8))))), (.ftoi p i, 12, encodeI 64 true false r.mode 0 (decodeF f a)), (.itof p i, 13, encodeF f r.mode 0 (.fin (decide ((r.gr x.ra).toInt < 0)) (r.gr x.ra).toInt.natAbs 1 0)), (.fclass p i, 14, floatClass f a, 0)] ∧ s.dev.Runs p i (24 * 128 + e.2.1) x ∧ r.raise e.2.2.2 = .ok r1 :=
  ⟨S (R (ins 24 1 2 3 0) RakerS.init []), 255, 3, ins 24 1 2 3 0, _, _, _, _, _, _, _, rfl, rfl, rfl, rfl, rfl, List.mem_cons_self, by unfold Dev.Runs; decide +kernel, rfl⟩

set_option maxRecDepth 200000 in
theorem witness_ScalarFloats_1_2 : ∃ (s : State) (p : Nat) (i : Nat) (x : Insn) (r : RakerS) (a : Nat) (b : Nat) (c : Nat) (f : FFmt) (e : Instr × Nat × Nat × Nat) (k : _), r = (s.dev.rk p i).next x ∧ a = r.fp x x.ra ∧ b = r.fp x x.rb ∧ c = r.fp x x.rd ∧ f = x.ffmt ∧ e ∈ [(.fadd p i, 0, floatOp f 0 r.mode a b), (.fsub p i, 1, floatOp f 1 r.mode a b), (.fmul p i, 2, floatOp f 2 r.mode a b), (.fdiv p i, 3, floatOp f 3 r.mode a b), (.fsqrt p i, 4, floatSqrt f r.mode a), (.fmin p i, 5, floatOp f 5 r.mode a b), (.fmax p i, 6, floatOp f 6 r.mode a b), (.fma p i, 7, floatFma f r.mode a b c), (.fceq p i, 8, if (numTest 0 (decodeF f a) (decodeF f b)).1 then 1 else 0, (numTest 0 (decodeF f a) (decodeF f b)).2), (.fclt p i, 9, if (numTest 2 (decodeF f a) (decodeF f b)).1 then 1 else 0, (numTest 2 (decodeF f a) (decodeF f b)).2), (.fcle p i, 10, if (numTest 3 (decodeF f a) (decodeF f b)).1 then 1 else 0, (numTest 3 (decodeF f a) (decodeF f b)).2), (.fcvt p i, 11, encodeF f r.mode 0 (decodeF (ffmt (x.rb % 8)) (bitsOf (r.gr x.ra).toNat 0 (fmtBits (x.rb % 8))))), (.ftoi p i, 12, encodeI 64 true false r.mode 0 (decodeF f a)), (.itof p i, 13, encodeF f r.mode 0 (.fin (decide ((r.gr x.ra).toInt < 0)) (r.gr x.ra).toInt.natAbs 1 0)), (.fclass p i, 14, floatClass f a, 0)] ∧ s.dev.Runs p i (24 * 128 + e.2.1) x ∧ r.raise e.2.2.2 = .error k :=
  ⟨S (R (ins 24 1 2 3 0) { RakerS.init with g := [(2, 0x7FF0000000000000), (3, 0xFFF0000000000000)], round := 0x1F0 } []), 255, 3, ins 24 1 2 3 0, _, _, _, _, _, _, _, rfl, rfl, rfl, rfl, rfl, List.mem_cons_self, by unfold Dev.Runs; decide +kernel, rfl⟩

set_option maxRecDepth 200000 in
theorem witness_ScalarDecimals_1_1 : ∃ (s : State) (p : Nat) (i : Nat) (x : Insn) (r : RakerS) (a : Int) (b : Int) (e : Instr × Nat × Except Exc Word) (v : _), r = (s.dev.rk p i).next x ∧ r.p15 x.ra 0 = .ok a ∧ r.p15 x.rb 1 = .ok b ∧ e ∈ [(.dadd p i, 0, encP15 (a + b)), (.dsub p i, 1, encP15 (a - b)), (.dcmp p i, 3, .ok (BitVec.ofInt 64 (if a < b then -1 else if a = b then 0 else 1)))] ∧ s.dev.Runs p i (40 * 128 + e.2.1) x ∧ e.2.2 = .ok v :=
  ⟨S (R (ins 40 1 2 3 0) { RakerS.init with g := [(2, 0xC), (3, 0xC)] } []), 255, 3, ins 40 1 2 3 0, _, _, _, _, _, rfl, rfl, rfl, List.mem_cons_self, by unfold Dev.Runs; decide +kernel, rfl⟩

set_option maxRecDepth 200000 in
theorem witness_ScalarDecimals_1_2 : ∃ (s : State) (p : Nat) (i : Nat) (x : Insn) (r : RakerS) (a : Int) (b : Int) (e : Instr × Nat × Except Exc Word) (k : _), r = (s.dev.rk p i).next x ∧ r.p15 x.ra 0 = .ok a ∧ r.p15 x.rb 1 = .ok b ∧ e ∈ [(.dadd p i, 0, encP15 (a + b)), (.dsub p i, 1, encP15 (a - b)), (.dcmp p i, 3, .ok (BitVec.ofInt 64 (if a < b then -1 else if a = b then 0 else 1)))] ∧ s.dev.Runs p i (40 * 128 + e.2.1) x ∧ e.2.2 = .error k :=
  ⟨S (R (ins 40 1 2 3 0) { RakerS.init with g := [(2, 0x999999999999999C), (3, 0x999999999999999C)] } []), 255, 3, ins 40 1 2 3 0, _, _, _, _, _, rfl, rfl, rfl, List.mem_cons_self, by unfold Dev.Runs; decide +kernel, rfl⟩

set_option maxRecDepth 200000 in
theorem witness_ScalarDecimals_2 : ∃ (s : State) (p : Nat) (i : Nat) (x : Insn) (r : RakerS) (a : Int) (b : Int) (sg : Nat), r = (s.dev.rk p i).next x ∧ r.p15 x.ra 0 = .ok a ∧ r.p15 x.rb 1 = .ok b ∧ s.dev.Runs p i (40 * 128 + 2) x ∧ sg = (if a * b < 0 then 0xD else 0xC) :=
  ⟨S (R (ins 40 2 4 6 2) { RakerS.init with g := [(4, 0x2C), (6, 0x3D)] } []), 255, 3, ins 40 2 4 6 2, _, 2, -3, 0xD, rfl, by decide +kernel, by decide +kernel, by unfold Dev.Runs; decide +kernel, by decide +kernel⟩

set_option maxRecDepth 200000 in
theorem witness_ScalarDecimals_3_1 : ∃ (s : State) (p : Nat) (i : Nat) (x : Insn) (r : RakerS) (a : Int) (e : Instr × Nat × Except Exc Word) (v : _), r = (s.dev.rk p i).next x ∧ r.p15 x.ra 0 = .ok a ∧ e ∈ [(.dshl p i, 4, encP15 (a * 10 ^ x.rb)), (.dtob p i, 9, .ok (BitVec.ofInt 64 a))] ∧ s.dev.Runs p i (40 * 128 + e.2.1) x ∧ e.2.2 = .ok v :=
  ⟨S (R (ins 40 1 2 0 4) { RakerS.init with g := [(2, 0xC), (3, 0xC)] } []), 255, 3, ins 40 1 2 0 4, _, _, _, _, rfl, rfl, List.mem_cons_self, by unfold Dev.Runs; decide +kernel, rfl⟩

set_option maxRecDepth 200000 in
theorem witness_ScalarDecimals_3_2 : ∃ (s : State) (p : Nat) (i : Nat) (x : Insn) (r : RakerS) (a : Int) (e : Instr × Nat × Except Exc Word) (k : _), r = (s.dev.rk p i).next x ∧ r.p15 x.ra 0 = .ok a ∧ e ∈ [(.dshl p i, 4, encP15 (a * 10 ^ x.rb)), (.dtob p i, 9, .ok (BitVec.ofInt 64 a))] ∧ s.dev.Runs p i (40 * 128 + e.2.1) x ∧ e.2.2 = .error k :=
  ⟨S (R (ins 40 1 2 1 4) { RakerS.init with g := [(2, 0x999999999999999C), (3, 0x999999999999999C)] } []), 255, 3, ins 40 1 2 1 4, _, _, _, _, rfl, rfl, List.mem_cons_self, by unfold Dev.Runs; decide +kernel, rfl⟩

set_option maxRecDepth 200000 in
theorem witness_ScalarDecimals_4 : ∃ (s : State) (p : Nat) (i : Nat) (x : Insn) (r : RakerS) (a : Int) (q : Int) (ix : Bool) (w : Word) (e : Instr × Nat × Nat), r = (s.dev.rk p i).next x ∧ decimalPair x r = .ok a ∧ e ∈ [(.dshr p i, 5, 1), (.drnd p i, 6, r.mode)] ∧ decShift e.2.2 a x.rb = (q, ix) ∧ encP15 q = .ok w ∧ s.dev.Runs p i (40 * 128 + e.2.1) x :=
  ⟨S (R (ins 40 1 2 1 5) { RakerS.init with g := [(2, 0x999999999999999C), (3, 0x999999999999999C)] } []), 255, 3, ins 40 1 2 1 5, _, _, _, _, _, _, rfl, rfl, List.mem_cons_self, rfl, rfl, by unfold Dev.Runs; decide +kernel⟩

set_option maxRecDepth 200000 in
theorem witness_ScalarDecimals_5_1 : ∃ (s : State) (p : Nat) (i : Nat) (x : Insn) (r : RakerS) (a : Int) (w : Word), r = (s.dev.rk p i).next x ∧ r.p15 x.ra 0 = .ok a ∧ s.dev.Runs p i (40 * 128 + 7) x ∧ x.rb = 0 ∧ encP15 a = .ok w :=
  ⟨S (R (ins 40 1 2 0 7) { RakerS.init with g := [(2, 0x999999999999999C), (3, 0x999999999999999C)] } []), 255, 3, ins 40 1 2 0 7, _, _, _, rfl, rfl, by unfold Dev.Runs; decide +kernel, by decide +kernel, rfl⟩

set_option maxRecDepth 200000 in
theorem witness_ScalarDecimals_5_2 : ∃ (s : State) (p : Nat) (i : Nat) (x : Insn) (r : RakerS) (a : Int) (w : Word), r = (s.dev.rk p i).next x ∧ r.p15 x.ra 0 = .ok a ∧ s.dev.Runs p i (40 * 128 + 7) x ∧ x.rb = 1 ∧ encP15 a.natAbs = .ok w :=
  ⟨S (R (ins 40 1 2 1 7) { RakerS.init with g := [(2, 0x999999999999999C), (3, 0x999999999999999C)] } []), 255, 3, ins 40 1 2 1 7, _, _, _, rfl, rfl, by unfold Dev.Runs; decide +kernel, by decide +kernel, rfl⟩

set_option maxRecDepth 200000 in
theorem witness_ScalarDecimals_5_3 : ∃ (s : State) (p : Nat) (i : Nat) (x : Insn) (r : RakerS) (a : Int) (w : Word), r = (s.dev.rk p i).next x ∧ r.p15 x.ra 0 = .ok a ∧ s.dev.Runs p i (40 * 128 + 7) x ∧ x.rb = 2 ∧ encP15 (-a) = .ok w :=
  ⟨S (R (ins 40 1 2 2 7) { RakerS.init with g := [(2, 0x999999999999999C), (3, 0x999999999999999C)] } []), 255, 3, ins 40 1 2 2 7, _, _, _, rfl, rfl, by unfold Dev.Runs; decide +kernel, by decide +kernel, rfl⟩

set_option maxRecDepth 200000 in
theorem witness_ScalarDecimals_5_4 : ∃ (s : State) (p : Nat) (i : Nat) (x : Insn) (r : RakerS) (a : Int) (w : Word), r = (s.dev.rk p i).next x ∧ r.p15 x.ra 0 = .ok a ∧ s.dev.Runs p i (40 * 128 + 7) x ∧ 3 ≤ x.rb ∧ encP15 a.natAbs = .ok w :=
  ⟨S (R (ins 40 1 2 3 7) { RakerS.init with g := [(2, 0x999999999999999C), (3, 0x999999999999999C)] } []), 255, 3, ins 40 1 2 3 7, _, _, _, rfl, rfl, by unfold Dev.Runs; decide +kernel, by decide +kernel, rfl⟩

set_option maxRecDepth 200000 in
theorem witness_ScalarDecimals_6_1 : ∃ (s : State) (p : Nat) (i : Nat) (x : Insn) (r : RakerS), r = (s.dev.rk p i).next x ∧ s.dev.Runs p i (40 * 128 + 8) x :=
  ⟨S (R (ins 40 1 2 0 8) RakerS.init []), 255, 3, ins 40 1 2 0 8, _, rfl, by unfold Dev.Runs; decide +kernel⟩

set_option maxRecDepth 200000 in
theorem witness_ScalarDecimals_6_2 : ∃ (s : State) (p : Nat) (i : Nat) (x : Insn) (r : RakerS) (w : _), r = (s.dev.rk p i).next x ∧ s.dev.Runs p i (40 * 128 + 10) x ∧ encP15 (r.gr x.ra).toInt = .ok w :=
  ⟨S (R (ins 40 1 2 0 10) RakerS.init []), 255, 3, ins 40 1 2 0 10, _, _, rfl, by unfold Dev.Runs; decide +kernel, rfl⟩

set_option maxRecDepth 200000 in
theorem witness_ScalarDecimals_7 : ∃ (s : State) (p : Nat) (i : Nat) (k : Nat) (x : Insn) (r : RakerS) (e : Instr × Nat), r = (s.dev.rk p i).next x ∧ decVal 16 (r.gr x.ra).toNat = .error k ∧ e ∈ [(.dadd p i, 0), (.dsub p i, 1), (.dmuld p i, 2), (.dcmp p i, 3), (.dshl p i, 4), (.dadj p i, 7), (.dtob p i, 9)] ∧ s.dev.Runs p i (40 * 128 + e.2) x :=
  ⟨S (R (ins 40 1 2 0 0) RakerS.init []), 255, 3, _, ins 40 1 2 0 0, _, _, rfl, rfl, List.mem_cons_self, by unfold Dev.Runs; decide +kernel⟩

set_option maxRecDepth 200000 in
theorem witness_VectorIntegers_1 : ∃ (s : State) (p : Nat) (i : Nat) (x : Insn) (r : RakerS) (op : Nat) (c : Instr), r = (s.dev.rk p i).next x ∧ (op, c) ∈ [(0, .vadd p i), (1, .vsub p i), (2, .vmul p i), (3, .vmulh p i), (4, .vmulhu p i), (5, .vadds p i), (6, .vaddsu p i), (7, .vsubs p i), (8, .vsubsu p i), (9, .vmin p i), (10, .vmax p i), (11, .vminu p i), (12, .vmaxu p i), (13, .vand p i), (14, .vor p i), (15, .vxor p i), (16, .vandn p i), (17, .vshl p i), (18, .vshr p i), (19, .vsar p i), (20, .vpopc p i), (21, .vabs p i), (22, .vbswap p i)] ∧ s.dev.Runs p i (0x30 * 128 + op) x :=
  ⟨S (R (ins 176 1 2 3 0) { RakerS.init with p := [(1, 1)] } []), 255, 3, ins 176 1 2 3 0, _, _, _, rfl, List.mem_cons_self, by unfold Dev.Runs; decide +kernel⟩

set_option maxRecDepth 200000 in
theorem witness_VectorIntegers_2 : ∃ (s : State) (p : Nat) (i : Nat) (x : Insn) (r : RakerS) (a : BitVec 16) (b : BitVec 16) (e : Instr × Nat × BitVec 16), r = (s.dev.rk p i).next x ∧ a = r.pr x.ra ∧ b = r.pr x.rb ∧ e ∈ [(.pand p i, 0, a &&& b), (.por p i, 1, a ||| b), (.pxor p i, 2, a ^^^ b), (.pandn p i, 3, a &&& ~~~b), (.pnot p i, 4, ~~~a), (.pbelow p i, 5, if a = 0 then 0xFFFF else (a - 1) &&& ~~~a), (.pthru p i, 6, if a = 0 then 0xFFFF else a ^^^ (a - 1)), (.pspan p i, 7, if 16 ≤ (r.gr x.rb).toNat - (r.gr x.ra).toNat then 0xFFFF else BitVec.ofNat 16 (2 ^ ((r.gr x.rb).toNat - (r.gr x.ra).toNat) - 1))] ∧ s.dev.Runs p i (0x38 * 128 + e.2.1) x :=
  ⟨S (R (ins 184 1 2 3 0) { RakerS.init with p := [(1, 1)] } []), 255, 3, ins 184 1 2 3 0, _, _, _, _, rfl, rfl, rfl, List.mem_cons_self, by unfold Dev.Runs; decide +kernel⟩

set_option maxRecDepth 200000 in
theorem witness_VectorFloats_1_1 : ∃ (s : State) (p : Nat) (i : Nat) (E : Nat) (x : Insn) (r : RakerS) (r1 : RakerS) (f : FFmt) (a : Nat → Nat) (b : Nat → Nat) (c : Nat → Nat) (e : Instr × Nat × (Nat → Nat × Nat)), r = (s.dev.rk p i).next x ∧ E = vfBits (bitsOf x.w 0 2) ∧ f = vlayout (bitsOf x.w 0 2) ∧ a = velem (r.vr x.ra) E ∧ b = velem (r.vr x.rb) E ∧ c = velem (r.vr x.rd) E ∧ e ∈ [(.vfadd p i, 0, fun j => floatOp f 0 r.mode (a j) (b j)), (.vfsub p i, 1, fun j => floatOp f 1 r.mode (a j) (b j)), (.vfmul p i, 2, fun j => floatOp f 2 r.mode (a j) (b j)), (.vfdiv p i, 3, fun j => floatOp f 3 r.mode (a j) (b j)), (.vfsqrt p i, 4, fun j => floatSqrt f r.mode (a j)), (.vfmin p i, 5, fun j => floatOp f 5 r.mode (a j) (b j)), (.vfmax p i, 6, fun j => floatOp f 6 r.mode (a j) (b j)), (.vfma p i, 7, fun j => floatFma f r.mode (a j) (b j) (c j)), (.vfabs p i, 8, fun j => (a j % 2 ^ (f.e + f.m), 0)), (.vfneg p i, 9, fun j => (if a j / 2 ^ (f.e + f.m) = 1 then a j - 2 ^ (f.e + f.m) else a j + 2 ^ (f.e + f.m), 0))] ∧ s.dev.Runs p i (0x31 * 128 + e.2.1) x ∧ raiseAll r (actives (x.mask r) (512 / E)) (fun j => (e.2.2 j).2) = .ok r1 :=
  ⟨S (R (ins 49 1 2 3 0) { RakerS.init with p := [(1, 1)] } []), 255, 3, _, ins 49 1 2 3 0, _, (((R (ins 49 1 2 3 0) { RakerS.init with p := [(1, 1)] } []).rk 255 3).next (ins 49 1 2 3 0)), _, _, _, _, _, rfl, rfl, rfl, rfl, rfl, rfl, List.mem_cons_self, by unfold Dev.Runs; decide +kernel, by decide +kernel⟩

set_option maxRecDepth 200000 in
theorem witness_VectorFloats_1_2 : ∃ (s : State) (p : Nat) (i : Nat) (E : Nat) (x : Insn) (r : RakerS) (f : FFmt) (a : Nat → Nat) (b : Nat → Nat) (c : Nat → Nat) (e : Instr × Nat × (Nat → Nat × Nat)) (k : _), r = (s.dev.rk p i).next x ∧ E = vfBits (bitsOf x.w 0 2) ∧ f = vlayout (bitsOf x.w 0 2) ∧ a = velem (r.vr x.ra) E ∧ b = velem (r.vr x.rb) E ∧ c = velem (r.vr x.rd) E ∧ e ∈ [(.vfadd p i, 0, fun j => floatOp f 0 r.mode (a j) (b j)), (.vfsub p i, 1, fun j => floatOp f 1 r.mode (a j) (b j)), (.vfmul p i, 2, fun j => floatOp f 2 r.mode (a j) (b j)), (.vfdiv p i, 3, fun j => floatOp f 3 r.mode (a j) (b j)), (.vfsqrt p i, 4, fun j => floatSqrt f r.mode (a j)), (.vfmin p i, 5, fun j => floatOp f 5 r.mode (a j) (b j)), (.vfmax p i, 6, fun j => floatOp f 6 r.mode (a j) (b j)), (.vfma p i, 7, fun j => floatFma f r.mode (a j) (b j) (c j)), (.vfabs p i, 8, fun j => (a j % 2 ^ (f.e + f.m), 0)), (.vfneg p i, 9, fun j => (if a j / 2 ^ (f.e + f.m) = 1 then a j - 2 ^ (f.e + f.m) else a j + 2 ^ (f.e + f.m), 0))] ∧ s.dev.Runs p i (0x31 * 128 + e.2.1) x ∧ raiseAll r (actives (x.mask r) (512 / E)) (fun j => (e.2.2 j).2) = .error k :=
  ⟨S (R (ins 49 1 2 3 0) { RakerS.init with p := [(1, 1)], v := [(2, 0x7F800000), (3, 0xFF800000)], round := 0x1F0 } []), 255, 3, _, ins 49 1 2 3 0, _, _, _, _, _, _, { code := 0x11, flane := some 0 }, rfl, rfl, rfl, rfl, rfl, rfl, List.mem_cons_self, by unfold Dev.Runs; decide +kernel, by decide +kernel⟩

set_option maxRecDepth 200000 in
theorem witness_VectorFloats_2_1 : ∃ (s : State) (p : Nat) (i : Nat) (E : Nat) (x : Insn) (r : RakerS) (f : FFmt) (l : List Nat), r = (s.dev.rk p i).next x ∧ s.dev.Runs p i (0x31 * 128 + 10) x ∧ E = vfBits (bitsOf x.w 0 2) ∧ f = vlayout (bitsOf x.w 0 2) ∧ l = (actives (x.mask r) (512 / E)).map (fun j => velem (r.vr x.ra) E j) ∧ l = [] :=
  ⟨S (R (ins 177 1 2 0 40) RakerS.init []), 255, 3, _, ins 177 1 2 0 40, _, _, _, rfl, by unfold Dev.Runs; decide +kernel, rfl, rfl, rfl, by decide +kernel⟩

set_option maxRecDepth 200000 in
theorem witness_VectorFloats_2_2 : ∃ (s : State) (p : Nat) (i : Nat) (E : Nat) (x : Insn) (r : RakerS) (f : FFmt) (l : List Nat), r = (s.dev.rk p i).next x ∧ s.dev.Runs p i (0x31 * 128 + 10) x ∧ E = vfBits (bitsOf x.w 0 2) ∧ f = vlayout (bitsOf x.w 0 2) ∧ l = (actives (x.mask r) (512 / E)).map (fun j => velem (r.vr x.ra) E j) ∧ l ≠ [] ∧ l.any (fun a => (decodeF f a).isNan) = true :=
  ⟨S (R (ins 177 1 2 0 40) { RakerS.init with p := [(1, 1)], v := [(2, 0x7FC00000)] } []), 255, 3, _, ins 177 1 2 0 40, _, _, _, rfl, by unfold Dev.Runs; decide +kernel, rfl, rfl, rfl, by decide +kernel, by decide +kernel⟩

set_option maxRecDepth 200000 in
theorem witness_VectorFloats_2_3 : ∃ (s : State) (p : Nat) (i : Nat) (E : Nat) (x : Insn) (r : RakerS) (f : FFmt) (l : List Nat), r = (s.dev.rk p i).next x ∧ s.dev.Runs p i (0x31 * 128 + 10) x ∧ E = vfBits (bitsOf x.w 0 2) ∧ f = vlayout (bitsOf x.w 0 2) ∧ l = (actives (x.mask r) (512 / E)).map (fun j => velem (r.vr x.ra) E j) ∧ l ≠ [] ∧ l.any (fun a => (decodeF f a).isNan) = false :=
  ⟨S (R (ins 177 1 2 0 40) { RakerS.init with p := [(1, 1)], v := [(2, 0xC0000000)] } []), 255, 3, _, ins 177 1 2 0 40, _, _, _, rfl, by unfold Dev.Runs; decide +kernel, rfl, rfl, rfl, by decide +kernel, by decide +kernel⟩

set_option maxRecDepth 200000 in
theorem witness_VectorFloats_3_1 : ∃ (s : State) (p : Nat) (i : Nat) (x : Insn) (r : RakerS), r = (s.dev.rk p i).next x ∧ x.mask r = 0 ∧ s.dev.Runs p i (0x32 * 128) x :=
  ⟨S (R (ins 178 1 2 3 0) RakerS.init []), 255, 3, ins 178 1 2 3 0, _, rfl, by decide +kernel, by unfold Dev.Runs; decide +kernel⟩

set_option maxRecDepth 200000 in
theorem witness_VectorFloats_3_2 : ∃ (s : State) (p : Nat) (i : Nat) (x : Insn) (r : RakerS), r = (s.dev.rk p i).next x ∧ x.mask r = 0 ∧ s.dev.Runs p i (0x37 * 128) x :=
  ⟨S (R (ins 183 1 2 3 0) RakerS.init []), 255, 3, ins 183 1 2 3 0, _, rfl, by decide +kernel, by unfold Dev.Runs; decide +kernel⟩

set_option maxRecDepth 200000 in
theorem witness_VectorFloats_3_3 : ∃ (s : State) (p : Nat) (i : Nat) (x : Insn) (r : RakerS) (r1 : RakerS) (ts : List Nat), r = (s.dev.rk p i).next x ∧ x.mask r ≠ 0 ∧ compareAll x r = .ok (r1, ts) ∧ s.dev.Runs p i (0x32 * 128) x ∧ x.rd / 8 = 0 :=
  ⟨S (R (ins 178 1 2 3 0) { RakerS.init with p := [(1, 1)] } []), 255, 3, ins 178 1 2 3 0, _, (((R (ins 178 1 2 3 0) { RakerS.init with p := [(1, 1)] } []).rk 255 3).next (ins 178 1 2 3 0)), [0], rfl, by decide +kernel, by decide +kernel, by unfold Dev.Runs; decide +kernel, by decide +kernel⟩

set_option maxRecDepth 200000 in
theorem witness_VectorFloats_3_4 : ∃ (s : State) (p : Nat) (i : Nat) (x : Insn) (r : RakerS) (r1 : RakerS) (ts : List Nat), r = (s.dev.rk p i).next x ∧ x.mask r ≠ 0 ∧ compareAll x r = .ok (r1, ts) ∧ s.dev.Runs p i (0x32 * 128) x ∧ x.rd / 8 ≠ 0 :=
  ⟨S (R (ins 178 9 2 3 1) { RakerS.init with p := [(1, 1)] } []), 255, 3, ins 178 9 2 3 1, _, (((R (ins 178 9 2 3 1) { RakerS.init with p := [(1, 1)] } []).rk 255 3).next (ins 178 9 2 3 1)), [0, 1], rfl, by decide +kernel, by decide +kernel, by unfold Dev.Runs; decide +kernel, by decide +kernel⟩

set_option maxRecDepth 200000 in
theorem witness_VectorFloats_3_5 : ∃ (s : State) (p : Nat) (i : Nat) (x : Insn) (r : RakerS) (r1 : RakerS) (ts : List Nat), r = (s.dev.rk p i).next x ∧ x.mask r ≠ 0 ∧ compareAll x r = .ok (r1, ts) ∧ s.dev.Runs p i (0x37 * 128) x :=
  ⟨S (R (ins 183 1 2 3 8) { RakerS.init with p := [(1, 1)] } []), 255, 3, ins 183 1 2 3 8, _, (((R (ins 183 1 2 3 8) { RakerS.init with p := [(1, 1)] } []).rk 255 3).next (ins 183 1 2 3 8)), [0], rfl, by decide +kernel, by decide +kernel, by unfold Dev.Runs; decide +kernel⟩

set_option maxRecDepth 200000 in
theorem witness_VectorConversions_1_1 : ∃ (s : State) (p : Nat) (i : Nat) (x : Insn) (r : RakerS) (l : List (Nat × Nat)) (e : Instr × Nat × Bool), r = (s.dev.rk p i).next x ∧ e ∈ [(.vdadd p i, 0, false), (.vdsub p i, 1, true)] ∧ s.dev.Runs p i (0x33 * 128 + e.2.1) x ∧ p31Sums e.2.2 r x (actives (x.mask r) 4) = .ok l :=
  ⟨S (R (ins 179 1 2 3 0) { RakerS.init with p := [(1, 0x000F)], v := [(2, 0x2C), (3, 0x3D)] } []), 255, 3, ins 179 1 2 3 0, _, [(0, 0x1D)], _, rfl, List.mem_cons_self, by unfold Dev.Runs; decide +kernel, by decide +kernel⟩

set_option maxRecDepth 200000 in
theorem witness_VectorConversions_1_2 : ∃ (s : State) (p : Nat) (i : Nat) (x : Insn) (r : RakerS) (e : Instr × Nat × Bool) (k : _), r = (s.dev.rk p i).next x ∧ e ∈ [(.vdadd p i, 0, false), (.vdsub p i, 1, true)] ∧ s.dev.Runs p i (0x33 * 128 + e.2.1) x ∧ p31Sums e.2.2 r x (actives (x.mask r) 4) = .error k :=
  ⟨S (R (ins 179 1 2 3 0) { RakerS.init with p := [(1, 0x000F)], v := [(2, 0x20), (3, 0x3D)] } []), 255, 3, ins 179 1 2 3 0, _, _, { code := 0x16, flane := some 0 }, rfl, List.mem_cons_self, by unfold Dev.Runs; decide +kernel, by decide +kernel⟩

set_option maxRecDepth 200000 in
theorem witness_VectorConversions_2 : ∃ (s : State) (p : Nat) (i : Nat) (x : Insn) (r : RakerS) (l : List (Nat × Int × Int)), r = (s.dev.rk p i).next x ∧ s.dev.Runs p i (0x33 * 128 + 2) x ∧ actives (x.mask r) 4 ≠ [] ∧ p31Pairs r x (actives (x.mask r) 4) = .ok l ∧ bitsOf x.w 0 2 = 0 :=
  ⟨S (R (ins 179 1 2 3 8) { RakerS.init with p := [(1, 0x000F)], v := [(2, 0x2C), (3, 0x3D)] } []), 255, 3, ins 179 1 2 3 8, _, [(0, 2, -3)], rfl, by unfold Dev.Runs; decide +kernel, by decide +kernel, by decide +kernel, by decide +kernel⟩

set_option maxRecDepth 200000 in
theorem witness_VectorConversions_3_1 : ∃ (s : State) (p : Nat) (i : Nat) (x : Insn) (r : RakerS), r = (s.dev.rk p i).next x ∧ s.dev.Runs p i (0x33 * 128 + 3) x :=
  ⟨S (R (ins 179 1 2 0 12) { RakerS.init with p := [(1, 1)] } []), 255, 3, ins 179 1 2 0 12, _, rfl, by unfold Dev.Runs; decide +kernel⟩

set_option maxRecDepth 200000 in
theorem witness_VectorConversions_3_2 : ∃ (s : State) (p : Nat) (i : Nat) (x : Insn) (r : RakerS), r = (s.dev.rk p i).next x ∧ s.dev.Runs p i (0x33 * 128 + 4) x :=
  ⟨S (R (ins 179 1 2 15 16) { RakerS.init with p := [(1, 1)] } []), 255, 3, ins 179 1 2 15 16, _, rfl, by unfold Dev.Runs; decide +kernel⟩

set_option maxRecDepth 200000 in
theorem witness_VectorConversions_4 : ∃ (s : State) (p : Nat) (i : Nat) (x : Insn) (r : RakerS) (r1 : RakerS) (d : Dev) (k : Nat) (c : Instr), r = (s.dev.rk p i).next x ∧ (k, c) ∈ [(0, .vcvtE4m3ToFp32 p i), (1, .vcvtE5m2ToFp32 p i), (2, .vcvtE3m2ToFp32 p i), (3, .vcvtE2m3ToFp32 p i), (4, .vcvtE2m1ToFp32 p i), (5, .vcvtInt8ToFp32 p i), (6, .vcvtE8m0ToFp32 p i), (7, .vcvtBf16ToFp32 p i), (8, .vcvtFp16ToFp32 p i), (9, .vcvtInt4ToInt8 p i), (10, .vcvtInt8ToInt32 p i), (11, .vcvtUint8ToInt32 p i), (12, .vcvtInt16ToInt32 p i), (13, .vcvtBin1ToInt8 p i), (14, .vcvtInt32ToFp32 p i)] ∧ s.dev.Runs p i (0x34 * 128 + k) x ∧ vconv false k x r s.dev = (none, d, r1) :=
  ⟨S (R (ins 180 1 2 3 0) RakerS.init []), 255, 3, ins 180 1 2 3 0, _, ((R (ins 180 1 2 3 0) RakerS.init []).rk 255 3).next (ins 180 1 2 3 0), R (ins 180 1 2 3 0) RakerS.init [], _, _, rfl, List.mem_cons_self, by unfold Dev.Runs; decide +kernel, by decide +kernel⟩

set_option maxRecDepth 200000 in
theorem witness_VectorConversions_5 : ∃ (s : State) (p : Nat) (i : Nat) (x : Insn) (r : RakerS) (r1 : RakerS) (d : Dev) (k : Nat) (c : Instr), r = (s.dev.rk p i).next x ∧ (k, c) ∈ [(0, .vcvtFp32ToE4m3 p i), (1, .vcvtFp32ToE5m2 p i), (2, .vcvtFp32ToInt8 p i), (3, .vcvtFp32ToE8m0 p i), (4, .vcvtFp32ToBf16 p i), (5, .vcvtFp32ToFp16 p i), (6, .vcvtInt32ToInt16 p i), (7, .vcvtInt32ToInt8 p i), (8, .vcvtInt32ToUint8 p i), (9, .vcvtInt16ToInt8 p i), (10, .vcvtInt8ToBin1 p i), (11, .vcvtFp32ToInt32 p i)] ∧ s.dev.Runs p i (0x35 * 128 + k) x ∧ vconv true k x r s.dev = (none, d, r1) :=
  ⟨S (R (ins 181 1 2 3 0) RakerS.init []), 255, 3, ins 181 1 2 3 0, _, ((R (ins 181 1 2 3 0) RakerS.init []).rk 255 3).next (ins 181 1 2 3 0), R (ins 181 1 2 3 0) RakerS.init [], _, _, rfl, List.mem_cons_self, by unfold Dev.Runs; decide +kernel, by decide +kernel⟩

set_option maxRecDepth 200000 in
theorem witness_VectorMoves_1_1 : ∃ (s : State) (p : Nat) (i : Nat) (E : Nat) (x : Insn) (r : RakerS) (a : Nat → Nat) (b : Nat → Nat), r = (s.dev.rk p i).next x ∧ E = x.elemBits ∧ a = velem (r.vr x.ra) E ∧ b = velem (r.vr x.rb) E ∧ s.dev.Runs p i (0x36 * 128) x :=
  ⟨S (R (ins 182 1 2 0 0) { RakerS.init with p := [(1, 1)] } []), 255, 3, _, ins 182 1 2 0 0, _, _, _, rfl, rfl, rfl, rfl, by unfold Dev.Runs; decide +kernel⟩

set_option maxRecDepth 200000 in
theorem witness_VectorMoves_1_2 : ∃ (s : State) (p : Nat) (i : Nat) (E : Nat) (x : Insn) (r : RakerS) (a : Nat → Nat) (b : Nat → Nat), r = (s.dev.rk p i).next x ∧ E = x.elemBits ∧ a = velem (r.vr x.ra) E ∧ b = velem (r.vr x.rb) E ∧ s.dev.Runs p i (0x36 * 128 + 1) x :=
  ⟨S (R (ins 182 1 2 0 4) { RakerS.init with p := [(1, 1)] } []), 255, 3, _, ins 182 1 2 0 4, _, _, _, rfl, rfl, rfl, rfl, by unfold Dev.Runs; decide +kernel⟩

set_option maxRecDepth 200000 in
theorem witness_VectorMoves_1_3 : ∃ (s : State) (p : Nat) (i : Nat) (E : Nat) (x : Insn) (r : RakerS) (a : Nat → Nat) (b : Nat → Nat), r = (s.dev.rk p i).next x ∧ E = x.elemBits ∧ a = velem (r.vr x.ra) E ∧ b = velem (r.vr x.rb) E ∧ s.dev.Runs p i (0x36 * 128 + 4) x :=
  ⟨S (R (ins 182 1 2 3 16) { RakerS.init with p := [(1, 1)] } []), 255, 3, _, ins 182 1 2 3 16, _, _, _, rfl, rfl, rfl, rfl, by unfold Dev.Runs; decide +kernel⟩

set_option maxRecDepth 200000 in
theorem witness_VectorMoves_2_1 : ∃ (s : State) (p : Nat) (i : Nat) (E : Nat) (k : Nat) (x : Insn) (r : RakerS), r = (s.dev.rk p i).next x ∧ E = x.elemBits ∧ k = (r.gr x.rb).toNat ∧ x.mask r ≠ 0 ∧ s.dev.Runs p i (0x36 * 128 + 2) x ∧ k < 512 / E ∧ isActive (x.mask r) (512 / E) k = true :=
  ⟨S (R (ins 182 1 2 3 8) { RakerS.init with p := [(1, 1)] } []), 255, 3, _, _, ins 182 1 2 3 8, _, rfl, rfl, rfl, by decide +kernel, by unfold Dev.Runs; decide +kernel, by decide +kernel, by decide +kernel⟩

set_option maxRecDepth 200000 in
theorem witness_VectorMoves_2_2 : ∃ (s : State) (p : Nat) (i : Nat) (E : Nat) (k : Nat) (x : Insn) (r : RakerS), r = (s.dev.rk p i).next x ∧ E = x.elemBits ∧ k = (r.gr x.rb).toNat ∧ x.mask r ≠ 0 ∧ s.dev.Runs p i (0x36 * 128 + 3) x ∧ k < 512 / E ∧ isActive (x.mask r) (512 / E) k = true :=
  ⟨S (R (ins 182 1 2 3 12) { RakerS.init with p := [(1, 1)] } []), 255, 3, _, _, ins 182 1 2 3 12, _, rfl, rfl, rfl, by decide +kernel, by unfold Dev.Runs; decide +kernel, by decide +kernel, by decide +kernel⟩

set_option maxRecDepth 200000 in
theorem witness_VectorMoves_2_3 : ∃ (s : State) (p : Nat) (i : Nat) (E : Nat) (k : Nat) (x : Insn) (r : RakerS), r = (s.dev.rk p i).next x ∧ E = x.elemBits ∧ k = (r.gr x.rb).toNat ∧ x.mask r ≠ 0 ∧ s.dev.Runs p i (0x36 * 128 + 2) x ∧ 512 / E ≤ k :=
  ⟨S (R (ins 182 1 2 3 8) { RakerS.init with p := [(1, 1)], g := [(3, 16)] } []), 255, 3, _, _, ins 182 1 2 3 8, _, rfl, rfl, rfl, by decide +kernel, by unfold Dev.Runs; decide +kernel, by decide +kernel⟩

set_option maxRecDepth 200000 in
theorem witness_VectorMoves_3_1 : ∃ (s : State) (p : Nat) (i : Nat) (E : Nat) (x : Insn) (r : RakerS) (a : Int) (g : Nat → Int) (e : Instr × Nat × Bool × (Int → Int → Int)), r = (s.dev.rk p i).next x ∧ E = x.elemBits ∧ e ∈ [(Instr.vradd p i, 5, true, fun (a b : Int) => a + b), (.vrmin p i, 6, true, min), (.vrmax p i, 7, true, max), (.vrminu p i, 8, false, min), (.vrmaxu p i, 9, false, max), (.vrand p i, 10, false, fun (a b : Int) => ((a.toNat &&& b.toNat : Nat) : Int)), (.vror p i, 11, false, fun (a b : Int) => ((a.toNat ||| b.toNat : Nat) : Int)), (.vrxor p i, 12, false, fun (a b : Int) => ((a.toNat ^^^ b.toNat : Nat) : Int))] ∧ g = (fun j => if e.2.2.1 then signed E (velem (r.vr x.ra) E j) else (velem (r.vr x.ra) E j : Int)) ∧ s.dev.Runs p i (0x36 * 128 + e.2.1) x ∧ (actives (x.mask r) (512 / E)).map g = [] :=
  ⟨S (R (ins 182 1 2 0 20) RakerS.init []), 255, 3, _, ins 182 1 2 0 20, _, 0, _, _, rfl, rfl, List.mem_cons_self, rfl, by unfold Dev.Runs; decide +kernel, by decide +kernel⟩

set_option maxRecDepth 200000 in
theorem witness_VectorMoves_3_2 : ∃ (s : State) (p : Nat) (i : Nat) (E : Nat) (x : Insn) (r : RakerS) (a : Int) (l : List Int) (g : Nat → Int) (e : Instr × Nat × Bool × (Int → Int → Int)), r = (s.dev.rk p i).next x ∧ E = x.elemBits ∧ e ∈ [(Instr.vradd p i, 5, true, fun (a b : Int) => a + b), (.vrmin p i, 6, true, min), (.vrmax p i, 7, true, max), (.vrminu p i, 8, false, min), (.vrmaxu p i, 9, false, max), (.vrand p i, 10, false, fun (a b : Int) => ((a.toNat &&& b.toNat : Nat) : Int)), (.vror p i, 11, false, fun (a b : Int) => ((a.toNat ||| b.toNat : Nat) : Int)), (.vrxor p i, 12, false, fun (a b : Int) => ((a.toNat ^^^ b.toNat : Nat) : Int))] ∧ g = (fun j => if e.2.2.1 then signed E (velem (r.vr x.ra) E j) else (velem (r.vr x.ra) E j : Int)) ∧ s.dev.Runs p i (0x36 * 128 + e.2.1) x ∧ (actives (x.mask r) (512 / E)).map g = a :: l :=
  ⟨S (R (ins 182 1 2 0 20) { RakerS.init with p := [(1, 1)], v := [(2, 0xFFFFFFFF)] } []), 255, 3, _, ins 182 1 2 0 20, _, -1, [], _, _, rfl, rfl, List.mem_cons_self, rfl, by unfold Dev.Runs; decide +kernel, by decide +kernel⟩

set_option maxRecDepth 200000 in
theorem witness_VectorMemory_1 : ∃ (s : State) (p : Nat) (i : Nat) (out : List Nat) (x : Insn) (r : RakerS) (r1 : RakerS) (l : List (Nat × Byte)) (d : Dev) (d1 : Dev), r = (s.dev.rk p i).next x ∧ s.dev.Runs p i (0x39 * 128) x ∧ s.dev.checkParts p 0 (slotParts (x.ea r 64) (x.mask r)) out = (none, d) ∧ d.loadParts p i (decide (bitsOf x.w 7 1 = 1)) r (slotParts (x.ea r 64) (x.mask r)) out = (.ok l, d1, r1) :=
  ⟨S (R (ins 185 1 2 1 0) { RakerS.init with p := [(1, 1)], g := [(2, 0xFFFFFFC01000)] } []), 255, 3, [], ins 185 1 2 1 0, _, (((R (ins 185 1 2 1 0) { RakerS.init with p := [(1, 1)], g := [(2, 0xFFFFFFC01000)] } []).rk 255 3).next (ins 185 1 2 1 0)), [(0, 0), (1, 0), (2, 0), (3, 0)], R (ins 185 1 2 1 0) { RakerS.init with p := [(1, 1)], g := [(2, 0xFFFFFFC01000)] } [], R (ins 185 1 2 1 0) { RakerS.init with p := [(1, 1)], g := [(2, 0xFFFFFFC01000)] } [], rfl, by unfold Dev.Runs; decide +kernel, by decide +kernel, by decide +kernel⟩

set_option maxRecDepth 200000 in
theorem witness_VectorMemory_2 : ∃ (s : State) (p : Nat) (i : Nat) (out : List Nat) (x : Insn) (r : RakerS) (r1 : RakerS) (d : Dev) (d1 : Dev), r = (s.dev.rk p i).next x ∧ s.dev.Runs p i (0x3A * 128) x ∧ s.dev.checkParts p 1 (slotParts (x.ea r 64) (x.mask r)) out = (none, d) ∧ d.storeParts p i (r.vr x.rd) r (slotParts (x.ea r 64) (x.mask r)) out = (d1, r1) :=
  ⟨S (R (ins 186 1 2 0 0) { RakerS.init with p := [(1, 1)], g := [(2, 0xFFFFFFC01000)] } []), 255, 3, [], ins 186 1 2 0 0, _, _, R (ins 186 1 2 0 0) { RakerS.init with p := [(1, 1)], g := [(2, 0xFFFFFFC01000)] } [], _, rfl, by unfold Dev.Runs; decide +kernel, by decide +kernel, rfl⟩

set_option maxRecDepth 200000 in
theorem witness_VectorMemory_3_1 : ∃ (s : State) (p : Nat) (i : Nat) (out : List Nat) (x : Insn) (r : RakerS) (r1 : RakerS) (l : List (Nat × Nat)) (d : Dev), r = (s.dev.rk p i).next x ∧ s.dev.gather p i x (x.gatherAddr r) r (actives (x.mask r) 16) out [] = (l, none, d, r1) ∧ s.dev.Runs p i (0x3B * 128) x :=
  ⟨S (R (ins 187 1 2 3 64) { RakerS.init with p := [(1, 1)], g := [(2, 0xFFFFFFC01000)] } []), 255, 3, [], ins 187 1 2 3 64, _, _, _, _, rfl, rfl, by unfold Dev.Runs; decide +kernel⟩

set_option maxRecDepth 200000 in
theorem witness_VectorMemory_3_2 : ∃ (s : State) (p : Nat) (i : Nat) (out : List Nat) (x : Insn) (r : RakerS) (r1 : RakerS) (l : List (Nat × Nat)) (d : Dev), r = (s.dev.rk p i).next x ∧ s.dev.gather p i x (x.gatherAddr r) r (actives (x.mask r) 16) out [] = (l, none, d, r1) ∧ s.dev.Runs p i (0x3D * 128) x ∧ x.mask r ≠ 0 :=
  ⟨S (R (ins 189 1 2 3 65) { RakerS.init with p := [(1, 1)], g := [(2, 0xFFFFFFC01000)] } []), 255, 3, [], ins 189 1 2 3 65, _, _, _, _, rfl, rfl, by unfold Dev.Runs; decide +kernel, by decide +kernel⟩

set_option maxRecDepth 200000 in
theorem witness_VectorMemory_4 : ∃ (s : State) (p : Nat) (i : Nat) (out : List Nat) (x : Insn) (r : RakerS) (r1 : RakerS) (d : Dev), r = (s.dev.rk p i).next x ∧ s.dev.Runs p i (0x3C * 128) x ∧ s.dev.scatter p i x (x.gatherAddr r) (r.vr x.rd) r (actives (x.mask r) 16) out = (none, d, r1) :=
  ⟨S (R (ins 188 1 2 3 64) { RakerS.init with p := [(1, 1)], g := [(2, 0xFFFFFFC01000)] } []), 255, 3, [], ins 188 1 2 3 64, _, _, _, rfl, by unfold Dev.Runs; decide +kernel, rfl⟩

theorem witness_EmptyQueueIdles : ∃ (s : State), s.pending = [] := ⟨State.reset, rfl⟩

theorem witness_CommandFrame_2 : ∃ (k : Nat), k ∉ followKeys := ⟨Reg.PWR_CTRL, by decide +kernel⟩

theorem witness_StepKeepsSettled : ∃ (s t : State), step s = .next t ∧ s.dev.Settled :=
  ⟨State.reset, State.reset, by rfl, by unfold Dev.Settled; decide +kernel⟩

theorem witness_SequenceOrder_1_1 : ∃ (n a b : Nat), 1 ≤ n ∧ after a b n = true := ⟨8, 0x7F, 0, by decide +kernel, by decide +kernel⟩

theorem witness_SequenceOrder_1_2 : ∃ (n k : Nat), 1 ≤ n ∧ 1 ≤ k ∧ k ≤ 2 ^ (n - 1) - 1 := ⟨8, 127, by decide +kernel, by decide +kernel, by decide +kernel⟩

theorem witness_MemoryReadsBack_1_1 : ∃ (a : Nat) (bs : List Byte) (k : Nat), k < a ∨ a + bs.length ≤ k := ⟨4, [1], 5, Or.inr (by decide)⟩

theorem witness_MemoryReadsBack_1_2 : ∃ (d : Dev), Memory.wf d = true := ⟨X 0 [], by decide +kernel⟩

theorem witness_MemoryReadsBack_2_1 : ∃ (a n k : Nat), a ≤ k ∧ k < a + n := ⟨4, 1, 4, by decide, by decide⟩

theorem witness_MemoryReadsBack_2_2 : ∃ (a n k : Nat), k < a ∨ a + n ≤ k := ⟨4, 1, 3, Or.inl (by decide)⟩

theorem witness_MemoryReadsBack_4_1 : ∃ (d : Dev) (a g : Nat) (bs : List Byte), d.channelLost (g * 64) = false ∧ a ≤ g * 64 ∧ g * 64 + 64 ≤ a + bs.length :=
  ⟨Dev.reset, 64, 1, List.replicate 64 0, by decide +kernel, by decide, by decide +kernel⟩

theorem witness_MemoryReadsBack_4_2 : ∃ (d : Dev) (a g : Nat) (bs : List Byte), d.channelLost (g * 64) = false ∧ ¬ (a ≤ g * 64 ∧ g * 64 + 64 ≤ a + bs.length) :=
  ⟨Dev.reset, 64, 1, List.replicate 63 0, by decide +kernel, by decide +kernel⟩

/-- The mooring that M places opens for its berth, to its last byte and no further. -/
theorem witness_KeyOpensOnlyWhenChecked_1 : ∃ (d : Dev) (b key off len kind o va : Nat), d.keyCheck (.loc b) key off len kind = .ok (o, va) :=
  ⟨M 0 [], 0, key, 0xFFFF, 1, 0, 0, 0xFFFF, by decide +kernel⟩

theorem witness_KeyOpensOnlyWhenChecked_1_closed : (M 0 []).keyCheck (.loc 0) key 0xFFFF 2 0 = .error (4, 5) := by decide +kernel

theorem witness_KeyOpensOnlyWhenChecked_2 : ∃ (d : Dev) (x key off len kind o va : Nat), d.keyCheck (.rem x) key off len kind = .ok (o, va) :=
  ⟨M 0 [], 0, key, 0, 0x10000, 0, 0, 0, by decide +kernel⟩

theorem witness_RakerFrame_1_1 : ∃ (p i q j : Nat), i < 4 ∧ j < 4 ∧ (q ≠ p ∨ j ≠ i) := ⟨0, 3, 1, 3, by decide, by decide, Or.inl (by decide)⟩

theorem witness_RakerFrame_1_2 : ∃ (p i k : Nat), i < 4 ∧ k ≠ Reg.PAN_STATE p := ⟨0, 3, 0, by decide, by decide +kernel⟩

theorem witness_VectorElements : ∃ (E j : Nat), 0 < E ∧ j < 512 / E := ⟨8, 63, by decide, by decide⟩

theorem witness_LockedNodeKeepsItsId : ∃ (s : State), s.dev.on Fld.IDENT_NODE_NODE_LOCKED = true := ⟨S (W [(Fld.IDENT_NODE_NODE_LOCKED, 1)]), by decide +kernel⟩

theorem witness_PowerControlRange_1 : ∃ (v : Word), getBits v 16 16 < 1 ∨ 100 < getBits v 16 16 ∨ 200 < getBits v 32 16 := ⟨0x000000C900640001, Or.inr (Or.inr (by decide +kernel))⟩

theorem witness_PowerControlRange_2 : ∃ (v : Word), 1 ≤ getBits v 16 16 ∧ getBits v 16 16 ≤ 100 ∧ getBits v 32 16 ≤ 200 :=
  ⟨0x000000C800640001, by decide +kernel, by decide +kernel, by decide +kernel⟩

theorem witness_MaskWriteRefused_1 : ∃ (s : State) (m w : Nat), m < 2 ∧ w < 7 ∧ (s.dev.get (Fld.MNF_USED_EXACT m) ≠ 0 ∨ ∃ e ∈ (s.dev.whf m).pend, e.table = 0) :=
  ⟨S (W [(Fld.MNF_USED_EXACT 1, 1)]), 1, 6, by decide, by decide, Or.inl (by decide +kernel)⟩

theorem witness_MaskWriteRefused_2 : ∃ (s : State) (m w : Nat), m < 2 ∧ w < 7 ∧ s.dev.get (Fld.MNF_USED_EXACT m) = 0 ∧ ∀ e ∈ (s.dev.whf m).pend, e.table ≠ 0 :=
  ⟨S (W []), 1, 6, by decide, by decide, by decide +kernel, by decide +kernel⟩

theorem witness_DivideByZero_1 : ∃ (s : State) (p i : Nat) (x : Insn) (e : Instr × Nat),
    e ∈ [(Instr.divI p i, 133), (.divu p i, 134), (.rem p i, 135), (.remu p i, 136)] ∧ s.dev.Runs p i e.2 x ∧ (s.dev.rk p i).gr x.rb = 0 :=
  ⟨S (R (ins 1 1 2 3 5) RakerS.init []), 255, 3, ins 1 1 2 3 5, _, List.mem_cons_self, by unfold Dev.Runs; decide +kernel, by decide +kernel⟩

theorem witness_DivideByZero_2 : ∃ (d : Dev) (p i : Nat), (d.pan p).handler ≠ 0 ∧ (d.rk p i).cause.getLsbD 63 = false :=
  ⟨{ W [] with pans := [(255, { PanS.init with handler := 0xFFFFFFC00000 })] }, 255, 3, by decide +kernel, by decide +kernel⟩

theorem witness_DivideByZero_3 : ∃ (s : State) (p i : Nat) (x : Insn) (r : RakerS), r = (s.dev.rk p i).next x ∧ r.gr x.ra = 0x8000000000000000
    ∧ r.gr x.rb = 0xFFFFFFFFFFFFFFFF ∧ s.dev.Runs p i 133 x :=
  ⟨S (R (ins 1 1 2 3 5) { RakerS.init with g := [(2, 0x8000000000000000), (3, 0xFFFFFFFFFFFFFFFF)] } []), 255, 3, ins 1 1 2 3 5, _, rfl,
    by decide +kernel, by decide +kernel, by unfold Dev.Runs; decide +kernel⟩

theorem witness_DivideByZero_4 : ∃ (s : State) (p i : Nat) (x : Insn) (r : RakerS), r = (s.dev.rk p i).next x ∧ r.gr x.ra = 0x8000000000000000
    ∧ r.gr x.rb = 0xFFFFFFFFFFFFFFFF ∧ s.dev.Runs p i 135 x :=
  ⟨S (R (ins 1 1 2 3 7) { RakerS.init with g := [(2, 0x8000000000000000), (3, 0xFFFFFFFFFFFFFFFF)] } []), 255, 3, ins 1 1 2 3 7, _, rfl,
    by decide +kernel, by decide +kernel, by unfold Dev.Runs; decide +kernel⟩

end Sys2Proof.Tests
end

section
/-! PROOFS. What a register write leaves unchanged, and a write to IDENT_NODE while the node is locked (R31). -/

namespace Sys2Proof.Machine

/-! A register write (R6) and the end of a command, seen from other registers and from memory -/

/-- A register write leaves every other register. -/
theorem Dev.reg_writeReg_ne (s : Dev) {k j : Nat} (data : Word) (size off : Nat) (h : j ≠ k) :
    (s.writeReg k data size off).reg j = s.reg j := by
  unfold Dev.writeReg
  split
  · rfl
  · exact Dev.reg_setReg_ne s _ h

/-- Memory is read from its bytes and from the ranges of unspecified contents alone. -/
theorem Dev.byte_congr {s d : Dev} (hm : d.mem = s.mem) (hs : d.stale = s.stale) (a : Nat) : d.byte a = s.byte a := by
  simp only [Dev.byte, hm, hs]

@[simp] theorem Dev.byte_put (s : Dev) (f : Fld) (v a : Nat) : (s.put f v).byte a = s.byte a :=
  Dev.byte_congr (s.put_mem f v) (s.put_stale f v) a

@[simp] theorem Dev.byte_writeReg (s : Dev) (k : Nat) (data : Word) (size off a : Nat) :
    (s.writeReg k data size off).byte a = s.byte a := by
  unfold Dev.writeReg
  split
  · rfl
  · exact Dev.byte_congr (Dev.setReg_mem ..) (Dev.setReg_stale ..) a

@[simp] theorem Dev.byte_settle (s : Dev) (a : Nat) : s.settle.byte a = s.byte a :=
  Dev.byte_congr s.settle_mem s.settle_stale a

/-! A write to IDENT_NODE while NODE_LOCKED is 1 (R31) -/

/-- The write to a locked node: the access codes act, then NODE_ID and NODE_VALID are put back and NODE_REFUSED is set. -/
theorem Dev.nodeWrite_locked {s : Dev} (h : s.on Fld.IDENT_NODE_NODE_LOCKED = true) (v : Word) (size off : Nat) :
    s.nodeWrite v size off =
      (((s.writeReg Reg.IDENT_NODE v size off).put Fld.IDENT_NODE_NODE_ID (s.get Fld.IDENT_NODE_NODE_ID)).put
        Fld.IDENT_NODE_NODE_VALID (s.get Fld.IDENT_NODE_NODE_VALID)).put Fld.IDENT_NODE_NODE_REFUSED 1 :=
  if_pos h

section
variable {s : Dev} (h : s.on Fld.IDENT_NODE_NODE_LOCKED = true) (v : Word) (size off : Nat)
include h

theorem Dev.get_nodeId_nodeWrite_locked :
    (s.nodeWrite v size off).get Fld.IDENT_NODE_NODE_ID = s.get Fld.IDENT_NODE_NODE_ID := by
  rw [Dev.nodeWrite_locked h, Dev.get_put_apart _ _ _ _ (by decide) (by decide), Dev.get_put_apart _ _ _ _ (by decide) (by decide),
    Dev.get_put_same _ _ _ (by decide)]
  exact Nat.mod_eq_of_lt (getBits_lt _ _ _)

theorem Dev.get_nodeValid_nodeWrite_locked :
    (s.nodeWrite v size off).get Fld.IDENT_NODE_NODE_VALID = s.get Fld.IDENT_NODE_NODE_VALID := by
  rw [Dev.nodeWrite_locked h, Dev.get_put_apart _ _ _ _ (by decide) (by decide), Dev.get_put_same _ _ _ (by decide)]
  exact Nat.mod_eq_of_lt (getBits_lt _ _ _)

/-- NODE_REFUSED is set last, so a 1 written to it does not clear it. -/
theorem Dev.get_nodeRefused_nodeWrite_locked : (s.nodeWrite v size off).get Fld.IDENT_NODE_NODE_REFUSED = 1 := by
  rw [Dev.nodeWrite_locked h, Dev.get_put_same _ _ _ (by decide)]
  rfl

theorem Dev.reg_nodeWrite_locked_ne {k : Nat} (hk : k ≠ Reg.IDENT_NODE) : (s.nodeWrite v size off).reg k = s.reg k := by
  rw [Dev.nodeWrite_locked h, Dev.reg_put_ne _ _ _ hk, Dev.reg_put_ne _ _ _ hk, Dev.reg_put_ne _ _ _ hk, Dev.reg_writeReg_ne _ _ _ _ hk]

theorem Dev.byte_nodeWrite_locked (a : Nat) : (s.nodeWrite v size off).byte a = s.byte a := by
  simp only [Dev.nodeWrite_locked h, Dev.byte_put, Dev.byte_writeReg]

end

theorem exec_identNodeWrite (v : Word) (s : State) :
    exec (.identNodeWrite v) s = .next { s with dev := (s.dev.nodeWrite v 8 0).settle } := rfl

/-- IDENT_NODE follows no other state, so the end of the command keeps its fields. -/
theorem identNode_notMem_followKeys : Reg.IDENT_NODE ∉ followKeys := by decide

/-- Settles O9: the locked write puts NODE_ID and NODE_VALID back before it sets NODE_REFUSED, and the end of the command
moves neither IDENT_NODE nor memory. -/
theorem lockedNodeKeepsItsId : Obligations.LockedNodeKeepsItsId := by
  unfold Obligations.LockedNodeKeepsItsId
  intro s v hlock
  refine ⟨_, exec_identNodeWrite v s, ?nodeId, ?nodeValid, ?nodeRefused, ?regs, ?mem⟩
  case nodeId => rw [Dev.get_settle _ _ identNode_notMem_followKeys, Dev.get_nodeId_nodeWrite_locked hlock]
  case nodeValid => rw [Dev.get_settle _ _ identNode_notMem_followKeys, Dev.get_nodeValid_nodeWrite_locked hlock]
  case nodeRefused => rw [Dev.get_settle _ _ identNode_notMem_followKeys, Dev.get_nodeRefused_nodeWrite_locked hlock]
  case regs =>
    intro k hk hfollow
    rw [Dev.reg_settle _ _ hfollow, Dev.reg_nodeWrite_locked_ne hlock _ _ _ hk]
  case mem =>
    intro a
    rw [Dev.byte_settle, Dev.byte_nodeWrite_locked hlock]

end Sys2Proof.Machine
end

section
/-! PROOFS. A write of a whole plain register, and a write to a mask of the Wharf's exact table (R397). -/

namespace Sys2Proof.Machine

/-! A register that is one plain field of 64 bits (R6) -/

@[simp] theorem getBits_whole (w : Word) : getBits w 0 64 = w.toNat := by
  simp [getBits, bitsOf, Nat.mod_eq_of_lt w.isLt]

@[simp] theorem setBits_whole (w v : Word) : setBits w 0 64 v.toNat = v := by
  apply word_ext
  intro i hi
  rw [setBits_testBit _ _ _ _ _ hi, if_pos ⟨Nat.zero_le i, by omega⟩, Nat.sub_zero]

/-- A whole write of one plain field without reserved encodings stores the data. -/
theorem writeFields_plainWord (reset : Nat) (checked : Bool) (old data : Word) (off : Nat) :
    writeFields [⟨0, 64, .rw, reset, []⟩] checked old data 8 off = data := by
  have hmerge : data.toNat &&& (2 ^ 64 - 1) ||| old.toNat &&& ((2 ^ 64 - 1) ^^^ (2 ^ 64 - 1)) = data.toNat := by
    rw [Nat.xor_self, Nat.and_zero, Nat.or_zero, Nat.and_two_pow_sub_one_eq_mod, Nat.mod_eq_of_lt data.isLt]
  simp only [writeFields, List.foldl_cons, List.foldl_nil, laneMask, if_true, getBits_whole, hmerge, RegField.ok, List.isEmpty_nil,
    Bool.true_or, Bool.not_true, Bool.and_false, Bool.false_eq_true, if_false, setBits_whole]

theorem Dev.reg_writeReg_plainWord (s : Dev) {k reset : Nat} (data : Word) (off : Nat)
    (h : (findSpec k).map RegSpec.fields = some [⟨0, 64, .rw, reset, []⟩]) : (s.writeReg k data 8 off).reg k = data := by
  obtain ⟨sp, hsp, hfields⟩ := Option.map_eq_some_iff.mp h
  simp only [Dev.writeReg, hsp, hfields, Dev.reg_setReg_same, writeFields_plainWord]

/-! The masks of a Wharf's exact table -/

/-- Every mask is one plain field (Table 10.9), all ones at reset. -/
theorem fields_mnfEmMask : ∀ m < 2, ∀ w < 7,
    (findSpec (Reg.MNF_EM_MASK m w)).map RegSpec.fields = some [⟨0, 64, .rw, 2 ^ 64 - 1, []⟩] := by
  decide +kernel

theorem mnfEmMask_notMem_followKeys (m : Nat) {w : Nat} (hw : w < 7) : Reg.MNF_EM_MASK m w ∉ followKeys := by
  simp only [followKeys, List.mem_cons, List.not_mem_nil, or_false, not_or, Reg.MNF_EM_MASK, Reg.LND_HOST_LINK, Reg.PWR_STATUS,
    Reg.TLH_STATUS, Reg.VLT_STATUS]
  omega

theorem mnfCtrl_notMem_followKeys (m : Nat) : Reg.MNF_CTRL m ∉ followKeys := by
  simp only [followKeys, List.mem_cons, List.not_mem_nil, or_false, not_or, Reg.MNF_CTRL, Reg.LND_HOST_LINK, Reg.PWR_STATUS,
    Reg.TLH_STATUS, Reg.VLT_STATUS]
  omega

theorem mnfEmMask_ne_mnfCtrl {m w : Nat} : Reg.MNF_EM_MASK m w ≠ Reg.MNF_CTRL m := by
  simp only [Reg.MNF_EM_MASK, Reg.MNF_CTRL]
  omega

theorem Dev.maskWrite_refused {s : Dev} {m : Nat} (w : Nat) (v : Word) (size off : Nat)
    (h : s.get (Fld.MNF_USED_EXACT m) ≠ 0 ∨ ∃ e ∈ (s.whf m).pend, e.table = 0) :
    s.maskWrite m w v size off = s.put (Fld.MNF_CTRL_MASK_REFUSED m) 1 :=
  if_pos (by simpa [Dev.on] using h)

theorem Dev.maskWrite_taken {s : Dev} {m : Nat} (w : Nat) (v : Word) (size off : Nat)
    (hused : s.get (Fld.MNF_USED_EXACT m) = 0) (hpend : ∀ e ∈ (s.whf m).pend, e.table ≠ 0) :
    s.maskWrite m w v size off = s.writeReg (Reg.MNF_EM_MASK m w) v size off :=
  if_neg (by simpa [Dev.on, hused] using hpend)

theorem exec_mnfEmMaskWrite {m w : Nat} (hm : m < 2) (hw : w < 7) (v : Word) (s : State) :
    exec (.mnfEmMaskWrite m w v) s = .next { s with dev := (s.dev.maskWrite m w v 8 0).settle } := by
  have hthere : wharfThere m 0 (w + 1) = true := by simp [wharfThere, hm]; omega
  calc
    exec (.mnfEmMaskWrite m w v) s = execMnfEmMaskWrite m w v s := rfl
    _ = .next { s with dev := (s.dev.maskWrite m w v 8 0).settle } := by
      rw [execMnfEmMaskWrite, hthere, State.dvIf_true, State.done_eq]

/-- Settles O11: the refused write sets MASK_REFUSED of MNF_CTRL and nothing else, the taken one writes its mask and nothing
else, and the end of the command moves no mask, nor MNF_CTRL, nor memory. -/
theorem maskWriteRefused : Obligations.MaskWriteRefused := by
  unfold Obligations.MaskWriteRefused
  refine ⟨fun s m w v hm hw hexact => ⟨_, exec_mnfEmMaskWrite hm hw v s, ?masks, ?refused, ?mem⟩,
    fun s m w v hm hw hused hpend => ⟨_, exec_mnfEmMaskWrite hm hw v s, ?taken, ?regs, ?mem'⟩⟩
  case masks =>
    intro i hi
    rw [Dev.reg_settle _ _ (mnfEmMask_notMem_followKeys m hi), Dev.maskWrite_refused _ _ _ _ hexact,
      Dev.reg_put_ne _ _ _ mnfEmMask_ne_mnfCtrl]
  case refused =>
    rw [Dev.get_settle _ _ (mnfCtrl_notMem_followKeys m), Dev.maskWrite_refused _ _ _ _ hexact,
      Dev.get_put_same _ _ _ (by simp [Fld.MNF_CTRL_MASK_REFUSED])]
    rfl
  case mem =>
    intro a
    rw [Dev.byte_settle, Dev.maskWrite_refused _ _ _ _ hexact, Dev.byte_put]
  case taken =>
    rw [Dev.reg_settle _ _ (mnfEmMask_notMem_followKeys m hw), Dev.maskWrite_taken _ _ _ _ hused hpend,
      Dev.reg_writeReg_plainWord _ _ _ (fields_mnfEmMask m hm w hw)]
  case regs =>
    intro k hk hfollow
    rw [Dev.reg_settle _ _ hfollow, Dev.maskWrite_taken _ _ _ _ hused hpend, Dev.reg_writeReg_ne _ _ _ _ hk]
  case mem' =>
    intro a
    rw [Dev.byte_settle, Dev.maskWrite_taken _ _ _ _ hused hpend, Dev.byte_writeReg]

end Sys2Proof.Machine
end

section
/-! PROOFS. A whole write of a register's field, and a write to PWR_CTRL within and outside its ranges (R783). -/

namespace Sys2Proof.Machine

/-! A field in a write of all 8 bytes (R6) -/

@[simp] theorem laneMask_whole (off lo len : Nat) : laneMask 8 off lo len = 2 ^ len - 1 := if_pos rfl

@[simp] theorem woBits_whole (v : Word) (off lo len : Nat) : woBits v 8 off lo len = getBits v lo len := by
  rw [woBits, laneMask_whole, Nat.and_two_pow_sub_one_eq_mod, Nat.mod_eq_of_lt (getBits_lt v lo len)]

/-- The bits of a field's old value that a whole write keeps are none. -/
theorem uncoveredBits_whole (old off lo len : Nat) : old &&& ((2 ^ len - 1) ^^^ laneMask 8 off lo len) = 0 := by
  rw [laneMask_whole, Nat.xor_self, Nat.and_zero]

/-! The write to PWR_CTRL (R783) -/

/-- HYST_W or OTHER_W of the written word is outside its range. -/
def pwrCtrlOutside (v : Word) : Prop := getBits v 16 16 < 1 ∨ 100 < getBits v 16 16 ∨ 200 < getBits v 32 16

theorem not_pwrCtrlOutside_iff (v : Word) :
    ¬ pwrCtrlOutside v ↔ 1 ≤ getBits v 16 16 ∧ getBits v 16 16 ≤ 100 ∧ getBits v 32 16 ≤ 200 := by
  simp only [pwrCtrlOutside, not_or, not_lt]

/-- A 1 written to PWR_REFUSED clears it (W1C). -/
def Dev.clearPwrRefused (s : Dev) (v : Word) : Dev := if getBits v 1 1 = 1 then s.put Fld.PWR_CTRL_PWR_REFUSED 0 else s

theorem Dev.reg_clearPwrRefused_ne (s : Dev) (v : Word) {k : Nat} (hk : k ≠ Reg.PWR_CTRL) :
    (s.clearPwrRefused v).reg k = s.reg k := by
  unfold Dev.clearPwrRefused
  split
  · exact Dev.reg_put_ne _ _ _ hk
  · rfl

@[simp] theorem Dev.byte_clearPwrRefused (s : Dev) (v : Word) (a : Nat) : (s.clearPwrRefused v).byte a = s.byte a := by
  unfold Dev.clearPwrRefused
  split
  · exact Dev.byte_put ..
  · rfl

theorem Dev.pwrCtrlWrite_refused (s : Dev) {v : Word} (h : pwrCtrlOutside v) :
    s.pwrCtrlWrite v 8 0 = s.put Fld.PWR_CTRL_PWR_REFUSED 1 := by
  simp only [Dev.pwrCtrlWrite, woBits_whole, uncoveredBits_whole, Nat.or_zero]
  exact if_pos h

theorem Dev.pwrCtrlWrite_taken (s : Dev) {v : Word} (h : ¬ pwrCtrlOutside v) :
    s.pwrCtrlWrite v 8 0 =
      (((s.clearPwrRefused v).put Fld.PWR_CTRL_IDLE_EN (getBits v 0 1)).put Fld.PWR_CTRL_HYST_W (getBits v 16 16)).put
        Fld.PWR_CTRL_OTHER_W (getBits v 32 16) := by
  simp only [Dev.pwrCtrlWrite, woBits_whole, uncoveredBits_whole, Nat.or_zero]
  exact if_neg h

/-- Taken or refused, the write reaches no other register. -/
theorem Dev.reg_pwrCtrlWrite_ne (s : Dev) (v : Word) {k : Nat} (hk : k ≠ Reg.PWR_CTRL) :
    (s.pwrCtrlWrite v 8 0).reg k = s.reg k := by
  by_cases h : pwrCtrlOutside v
  · rw [Dev.pwrCtrlWrite_refused s h, Dev.reg_put_ne _ _ _ hk]
  · rw [Dev.pwrCtrlWrite_taken s h, Dev.reg_put_ne _ _ _ hk, Dev.reg_put_ne _ _ _ hk, Dev.reg_put_ne _ _ _ hk,
      Dev.reg_clearPwrRefused_ne _ _ hk]

@[simp] theorem Dev.byte_pwrCtrlWrite (s : Dev) (v : Word) (a : Nat) : (s.pwrCtrlWrite v 8 0).byte a = s.byte a := by
  by_cases h : pwrCtrlOutside v
  · rw [Dev.pwrCtrlWrite_refused s h, Dev.byte_put]
  · rw [Dev.pwrCtrlWrite_taken s h, Dev.byte_put, Dev.byte_put, Dev.byte_put, Dev.byte_clearPwrRefused]

/-- A refused write keeps every field of a register but those that share a bit with PWR_REFUSED. -/
theorem Dev.get_pwrCtrlWrite_refused (s : Dev) {v : Word} (h : pwrCtrlOutside v) {f : Fld} (hf : f.lo + f.len ≤ 64)
    (hapart : f.apart Fld.PWR_CTRL_PWR_REFUSED = true) : (s.pwrCtrlWrite v 8 0).get f = s.get f := by
  rw [Dev.pwrCtrlWrite_refused s h]
  exact Dev.get_put_apart _ _ _ _ hf (by simpa [Fld.apart, or_assoc] using hapart)

theorem Dev.get_pwrRefused_pwrCtrlWrite (s : Dev) {v : Word} (h : pwrCtrlOutside v) :
    (s.pwrCtrlWrite v 8 0).get Fld.PWR_CTRL_PWR_REFUSED = 1 := by
  rw [Dev.pwrCtrlWrite_refused s h, Dev.get_put_same _ _ _ (by decide)]
  rfl

section
variable (s : Dev) {v : Word} (h : ¬ pwrCtrlOutside v)
include h

theorem Dev.get_idleEn_pwrCtrlWrite : (s.pwrCtrlWrite v 8 0).get Fld.PWR_CTRL_IDLE_EN = getBits v 0 1 := by
  rw [Dev.pwrCtrlWrite_taken s h, Dev.get_put_apart _ _ _ _ (by decide) (by decide), Dev.get_put_apart _ _ _ _ (by decide) (by decide),
    Dev.get_put_same _ _ _ (by decide)]
  exact Nat.mod_eq_of_lt (getBits_lt _ _ _)

theorem Dev.get_hystW_pwrCtrlWrite : (s.pwrCtrlWrite v 8 0).get Fld.PWR_CTRL_HYST_W = getBits v 16 16 := by
  rw [Dev.pwrCtrlWrite_taken s h, Dev.get_put_apart _ _ _ _ (by decide) (by decide), Dev.get_put_same _ _ _ (by decide)]
  exact Nat.mod_eq_of_lt (getBits_lt _ _ _)

theorem Dev.get_otherW_pwrCtrlWrite : (s.pwrCtrlWrite v 8 0).get Fld.PWR_CTRL_OTHER_W = getBits v 32 16 := by
  rw [Dev.pwrCtrlWrite_taken s h, Dev.get_put_same _ _ _ (by decide)]
  exact Nat.mod_eq_of_lt (getBits_lt _ _ _)

end

theorem exec_pwrCtrlWrite (v : Word) (s : State) :
    exec (.pwrCtrlWrite v) s = .next { s with dev := (s.dev.pwrCtrlWrite v 8 0).settle } := rfl

/-- PWR_CTRL follows no other state, so the end of the command keeps its fields. -/
theorem pwrCtrl_notMem_followKeys : Reg.PWR_CTRL ∉ followKeys := by decide

/-- The frame of the command, with the end of the command: no other register that follows nothing, and no memory. -/
theorem Dev.settle_pwrCtrlWrite_frame (s : Dev) (v : Word) :
    (∀ k, k ≠ Reg.PWR_CTRL → k ∉ followKeys → (s.pwrCtrlWrite v 8 0).settle.reg k = s.reg k) ∧
      ∀ a, (s.pwrCtrlWrite v 8 0).settle.byte a = s.byte a := by
  refine ⟨fun k hk hfollow => ?_, fun a => ?_⟩
  · rw [Dev.reg_settle _ _ hfollow, Dev.reg_pwrCtrlWrite_ne _ _ hk]
  · rw [Dev.byte_settle, Dev.byte_pwrCtrlWrite]

/-- Settles O10: outside its ranges the write sets PWR_REFUSED alone, within them it stores the three written fields, and the
end of the command moves neither PWR_CTRL nor memory. -/
theorem powerControlRange : Obligations.PowerControlRange := by
  unfold Obligations.PowerControlRange
  refine fun s v => ⟨fun hout => ⟨_, exec_pwrCtrlWrite v s, ?idleKept, ?hystKept, ?otherKept, ?refused, s.dev.settle_pwrCtrlWrite_frame v⟩,
    fun hlow hhigh hother => ⟨_, exec_pwrCtrlWrite v s, ?idleStored, ?hystStored, ?otherStored, s.dev.settle_pwrCtrlWrite_frame v⟩⟩
  case idleKept | hystKept | otherKept =>
    rw [Dev.get_settle _ _ pwrCtrl_notMem_followKeys, Dev.get_pwrCtrlWrite_refused _ hout (by decide) (by decide)]
  case refused => rw [Dev.get_settle _ _ pwrCtrl_notMem_followKeys, Dev.get_pwrRefused_pwrCtrlWrite _ hout]
  all_goals have hin : ¬ pwrCtrlOutside v := (not_pwrCtrlOutside_iff v).mpr ⟨hlow, hhigh, hother⟩
  case idleStored => rw [Dev.get_settle _ _ pwrCtrl_notMem_followKeys, Dev.get_idleEn_pwrCtrlWrite _ hin]
  case hystStored => rw [Dev.get_settle _ _ pwrCtrl_notMem_followKeys, Dev.get_hystW_pwrCtrlWrite _ hin]
  case otherStored => rw [Dev.get_settle _ _ pwrCtrl_notMem_followKeys, Dev.get_otherW_pwrCtrlWrite _ hin]

end Sys2Proof.Machine
end

section
/-! PROOFS. What the end of a command settles, the command in front of the queue, and every run. -/

namespace Sys2Proof.Machine

/-! The end of a command: what shows other state shows it -/

/-- R721 reads registers and records, not the level it sets. -/
@[simp] theorem Dev.alertLow_syncAlert (s : Dev) : s.syncAlert.alertLow = s.alertLow := by
  unfold Dev.syncAlert
  split <;> rfl

theorem Dev.alertN_syncAlert (s : Dev) : s.syncAlert.log.alertN = s.alertLow := by
  unfold Dev.syncAlert
  split
  next h => exact h.symm
  next => rfl

theorem flag_mod_two (p : Prop) [Decidable p] : (if p then 1 else 0) % 2 ^ 1 = if p then 1 else 0 := by
  split <;> rfl

/-- No field that follows is written again by a later one, and ALERT_N is set last. -/
theorem Dev.settled_settle (s : Dev) : s.settle.Settled := by
  simp only [Dev.Settled, Dev.settle_host, Dev.settle_power, Dev.settle_tlh, Dev.settle_tlhs, Dev.settle_slip]
  refine ⟨?linkUp, ?tripped, ?loaded, ?sessions, ?sessionOnly, ?cellOk, ?mainOk, ?vltTripped, ?alert⟩
  case alert => exact (Dev.alertN_syncAlert _).trans (Dev.alertLow_syncAlert _).symm
  all_goals simp (disch := decide) only [Dev.settle, Dev.get_syncAlert, Dev.follow, Dev.get_put_apart, Dev.get_put_same]
  case linkUp | tripped | cellOk | mainOk | vltTripped => exact flag_mod_two _
  case loaded | sessions => rfl
  case sessionOnly => exact Nat.mod_eq_of_lt (getBits_lt _ _ _)

/-- A settled device keeps its log but for the level of ALERT_N. -/
theorem Dev.settle_log_alertN (s : Dev) : { s.settle.log with alertN := s.log.alertN } = s.log := by
  unfold Dev.settle Dev.syncAlert
  split <;> rfl

theorem Dev.settle_frame (s : Dev) : { s.settle with regs := s.regs, log := s.log, sent := s.sent } = s := by
  unfold Dev.settle
  rw [Dev.syncAlert_eq, Dev.follow_eq]

/-! The command in front of the queue -/

/-- Every command of the table ends as `done` does: it neither stops the block nor touches the waiting commands. -/
theorem exec_done (c : Instr) (s : State) : ∃ d : Dev, exec c s = s.done d := by
  cases c <;> exact ⟨_, rfl⟩

/-- What a step comes to: nothing waits and nothing changes, or the front command leaves the queue and its effect is settled. -/
theorem step_cases (s : State) :
    (s.pending = [] ∧ step s = .next s) ∨ ∃ d : Dev, step s = .next { pending := s.pending.tail, dev := d.settle } := by
  obtain ⟨pending, dev⟩ := s
  cases pending with
  | nil => exact .inl ⟨rfl, rfl⟩
  | cons c rest =>
    obtain ⟨d, hd⟩ := exec_done c ⟨rest, dev⟩
    exact .inr ⟨d, hd⟩

theorem step_next (s : State) : ∃ t : State, step s = .next t ∧ t.pending = s.pending.tail := by
  rcases step_cases s with ⟨hempty, hstep⟩ | ⟨d, hstep⟩
  · exact ⟨s, hstep, by simp [hempty]⟩
  · exact ⟨_, hstep, rfl⟩

/-- Settles O5: a step that runs a command ends with what follows other state set from it, whatever the command did; a step on
an empty queue leaves the device. -/
theorem stepKeepsSettled : Obligations.StepKeepsSettled := by
  unfold Obligations.StepKeepsSettled
  intro s t hstep hsettled
  rcases step_cases s with ⟨-, hidle⟩ | ⟨d, hran⟩
  · obtain rfl : s = t := by simpa [hidle] using hstep
    exact hsettled
  · obtain rfl : _ = t := by simpa [hran] using hstep
    exact d.settled_settle

/-- Settles O2, by induction on the number of steps. -/
theorem queueDrains : Obligations.QueueDrains := by
  unfold Obligations.QueueDrains
  intro n
  induction n with
  | zero => exact fun s => ⟨s, rfl, by simp⟩
  | succ n ih =>
    intro s
    obtain ⟨t, hstep, hpending⟩ := step_next s
    obtain ⟨u, hrun, hdrop⟩ := ih t
    have hcore : Sys2Proof.core.step s = .next t := hstep
    refine ⟨u, by simpa only [Host.Core.run, hcore] using hrun, ?_⟩
    rw [hdrop, hpending, List.drop_tail]

/-- Settles O3: every command ends by `done`, which moves registers of followKeys, ALERT_N and at most one event. -/
theorem commandFrame : Obligations.CommandFrame := by
  unfold Obligations.CommandFrame
  exact ⟨fun c s => exec_done c s, fun d k hk => d.reg_settle k hk, fun d => d.settle_frame,
    fun d => ⟨d.settle_log_alertN, d.settle_sent⟩⟩

/-- Settles O1: `step` by the two forms of the queue. -/
theorem stepRunsFront : Obligations.StepRunsFront := by
  unfold Obligations.StepRunsFront
  refine ⟨fun c s rest => rfl, fun s hempty => ?_⟩
  rw [step, hempty]
  rfl

/-! The state right after reset (R9) -/

/-- Settles O4: reset lists no register, so each reads its Reset value, and the fields that follow read 0 there. -/
theorem resetState : Obligations.ResetState := by
  unfold Obligations.ResetState
  refine ⟨rfl, rfl, Memory.wf_reset, rfl, fun k => rfl, rfl, ?settled⟩
  unfold Dev.Settled
  decide +kernel

end Sys2Proof.Machine
end

section
/-! PROOFS. The order of sequence numbers (R13, R14), and what memory reads back after each operation (R10, R51, R892). -/

namespace Sys2Proof.Machine

/-! Sequence numbers: a against b by their distance (a − b) mod 2^n -/

theorem after_iff (a b n : Nat) : after a b n = true ↔ 1 ≤ subMod a b n ∧ subMod a b n ≤ 2 ^ (n - 1) - 1 := by
  simp [after, subMod]

theorem after_eq_false_iff (a b n : Nat) : after a b n = false ↔ ¬ (1 ≤ subMod a b n ∧ subMod a b n ≤ 2 ^ (n - 1) - 1) := by
  rw [← after_iff, Bool.not_eq_true]

theorem subMod_eq_mods (a b n : Nat) : subMod a b n = (a % 2 ^ n + (2 ^ n - b % 2 ^ n)) % 2 ^ n := by
  have hb := Nat.mod_lt b (Nat.two_pow_pos n)
  rw [subMod, Nat.add_sub_assoc hb.le, Nat.mod_add_mod]

/-- The distance by which of the two residues is the larger. -/
theorem subMod_eq_ite (a b n : Nat) :
    subMod a b n = if b % 2 ^ n ≤ a % 2 ^ n then a % 2 ^ n - b % 2 ^ n else 2 ^ n + a % 2 ^ n - b % 2 ^ n := by
  have ha := Nat.mod_lt a (Nat.two_pow_pos n)
  have hb := Nat.mod_lt b (Nat.two_pow_pos n)
  rw [subMod_eq_mods]
  split
  · rw [show a % 2 ^ n + (2 ^ n - b % 2 ^ n) = (a % 2 ^ n - b % 2 ^ n) + 2 ^ n by omega, Nat.add_mod_right, Nat.mod_eq_of_lt (by omega)]
  · rw [Nat.mod_eq_of_lt (by omega)]
    omega

theorem same_iff (a b n : Nat) : same a b n = true ↔ subMod a b n = 0 := by
  have ha := Nat.mod_lt a (Nat.two_pow_pos n)
  have hb := Nat.mod_lt b (Nat.two_pow_pos n)
  rw [same, decide_eq_true_iff, subMod_eq_ite]
  split <;> omega

/-- The distance the other way is what is left of 2^n. -/
theorem subMod_swap (a b n : Nat) (h : subMod a b n ≠ 0) : subMod b a n = 2 ^ n - subMod a b n := by
  have ha := Nat.mod_lt a (Nat.two_pow_pos n)
  have hb := Nat.mod_lt b (Nat.two_pow_pos n)
  rw [subMod_eq_ite] at h
  rw [subMod_eq_ite b a, subMod_eq_ite a b]
  split at h <;> split <;> omega

theorem subMod_lt (a b n : Nat) : subMod a b n < 2 ^ n := Nat.mod_lt _ (Nat.two_pow_pos n)

theorem subMod_self (a n : Nat) : subMod a a n = 0 := by
  rw [subMod_eq_ite, if_pos le_rfl, Nat.sub_self]

theorem subMod_add_left (b k n : Nat) (hk : k < 2 ^ n) : subMod (b + k) b n = k := by
  have hb := Nat.mod_lt b (Nat.two_pow_pos n)
  have hsum : b + k + 2 ^ n - b % 2 ^ n = k + 2 ^ n * (b / 2 ^ n + 1) := by
    have hdiv := Nat.div_add_mod b (2 ^ n)
    rw [Nat.mul_add, Nat.mul_one]
    omega
  rw [subMod, hsum, Nat.add_mul_mod_self_left, Nat.mod_eq_of_lt hk]

theorem two_pow_eq_double (n : Nat) (hn : 1 ≤ n) : 2 ^ n = 2 * 2 ^ (n - 1) := by
  rw [← Nat.pow_succ', Nat.succ_eq_add_one, Nat.sub_add_cancel hn]

/-- b is after a exactly where a lies more than half of 2^n after b. -/
theorem before_iff (a b n : Nat) (hn : 1 ≤ n) : before a b n = true ↔ 2 ^ (n - 1) < subMod a b n := by
  have hhalf := two_pow_eq_double n hn
  have hlt := subMod_lt a b n
  rw [before, after_iff]
  by_cases h0 : subMod a b n = 0
  · have hba : subMod b a n = 0 := by
      rw [← same_iff, same, decide_eq_true_iff] at h0 ⊢
      exact h0.symm
    omega
  · rw [subMod_swap a b n h0]
    omega

/-- Settles O6: the three relations are three ranges of the distance (a − b) mod 2^n, which leave out 2^(n − 1) alone. -/
theorem sequenceOrder : Obligations.SequenceOrder := by
  unfold Obligations.SequenceOrder
  intro n hn
  have hhalf := two_pow_eq_double n hn
  have hpos := Nat.two_pow_pos (n - 1)
  refine ⟨fun a b hafter => ?_, fun a b => ?_, fun b k h1 hk => ?_⟩
  · rw [after_iff] at hafter
    rw [← Bool.not_eq_true, ← Bool.not_eq_true, same_iff, before_iff a b n hn]
    omega
  · have hlt := subMod_lt a b n
    rw [after_eq_false_iff, ← Bool.not_eq_true, ← Bool.not_eq_true, same_iff, before_iff a b n hn, ← subMod]
    omega
  · rw [after_iff, subMod_add_left b k n (by omega)]
    exact ⟨h1, hk⟩

/-! Memory: a cleared range reads zero -/

/-- No range of unspecified contents is left inside a cleared range. -/
theorem memDflt_cut_inside (st : List (Nat × Nat × Nat)) (a n k : Nat) (hk : a ≤ k ∧ k < a + n) :
    memDflt (st.flatMap (fun r =>
      if r.2.1 ≤ a ∨ a + n ≤ r.1 then [r]
      else (if r.1 < a then [(r.1, a, r.2.2)] else []) ++ (if a + n < r.2.1 then [(a + n, r.2.1, r.2.2)] else []))) k = 0 := by
  induction st with
  | nil => rfl
  | cons r st ih =>
    obtain ⟨lo, hi, tag⟩ := r
    have hlow : ¬ (lo ≤ k ∧ k < a) := by omega
    have hhigh : ¬ (a + n ≤ k ∧ k < hi) := by omega
    rw [List.flatMap_cons]
    by_cases hout : hi ≤ a ∨ a + n ≤ lo
    · have hmiss : ¬ (lo ≤ k ∧ k < hi) := by omega
      rw [if_pos hout, List.singleton_append, memDflt_cons, if_neg hmiss, ih]
    · rw [if_neg hout]
      by_cases hl : lo < a <;> by_cases hr : a + n < hi <;>
        simp only [hl, hr, if_true, if_false, List.nil_append, List.append_nil, List.cons_append, memDflt_cons, hlow, hhigh, ih]

theorem tget_eq_default {α : Type} (d : Nat → α) (t : Tab α) (k : Nat) (h : ∀ e ∈ t, e.1 ≠ k) : tget d t k = d k := by
  induction t with
  | nil => rfl
  | cons e t ih =>
    rw [tget, if_neg (Ne.symm (h e List.mem_cons_self)), ih fun x hx => h x (List.mem_cons_of_mem _ hx)]

theorem Dev.byte_zeroMem_inside (s : Dev) (a n k : Nat) (hk : a ≤ k ∧ k < a + n) : (s.zeroMem a n).byte k = 0 := by
  rw [Dev.byte, Dev.zeroMem_mem, Dev.zeroMem_stale, tget_eq_default, memDflt_cut_inside _ _ _ _ hk]
  rintro e he rfl
  simpa [hk] using (mem_tdrop he).2

/-! Poison marks (R51, R892) -/

theorem mem_granules (a n g : Nat) : g ∈ granules a n ↔ n ≠ 0 ∧ a / 64 ≤ g ∧ g ≤ (a + n - 1) / 64 := by
  unfold granules
  split
  · simp_all
  next hn =>
    have hle : a / 64 ≤ (a + n - 1) / 64 := Nat.div_le_div_right (by omega)
    simp only [List.mem_map, List.mem_range, ne_eq, hn, not_false_eq_true, true_and]
    constructor
    · rintro ⟨i, hi, rfl⟩
      omega
    · rintro ⟨h1, h2⟩
      exact ⟨g - a / 64, by omega, by omega⟩

/-- The marks of a fold that sets some of the listed granules to one mark. -/
theorem tget_foldl_marks (gs : List Nat) (sel : Nat → Bool) (mark : Bool) (p : Tab Bool) (g : Nat) :
    tget (fun _ => false) (gs.foldl (fun p g => if sel g then tput (fun _ => false) p g mark else p) p) g
      = if g ∈ gs ∧ sel g = true then mark else tget (fun _ => false) p g := by
  induction gs generalizing p with
  | nil => simp
  | cons x gs ih =>
    rw [List.foldl_cons, ih]
    by_cases hg : g = x
    · subst hg
      by_cases hs : sel g = true <;> simp [hs]
    · by_cases hs : sel x = true <;> simp [hs, hg, tget_tput_ne _ _ _ hg]

theorem tget_poisonAfter_bad (p : Tab Bool) (a n g : Nat) :
    tget (fun _ => false) (poisonAfter p a n true) g = (decide (g ∈ granules a n) || tget (fun _ => false) p g) := by
  have h := tget_foldl_marks (granules a n) (fun _ => true) true p g
  simp only [if_true] at h
  simp only [poisonAfter, if_true, h]
  by_cases hg : g ∈ granules a n <;> simp [hg]

theorem tget_poisonAfter_clean (p : Tab Bool) (a n g : Nat) :
    tget (fun _ => false) (poisonAfter p a n false) g
      = if a ≤ g * 64 ∧ g * 64 + 64 ≤ a + n then false else tget (fun _ => false) p g := by
  have h := tget_foldl_marks (granules a n) (fun g => decide (a ≤ g * 64 ∧ g * 64 + 64 ≤ a + n)) false p g
  simp only [decide_eq_true_eq, mem_granules] at h
  simp only [poisonAfter, Bool.false_eq_true, if_false, decide_eq_true_eq, h]
  exact if_congr ⟨fun hin => hin.2, fun hin => ⟨by omega, hin⟩⟩ rfl rfl

theorem Dev.channelLost_writeMem (d : Dev) (a : Nat) (bs : List Byte) (bad : Bool) (k : Nat) :
    (d.writeMem a bs bad).channelLost k = d.channelLost k := rfl

/-- Poisoned data marks the granule of every byte it writes. -/
theorem Dev.poisonedAt_writeMem_bad (d : Dev) (a : Nat) (bs : List Byte) (k : Nat) (hlow : a ≤ k) (hhigh : k < a + bs.length) :
    (d.writeMem a bs true).poisonedAt k = true := by
  have hg : k / 64 ∈ granules a bs.length := (mem_granules ..).mpr ⟨by omega, by omega, by omega⟩
  simp [Dev.poisonedAt, Dev.writeMem, tget_poisonAfter_bad, hg]

theorem Dev.poisonedAt_writeMem_clean (d : Dev) (a g : Nat) (bs : List Byte) :
    (d.writeMem a bs).poisonedAt (g * 64)
      = ((if a ≤ g * 64 ∧ g * 64 + 64 ≤ a + bs.length then false else tget (fun _ => false) d.poison g) || d.channelLost (g * 64)) := by
  rw [Dev.poisonedAt, Dev.channelLost_writeMem, Nat.mul_div_cancel g (by decide), Dev.writeMem, tget_poisonAfter_clean]

/-- Settles O7: reads after writes from the law of `putBytes`, a cleared range from what its bytes default to, and the marks from
those of `poisonAfter`. -/
theorem memoryReadsBack : Obligations.MemoryReadsBack := by
  unfold Obligations.MemoryReadsBack
  refine ⟨fun d a bs bad => ⟨d.bytes_writeMem a bs bad, fun k hk => d.byte_writeMem_outside a bs bad k hk, Memory.wf_writeMem d a bs bad⟩,
    fun d a n k => ⟨fun hlow hhigh => d.byte_zeroMem_inside a n k ⟨hlow, hhigh⟩, fun hk => d.byte_zeroMem_outside a n k (by omega),
      fun hwf => ⟨Memory.wf_zeroMem d a n hwf, Memory.wf_scrambleMem d a n hwf⟩⟩,
    fun d a bs k hlow hhigh => d.poisonedAt_writeMem_bad a bs k hlow hhigh, fun d a g bs hlost => ⟨fun hlow hhigh => ?whole, fun hpart => ?part⟩⟩
  case whole => rw [Dev.poisonedAt_writeMem_clean, if_pos ⟨hlow, hhigh⟩, hlost, Bool.or_false]
  case part => rw [Dev.poisonedAt_writeMem_clean, if_neg hpart, Dev.poisonedAt, Nat.mul_div_cancel g (by decide)]

end Sys2Proof.Machine
end

section
/-! PROOFS. A keyed access (Table 7.1), the elements of a vector (R616 to R619), the state of a Raker (R586, R587), an instruction a
Raker runs (R586), and integer division by zero (R593). -/

namespace Sys2Proof.Machine

/-! Keyed accesses (Table 7.1) -/

/-- The checks of a key that no party takes part in. -/
def Dev.keyLive (d : Dev) (key : Nat) : Prop :=
  d.moorOn = true ∧ keyIndex key < 2 ^ 20 ∧ keyIndex key < d.moorEntries ∧ d.poisoned (d.moorAddr (keyIndex key)) 32 = false
    ∧ wf (d.moorDesc (keyIndex key)) 0 0 1 ≠ 0 ∧ wf (d.moorDesc (keyIndex key)) 0 24 8 ≠ 0
    ∧ wf (d.moorDesc (keyIndex key)) 0 24 8 = keyGen key

/-- The check of the party: the owner itself, or a crossing of the owner to the node the mooring names. -/
def Dev.keyParty (d : Dev) (w : Who) (e : List Word) : Prop :=
  match w with
  | .loc b => wf e 0 32 8 = b
  | .rem x => d.get (Fld.XCT_XING_OWNER x) = wf e 0 32 8 ∧ (wf e 0 32 8 = 0 ∨ d.on (Fld.CPLAN_RIGHTS_XCT (wf e 0 32 8)) = true)
      ∧ (wf e 0 8 1 = 1 ∨ wf e 0 12 12 = d.get (Fld.XCT_XING_REMOTE_NODE x))

/-- The bit of word 0 that grants a kind of access to a party (0 read, 1 write, 2 atomic). -/
def Who.rightBit (w : Who) (kind : Nat) : Nat := match w with | .loc _ => 1 + kind | .rem _ => 4 + kind

/-- Checks 1 to 5 of Table 7.1 let a key through exactly where each passes, and then answer its descriptor. -/
theorem Dev.keyOpen_eq_ok_iff (d : Dev) (w : Who) (key : Nat) (e : List Word) :
    d.keyOpen w key = .ok e ↔ e = d.moorDesc (keyIndex key) ∧ d.keyLive key ∧ d.keyParty w e := by
  unfold Dev.keyOpen Dev.keyLive Dev.keyParty
  by_cases hon : d.moorOn = true
  case neg => simp [hon]
  by_cases hindex : 2 ^ 20 ≤ keyIndex key ∨ d.moorEntries ≤ keyIndex key
  case pos => grind
  by_cases hpoison : d.poisoned (d.moorAddr (keyIndex key)) 32 = true
  case pos => grind
  cases w with
  | loc b => grind
  | rem x => grind

/-- Checks 6 and 7, of the right and of the bound, follow. -/
theorem Dev.keyCheck_eq_ok_iff (d : Dev) (w : Who) (key off len kind o va : Nat) :
    d.keyCheck w key off len kind = .ok (o, va) ↔ ∃ e, d.keyOpen w key = .ok e ∧ wf e 0 (w.rightBit kind) 1 ≠ 0
      ∧ off + len ≤ wf e 2 0 41 ∧ (len = 0 → off < wf e 2 0 41) ∧ o = wf e 0 32 8 ∧ va = wf e 1 0 48 + off := by
  unfold Dev.keyCheck Who.rightBit
  cases d.keyOpen w key with
  | error _ => simp
  | ok e =>
    simp only [Except.ok.injEq, exists_eq_left']
    cases w <;> grind

/-- Settles O8: a key passes exactly where `keyOpen` and the last two checks pass. -/
theorem keyOpensOnlyWhenChecked : Obligations.KeyOpensOnlyWhenChecked := by
  unfold Obligations.KeyOpensOnlyWhenChecked
  constructor
  · rintro d b key off len kind o va e rfl
    simp only [Dev.keyCheck_eq_ok_iff, Dev.keyOpen_eq_ok_iff, and_assoc, exists_eq_left, Dev.keyLive, Dev.keyParty, Who.rightBit]
    grind
  · rintro d x key off len kind o va e rfl hok
    simp only [Dev.keyCheck_eq_ok_iff, Dev.keyOpen_eq_ok_iff, and_assoc, exists_eq_left, Dev.keyLive, Dev.keyParty] at hok
    obtain ⟨-, -, -, -, -, hgen, hkey, howner, hright, hnode, -, hbound, -, rfl, -⟩ := hok
    exact ⟨howner, hright, hnode, hkey, hgen, hbound⟩

/-! The elements of a vector register -/

/-- A number made of n digits of E bits. -/
def digitSum (E n : Nat) (c : Nat → Nat) : Nat := ((List.range n).map (fun j => c j * 2 ^ (E * j))).sum

theorem digitSum_succ (E n : Nat) (c : Nat → Nat) : digitSum E (n + 1) c = digitSum E n c + c n * 2 ^ (E * n) := by
  simp [digitSum, List.range_succ]

section
variable {E : Nat} {c : Nat → Nat} (hc : ∀ j, c j < 2 ^ E)
include hc

theorem digitSum_lt (n : Nat) : digitSum E n c < 2 ^ (E * n) := by
  induction n with
  | zero => simp [digitSum]
  | succ n ih =>
    calc
      digitSum E (n + 1) c = digitSum E n c + c n * 2 ^ (E * n) := digitSum_succ E n c
      _ < (c n + 1) * 2 ^ (E * n) := by rw [Nat.add_one_mul]; omega
      _ ≤ 2 ^ E * 2 ^ (E * n) := Nat.mul_le_mul_right _ (hc n)
      _ = 2 ^ (E * (n + 1)) := by rw [← Nat.pow_add]; congr 1; ring

theorem bitsOf_digitSum (n j : Nat) (hj : j < n) : bitsOf (digitSum E n c) (E * j) E = c j := by
  induction n with
  | zero => omega
  | succ n ih =>
    rw [bitsOf, digitSum_succ]
    rcases Nat.lt_or_eq_of_le (Nat.lt_succ_iff.mp hj) with hlt | rfl
    · obtain ⟨m, hm⟩ := Nat.exists_eq_add_of_lt hlt
      have hsplit : c n * 2 ^ (E * n) = 2 ^ (E * j) * (2 ^ E * (c n * 2 ^ (E * m))) := by
        rw [hm, show E * (j + m + 1) = E * j + (E + E * m) by ring, Nat.pow_add, Nat.pow_add]
        ring
      rw [hsplit, Nat.add_mul_div_left _ _ (Nat.two_pow_pos _), Nat.add_mul_mod_self_left]
      exact ih hlt
    · rw [Nat.add_mul_div_right _ _ (Nat.two_pow_pos _), Nat.div_eq_of_lt (digitSum_lt hc j), Nat.zero_add, Nat.mod_eq_of_lt (hc j)]

end

theorem velem_lt (v : BitVec 512) (E j : Nat) : velem v E j < 2 ^ E := Nat.mod_lt _ (Nat.two_pow_pos _)

/-- What element j of a merge holds. -/
def mergedElem (m : BitVec 16) (E : Nat) (old : BitVec 512) (f : Nat → Nat) (j : Nat) : Nat :=
  if isActive m (512 / E) j then f j % 2 ^ E else velem old E j

theorem vmerge_eq (m : BitVec 16) (E : Nat) (old : BitVec 512) (f : Nat → Nat) :
    vmerge m E old f = BitVec.ofNat 512 (digitSum E (512 / E) (mergedElem m E old f)) := rfl

theorem mergedElem_lt (m : BitVec 16) (E : Nat) (old : BitVec 512) (f : Nat → Nat) (j : Nat) : mergedElem m E old f j < 2 ^ E := by
  unfold mergedElem
  split
  · exact Nat.mod_lt _ (Nat.two_pow_pos _)
  · exact velem_lt old E j

/-- Settles O14: the elements of a merge are the digits of one number below 2^512. -/
theorem vectorElements : Obligations.VectorElements := by
  unfold Obligations.VectorElements
  intro m E old f j hE hj
  have hfits : digitSum E (512 / E) (mergedElem m E old f) < 2 ^ 512 :=
    (digitSum_lt (mergedElem_lt m E old f) _).trans_le (Nat.pow_le_pow_right (by decide) (Nat.mul_div_le 512 E))
  rw [vmerge_eq, velem, BitVec.toNat_ofNat, Nat.mod_eq_of_lt hfits, bitsOf_digitSum (mergedElem_lt m E old f) _ _ hj]
  rfl

/-! The state of a Raker (R586, R587) -/

@[simp] theorem Dev.rk_settle (d : Dev) (p i : Nat) : d.settle.rk p i = d.rk p i := by simp [Dev.rk]

@[simp] theorem Dev.rk_setRk_same (d : Dev) (p i : Nat) (r : RakerS) : (d.setRk p i r).rk p i = r := by
  simp [Dev.setRk, Dev.rk]

theorem Dev.rk_setRk_ne (d : Dev) {p i q j : Nat} (r : RakerS) (hi : i < 4) (hj : j < 4) (h : q ≠ p ∨ j ≠ i) :
    (d.setRk p i r).rk q j = d.rk q j := by
  simp only [Dev.setRk, Dev.rk]
  exact tget_tput_ne _ _ _ (by omega)

theorem Dev.get_live_setRk (d : Dev) (p i : Nat) (r : RakerS) (hi : i < 4) :
    (d.setRk p i r).get ⟨Reg.PAN_STATE p, 4 + i, 1⟩ = if r.live then 1 else 0 := by
  rw [Dev.setRk, Dev.get_put_same _ _ _ (by simp only; omega)]
  exact flag_mod_two _

theorem Dev.reg_setRk_ne (d : Dev) (p i : Nat) (r : RakerS) {k : Nat} (hk : k ≠ Reg.PAN_STATE p) : (d.setRk p i r).reg k = d.reg k :=
  Dev.reg_put_ne _ _ _ hk

@[simp] theorem Dev.byte_setRk (d : Dev) (p i : Nat) (r : RakerS) (a : Nat) : (d.setRk p i r).byte a = d.byte a := rfl

@[simp] theorem Dev.pan_setRk (d : Dev) (p i : Nat) (r : RakerS) (q : Nat) : (d.setRk p i r).pan q = d.pan q := rfl

theorem RakerS.gr_setG (r : RakerS) (n : Nat) (v : Word) (m : Nat) : (r.setG n v).gr m = if m = n ∧ n ≠ 0 then v else r.gr m := by
  unfold RakerS.setG
  by_cases hn : n = 0
  · simp [hn]
  · by_cases hm : m = 0 <;> simp [RakerS.gr, hn, hm, tget_tput, Ne.symm hn]

theorem RakerS.pr_setP (r : RakerS) (n : Nat) (v : BitVec 16) (m : Nat) : (r.setP n v).pr m = if m = n ∧ n ≠ 0 then v else r.pr m := by
  unfold RakerS.setP
  by_cases hn : n = 0
  · simp [hn]
  · by_cases hm : m = 0 <;> simp [RakerS.pr, hn, hm, tget_tput, Ne.symm hn]

theorem RakerS.vr_setV (r : RakerS) (n : Nat) (v : BitVec 512) (m : Nat) : (r.setV n v).vr m = if m = n then v else r.vr m := by
  simp [RakerS.setV, RakerS.vr, tget_tput]

/-- Settles O13: a Raker's state lies in its own entry of the table and in the LIVE bit of its Pan's register. -/
theorem rakerFrame : Obligations.RakerFrame := by
  unfold Obligations.RakerFrame
  exact fun d p i r hi => ⟨d.rk_setRk_same p i r, d.get_live_setRk p i r hi, fun q j hj h => d.rk_setRk_ne r hi hj h,
    fun k hk => d.reg_setRk_ne p i r hk, fun a => d.byte_setRk p i r a, r.gr_setG, r.pr_setP, r.vr_setV⟩

/-! An instruction a Raker runs (R586) -/

section
variable {d : Dev} {p i key : Nat} {x : Insn} (h : d.Runs p i key x)
include h

/-- The instruction at PC is performed on the Raker with its PC past it. -/
theorem Dev.insn_runs (f : Insn → RakerS → Dev → Ran) :
    d.insn p i key f = match f x ((d.rk p i).next x) d with
      | (none, s1, r2) => s1.setRk p i r2
      | (some e, s1, r2) => (s1.setRk p i { r2 with pc := (d.rk p i).pc }).takeExc p i e := by
  obtain ⟨hlive, hstop, hfetch, hlegal, hkey, hguard⟩ := h
  have hpass : (decide (x.major < 0x30) && !x.passes (d.rk p i)) = false := by
    simpa [imp_iff_not_or] using hguard
  simp only [Dev.insn, hlive, hstop, hfetch, hlegal, hkey, hpass, Bool.not_true, Bool.or_self, Bool.false_eq_true, if_false, ne_eq,
    not_true_eq_false, decide_false, RakerS.next] <;> rfl

theorem Dev.insn_retires {f : Insn → RakerS → Dev → Ran} {s1 : Dev} {r2 : RakerS} (hf : f x ((d.rk p i).next x) d = (none, s1, r2)) :
    d.insn p i key f = s1.setRk p i r2 := by
  rw [Dev.insn_runs h, hf]

/-- R603: an exception leaves PC at the instruction. -/
theorem Dev.insn_traps {f : Insn → RakerS → Dev → Ran} {e : Exc} {s1 : Dev} {r2 : RakerS}
    (hf : f x ((d.rk p i).next x) d = (some e, s1, r2)) :
    d.insn p i key f = (s1.setRk p i { r2 with pc := (d.rk p i).pc }).takeExc p i e := by
  rw [Dev.insn_runs h, hf]

end

@[simp] theorem RakerS.next_gr (r : RakerS) (x : Insn) (n : Nat) : (r.next x).gr n = r.gr n := rfl

/-- R602: a free handler takes the exception; what the Raker computes with stays. -/
theorem Dev.takeExc_handled {d : Dev} {p i : Nat} (e : Exc) (hhandler : (d.pan p).handler ≠ 0)
    (hactive : (d.rk p i).cause.getLsbD 63 = false) :
    d.takeExc p i e = d.setRk p i { d.rk p i with
      epc := e.epc.getD (d.rk p i).pc, cause := packW [(0, 8, e.code), (8, 4, e.kind), (12, 2, e.access), (63, 1, 1)]
      flane := e.flane.getD (d.rk p i).flane, pc := (d.pan p).handler } := by
  simp only [Dev.takeExc, hactive, Bool.not_false, Bool.and_true, decide_eq_true hhandler, if_true]

/-! Integer instructions of two registers (R592, R593) -/

theorem intR_some {fn : Nat} {x : Insn} {r : RakerS} {v : Word} (h : alu fn (r.gr x.ra) (r.gr x.rb) = some v) (d : Dev) :
    intR fn x r d = (none, d, r.setG x.rd v) := by
  simp [intR, writesRd, h]

theorem intR_none {fn : Nat} {x : Insn} {r : RakerS} (h : alu fn (r.gr x.ra) (r.gr x.rb) = none) (d : Dev) :
    intR fn x r d = (some { code := 0x10 }, d, r) := by
  simp [intR, writesRd, h]

/-- A divide of Table 16.4 has no value where the divisor is 0. -/
theorem alu_divide_zero {fn : Nat} (hfn : fn ∈ [5, 6, 7, 8]) (a : Word) : alu fn a 0 = none := by
  fin_cases hfn <;> rfl

theorem Dev.insn_intR_divz {d : Dev} {p i key fn : Nat} {x : Insn} (h : d.Runs p i key x) (hfn : fn ∈ [5, 6, 7, 8])
    (hzero : (d.rk p i).gr x.rb = 0) :
    d.insn p i key (intR fn) = (d.setRk p i (d.rk p i)).takeExc p i { code := 0x10 } := by
  have hnone : alu fn (((d.rk p i).next x).gr x.ra) (((d.rk p i).next x).gr x.rb) = none := by
    rw [RakerS.next_gr, RakerS.next_gr, hzero, alu_divide_zero hfn]
  exact (Dev.insn_traps h (intR_none hnone d) :)

/-- Settles O12: the four divides have no value at a zero divisor, and the handler takes DIVZ; −2^63 by −1 is computed. -/
theorem divideByZero : Obligations.DivideByZero := by
  unfold Obligations.DivideByZero
  refine ⟨fun s p i x e he hruns hzero => ?divz, fun d p i hhandler hactive => ?handled, fun s p i x r hr ha hb => ⟨fun hruns => ?div, fun hruns => ?rem⟩⟩
  case divz =>
    simp only [List.mem_cons, List.not_mem_nil, or_false] at he
    obtain rfl | rfl | rfl | rfl := he <;> exact congrArg s.done (Dev.insn_intR_divz hruns (by decide) hzero)
  case handled =>
    rw [Dev.rk_settle, Dev.takeExc_handled _ (by simpa using hhandler) (by simpa using hactive), Dev.rk_setRk_same, Dev.rk_setRk_same]
    rfl
  case div | rem =>
    subst hr
    refine congrArg s.done (Dev.insn_retires hruns (intR_some ?_ s.dev))
    rw [ha, hb]
    rfl

end Sys2Proof.Machine
end

section
/-! PROOFS. The outcome of a command from its effect on the device, and the commands on rings (spec/05). -/

namespace Sys2Proof.Machine

/-! The outcome of a command from its effect on the device -/

theorem State.dv_done {s : State} {f : Dev → Dev} {d : Dev} (h : f s.dev = d) : s.dv f = s.done d := congrArg s.done h

theorem State.dvIf_done {s : State} {c : Bool} {f : Dev → Dev} {d : Dev} (hc : c = true) (h : f s.dev = d) : s.dvIf c f = s.done d := by
  rw [hc, State.dvIf_true, h]

/-- A command of a service acts on the ticket it finds ready. -/
theorem State.serve_done {s : State} {b r slot svc op : Nat} {t : Ticket} {f : Dev → Ticket → Dev} {d : Dev}
    (hready : s.dev.Ready b r slot svc op t) (h : f (s.dev.begin t) t.begun = d) :
    (s.dv fun d => d.serve b r slot svc op f) = s.done d :=
  State.dv_done ((Dev.serve_ready hready f).trans h)

theorem Dev.on_eq_true {d : Dev} {f : Fld} : d.on f = true ↔ d.get f ≠ 0 := by simp [Dev.on]

theorem Dev.on_eq_false {d : Dev} {f : Fld} : d.on f = false ↔ d.get f = 0 := by simp [Dev.on]

@[simp] theorem Dev.at_on (d : Dev) (t : Nat) (f : Fld) : (d.at t).on f = d.on f := by simp [Dev.on]

@[simp] theorem Dev.at_rh (d : Dev) (t b r : Nat) : (d.at t).rh b r = d.rh b r := by simp [Dev.rh]

theorem ringThere_of {b r : Nat} (hb : b ≤ 128) (hr : r < 64) : ringThere b r = true := decide_eq_true ⟨hb, hr⟩

/-! Doorbells, reaps and announcements -/

theorem Dev.doorbell_later {d : Dev} {b r v : Nat} (hstate : d.ringState b r ≠ 0)
    (hafter : after (v % 2 ^ 32) (d.get (Fld.RING_TAIL_TAIL_SEQ b r)) 32 = true)
    (hroom : subMod (v % 2 ^ 32) (d.get (Fld.RING_SEQS_CONSUMED_SEQ b r)) 32 ≤ d.ringSize b r) :
    d.doorbell b r v true = d.put (Fld.RING_TAIL_TAIL_SEQ b r) (v % 2 ^ 32) := by
  simp only [Dev.doorbell, hstate, same_of_after hafter, hafter, hroom, decide_false, Bool.not_true, Bool.or_self, Bool.false_eq_true,
    if_false, if_true]

theorem Dev.reap_later {d : Dev} {b r v : Nat} (hafter : after (v % 2 ^ 32) (d.get (Fld.RING_REAPED_REAPED_SEQ b r)) 32 = true)
    (hproduced : after (v % 2 ^ 32) (d.get (Fld.RING_SEQS_PRODUCED_SEQ b r)) 32 = false) :
    d.reap b r v = d.put (Fld.RING_REAPED_REAPED_SEQ b r) (v % 2 ^ 32) := by
  simp only [Dev.reap, same_of_after hafter, hafter, hproduced, Bool.not_false, Bool.and_self, Bool.false_eq_true, if_false, if_true]

/-- R194: an announcement that is due is made at once where something is unannounced and the ring's interrupt is enabled. -/
theorem Dev.announce_now {d : Dev} {b r : Nat} (hintr : d.on (Fld.RING_DESC_CTRL_INTR_EN b r) = true) (hunann : 0 < (d.rh b r).unann) :
    d.announce b r true = (d.setRh b r { d.rh b r with unann := 0 }).msixEvent b (d.get (Fld.RING_DESC_CTRL_VECTOR b r)) := by
  simp only [Dev.announce, hintr, hunann, decide_true, Bool.true_or, Bool.and_self, if_true]

theorem exec_doorbell_later (s : State) (b r v : Nat)
    (hb : b ≤ 128) (hr : r < 64) (hringState : s.dev.ringState b r ≠ 0)
    (htailSeq : after (v % 2 ^ 32) (s.dev.get (Fld.RING_TAIL_TAIL_SEQ b r)) 32 = true)
    (hconsumedSeq : subMod (v % 2 ^ 32) (s.dev.get (Fld.RING_SEQS_CONSUMED_SEQ b r)) 32 ≤ s.dev.ringSize b r) :
    exec (.doorbell b r v true) s = s.done (s.dev.put (Fld.RING_TAIL_TAIL_SEQ b r) (v % 2 ^ 32)) := by
  show execDoorbell b r v true s = _
  exact State.dvIf_done (ringThere_of hb hr) (Dev.doorbell_later hringState htailSeq hconsumedSeq)

theorem exec_ringReapedWrite_later (s : State) (b r v : Nat)
    (hb : b ≤ 128) (hr : r < 64) (hreapedSeq : after (v % 2 ^ 32) (s.dev.get (Fld.RING_REAPED_REAPED_SEQ b r)) 32 = true)
    (hproducedSeq : after (v % 2 ^ 32) (s.dev.get (Fld.RING_SEQS_PRODUCED_SEQ b r)) 32 = false) :
    exec (.ringReapedWrite b r v) s = s.done (s.dev.put (Fld.RING_REAPED_REAPED_SEQ b r) (v % 2 ^ 32)) := by
  show execRingReapedWrite b r v s = _
  exact State.dvIf_done (ringThere_of hb hr) (Dev.reap_later hreapedSeq hproducedSeq)

theorem exec_msixCoalesceTimer (s : State) (b r : Nat)
    (hb : b ≤ 128) (hr : r < 64) (hcoalUs : s.dev.get (Fld.RING_DESC_COAL_COAL_US b r) ≠ 0) (hunann : 0 < (s.dev.rh b r).unann)
    (hintrEn : s.dev.on (Fld.RING_DESC_CTRL_INTR_EN b r) = true) :
    exec (.msixCoalesceTimer b r) s = s.done
      (((s.dev.at ((s.dev.rh b r).oldest + 1000 * s.dev.get (Fld.RING_DESC_COAL_COAL_US b r))).setRh b r { s.dev.rh b r with unann := 0 }).msixEvent
        b (s.dev.get (Fld.RING_DESC_CTRL_VECTOR b r))) := by
  show execMsixCoalesceTimer b r s = _
  refine State.dvIf_done (ringThere_of hb hr) ?_
  have hopen : (decide (s.dev.get (Fld.RING_DESC_COAL_COAL_US b r) = 0) || decide ((s.dev.rh b r).unann = 0)
      || !s.dev.on (Fld.RING_DESC_CTRL_INTR_EN b r)) = false := by
    simp [hcoalUs, hintrEn, hunann.ne']
  simp only [hopen, Bool.false_eq_true, if_false]
  rw [Dev.announce_now (by simpa using hintrEn) (by simpa using hunann), Dev.at_rh, Dev.at_get]

theorem exec_deadlineExpiry (s : State) (b r slot : Nat) (t : Ticket)
    (hticketAt : s.dev.ticketAt b r slot = some t) (hdeadlineUs : t.deadlineUs ≠ 0) :
    exec (.deadlineExpiry b r slot) s = s.done ((s.dev.at (t.tide + 1000 * t.deadlineUs)).finish t 5 0 0) := by
  show execDeadlineExpiry b r slot s = _
  refine State.dv_done ?_
  simp only [hticketAt, hdeadlineUs, if_false]
  rfl

theorem exec_ringNop (s : State) (b r slot : Nat) (t : Ticket)
    (hReady : s.dev.Ready b r slot 0 0 t) :
    exec (.ringNop b r slot) s = s.done ((s.dev.begin t).finish t.begun 0 0 0) := by
  show execRingNop b r slot s = _
  exact State.serve_done hReady rfl

theorem exec_errLastRead (s : State) :
    exec (.errLastRead true) s = s.done { s.dev with err := { s.dev.err with reported := [] } } := rfl

/-- Settles O15: each command takes the one branch its hypotheses leave open. -/
theorem ringSequences : Obligations.RingSequences := by
  unfold Obligations.RingSequences
  exact ⟨exec_doorbell_later, exec_ringReapedWrite_later, exec_msixCoalesceTimer, exec_deadlineExpiry, exec_ringNop, exec_errLastRead⟩

/-! Enabling, disabling, halting, abandoning and resuming -/

theorem Dev.ringHaltNow_running {d : Dev} {b r : Nat} (hstate : d.ringState b r = 1) (hsignal : d.isSignal b r = false)
    (hwaiting : ∀ e : Dev, e.tickets = d.tickets → e.waiting b r = []) :
    d.ringHaltNow b r
      = ({ d.put (Fld.RING_STATE_STATE b r) 2 with outst := d.outst.filter (fun o => o.purpose ≠ Purpose.fetch b r) }).settleRing b r := by
  have hnone := hwaiting { d.put (Fld.RING_STATE_STATE b r) 2 with outst := d.outst.filter (fun o => o.purpose ≠ Purpose.fetch b r) } rfl
  simp only [Dev.ringHaltNow, hstate, hsignal, hnone, Bool.false_eq_true, if_true, if_false, List.foldl_nil]

theorem Dev.ringHalt_enabled {d : Dev} {b r : Nat} (hstate : d.ringState b r = 1) : d.ringHalt b r = d.ringHaltNow b r := by
  rw [Dev.ringHalt, if_neg (by omega)]

theorem Dev.ringResume_halted {d : Dev} {b r : Nat} (hstate : d.ringState b r = 3)
    (hquarantine : b = 0 ∨ d.get (Fld.BPLAN_CTRL_QUARANTINED b) = 0) :
    d.ringResume b r = (d.put (Fld.RING_STATE_STATE b r) 1).put (Fld.RING_STATE_CAUSE b r) 0 := by
  have hfree : (decide (b ≠ 0) && d.on (Fld.BPLAN_CTRL_QUARANTINED b)) = false := by
    rcases hquarantine with rfl | hclear
    · rfl
    · rw [Dev.on_eq_false.mpr hclear, Bool.and_false]
  simp only [Dev.ringResume, hfree, hstate, Bool.false_eq_true, decide_true, decide_false, Bool.true_or, Bool.false_and, if_true, if_false,
    OfNat.ofNat_ne_one, Nat.reduceEqDiff]

/-- R211: a ring that runs, drains or is halted is abandoned. -/
theorem Dev.ringAbandon_live {d : Dev} {b r : Nat} (hsignal : d.isSignal b r = false)
    (hstate : d.ringState b r = 1 ∨ d.ringState b r = 2 ∨ d.ringState b r = 3) :
    d.ringAbandon b r =
      let d2 := (d.tickets.filter (fun t => t.key.b = b && t.key.r = r)).foldl (fun e t => e.finish t 2 0 0)
        { (d.put (Fld.RING_STATE_STATE b r) 4).put (Fld.RING_STATE_CAUSE b r) 0 with
          outst := d.outst.filter (fun o => o.purpose ≠ Purpose.fetch b r) }
      (d2.put (Fld.RING_TAIL_TAIL_SEQ b r) (d2.get (Fld.RING_SEQS_CONSUMED_SEQ b r))).settleRing b r := by
  rcases hstate with hstate | hstate | hstate <;> simp [Dev.ringAbandon, hstate, hsignal, Dev.fail]

theorem exec_ringEnable_accepted (s : State) (b r : Nat) (v : Word)
    (hb : b ≤ 128) (hr : r < 64) (hoff : s.dev.on (Fld.RING_DESC_CTRL_ENABLE b r) = false)
    (hwritten : (s.dev.writeReg (descKey b r 0) (v ||| 1) 8 0).on (Fld.RING_DESC_CTRL_ENABLE b r) = true)
    (haccepted : (((s.dev.writeReg (descKey b r 0) (v ||| 1) 8 0).put (Fld.RING_DESC_CTRL_ENABLE b r) 0).enableRefused b r) = false) :
    exec (.ringEnable b r v) s = s.done ((s.dev.writeReg (descKey b r 0) (v ||| 1) 8 0).ringStart b r) := by
  show execRingEnable b r v s = _
  refine State.dvIf_done (ringThere_of hb hr) ?_
  simp only [Dev.ringDescWrite, hoff, hwritten, haccepted, Bool.false_eq_true, if_false, if_true]

theorem exec_ringDisable (s : State) (b r : Nat) (v : Word)
    (hb : b ≤ 128) (hr : r < 64) (hon : s.dev.on (Fld.RING_DESC_CTRL_ENABLE b r) = true)
    (hwritten : (s.dev.writeReg (descKey b r 0) (v &&& ~~~1) 8 0).on (Fld.RING_DESC_CTRL_ENABLE b r) = false)
    (hsame : setBits ((s.dev.writeReg (descKey b r 0) (v &&& ~~~1) 8 0).reg (descKey b r 0)) 0 1 1 = s.dev.reg (descKey b r 0)) :
    exec (.ringDisable b r v) s = s.done ((s.dev.put (Fld.RING_DESC_CTRL_ENABLE b r) 0).ringStop b r) := by
  show execRingDisable b r v s = _
  refine State.dvIf_done (ringThere_of hb hr) ?_
  simp only [Dev.ringDescWrite, hon, hwritten, hsame, ne_eq, not_true_eq_false, decide_false, Bool.false_eq_true, if_false, if_true]

theorem exec_ringHalt_signal (s : State) (b r : Nat)
    (hb : b ≤ 128) (hr : r < 64) (hringState : s.dev.ringState b r = 1) (hisSignal : s.dev.isSignal b r = true) :
    exec (.ringHalt b r) s = s.done (s.dev.put (Fld.RING_STATE_STATE b r) 3) := by
  show execRingHalt b r s = _
  refine State.dvIf_done (ringThere_of hb hr) ((Dev.ringHalt_enabled hringState).trans ?_)
  simp only [Dev.ringHaltNow, hringState, hisSignal, if_true]

theorem exec_ringHalt (s : State) (b r : Nat)
    (hb : b ≤ 128) (hr : r < 64) (hringState : s.dev.ringState b r = 1) (hisSignal : s.dev.isSignal b r = false)
    (hwaiting : (∀ d : Dev, d.tickets = s.dev.tickets → d.waiting b r = [])) :
    exec (.ringHalt b r) s = s.done ({ s.dev.put (Fld.RING_STATE_STATE b r) 2 with
      outst := s.dev.outst.filter (fun o => o.purpose ≠ Purpose.fetch b r) }.settleRing b r) := by
  show execRingHalt b r s = _
  exact State.dvIf_done (ringThere_of hb hr) ((Dev.ringHalt_enabled hringState).trans (Dev.ringHaltNow_running hringState hisSignal hwaiting))

theorem exec_ringAbandon (s : State) (b r : Nat) (d : Dev)
    (hb : b ≤ 128) (hr : r < 64) (hisSignal : s.dev.isSignal b r = false)
    (hringState : (s.dev.ringState b r = 1 ∨ s.dev.ringState b r = 2 ∨ s.dev.ringState b r = 3))
    (hd : d = (s.dev.tickets.filter (fun t => t.key.b = b && t.key.r = r)).foldl (fun e t => e.finish t 2 0 0)
      { (s.dev.put (Fld.RING_STATE_STATE b r) 4).put (Fld.RING_STATE_CAUSE b r) 0 with
        outst := s.dev.outst.filter (fun o => o.purpose ≠ Purpose.fetch b r) }) :
    exec (.ringAbandon b r) s = s.done ((d.put (Fld.RING_TAIL_TAIL_SEQ b r) (d.get (Fld.RING_SEQS_CONSUMED_SEQ b r))).settleRing b r) := by
  show execRingAbandon b r s = _
  subst hd
  exact State.dvIf_done (ringThere_of hb hr) (Dev.ringAbandon_live hisSignal hringState)

theorem exec_ringResume_halted (s : State) (b r : Nat)
    (hb : b ≤ 128) (hr : r < 64) (hringState : s.dev.ringState b r = 3)
    (hctrlQuarantined : (b = 0 ∨ s.dev.get (Fld.BPLAN_CTRL_QUARANTINED b) = 0)) :
    exec (.ringResume b r) s = s.done ((s.dev.put (Fld.RING_STATE_STATE b r) 1).put (Fld.RING_STATE_CAUSE b r) 0) := by
  show execRingResume b r s = _
  exact State.dvIf_done (ringThere_of hb hr) (Dev.ringResume_halted hringState hctrlQuarantined)

/-- Settles O17: each command takes the one branch its hypotheses leave open. -/
theorem ringControl : Obligations.RingControl := by
  unfold Obligations.RingControl
  exact ⟨exec_ringEnable_accepted, exec_ringDisable, exec_ringHalt_signal, exec_ringHalt, exec_ringAbandon, exec_ringResume_halted⟩

end Sys2Proof.Machine
end

section
/-! PROOFS. Keys of moorings and copies between them (spec/07). -/

namespace Sys2Proof.Machine

/-! REGISTER (R264, R265) -/

/-- The descriptor REGISTER writes for a plain mooring: rights, bound node, generation, owner; base; length; pages. -/
def plainDesc (ws : List Word) (b g : Nat) (p : PageSum) : List Word :=
  [packW [(0, 1, 1), (1, 6, wf ws 4 0 6), (7, 1, 0), (8, 1, wf ws 4 7 1), (12, 12, wf ws 4 8 12), (24, 8, g), (32, 8, b)],
    packW [(0, 48, wf ws 2 0 48)], packW [(0, 41, wf ws 3 0 41)], packW [(0, 27, p.hbm), (27, 17, p.cis)]]

/-- The generation a free index is registered under. -/
def Dev.freshGen (d : Dev) (i : Nat) : Nat := if wf (d.moorDesc i) 0 24 8 = 0 then 1 else wf (d.moorDesc i) 0 24 8

/-- Every check of R264 and R265 that a plain mooring of berth t.key.b has to pass. -/
structure Dev.Registrable (d : Dev) (t : Ticket) (p : PageSum) (i : Nat) : Prop where
  body : bodyZero t.words [(2, 2 ^ 48 - 1), (3, 2 ^ 41 - 1), (4, 2 ^ 20 - 1)] = true
  nonempty : wf t.words 3 0 41 ≠ 0
  small : wf t.words 3 0 41 ≤ 2 ^ 40
  inside : wf t.words 2 0 48 + wf t.words 3 0 41 ≤ 2 ^ 48
  rights : wf t.words 4 0 6 < 8 ∨ t.right 7 1 ≠ 0
  plain : wf t.words 4 6 1 = 0
  served : d.moorOn = true
  walked : d.regWalk t.key.b t.accel (wf t.words 4 0 6) (wf t.words 2 0 48 + wf t.words 3 0 41 - 1) (wf t.words 3 0 41 / 4096 + 2)
    (wf t.words 2 0 48 / 4096 * 4096) ⟨0, 0, [], false, []⟩ = .ok p
  hbm : p.hbm < 2 ^ 27
  cis : p.cis < 2 ^ 17
  quota : t.key.b = 0 ∨ (d.get (Fld.USAGE_MOORINGS_USED t.key.b) + 1 ≤ getBits (t.planWord 0x10) 8 21
    ∧ pagesMib ((tget (fun _ => BerthH.init) d.berthH t.key.b).hbmPages + p.hbm) ≤ getBits (t.planWord 0x18) 0 19
    ∧ pagesMib ((tget (fun _ => BerthH.init) d.berthH t.key.b).cisPages + p.cis) ≤ getBits (t.planWord 0x18) 32 9)
  free : d.freeIndex (min d.moorEntries (d.moor.reg.length + 1)) d.moor.lastPlus1 = some i

theorem Dev.registerStart_issues {d : Dev} {t : Ticket} {p : PageSum} {i : Nat} (h : d.Registrable t p i) :
    d.registerStart t =
      let d1 := d.setMoorDesc i (plainDesc t.words t.key.b (d.freshGen i) p)
      ((({ d1 with
        moor := { d1.moor with lastPlus1 := i + 1, reg := i :: d1.moor.reg }
        moorPages := tput (fun _ => []) d1.moorPages i p.homes
        moorExt := tput (fun _ => []) d1.moorExt i [] } : Dev).moorUse t.key.b 1 p.hbm p.cis).vaultUse).finish t 0 0
          (d.freshGen i * 2 ^ 24 + i) := by
  have hright : ¬ (8 ≤ wf t.words 4 0 6 ∧ t.right 7 1 = 0) := by
    have hrights := h.rights
    omega
  have hmoorings : ¬ (t.key.b ≠ 0 ∧ getBits (t.planWord 0x10) 8 21 < d.get (Fld.USAGE_MOORINGS_USED t.key.b) + 1) := by
    have hquota := h.quota
    omega
  have hhbm : ¬ (2 ^ 27 ≤ p.hbm ∨ t.key.b ≠ 0 ∧ getBits (t.planWord 0x18) 0 19
      < pagesMib ((tget (fun _ => BerthH.init) d.berthH t.key.b).hbmPages + p.hbm)) := by
    have hquota := h.quota
    have hpages := h.hbm
    omega
  have hcis : ¬ (2 ^ 17 ≤ p.cis ∨ t.key.b ≠ 0 ∧ getBits (t.planWord 0x18) 32 9
      < pagesMib ((tget (fun _ => BerthH.init) d.berthH t.key.b).cisPages + p.cis)) := by
    have hquota := h.quota
    have hpages := h.cis
    omega
  simp only [Dev.registerStart, Dev.freshGen, plainDesc, Bool.or_eq_true, Bool.and_eq_true, Bool.not_eq_true', decide_eq_true_eq, h.body, h.nonempty,
    not_lt.mpr h.small, not_lt.mpr h.inside, hright, h.plain, h.served, h.walked, hmoorings, hhbm, hcis, h.free, Bool.true_eq_false,
    or_self, false_and, zero_ne_one, ↓reduceIte]

theorem exec_registerT (s : State) (b r slot i : Nat) (t : Ticket) (p : PageSum)
    (hReady : s.dev.Ready b r slot 1 1 t) (hkey : t.key.b = b)
    (hbodyZero : bodyZero t.words [(2, 2 ^ 48 - 1), (3, 2 ^ 41 - 1), (4, 2 ^ 20 - 1)] = true) (hlen : Machine.wf t.words 3 0 41 ≠ 0)
    (hmax : Machine.wf t.words 3 0 41 ≤ 2 ^ 40) (hend : Machine.wf t.words 2 0 48 + Machine.wf t.words 3 0 41 ≤ 2 ^ 48)
    (hrights : (Machine.wf t.words 4 0 6 < 8 ∨ t.right 7 1 ≠ 0)) (hplain : Machine.wf t.words 4 6 1 = 0)
    (hon : (s.dev.begin t).moorOn = true)
    (hwalk : (s.dev.begin t).regWalk b t.accel (Machine.wf t.words 4 0 6) (Machine.wf t.words 2 0 48 + Machine.wf t.words 3 0 41 - 1) (Machine.wf t.words 3 0 41 / 4096 + 2)
      (Machine.wf t.words 2 0 48 / 4096 * 4096) ⟨0, 0, [], false, []⟩ = .ok p)
    (hhbm : p.hbm < 2 ^ 27) (hcis : p.cis < 2 ^ 17)
    (hroom : (b = 0 ∨ ((s.dev.begin t).get (Fld.USAGE_MOORINGS_USED b) + 1 ≤ getBits (t.planWord 0x10) 8 21
      ∧ pagesMib ((tget (fun _ => BerthH.init) (s.dev.begin t).berthH b).hbmPages + p.hbm) ≤ getBits (t.planWord 0x18) 0 19
      ∧ pagesMib ((tget (fun _ => BerthH.init) (s.dev.begin t).berthH b).cisPages + p.cis) ≤ getBits (t.planWord 0x18) 32 9)))
    (hindex : (s.dev.begin t).freeIndex (min (s.dev.begin t).moorEntries ((s.dev.begin t).moor.reg.length + 1)) (s.dev.begin t).moor.lastPlus1 = some i) :
    ∃ (g : Nat) (d1 : Dev),
      g = (if Machine.wf ((s.dev.begin t).moorDesc i) 0 24 8 = 0 then 1 else Machine.wf ((s.dev.begin t).moorDesc i) 0 24 8)
      ∧ d1 = (s.dev.begin t).setMoorDesc i
          [packW [(0, 1, 1), (1, 6, Machine.wf t.words 4 0 6), (7, 1, 0), (8, 1, Machine.wf t.words 4 7 1), (12, 12, Machine.wf t.words 4 8 12),
              (24, 8, g), (32, 8, b)],
            packW [(0, 48, Machine.wf t.words 2 0 48)], packW [(0, 41, Machine.wf t.words 3 0 41)], packW [(0, 27, p.hbm), (27, 17, p.cis)]]
      ∧ exec (.registerT b r slot) s = s.done
        (((({ d1 with
            moor := { d1.moor with lastPlus1 := i + 1, reg := i :: d1.moor.reg }
            moorPages := tput (fun _ => []) d1.moorPages i p.homes
            moorExt := tput (fun _ => []) d1.moorExt i [] } : Dev).moorUse b 1 p.hbm p.cis).vaultUse).finish t.begun 0 0 (g * 2 ^ 24 + i)) := by
  subst hkey
  exact ⟨_, _, rfl, rfl, State.serve_done hReady (Dev.registerStart_issues (t := t.begun)
    ⟨hbodyZero, hlen, hmax, hend, hrights, hplain, hon, hwalk, hhbm, hcis, hroom, hindex⟩)⟩

/-- Settles O18: every check of `registerStart` passes, and what is left is the descriptor and its key. -/
theorem registerIssuesKey : Obligations.RegisterIssuesKey := by
  unfold Obligations.RegisterIssuesKey
  exact exec_registerT

/-! REVOKE, REGEN, the end of a key's use, PLACE_FLUSH, and the table's clear (R267, R268, R276, R280) -/

/-- A key that opens for its owner is fenced, and the ticket waits until nothing uses the old key. -/
theorem Dev.fenceKey_opens {d : Dev} {t : Ticket} {e : List Word} (revoke : Bool) (hbody : bodyZero t.words [(2, 2 ^ 32 - 1)] = true)
    (hopen : d.keyOpen (.loc t.key.b) (wf t.words 2 0 32) = .ok e) :
    d.fenceKey t revoke =
      let d1 := d.stepGen (keyIndex (wf t.words 2 0 32)) (!revoke)
      ({ d1 with moor := { d1.moor with
        waiting := d1.moor.waiting ++ [⟨keyIndex (wf t.words 2 0 32), keyGen (wf t.words 2 0 32), t.key, revoke⟩] } } : Dev).workOn t.key := by
  simp only [Dev.fenceKey, hbody, hopen, Bool.not_true, Bool.false_eq_true, ↓reduceIte]

theorem Dev.flushStart_onDevice {d : Dev} {t : Ticket} {a : Nat} {d1 : Dev}
    (hbody : bodyZero t.words [(4, 2 ^ 32 - 1), (5, 2 ^ 41 - 1)] = true)
    (hpiece : d.keyedPiece (.loc t.key.b) (wf t.words 4 0 32) (wf t.words 5 0 41) 0 1 t.accel 6 0 = (.ok (.mem a), d1)) :
    d.flushStart t = d1.finish t 0 0 0 := by
  simp only [Dev.flushStart, hbody, hpiece, Dest.link, Bool.not_true, Bool.false_eq_true, ↓reduceIte]

/-- R276: an enable whose table lies inside the Toll region is taken and the table is BUSY until it is zeroed. -/
theorem Dev.moorWrite_enables {d w : Dev} {v : Word} (hw : w = d.writeReg Reg.TOLL_MOOR v 8 0) (hoff : d.on Fld.TOLL_MOOR_ENABLE = false)
    (hon : w.on Fld.TOLL_MOOR_ENABLE = true) (hctrl : d.on Fld.TOLL_CTRL_ENABLE = true)
    (hlow : d.tollBase ≤ w.get Fld.TOLL_MOOR_BASE * 4096)
    (hhigh : w.get Fld.TOLL_MOOR_BASE * 4096 + 32 * 2 ^ w.get Fld.TOLL_MOOR_LOG2_ENTRIES ≤ d.tollBase + d.tollSize) :
    d.moorWrite v 8 0 = { w.put Fld.TOLL_MOOR_BUSY 1 with moor := { w.moor with lastPlus1 := 0 } } := by
  subst hw
  simp only [Dev.moorWrite, hoff, hon, hctrl, hlow, hhigh, and_self, decide_true, Bool.not_true, Bool.not_false, Bool.or_self,
    Bool.and_false, Bool.and_true, Bool.false_and, Bool.false_eq_true, ↓reduceIte]

theorem exec_revoke (s : State) (b r slot : Nat) (t : Ticket) (e : List Word)
    (hReady : s.dev.Ready b r slot 1 2 t) (hbodyZero : bodyZero t.words [(2, 2 ^ 32 - 1)] = true)
    (hopen : (s.dev.begin t).keyOpen (.loc t.key.b) (Machine.wf t.words 2 0 32) = .ok e) :
    ∃ d1 : Dev, d1 = (s.dev.begin t).stepGen (keyIndex (Machine.wf t.words 2 0 32)) false
      ∧ exec (.revoke b r slot) s = s.done (({ d1 with moor := { d1.moor with waiting := d1.moor.waiting
          ++ [⟨keyIndex (Machine.wf t.words 2 0 32), keyGen (Machine.wf t.words 2 0 32), t.key, true⟩] } } : Dev).workOn t.key) :=
  ⟨_, rfl, State.serve_done hReady (Dev.fenceKey_opens true hbodyZero hopen)⟩

theorem exec_regen (s : State) (b r slot : Nat) (t : Ticket) (e : List Word)
    (hReady : s.dev.Ready b r slot 1 3 t) (hbodyZero : bodyZero t.words [(2, 2 ^ 32 - 1)] = true)
    (hopen : (s.dev.begin t).keyOpen (.loc t.key.b) (Machine.wf t.words 2 0 32) = .ok e) :
    ∃ d1 : Dev, d1 = (s.dev.begin t).stepGen (keyIndex (Machine.wf t.words 2 0 32)) true
      ∧ exec (.regen b r slot) s = s.done (({ d1 with moor := { d1.moor with waiting := d1.moor.waiting
          ++ [⟨keyIndex (Machine.wf t.words 2 0 32), keyGen (Machine.wf t.words 2 0 32), t.key, false⟩] } } : Dev).workOn t.key) :=
  ⟨_, rfl, State.serve_done hReady (Dev.fenceKey_opens false hbodyZero hopen)⟩

theorem exec_mooringKeyQuiesced (s : State) (i g : Nat) (q : Quiesce)
    (hfound : s.dev.moor.waiting.find? (fun q => decide (q.index = i ∧ q.oldGen = g)) = some q) (hidle : s.dev.keyBusy i g = false) :
    ∃ d1 : Dev, d1 = ({ s.dev with moor := { s.dev.moor with waiting := s.dev.moor.waiting.erase q } } : Dev).workOff q.tk
      ∧ exec (.mooringKeyQuiesced i g) s = s.done
        (if q.revoke then (d1.freeMoor i).finishKey q.tk 0 0 0 else d1.finishKey q.tk 0 0 (Machine.wf (d1.moorDesc i) 0 24 8 * 2 ^ 24 + i)) := by
  refine ⟨_, rfl, ?_⟩
  show execMooringKeyQuiesced i g s = _
  refine State.dv_done ?_
  simp only [Dev.keyQuiesced, hfound, hidle, Bool.false_eq_true, ↓reduceIte]

theorem exec_placeFlush (s : State) (b r slot a : Nat) (t : Ticket) (d1 : Dev)
    (hReady : s.dev.Ready b r slot 2 2 t)
    (holdest : s.dev.tickets.any (fun u => u.key.b = b && u.key.r = r && before u.seq t.seq 32) = false)
    (hbodyZero : bodyZero t.words [(4, 2 ^ 32 - 1), (5, 2 ^ 41 - 1)] = true)
    (hpiece : (s.dev.begin t).keyedPiece (.loc t.key.b) (Machine.wf t.words 4 0 32) (Machine.wf t.words 5 0 41) 0 1 t.accel 6 0 = (.ok (.mem a), d1)) :
    exec (.placeFlush b r slot) s = s.done (d1.finish t.begun 0 0 0) := by
  show execPlaceFlush b r slot s = _
  refine State.dv_done ?_
  obtain ⟨hat, -⟩ := id hReady
  simp only [hat, holdest, Bool.false_eq_true, ↓reduceIte]
  exact (Dev.serve_ready hReady _).trans (Dev.flushStart_onDevice (t := t.begun) hbodyZero hpiece)

theorem exec_tollMoorEnable (s : State) (v : Word) (w : Dev)
    (hw : w = s.dev.writeReg Reg.TOLL_MOOR v 8 0) (hmoorEnable : s.dev.on Fld.TOLL_MOOR_ENABLE = false)
    (hmoorEnable2 : w.on Fld.TOLL_MOOR_ENABLE = true) (hctrlEnable : s.dev.on Fld.TOLL_CTRL_ENABLE = true)
    (hmoorBase : s.dev.tollBase ≤ w.get Fld.TOLL_MOOR_BASE * 4096)
    (hmoorBase2 : w.get Fld.TOLL_MOOR_BASE * 4096 + 32 * 2 ^ w.get Fld.TOLL_MOOR_LOG2_ENTRIES ≤ s.dev.tollBase + s.dev.tollSize) :
    exec (.tollMoorEnable v) s = s.done { w.put Fld.TOLL_MOOR_BUSY 1 with moor := { w.moor with lastPlus1 := 0 } } := by
  show execTollMoorEnable v s = _
  exact State.dv_done (Dev.moorWrite_enables hw hmoorEnable hmoorEnable2 hctrlEnable hmoorBase hmoorBase2)

theorem exec_moorTableCleared (s : State)
    (hmoorBusy : s.dev.on Fld.TOLL_MOOR_BUSY = true) :
    exec .moorTableCleared s = s.done ((s.dev.zeroMem (s.dev.moorAddr 0) (32 * s.dev.moorEntries)).put Fld.TOLL_MOOR_BUSY 0) := by
  show execMoorTableCleared s = _
  refine State.dv_done ?_
  simp only [hmoorBusy, ↓reduceIte]

/-- Settles O19: each command by the case its hypotheses leave open. -/
theorem mooringLifecycle : Obligations.MooringLifecycle := by
  unfold Obligations.MooringLifecycle
  exact ⟨exec_revoke, exec_regen, exec_mooringKeyQuiesced, exec_placeFlush, exec_tollMoorEnable, exec_moorTableCleared⟩

/-! COPY (R279) -/

theorem Dev.copyRun_done {d : Dev} {t : Ticket} (fuel : Nat) (h : wf t.words 6 0 31 ≤ t.result) : Dev.copyRun (fuel + 1) d t = d.placed t := by
  simp only [Dev.copyRun, h, ↓reduceIte]

theorem Dev.copyStart_formed (d : Dev) {t : Ticket}
    (hbody : bodyZero t.words [(2, 2 ^ 32 - 1), (3, 2 ^ 41 - 1), (4, 2 ^ 32 - 1), (5, 2 ^ 41 - 1), (6, 2 ^ 31 - 1 + 2 ^ 32)] = true)
    (hpos : 0 < wf t.words 6 0 31) (hmax : wf t.words 6 0 31 ≤ 2 ^ 30) :
    d.copyStart t = Dev.copyRun (copyFuel t) d { t with prove := wf t.words 6 32 1 = 1 } := by
  simp only [Dev.copyStart, Bool.or_eq_true, Bool.not_eq_true', decide_eq_true_eq, hbody, hpos.ne', not_lt.mpr hmax, Bool.true_eq_false,
    or_self, ↓reduceIte]

/-- A copy that one piece of the destination holds, whose source has all been read on the device. -/
theorem Dev.copyRun_onePiece {d d1 d2 : Dev} {t t1 t2 : Ticket} {o : Nat × Nat} (fuel : Nat) (hresult : t.result = 0)
    (hpos : 0 < wf t.words 6 0 31) (hpage : wf t.words 6 0 31 ≤ 4096 - d.keyVa (wf t.words 4 0 32) (wf t.words 5 0 41) % 4096)
    (hgather : d.gatherPieces (.loc t.key.b) { t with data := [], left := 0, bad := false, marks := [] } (wf t.words 2 0 32) 6 0
      (d.keyedPieces (wf t.words 2 0 32) (wf t.words 3 0 41) (wf t.words 6 0 31)) 0 = (.ok (), d1, t1))
    (hleft : t1.left = 0)
    (hcheck : d1.keyCheck (.loc t.key.b) (wf t.words 4 0 32) (wf t.words 5 0 41) (wf t.words 6 0 31) 1 = .ok o)
    (hplace : d1.placePieces (.loc t.key.b) t1 (wf t.words 4 0 32) 6 0 t1.marks [(wf t.words 5 0 41, wf t.words 6 0 31)]
      (t1.bytesAt 0 (wf t.words 6 0 31)) = (.ok (), d2, t2))
    (hwords : t2.words = t.words) :
    Dev.copyRun (fuel + 2) d t = d2.placed { t2 with result := wf t.words 6 0 31, bad := t.bad || t2.bad } := by
  simp only [hresult] at hgather
  rw [Dev.copyRun]
  simp only [hresult, Nat.add_zero, Nat.sub_zero, Nat.zero_add, Nat.min_eq_left hpage, not_le.mpr hpos, hgather, hcheck, hleft,
    lt_self_iff_false, hplace, ↓reduceIte]
  exact Dev.copyRun_done fuel (by simp [hwords])

theorem exec_copyT (s : State) (b r slot : Nat) (t u t1 t2 : Ticket) (d1 d2 : Dev) (o : Nat × Nat)
    (hReady : s.dev.Ready b r slot 2 1 t) (hkey : t.key.b = b) (hresult : t.result = 0)
    (hu : u = { t.begun with prove := Machine.wf t.words 6 32 1 = 1 })
    (hbodyZero : bodyZero t.words [(2, 2 ^ 32 - 1), (3, 2 ^ 41 - 1), (4, 2 ^ 32 - 1), (5, 2 ^ 41 - 1), (6, 2 ^ 31 - 1 + 2 ^ 32)] = true)
    (hpos : 0 < Machine.wf t.words 6 0 31) (hmax : Machine.wf t.words 6 0 31 ≤ 2 ^ 30)
    (hpage : Machine.wf t.words 6 0 31 ≤ 4096 - (s.dev.begin t).keyVa (Machine.wf t.words 4 0 32) (Machine.wf t.words 5 0 41) % 4096)
    (hgather : (s.dev.begin t).gatherPieces (.loc b) { u with data := [], left := 0, bad := false, marks := [] } (Machine.wf t.words 2 0 32) 6 0
      ((s.dev.begin t).keyedPieces (Machine.wf t.words 2 0 32) (Machine.wf t.words 3 0 41) (Machine.wf t.words 6 0 31)) 0 = (.ok (), d1, t1))
    (hleft : t1.left = 0) (hwords : t1.words = t.words)
    (hcheck : d1.keyCheck (.loc b) (Machine.wf t.words 4 0 32) (Machine.wf t.words 5 0 41) (Machine.wf t.words 6 0 31) 1 = .ok o)
    (hplace : d1.placePieces (.loc b) t1 (Machine.wf t.words 4 0 32) 6 0 t1.marks [(Machine.wf t.words 5 0 41, Machine.wf t.words 6 0 31)]
      (t1.bytesAt 0 (Machine.wf t.words 6 0 31)) = (.ok (), d2, t2))
    (hwords2 : t2.words = t.words) :
    exec (.copyT b r slot) s = s.done (d2.placed { t2 with result := Machine.wf t.words 6 0 31, bad := t.bad || t2.bad }) := by
  show execCopyT b r slot s = _
  subst hu hkey
  refine State.serve_done hReady ?_
  refine (Dev.copyStart_formed (t := t.begun) _ hbodyZero hpos hmax).trans ?_
  exact Dev.copyRun_onePiece (t := { t.begun with prove := Machine.wf t.words 6 32 1 = 1 }) _ hresult hpos hpage hgather hleft hcheck
    hplace hwords2

/-- Settles O20: the copy is one piece, which is gathered, checked and placed; the next round finds nothing left. -/
theorem copyMoves : Obligations.CopyMoves := by
  unfold Obligations.CopyMoves
  exact exec_copyT

end Sys2Proof.Machine
end

section
/-! PROOFS. Power (spec/22) and time (spec/14): the cap loop, island states, the PTP port, Wall time and timed operations. -/

namespace Sys2Proof.Machine

/-! One pass of the cap loop (R768 to R770) -/

theorem Dev.capPower_fresh (d : Dev) (p : Int) :
    d.capPower p none = (d.put Fld.PWR_STATUS_STALE 0).put Fld.PWR_STATUS_POWER_W (p / 2 ^ 27).toNat := rfl

theorem Dev.capAuto_off {d : Dev} (h : d.on (Fld.TASK_HELM_AUTONOMOUS 0) = false) : d.capAuto = d.put Fld.PWR_CAPS_AUTO_W 750 := by
  simp only [Dev.capAuto, h, Bool.false_eq_true, ↓reduceIte]

/-- Below the thermal brake, with none of it in effect, nothing is braked or released. -/
theorem Dev.capBrake_cool {d : Dev} {t : Int} (hot : Nat) (hcool : t < (d.power.thermBrake : Int) * 1024)
    (hoff : d.on Fld.PWR_STATUS_THERMAL = false) : d.capBrake t hot = d := by
  simp only [Dev.capBrake, not_le.mpr hcool, hoff, decide_false, Bool.false_and, Bool.and_false, Bool.false_eq_true, ↓reduceIte]

theorem exec_capLoopTick (s : State) (p : Int) (d0 d1 d2 : Dev)
    (hd0 : d0 = s.dev.at s.dev.nextMs) (hpowerNow : d0.powerNow = (p, none))
    (hd1 : d1 = (d0.put Fld.PWR_STATUS_STALE 0).put Fld.PWR_STATUS_POWER_W (p / 2 ^ 27).toNat)
    (hhelmAutonomous : (d1.capTemp d1.hottest.1).on (Fld.TASK_HELM_AUTONOMOUS 0) = false)
    (hd2 : d2 = (d1.capTemp d1.hottest.1).put Fld.PWR_CAPS_AUTO_W 750) (hhottest : d1.hottest.1 < (d2.power.thermBrake : Int) * 1024)
    (hstatusThermal : d2.on Fld.PWR_STATUS_THERMAL = false) :
    exec .capLoopTick s = s.done (d2.capLevel p false) := by
  show execCapLoopTick s = _
  subst hd0 hd1
  refine State.dv_done ?_
  simp only [Dev.capLoop, hpowerNow, Dev.capPower_fresh, Dev.capAuto_off hhelmAutonomous, Option.isSome_none]
  rw [← hd2, Dev.capBrake_cool _ hhottest hstatusThermal]

/-- Settles O21: the pass, stage by stage. -/
theorem capLoop : Obligations.CapLoop := by
  unfold Obligations.CapLoop
  exact exec_capLoopTick

/-! Islands (R762 to R767, R771) and the brake (R775, R776) -/

theorem exec_groupRotate (s : State) :
    exec .groupRotate s
    = s.done ({ s.dev with power := { s.dev.power with offset := (s.dev.power.offset + 1) % 16 } }.syncIslands) := rfl

theorem exec_neapEntryTimer (s : State) (n : Nat)
    (hn : n < 96) (hidleEn : s.dev.on Fld.PWR_CTRL_IDLE_EN = true) (hneapNs : s.dev.on (Fld.PWR_IDLE_NEAP_NS (idleKind n)) = true)
    (hislandIdle : s.dev.islandIdle n = true) (hislState : s.dev.get (Fld.PWR_ISL_STATE n) < 2)
    (htget : tget (fun _ => 0) s.dev.power.moving n = 0) :
    exec (.neapEntryTimer n) s = s.done { s.dev with power := { s.dev.power with moving := tput (fun _ => 0) s.dev.power.moving n 1 } } := by
  show execNeapEntryTimer n s = _
  refine State.dv_done ?_
  simp only [hn, hidleEn, hneapNs, hislandIdle, hislState, htget, decide_true, Bool.and_self, ↓reduceIte]

theorem exec_slackEntryTimer (s : State) (n : Nat)
    (hn : n < 96) (hidleEn : s.dev.on Fld.PWR_CTRL_IDLE_EN = true) (hslackUs : s.dev.on (Fld.PWR_IDLE_SLACK_US (idleKind n)) = true)
    (hislandIdle : s.dev.islandIdle n = true) (hislState : s.dev.get (Fld.PWR_ISL_STATE n) = 2)
    (htget : tget (fun _ => 0) s.dev.power.moving n = 0) :
    exec (.slackEntryTimer n) s = s.done { s.dev with power := { s.dev.power with moving := tput (fun _ => 0) s.dev.power.moving n 2 } } := by
  show execSlackEntryTimer n s = _
  refine State.dv_done ?_
  simp only [hn, hidleEn, hslackUs, hislandIdle, hislState, htget, decide_true, Bool.and_self, ↓reduceIte]

theorem exec_islandWake (s : State) (n : Nat)
    (hn : n < 96) (hislState : (s.dev.get (Fld.PWR_ISL_STATE n) = 2 ∨ s.dev.get (Fld.PWR_ISL_STATE n) = 3))
    (htget : tget (fun _ => 0) s.dev.power.moving n = 0) :
    exec (.islandWake n) s = s.done { s.dev with power := { s.dev.power with moving := tput (fun _ => 0) s.dev.power.moving n 3 } } := by
  show execIslandWake n s = _
  refine State.dv_done ?_
  simp only [hn, Dev.wakeIsland, htget, OfNat.zero_ne_ofNat, zero_ne_one, decide_false, decide_true, Bool.or_self, Bool.true_and,
    Bool.false_eq_true, Bool.or_eq_true, decide_eq_true_eq, hislState, ↓reduceIte]

theorem exec_islandExitDone (s : State) (n : Nat)
    (hn : n < 96) (htget : tget (fun _ => 0) s.dev.power.moving n = 3) :
    exec (.islandExitDone n) s = s.done (s.dev.exitIsland n) := by
  show execIslandExitDone n s = _
  refine State.dv_done ?_
  simp only [hn, htget, and_self, ↓reduceIte]

theorem exec_islandEntryDone_neap (s : State) (n : Nat)
    (hn : n < 96) (htget : tget (fun _ => 0) s.dev.power.moving n = 1) :
    ∃ d : Dev, d = ((s.dev.put (Fld.PWR_ISL_STATE n) 2).put (Fld.PWR_ISL_DIV n) 0).sat (Fld.PWR_ISL_NEAPS n)
      ∧ exec (.islandEntryDone n) s = s.done ({ d with power := { d.power with moving := tput (fun _ => 0) d.power.moving n 0 } }.syncPath n) := by
  refine ⟨_, rfl, ?_⟩
  show execIslandEntryDone n s = _
  refine State.dv_done ?_
  simp [hn, htget]

theorem exec_brakeNAssert (s : State) (ns : Nat)
    (h20 : 20 ≤ ns) :
    exec (.brakeNAssert ns) s = s.done ({ s.dev with power := { s.dev.power with brakePinLow := true } }.setBrakeSource 0 true) := by
  show execBrakeNAssert ns s = _
  refine State.dv_done ?_
  simp only [h20, decide_true, Bool.true_or, ↓reduceIte]

theorem exec_brakeNRelease (s : State) (ns : Nat)
    (h20 : 20 ≤ ns) :
    exec (.brakeNRelease ns) s = s.done ({ s.dev with power := { s.dev.power with brakePinLow := false } }.setBrakeSource 0 false) := by
  show execBrakeNRelease ns s = _
  refine State.dv_done ?_
  simp only [h20, decide_true, Bool.true_or, ↓reduceIte]

theorem exec_pwrCtrlWrite_taken (s : State) (v : Word)
    (hlow : 1 ≤ getBits v 16 16) (hhigh : getBits v 16 16 ≤ 100) (hother : getBits v 32 16 ≤ 200) (hkeep : getBits v 1 1 = 0) :
    exec (.pwrCtrlWrite v) s = s.done
      (((s.dev.put Fld.PWR_CTRL_IDLE_EN (getBits v 0 1)).put Fld.PWR_CTRL_HYST_W (getBits v 16 16)).put Fld.PWR_CTRL_OTHER_W (getBits v 32 16)) := by
  show execPwrCtrlWrite v s = _
  refine State.dv_done ((Dev.pwrCtrlWrite_taken s.dev ((not_pwrCtrlOutside_iff v).mpr ⟨hlow, hhigh, hother⟩)).trans ?_)
  rw [Dev.clearPwrRefused, if_neg (by omega)]

/-- Settles O22: each command takes the one branch its hypotheses leave open. -/
theorem powerStates : Obligations.PowerStates := by
  unfold Obligations.PowerStates
  exact ⟨exec_groupRotate, exec_neapEntryTimer, exec_slackEntryTimer, exec_islandWake, exec_islandExitDone, exec_islandEntryDone_neap,
    exec_brakeNAssert, exec_brakeNRelease, exec_pwrCtrlWrite_taken⟩

/-! The PTP port (R520 to R529) -/

/-- The first Announce heard selects its sender. -/
theorem Dev.ptpAnnounce_first {d : Dev} (src p1 cls acc var p2 gm steps : Nat) (hen : d.on Fld.TID_CTRL_PTP_EN = true)
    (hheard : d.time.heard = []) (hmaster : d.time.master = 0) :
    d.ptpAnnounce src p1 cls acc var p2 gm steps
      = (({ d with time := { d.time with
          heard := [([p1, cls, acc, var, p2, gm, steps, src], src)], master := src + 1, t1 := 0, t2 := 0, t3 := 0, lockRun := 0 } }.put
        Fld.TID_STATUS_SERVO 1).put Fld.TID_STATUS_STEP_PENDING 0).setReg Reg.TID_PTP_MASTER (BitVec.ofNat 64 gm) := by
  simp only [Dev.ptpAnnounce, hen, hheard, hmaster, List.filter_nil, List.foldl_cons, List.foldl_nil, ite_self, Bool.not_true,
    Bool.false_eq_true, (Nat.succ_ne_zero src).symm, ↓reduceIte]
  rfl

theorem exec_ptpSync (s : State) (src seq t1 : Nat) (two : Bool) (corr : Int)
    (hfromMaster : s.dev.fromMaster src = true) :
    ∃ d : Dev, d = s.dev.sat Fld.TID_PTP_COUNTS_SYNC_USED
      ∧ exec (.ptpSync src seq two t1 corr) s = s.done { d with
          time := { d.time with syncSeq := seq, t2 := s.dev.time.wall + 1, t1 := if two then 0 else t1 + 1, corr := corr } } := by
  refine ⟨_, rfl, ?_⟩
  show execPtpSync src seq two t1 corr s = _
  refine State.dv_done ?_
  simp only [Dev.ptpSync, hfromMaster, Bool.not_true, Bool.false_eq_true, ↓reduceIte] <;> rfl

theorem exec_ptpFollowUp (s : State) (src t1 : Nat) (corr : Int)
    (hfromMaster : s.dev.fromMaster src = true) (hsynced : s.dev.time.t2 ≠ 0) (hopen : s.dev.time.t1 = 0) :
    exec (.ptpFollowUp src s.dev.time.syncSeq t1 corr) s
      = s.done { s.dev with time := { s.dev.time with t1 := t1 + 1, corr := s.dev.time.corr + corr } } := by
  show execPtpFollowUp src s.dev.time.syncSeq t1 corr s = _
  refine State.dv_done ?_
  simp only [Dev.ptpFollowUp, hfromMaster, hsynced, hopen, Bool.not_true, ne_eq, not_true_eq_false, decide_false, Bool.or_self,
    Bool.false_eq_true, ↓reduceIte]

theorem exec_ptpDelayResp (s : State) (src t4 : Nat) (corr ms sm : Int)
    (hfromMaster : s.dev.fromMaster src = true) (ht1 : s.dev.time.t1 ≠ 0) (ht2 : s.dev.time.t2 ≠ 0) (ht3 : s.dev.time.t3 ≠ 0)
    (hms : ms = (s.dev.time.t2 : Int) - s.dev.time.t1 - s.dev.time.corr) (hsm : sm = (t4 : Int) - (s.dev.time.t3 - 1 : Nat) - corr) :
    exec (.ptpDelayResp src true s.dev.time.dreqSeq t4 corr) s
      = s.done ({ s.dev with time := { s.dev.time with t3 := 0, t1 := 0, t2 := 0 } }.sample (ms - (ms + sm) / 2)) := by
  show execPtpDelayResp src true s.dev.time.dreqSeq t4 corr s = _
  subst hms hsm
  refine State.dv_done ?_
  simp only [Dev.ptpDelayResp, hfromMaster, ht1, ht2, ht3, Bool.not_true, ne_eq, not_true_eq_false, decide_false, Bool.or_self,
    Bool.false_eq_true, ↓reduceIte]

theorem exec_ptpAnnounce_first (s : State) (src p1 cls acc var p2 gm steps : Nat)
    (hptpEn : s.dev.on Fld.TID_CTRL_PTP_EN = true) (hheard : s.dev.time.heard = []) (hmaster : s.dev.time.master = 0) :
    exec (.ptpAnnounce src p1 cls acc var p2 gm steps) s = s.done
      ((({ s.dev with time := { s.dev.time with
          heard := [([p1, cls, acc, var, p2, gm, steps, src], src)], master := src + 1, t1 := 0, t2 := 0, t3 := 0, lockRun := 0 } }.put
        Fld.TID_STATUS_SERVO 1).put Fld.TID_STATUS_STEP_PENDING 0).setReg Reg.TID_PTP_MASTER (BitVec.ofNat 64 gm)) := by
  show execPtpAnnounce src p1 cls acc var p2 gm steps s = _
  exact State.dv_done (Dev.ptpAnnounce_first src p1 cls acc var p2 gm steps hptpEn hheard hmaster)

theorem exec_delayReqTimer (s : State)
    (hptpEn : s.dev.on Fld.TID_CTRL_PTP_EN = true) (hmaster : s.dev.time.master ≠ 0) :
    exec .delayReqTimer s = s.done ({ s.dev with time := { s.dev.time with
      dreqSeq := (s.dev.time.dreqSeq + 1) % 65536, t3 := s.dev.time.wall + 1 } }.emit .ptp [1, (s.dev.time.dreqSeq + 1) % 65536]) := by
  show execDelayReqTimer s = _
  refine State.dv_done ?_
  simp only [Dev.ptpDelayReq, hptpEn, hmaster, Bool.not_true, decide_false, Bool.or_self, Bool.false_eq_true, ↓reduceIte]

theorem exec_ptpMasterLost (s : State)
    (hptpEn : s.dev.on Fld.TID_CTRL_PTP_EN = true) (hmaster : s.dev.time.master ≠ 0) (houtputs : s.dev.time.outputs ≠ []) :
    exec .ptpMasterLost s = s.done
      ((({ s.dev with time := { s.dev.time with
          master := 0, heard := s.dev.time.heard.filter (fun h => h.2 + 1 ≠ s.dev.time.master), holdFrom := s.dev.tide, lockRun := 0
          t1 := 0, t2 := 0, t3 := 0 } }.put Fld.TID_STATUS_SERVO 3).put Fld.TID_STATUS_STEP_PENDING 0).put Fld.TID_FREQ_FREQ_PPB
        (toField 32 (s.dev.time.outputs.sum / (s.dev.time.outputs.length : Int)))) := by
  show execPtpMasterLost s = _
  refine State.dv_done ?_
  simp only [Dev.ptpLost, hptpEn, hmaster, List.isEmpty_eq_false_iff.mpr houtputs, Bool.not_true, decide_false, Bool.or_self,
    Bool.false_eq_true, ↓reduceIte]

/-- Settles O23: each message takes the one branch its hypotheses leave open. -/
theorem ptpPort : Obligations.PtpPort := by
  unfold Obligations.PtpPort
  exact ⟨exec_ptpSync, exec_ptpFollowUp, exec_ptpDelayResp, exec_ptpAnnounce_first, exec_delayReqTimer, exec_ptpMasterLost⟩

/-! Wall time and timed operations (R514, R518, R528, R532 to R534) -/

theorem Dev.timeReadStart_placed {d d1 : Dev} {t t1 : Ticket} (hbody : bodyZero t.words [(2, 2 ^ 32 - 1), (3, 2 ^ 41 - 1)] = true)
    (halign : wf t.words 3 0 41 % 32 = 0)
    (hplace : d.placePieces (.loc t.key.b) t (wf t.words 2 0 32) 6 0 [] (d.keyedPieces (wf t.words 2 0 32) (wf t.words 3 0 41) 32) d.timeRecord
      = (.ok (), d1, t1)) :
    d.timeReadStart t = d1.finish t1 0 (d.get Fld.TID_STATUS_WALL_EPOCH) d.tide := by
  simp only [Dev.timeReadStart, hbody, halign, hplace, Bool.not_true, ne_eq, not_true_eq_false, decide_false, Bool.or_self,
    Bool.false_eq_true, ↓reduceIte]

theorem Dev.atTideStart_admitted {d : Dev} {t : Ticket} (hbody : bodyZero t.words [(2, 2 ^ 64 - 1)] = true) (hright : t.right 11 1 ≠ 0)
    (hroom : d.timers.length ≤ 65536) : d.atTideStart t = if wf t.words 2 0 64 ≤ d.tide then d.fire t else d := by
  simp only [Dev.atTideStart, hbody, hright, not_lt.mpr hroom, Bool.not_true, Bool.false_eq_true, ↓reduceIte]

theorem Dev.atWallStart_admitted {d : Dev} {t : Ticket}
    (hbody : bodyZero t.words [(2, 2 ^ 48 - 1), (3, 2 ^ 30 - 1 + 2 ^ 32 + (2 ^ 16 - 1) * 2 ^ 48)] = true)
    (hns : wf t.words 3 0 30 ≤ 999999999) (hright : t.right 11 1 ≠ 0) (hroom : d.timers.length ≤ 65536)
    (hvalid : d.on Fld.TID_STATUS_WALL_VALID = true) (hepoch : wf t.words 3 32 1 = 0) :
    d.atWallStart t = if t.wallTarget ≤ d.time.wall then d.fire t else d := by
  simp only [Dev.atWallStart, hbody, not_lt.mpr hns, hright, not_lt.mpr hroom, hvalid, hepoch, Bool.not_true, zero_ne_one, decide_false,
    Bool.false_and, Bool.or_self, Bool.false_eq_true, ↓reduceIte]

theorem exec_reanchor (s : State)
    (hwallValid : s.dev.on Fld.TID_STATUS_WALL_VALID = true) :
    exec .reanchor s = s.done ({ s.dev with time := { s.dev.time with two := (s.dev.time.wall : Int) - s.dev.tide } }.timeStepSignal 1
      ((s.dev.time.wall : Int) - s.dev.tide - s.dev.time.two)) := by
  show execReanchor s = _
  refine State.dv_done ?_
  simp only [Dev.reanchor, hwallValid, Bool.not_true, Bool.false_eq_true, ↓reduceIte]

theorem exec_wallSet (s : State) (v : Word) (w : Dev)
    (hw : w = s.dev.writeReg Reg.TID_WALL_SET_NS v 8 0) (hwoBits : woBits v 8 0 63 1 = 1) (hptpEn : s.dev.on Fld.TID_CTRL_PTP_EN = false)
    (hnsNs : w.get Fld.TID_WALL_SET_NS_NS ≤ 999999999) (hwallValid : w.on Fld.TID_STATUS_WALL_VALID = false) :
    exec (.wallSet v) s = s.done ((w.wallValid (w.get Fld.TID_WALL_SET_SEC_SEC * 1000000000 + w.get Fld.TID_WALL_SET_NS_NS)).timeStepSignal 2 0) := by
  show execWallSet v s = _
  subst hw
  refine State.dv_done ?_
  simp only [Dev.wallSetWrite, hwoBits, hptpEn, not_lt.mpr hnsNs, hwallValid, one_ne_zero, decide_false, Bool.or_self, Bool.false_eq_true,
    ↓reduceIte]

theorem exec_tidFreqWrite (s : State) (v : Word) (w : Dev)
    (hw : w = s.dev.writeReg Reg.TID_FREQ v 8 0) (hptpEn : s.dev.on Fld.TID_CTRL_PTP_EN = false)
    (hfreqPpb : (signed 32 (w.get Fld.TID_FREQ_FREQ_PPB)).natAbs ≤ 4000000) :
    exec (.tidFreqWrite v) s = s.done w := by
  show execTidFreqWrite v s = _
  subst hw
  refine State.dv_done ?_
  simp only [Dev.tidFreqWrite, hptpEn, hfreqPpb, Bool.false_eq_true, ↓reduceIte]

theorem exec_tidTideRead (s : State) :
    exec .tidTideRead s = s.done
      ((s.dev.setReg Reg.TID_SNAP_SEC (packW [(0, 48, s.dev.time.wall / 1000000000), (48, 16, s.dev.get Fld.TID_STATUS_WALL_EPOCH)])).setReg
        Reg.TID_SNAP_NS (packW [(0, 30, s.dev.time.wall % 1000000000)])) := rfl

theorem exec_timeRead (s : State) (b r slot : Nat) (t t1 : Ticket) (d1 : Dev)
    (hReady : s.dev.Ready b r slot 6 1 t) (hbodyZero : bodyZero t.words [(2, 2 ^ 32 - 1), (3, 2 ^ 41 - 1)] = true)
    (halign : Machine.wf t.words 3 0 41 % 32 = 0)
    (hplace : (s.dev.begin t).placePieces (.loc t.key.b) t.begun (Machine.wf t.words 2 0 32) 6 0 []
      ((s.dev.begin t).keyedPieces (Machine.wf t.words 2 0 32) (Machine.wf t.words 3 0 41) 32) (s.dev.begin t).timeRecord = (.ok (), d1, t1)) :
    exec (.timeRead b r slot) s = s.done (d1.finish t1 0 (s.dev.get Fld.TID_STATUS_WALL_EPOCH) s.dev.tide) := by
  show execTimeRead b r slot s = _
  exact State.serve_done hReady (Dev.timeReadStart_placed (t := t.begun) hbodyZero halign hplace)

theorem exec_atTide (s : State) (b r slot : Nat) (t : Ticket)
    (hReady : s.dev.Ready b r slot 6 0x10 t) (hbodyZero : bodyZero t.words [(2, 2 ^ 64 - 1)] = true) (hright : t.right 11 1 ≠ 0)
    (hroom : (s.dev.begin t).timers.length ≤ 65536) :
    exec (.atTide b r slot) s = s.done
      (if Machine.wf t.words 2 0 64 ≤ s.dev.tide then (s.dev.begin t).finish t.begun 0 (s.dev.get Fld.TID_STATUS_WALL_EPOCH) s.dev.tide
       else s.dev.begin t) := by
  show execAtTide b r slot s = _
  exact State.serve_done hReady (Dev.atTideStart_admitted (t := t.begun) hbodyZero hright hroom)

theorem exec_atWall (s : State) (b r slot : Nat) (t : Ticket)
    (hReady : s.dev.Ready b r slot 6 0x11 t)
    (hbodyZero : bodyZero t.words [(2, 2 ^ 48 - 1), (3, 2 ^ 30 - 1 + 2 ^ 32 + (2 ^ 16 - 1) * 2 ^ 48)] = true)
    (hns : Machine.wf t.words 3 0 30 ≤ 999999999) (hright : t.right 11 1 ≠ 0) (hroom : (s.dev.begin t).timers.length ≤ 65536)
    (hwallValid : s.dev.on Fld.TID_STATUS_WALL_VALID = true) (hepoch : Machine.wf t.words 3 32 1 = 0) :
    exec (.atWall b r slot) s = s.done
      (if t.wallTarget ≤ s.dev.time.wall then (s.dev.begin t).finish t.begun 0 (s.dev.get Fld.TID_STATUS_WALL_EPOCH) s.dev.tide
       else s.dev.begin t) := by
  show execAtWall b r slot s = _
  exact State.serve_done hReady (Dev.atWallStart_admitted (t := t.begun) hbodyZero hns hright hroom hwallValid hepoch)

theorem exec_timedOperationFire_tide (s : State) (b r slot : Nat) (t : Ticket)
    (hdue : s.dev.timers.find? (fun t => t.key.b = b && t.key.r = r && t.key.slot = slot) = some t)
    (htide : Machine.wf t.words 0 0 8 = 0x10) :
    ∃ d : Dev, d = s.dev.at (Machine.wf t.words 2 0 64)
      ∧ exec (.timedOperationFire b r slot) s = s.done (d.finish t 0 (d.get Fld.TID_STATUS_WALL_EPOCH) d.tide) := by
  refine ⟨_, rfl, ?_⟩
  show execTimedOperationFire b r slot s = _
  refine State.dv_done ?_
  simp only [Dev.timerDue, hdue, htide, ↓reduceIte] <;> rfl

/-- Settles O24: each command takes the one branch its hypotheses leave open. -/
theorem wallTime : Obligations.WallTime := by
  unfold Obligations.WallTime
  exact ⟨exec_reanchor, exec_wallSet, exec_tidFreqWrite, exec_tidTideRead, exec_timeRead, exec_atTide, exec_atWall,
    exec_timedOperationFire_tide⟩

end Sys2Proof.Machine
end

section
/-! PROOFS. Berth plans (spec/06), translations (spec/04), the Causeway and the maps of quads and Cistern (spec/02). -/

namespace Sys2Proof.Machine

/-! The action bits of BPLAN_CTRL in a write of the whole register -/

/-- Two bits that are clear together are clear each. -/
theorem getBits_two_eq_zero {v : Word} {lo : Nat} (h : getBits v lo 2 = 0) : getBits v lo 1 = 0 ∧ getBits v (lo + 1) 1 = 0 := by
  simp only [getBits, bitsOf, Nat.pow_succ, ← Nat.div_div_eq_div_mul] at h ⊢
  omega

theorem woBits_setBits_same (v : Word) (lo : Nat) (h : lo + 1 ≤ 64) : woBits (setBits v lo 1 1) 8 0 lo 1 = 1 := by
  rw [woBits_whole, getBits_setBits_same _ _ _ _ h]
  rfl

theorem woBits_setBits_apart (v : Word) (lo lo' len : Nat) (h : lo' + len ≤ 64) (ha : lo' + len ≤ lo ∨ lo + 1 ≤ lo') :
    woBits (setBits v lo 1 1) 8 0 lo' len = getBits v lo' len := by
  rw [woBits_whole, getBits_setBits_apart _ _ _ _ _ _ h ha]

/-- A write that leaves QUARANTINED as it is lifts nothing. -/
theorem not_lift {a b : Bool} (h : b = a) : (a && !b) = false := by
  subst h
  exact Bool.and_not_self b

section
variable {d w : Dev} {b : Nat} {v : Word}

theorem Dev.planCtrlWrite_commit (hw : w = d.writeReg (Reg.BPLAN_CTRL b) (setBits v 2 1 1) 8 0)
    (hkeep : w.on (Fld.BPLAN_CTRL_QUARANTINED b) = d.on (Fld.BPLAN_CTRL_QUARANTINED b)) (hothers : getBits v 3 2 = 0) :
    d.planCtrlWrite b (setBits v 2 1 1) 8 0 = w.commit b := by
  subst hw
  obtain ⟨hclear, hexpel⟩ := getBits_two_eq_zero hothers
  simp only [Dev.planCtrlWrite, not_lift hkeep, woBits_setBits_same v 2 (by decide), woBits_setBits_apart v 2 3 1 (by decide) (by decide),
    woBits_setBits_apart v 2 4 1 (by decide) (by decide), hclear, hexpel, Nat.add_zero, lt_self_iff_false, Bool.false_eq_true, ↓reduceIte]

theorem Dev.planCtrlWrite_clear (hw : w = d.writeReg (Reg.BPLAN_CTRL b) (setBits v 3 1 1) 8 0)
    (hkeep : w.on (Fld.BPLAN_CTRL_QUARANTINED b) = d.on (Fld.BPLAN_CTRL_QUARANTINED b)) (hcommit : getBits v 2 1 = 0)
    (hexpel : getBits v 4 1 = 0) (hstate : w.get (Fld.BPLAN_CTRL_STATE b) ≠ 3) :
    d.planCtrlWrite b (setBits v 3 1 1) 8 0 = w.berthClear b := by
  subst hw
  simp only [Dev.planCtrlWrite, not_lift hkeep, woBits_setBits_same v 3 (by decide), woBits_setBits_apart v 3 2 1 (by decide) (by decide),
    woBits_setBits_apart v 3 4 1 (by decide) (by decide), hcommit, hexpel, hstate, Nat.add_zero, Nat.zero_add, lt_self_iff_false, zero_ne_one,
    Bool.false_eq_true, ↓reduceIte]

theorem Dev.planCtrlWrite_expel (hw : w = d.writeReg (Reg.BPLAN_CTRL b) (setBits v 4 1 1) 8 0)
    (hkeep : w.on (Fld.BPLAN_CTRL_QUARANTINED b) = d.on (Fld.BPLAN_CTRL_QUARANTINED b)) (hothers : getBits v 2 2 = 0) :
    d.planCtrlWrite b (setBits v 4 1 1) 8 0 = w.expel b := by
  subst hw
  obtain ⟨hcommit, hclear⟩ := getBits_two_eq_zero hothers
  simp only [Dev.planCtrlWrite, not_lift hkeep, woBits_setBits_same v 4 (by decide), woBits_setBits_apart v 4 2 1 (by decide) (by decide),
    woBits_setBits_apart v 4 3 1 (by decide) (by decide), hcommit, hclear, Nat.zero_add, lt_self_iff_false, zero_ne_one, Bool.false_eq_true,
    ↓reduceIte]

/-- R256: a 1 written to QUARANTINED (W1C) lifts it. -/
theorem Dev.planCtrlWrite_lift (hw : w = d.writeReg (Reg.BPLAN_CTRL b) 0x40 8 0) (hon : d.on (Fld.BPLAN_CTRL_QUARANTINED b) = true)
    (hoff : w.on (Fld.BPLAN_CTRL_QUARANTINED b) = false) : d.planCtrlWrite b 0x40 8 0 = w.berthChange b 0x100 := by
  subst hw
  have hnone : woBits 0x40 8 0 2 1 = 0 ∧ woBits 0x40 8 0 3 1 = 0 ∧ woBits 0x40 8 0 4 1 = 0 := by decide
  obtain ⟨hcommit, hclear, hexpel⟩ := hnone
  simp only [Dev.planCtrlWrite, hon, hoff, hcommit, hclear, hexpel, Bool.not_false, Bool.and_self, Nat.add_zero, not_lt_zero, zero_ne_one,
    ↓reduceIte]

end

theorem isTenant_of {b : Nat} (h1 : 1 ≤ b) (hb : b ≤ 128) : isTenant b = true := decide_eq_true ⟨h1, hb⟩

theorem exec_bplanCommit (s : State) (b : Nat) (v : Word) (w : Dev)
    (h1 : 1 ≤ b) (hb : b ≤ 128) (hw : w = s.dev.writeReg (Reg.BPLAN_CTRL b) (setBits v 2 1 1) 8 0)
    (hctrlQuarantined : w.on (Fld.BPLAN_CTRL_QUARANTINED b) = s.dev.on (Fld.BPLAN_CTRL_QUARANTINED b)) (hothers : getBits v 3 2 = 0)
    (hcommitCause : w.commitCause b = 0) :
    exec (.bplanCommit b v) s = s.done (w.commitPlan b) := by
  show execBplanCommit b v s = _
  refine State.dv_done ?_
  simp only [isTenant_of h1 hb, ↓reduceIte, Dev.planCtrlWrite_commit hw hctrlQuarantined hothers, Dev.commit, hcommitCause]

theorem exec_bplanClear (s : State) (b : Nat) (v : Word) (w : Dev)
    (h1 : 1 ≤ b) (hb : b ≤ 128) (hw : w = s.dev.writeReg (Reg.BPLAN_CTRL b) (setBits v 3 1 1) 8 0)
    (hctrlQuarantined : w.on (Fld.BPLAN_CTRL_QUARANTINED b) = s.dev.on (Fld.BPLAN_CTRL_QUARANTINED b)) (hcommit : getBits v 2 1 = 0)
    (hexpel : getBits v 4 1 = 0) (hctrlState : w.get (Fld.BPLAN_CTRL_STATE b) ≠ 3) :
    exec (.bplanClear b v) s = s.done (w.berthClear b) := by
  show execBplanClear b v s = _
  refine State.dv_done ?_
  simp only [isTenant_of h1 hb, ↓reduceIte, Dev.planCtrlWrite_clear hw hctrlQuarantined hcommit hexpel hctrlState]

theorem exec_bplanExpel (s : State) (b : Nat) (v : Word) (w : Dev)
    (h1 : 1 ≤ b) (hb : b ≤ 128) (hw : w = s.dev.writeReg (Reg.BPLAN_CTRL b) (setBits v 4 1 1) 8 0)
    (hctrlQuarantined : w.on (Fld.BPLAN_CTRL_QUARANTINED b) = s.dev.on (Fld.BPLAN_CTRL_QUARANTINED b)) (hothers : getBits v 2 2 = 0)
    (hctrlState : w.get (Fld.BPLAN_CTRL_STATE b) = 2) :
    exec (.bplanExpel b v) s = s.done ((w.tickets.filter (fun t => t.key.b = b && t.epoch ≠ w.get (Fld.BPLAN_CTRL_EPOCH b))).foldl
      (fun d t => d.fail t 2 0) w) := by
  show execBplanExpel b v s = _
  refine State.dv_done ?_
  simp only [isTenant_of h1 hb, ↓reduceIte, Dev.planCtrlWrite_expel hw hctrlQuarantined hothers, Dev.expel, hctrlState] <;> rfl

theorem exec_quarantineLift (s : State) (b : Nat) (w : Dev)
    (h1 : 1 ≤ b) (hb : b ≤ 128) (hw : w = s.dev.writeReg (Reg.BPLAN_CTRL b) 0x40 8 0)
    (hctrlQuarantined : s.dev.on (Fld.BPLAN_CTRL_QUARANTINED b) = true) (hctrlQuarantined2 : w.on (Fld.BPLAN_CTRL_QUARANTINED b) = false) :
    exec (.quarantineLift b) s = s.done (w.berthChange b 0x100) := by
  show execQuarantineLift b s = _
  refine State.dv_done ?_
  simp only [isTenant_of h1 hb, ↓reduceIte, Dev.planCtrlWrite_lift hw hctrlQuarantined hctrlQuarantined2]

theorem exec_berthClearDone (s : State) (b : Nat)
    (h1 : 1 ≤ b) (hb : b ≤ 128) (hctrlState : s.dev.get (Fld.BPLAN_CTRL_STATE b) = 3)
    (hwithdrawn : (tget (fun _ => BerthH.init) s.dev.berthH b).withdrawn = []) (hxingsOf : s.dev.xingsOf (fun o => o = b) = []) :
    exec (.berthClearDone b) s = s.done (s.dev.put (Fld.BPLAN_CTRL_STATE b) 0) := by
  show execBerthClearDone b s = _
  refine State.dv_done ?_
  simp only [isTenant_of h1 hb, hctrlState, hwithdrawn, hxingsOf, List.isEmpty_nil, decide_true, Bool.and_self, ↓reduceIte]

theorem exec_berth0SrcWrite (s : State) (o : Nat) (v : Word)
    (ho : o < 0xC8) (haligned : o % 8 = 0) :
    exec (.berth0SrcWrite o v) s = s.done ((s.dev.writeReg (0x20000 + o) v 8 0).xctSources 0) := by
  show execBerth0SrcWrite o v s = _
  refine State.dv_done ?_
  simp only [ho, Nat.div_mul_cancel (Nat.dvd_of_mod_eq_zero haligned), ↓reduceIte] <;> rfl

theorem exec_rateRelease (s : State) (b which n : Nat)
    (h1 : 1 ≤ b) (hb : b ≤ 128) (hwhich : which < 3) :
    exec (.rateRelease b which n) s = s.done (s.dev.rateGate b which n (getBits (s.dev.reg (Reg.CPLAN_RATE b)) (16 * which) 16)) := by
  show execRateRelease b which n s = _
  refine State.dv_done ?_
  simp only [isTenant_of h1 hb, hwhich, decide_true, Bool.and_self, ↓reduceIte]

/-- Settles O26: each write by the one action bit it sets. -/
theorem planCommands : Obligations.PlanCommands := by
  unfold Obligations.PlanCommands
  exact ⟨exec_bplanCommit, exec_bplanClear, exec_bplanExpel, exec_quarantineLift, exec_berthClearDone, exec_berth0SrcWrite,
    exec_rateRelease⟩

/-! Translations, invalidations and the Toll registers (R31, R150, R158, R160, R163, R164, R168) -/

theorem Dev.tollInvWrite_queued {d : Dev} {v : Word} (hscope : getBits v 0 2 ≠ 3) (hctx : getBits v 2 8 ≤ 132)
    (hroom : d.get Fld.TOLL_INV_FLAGS_PENDING ≠ 16) :
    d.tollInvWrite (setBits v 63 1 1) 8 0 =
      (({ d with toll := { d.toll with queue := d.toll.queue ++ [Inval.mk (getBits v 0 2) (getBits v 2 8)
          (d.get Fld.TOLL_INV_RANGE_BASE * 4096) (d.get Fld.TOLL_INV_RANGE_LOG2) ((d.get Fld.TOLL_INV_STATUS_ISSUED + 1) % 2 ^ 32)] } }.put
        Fld.TOLL_INV_STATUS_ISSUED ((d.get Fld.TOLL_INV_STATUS_ISSUED + 1) % 2 ^ 32)).put
        Fld.TOLL_INV_FLAGS_PENDING (d.get Fld.TOLL_INV_FLAGS_PENDING + 1)) := by
  simp only [Dev.tollInvWrite, woBits_setBits_same v 63 (by decide), woBits_setBits_apart v 63 0 2 (by decide) (by decide),
    woBits_setBits_apart v 63 2 8 (by decide) (by decide), hscope, not_lt.mpr hctx, hroom, one_ne_zero, decide_false, Bool.or_self,
    Bool.false_eq_true, ↓reduceIte]

/-- R160: no outstanding request uses a context the invalidation covers. -/
theorem Dev.invalDone_idle {d : Dev} {i : Inval} {q : List Inval} (hqueue : d.toll.queue = i :: q)
    (hidle : ∀ o ∈ d.outst, ∀ c, d.outstCtx o = some c → i.scope ≠ 0 ∧ c ≠ i.ctx) :
    d.invalDone =
      (({ d with toll := { d.toll with cache := d.toll.cache.filter (fun c => !i.covers c), queue := q } }.put
        Fld.TOLL_INV_STATUS_DONE i.issued).put Fld.TOLL_INV_FLAGS_PENDING (d.get Fld.TOLL_INV_FLAGS_PENDING - 1)) := by
  simp only [Dev.invalDone, hqueue]
  refine if_neg fun hbusy => ?_
  obtain ⟨o, ho, huses⟩ := List.any_eq_true.mp hbusy
  cases hctx : d.outstCtx o with
  | none => simp [hctx] at huses
  | some c => simp [hctx, hidle o ho c hctx] at huses

theorem exec_tollWalk_ok (s : State) (ctx va kind len source unit dpa : Nat) (leaf : Word) (d1 : Dev)
    (hctx : ctx ≤ 132) (hkind : kind ≤ 2)
    (hxlate : s.dev.xlate ctx (va % 2 ^ 48) kind len { accel := if 1 ≤ ctx ∧ ctx ≤ 128 then s.dev.accelOf ctx else 15, hostBar := source = 1 }
      = (.ok dpa leaf, d1)) :
    exec (.tollWalk ctx va kind len source unit) s = s.done d1 := by
  show execTollWalk ctx va kind len source unit s = _
  refine State.dv_done ?_
  simp only [not_lt.mpr hctx, not_lt.mpr hkind, hxlate, decide_false, Bool.or_self, Bool.false_eq_true, ↓reduceIte]

theorem exec_tollWalk_fault (s : State) (ctx va kind len source unit k lvl : Nat) (d1 : Dev)
    (hctx : ctx ≤ 132) (hkind : kind ≤ 2)
    (hxlate : s.dev.xlate ctx (va % 2 ^ 48) kind len { accel := if 1 ≤ ctx ∧ ctx ≤ 128 then s.dev.accelOf ctx else 15, hostBar := source = 1 }
      = (.fault k lvl, d1)) :
    exec (.tollWalk ctx va kind len source unit) s = s.done (d1.tollFault ctx (va % 2 ^ 48) k kind lvl source unit) := by
  show execTollWalk ctx va kind len source unit s = _
  refine State.dv_done ?_
  simp only [not_lt.mpr hctx, not_lt.mpr hkind, hxlate, decide_false, Bool.or_self, Bool.false_eq_true, ↓reduceIte]

theorem exec_tollInvGo (s : State) (v : Word) (n : Nat)
    (hscope : getBits v 0 2 ≠ 3) (hctx : getBits v 2 8 ≤ 132) (hflagsPending : s.dev.get Fld.TOLL_INV_FLAGS_PENDING ≠ 16)
    (hn : n = (s.dev.get Fld.TOLL_INV_STATUS_ISSUED + 1) % 2 ^ 32) :
    exec (.tollInvGo v) s = s.done
      (({ s.dev with toll := { s.dev.toll with queue := s.dev.toll.queue
          ++ [Inval.mk (getBits v 0 2) (getBits v 2 8) (s.dev.get Fld.TOLL_INV_RANGE_BASE * 4096) (s.dev.get Fld.TOLL_INV_RANGE_LOG2) n] } }.put
        Fld.TOLL_INV_STATUS_ISSUED n).put Fld.TOLL_INV_FLAGS_PENDING (s.dev.get Fld.TOLL_INV_FLAGS_PENDING + 1)) := by
  show execTollInvGo v s = _
  subst hn
  exact State.dv_done (Dev.tollInvWrite_queued hscope hctx hflagsPending)

theorem exec_invalidationDone (s : State) (i : Inval) (q : List Inval)
    (htoll : s.dev.toll.queue = i :: q) (hidle : (∀ o ∈ s.dev.outst, ∀ c, s.dev.outstCtx o = some c → i.scope ≠ 0 ∧ c ≠ i.ctx)) :
    exec .invalidationDone s = s.done
      (({ s.dev with toll := { s.dev.toll with cache := s.dev.toll.cache.filter (fun c => !i.covers c), queue := q } }.put
        Fld.TOLL_INV_STATUS_DONE i.issued).put Fld.TOLL_INV_FLAGS_PENDING (s.dev.get Fld.TOLL_INV_FLAGS_PENDING - 1)) := by
  show execInvalidationDone s = _
  exact State.dv_done (Dev.invalDone_idle htoll hidle)

theorem exec_tollRegionWrite_region (s : State) (v : Word) (w : Dev)
    (hw : w = s.dev.writeReg Reg.TOLL_REGION v 8 0) (hctrlEnable : s.dev.on Fld.TOLL_CTRL_ENABLE = false)
    (hinside : w.tollBase + w.tollSize ≤ 2 ^ 38) :
    exec (.tollRegionWrite false v) s = s.done w := by
  show execTollRegionWrite false v s = _
  subst hw
  refine State.dv_done ?_
  simp only [Dev.tollRegionWrite, hctrlEnable, not_lt.mpr hinside, decide_false, Bool.or_self, Bool.false_eq_true, ↓reduceIte]

theorem exec_tollRegionWrite_ctrl (s : State) (v : Word) (w : Dev)
    (hw : w = s.dev.writeReg Reg.TOLL_CTRL v 8 0) (hregionSize : w.get Fld.TOLL_REGION_SIZE ≠ 0)
    (hmoorEnable : s.dev.on Fld.TOLL_MOOR_ENABLE = false) :
    exec (.tollRegionWrite true v) s = s.done w := by
  show execTollRegionWrite true v s = _
  subst hw
  refine State.dv_done ?_
  simp only [Dev.tollCtrlWrite, hregionSize, hmoorEnable, decide_false, Bool.and_false, Bool.or_self, Bool.false_eq_true, ↓reduceIte]

theorem exec_tollFaultPtrRead (s : State) :
    exec .tollFaultPtrRead s = s.done { s.dev with toll := { s.dev.toll with signalled := false } } := rfl

theorem exec_identNodeWrite_changed (s : State) (v : Word) (w : Dev)
    (hw : w = s.dev.writeReg Reg.IDENT_NODE v 8 0) (hnodeLocked : s.dev.on Fld.IDENT_NODE_NODE_LOCKED = false)
    (hchanged : (w.get Fld.IDENT_NODE_NODE_ID ≠ s.dev.get Fld.IDENT_NODE_NODE_ID ∨ w.get Fld.IDENT_NODE_NODE_VALID ≠ s.dev.get Fld.IDENT_NODE_NODE_VALID)) :
    exec (.identNodeWrite v) s = s.done (berths.foldl (fun d b => d.berthChange b 0x200) w) := by
  show execIdentNodeWrite v s = _
  subst hw
  refine State.dv_done ?_
  have hdiffers := not_and_or.mpr hchanged
  simp only [Dev.nodeWrite, hnodeLocked, Bool.and_eq_true, decide_eq_true_eq, hdiffers, Bool.false_eq_true, ↓reduceIte]

/-- Settles O27: each command takes the one branch its hypotheses leave open. -/
theorem tollCommands : Obligations.TollCommands := by
  unfold Obligations.TollCommands
  exact ⟨exec_tollWalk_ok, exec_tollWalk_fault, exec_tollInvGo, exec_invalidationDone, exec_tollRegionWrite_region,
    exec_tollRegionWrite_ctrl, exec_tollFaultPtrRead, exec_identNodeWrite_changed⟩

/-! The Causeway: flits and replays (R67 to R74) -/

/-- A whole flit with the next SEQ of its strand half. -/
theorem Dev.flitReceive_next {d : Dev} {link dir strand actl bctl : Nat} {data : List Byte} (hlink : linkOk link = true)
    (hstrand : strand < strandCount link) (hlost : d.on (Fld.ERR_GLEDA_LINK_LOST link) = false) (ha : bitsOf actl 14 2 = 1)
    (hb : bitsOf bctl 14 2 = 2) (hcrc : flitCrc data actl bctl = bitsOf actl 0 2 * 2 ^ 14 + bitsOf bctl 0 14)
    (hdll : d.cause.dllLinks.contains (halfKey link dir strand) = false) (htype : bitsOf actl 2 2 ≠ 3)
    (hseq : same (bitsOf actl 4 10) ((d.half (halfKey link dir strand)).lastGood + 1) 10 = true) :
    d.flitReceive link dir strand actl bctl data =
      let h := d.half (halfKey link dir strand)
      Dev.strandMerge (64 * strandCount link) (d.setHalf (halfKey link dir strand) { h with
        lastGood := bitsOf actl 4 10, fails := 0, replayFrom := 0, merge := h.merge ++ [(bitsOf actl 2 2, data)]
        buf := (h.buf ++ [(bitsOf actl 4 10, bitsOf actl 2 2, data)]).drop (h.buf.length + 1 - 512) }) link dir := by
  simp only [Dev.flitReceive, hlink, not_le.mpr hstrand, hlost, ha, hb, hcrc, hdll, htype, hseq, Bool.not_true, ne_eq, not_true_eq_false,
    one_ne_zero, OfNat.ofNat_ne_zero, decide_false, Bool.and_self, Bool.or_self, Bool.false_eq_true, ↓reduceIte]

/-- A replay that is pending is asked for again, up to the eighth time. -/
theorem Dev.requestReplay_again {d : Dev} {link dir strand : Nat} (hpending : (d.half (halfKey link dir strand)).replayFrom ≠ 0)
    (hfails : (d.half (halfKey link dir strand)).fails < 7) :
    d.requestReplay link dir strand =
      let h := d.half (halfKey link dir strand)
      (((d.setHalf (halfKey link dir strand) { h with fails := h.fails + 1, replayFrom := (h.lastGood + 1) % 1024 + 1 }).sat
        (Fld.ERR_GLEDA_REPLAYS link)).emit .gledaCtl [link, 0, (h.lastGood + 1) % 1024]).classified 0x0601 link 0xFF 0 := by
  have hfew : ¬ 8 ≤ (d.half (halfKey link dir strand)).fails + 1 := by omega
  simp only [Dev.requestReplay, hpending, hfew, ↓reduceIte]

/-! The maps of quads and Cistern (R79, R81, R82) -/

/-- The units whose side of the split a write to IDENT_CISTERN changes, with the side they go to. -/
def cisternMoves (old new : Word) : List (Nat × Bool) :=
  (List.range 64).filterMap (fun x =>
    let a := decide (x % 16 < scratchOf old (x / 16))
    let b := decide (x % 16 < scratchOf new (x / 16))
    if a = b then none else some (x, b))

/-- An accepted change of the split is begun. -/
theorem Dev.cisternWrite_begun {d w : Dev} {v : Word} (hw : w = d.writeReg Reg.IDENT_CISTERN v 8 0)
    (hidle : d.on Fld.IDENT_CISTERN_BUSY = false)
    (hunused : ∀ u ∈ cisternMoves (d.reg Reg.IDENT_CISTERN) (w.reg Reg.IDENT_CISTERN), u.2 = false → d.moorIn (8 + u.1) = false)
    (hsome : cisternMoves (d.reg Reg.IDENT_CISTERN) (w.reg Reg.IDENT_CISTERN) ≠ []) :
    d.cisternWrite v 8 0 = { w.put Fld.IDENT_CISTERN_BUSY 1 with
      cause := { w.cause with cisChange := cisternMoves (d.reg Reg.IDENT_CISTERN) (w.reg Reg.IDENT_CISTERN) } } := by
  subst hw
  have hfree : (cisternMoves (d.reg Reg.IDENT_CISTERN) ((d.writeReg Reg.IDENT_CISTERN v 8 0).reg Reg.IDENT_CISTERN)).any
      (fun u => !u.2 && d.moorIn (8 + u.1)) = false := by
    refine List.any_eq_false.mpr fun u hu => ?_
    cases hside : u.2 with
    | false => simp [hunused u hu hside]
    | true => simp
  simp only [cisternMoves] at hfree hsome ⊢
  simp only [Dev.cisternWrite, hidle, hfree, List.isEmpty_eq_false_iff.mpr hsome, Bool.or_self, Bool.false_eq_true, ↓reduceIte]

/-- Quads that nothing uses change home. -/
theorem Dev.hbmMapWrite_moved {d w : Dev} {v : Word} {changed : List Nat} (hw : w = d.writeReg Reg.IDENT_HBM_MAP v 8 0)
    (hchanged : changed = (List.range 8).filter
      (fun q => d.get Fld.IDENT_HBM_MAP_QUAD_HOME / 2 ^ q % 2 ≠ w.get Fld.IDENT_HBM_MAP_QUAD_HOME / 2 ^ q % 2))
    (hunused : ∀ q ∈ changed, d.moorIn q = false ∧ d.tollIn q = false ∧ d.ringQuads.contains q = false) :
    d.hbmMapWrite v 8 0 = changed.foldl (fun s q => s.scrambleMem (q * 2 ^ 35) (2 ^ 35)) w := by
  subst hw
  have hfree : changed.any (fun q => d.moorIn q || d.tollIn q || (if changed.isEmpty then [] else d.ringQuads).contains q) = false := by
    refine List.any_eq_false.mpr fun q hq => ?_
    obtain ⟨hmoor, htoll, hring⟩ := hunused q hq
    have hne : changed.isEmpty = false := List.isEmpty_eq_false_iff.mpr (List.ne_nil_of_mem hq)
    simp only [hmoor, htoll, hring, hne, Bool.false_eq_true, ↓reduceIte, Bool.or_self, not_false_eq_true]
  simp only [Dev.hbmMapWrite]
  rw [← hchanged, if_neg (by simp only [hfree, Bool.false_eq_true, not_false_eq_true])]

theorem exec_flitReceive (s : State) (link dir strand actl bctl : Nat) (data : List Byte) (h : StrandHalf)
    (hlinkOk : linkOk link = true) (hstrand : strand < strandCount link) (hlinkLost : s.dev.on (Fld.ERR_GLEDA_LINK_LOST link) = false)
    (hbits : bitsOf actl 14 2 = 1) (hbits2 : bitsOf bctl 14 2 = 2)
    (hflitCrc : flitCrc data actl bctl = bitsOf actl 0 2 * 2 ^ 14 + bitsOf bctl 0 14)
    (hcause : s.dev.cause.dllLinks.contains (halfKey link (dir % 2) strand) = false) (hbits3 : bitsOf actl 2 2 ≠ 3)
    (hh : h = s.dev.half (halfKey link (dir % 2) strand)) (hsame : same (bitsOf actl 4 10) (h.lastGood + 1) 10 = true) :
    exec (.flitReceive link dir strand actl bctl data) s = s.done
      (Dev.strandMerge (64 * strandCount link) (s.dev.setHalf (halfKey link (dir % 2) strand) { h with
        lastGood := bitsOf actl 4 10, fails := 0, replayFrom := 0, merge := h.merge ++ [(bitsOf actl 2 2, data)]
        buf := (h.buf ++ [(bitsOf actl 4 10, bitsOf actl 2 2, data)]).drop (h.buf.length + 1 - 512) }) link (dir % 2)) := by
  show execFlitReceive link dir strand actl bctl data s = _
  subst hh
  exact State.dv_done (Dev.flitReceive_next hlinkOk hstrand hlinkLost hbits hbits2 hflitCrc hcause hbits3 hsame)

theorem exec_replayTimeout (s : State) (link dir strand : Nat) (h : StrandHalf)
    (hlinkOk : linkOk link = true) (hstrand : strand < strandCount link) (hh : h = s.dev.half (halfKey link (dir % 2) strand))
    (hreplayFrom : h.replayFrom ≠ 0) (hfails : h.fails < 7) :
    exec (.replayTimeout link dir strand) s = s.done
      ((((s.dev.setHalf (halfKey link (dir % 2) strand) { h with fails := h.fails + 1, replayFrom := (h.lastGood + 1) % 1024 + 1 }).sat
        (Fld.ERR_GLEDA_REPLAYS link)).emit .gledaCtl [link, 0, (h.lastGood + 1) % 1024]).classified 0x0601 link 0xFF 0) := by
  show execReplayTimeout link dir strand s = _
  subst hh
  refine State.dv_done ?_
  simp only [hlinkOk, hstrand, hreplayFrom, ne_eq, not_false_eq_true, decide_true, Bool.and_self, ↓reduceIte]
  exact Dev.requestReplay_again hreplayFrom hfails

theorem exec_alarmPulseToggle (s : State) :
    exec .alarmPulseToggle s = s.done
      ({ s.dev with cause := { s.dev.cause with pulse := !s.dev.cause.pulse } }.emit .alarm [5, if s.dev.cause.pulse then 0 else 1]) := rfl

theorem exec_alarmBreakDetected (s : State) (ccw : Bool) (d1 d2 : Dev)
    (hd1 : d1 = s.dev.put (if ccw then Fld.ERR_ALARM_BREAK_CCW else Fld.ERR_ALARM_BREAK_CW) 1)
    (hone : (d1.on Fld.ERR_ALARM_BREAK_CW && d1.on Fld.ERR_ALARM_BREAK_CCW) = false) (hreg : d1.reg Reg.ERR_ALARM ≠ s.dev.reg Reg.ERR_ALARM)
    (hd2 : d2 = (d1.put Fld.ERR_ALARM_BRAKE_HELD 1).setBrakeSource 1 true) :
    exec (.alarmBreakDetected ccw) s = s.done (d2.classified 0x0604 0 0xFF (d2.reg Reg.ERR_ALARM).toNat) := by
  show execAlarmBreakDetected ccw s = _
  subst hd2
  refine State.dv_done ?_
  have hput : (if ccw then s.dev.put Fld.ERR_ALARM_BREAK_CCW 1 else s.dev.put Fld.ERR_ALARM_BREAK_CW 1) = d1 := by
    rw [hd1]
    cases ccw <;> rfl
  simp only [hput, hone, hreg, Bool.false_eq_true, ↓reduceIte]

theorem exec_identHbmMapWrite (s : State) (v : Word) (w : Dev) (changed : List Nat)
    (hw : w = s.dev.writeReg Reg.IDENT_HBM_MAP v 8 0)
    (hchanged : changed = (List.range 8).filter (fun q => s.dev.get Fld.IDENT_HBM_MAP_QUAD_HOME / 2 ^ q % 2 ≠ w.get Fld.IDENT_HBM_MAP_QUAD_HOME / 2 ^ q % 2))
    (hunused : (∀ q ∈ changed, s.dev.moorIn q = false ∧ s.dev.tollIn q = false ∧ s.dev.ringQuads.contains q = false)) :
    exec (.identHbmMapWrite v) s = s.done (changed.foldl (fun s q => s.scrambleMem (q * 2 ^ 35) (2 ^ 35)) w) := by
  show execIdentHbmMapWrite v s = _
  exact State.dv_done (Dev.hbmMapWrite_moved hw hchanged hunused)

theorem exec_identCisternWrite (s : State) (v : Word) (w : Dev) (units : List (Nat × Bool))
    (hw : w = s.dev.writeReg Reg.IDENT_CISTERN v 8 0)
    (hunits : units = (List.range 64).filterMap (fun x =>
      let a := decide (x % 16 < scratchOf (s.dev.reg Reg.IDENT_CISTERN) (x / 16))
      let b := decide (x % 16 < scratchOf (w.reg Reg.IDENT_CISTERN) (x / 16))
      if a = b then none else some (x, b)))
    (hcisternBusy : s.dev.on Fld.IDENT_CISTERN_BUSY = false) (hunused : (∀ u ∈ units, u.2 = false → s.dev.moorIn (8 + u.1) = false))
    (hsome : units ≠ []) :
    exec (.identCisternWrite v) s = s.done { w.put Fld.IDENT_CISTERN_BUSY 1 with cause := { w.cause with cisChange := units } } := by
  show execIdentCisternWrite v s = _
  subst hunits
  exact State.dv_done (Dev.cisternWrite_begun hw hcisternBusy hunused hsome)

theorem exec_cisternChangeDone (s : State) (d1 : Dev)
    (hcisternBusy : s.dev.on Fld.IDENT_CISTERN_BUSY = true)
    (hd1 : d1 = s.dev.cause.cisChange.foldl (fun s u => s.zeroMem (0x4000000000 + u.1 / 16 * 0x4000000 + u.1 % 16 * 0x400000) 0x400000) s.dev) :
    exec .cisternChangeDone s = s.done { d1.put Fld.IDENT_CISTERN_BUSY 0 with cause := { d1.cause with cisChange := [] } } := by
  show execCisternChangeDone s = _
  subst hd1
  refine State.dv_done ?_
  simp only [Dev.cisternDone, hcisternBusy, Bool.not_true, Bool.false_eq_true, ↓reduceIte]

/-- Settles O28: each command takes the one branch its hypotheses leave open. -/
theorem causewayCommands : Obligations.CausewayCommands := by
  unfold Obligations.CausewayCommands
  exact ⟨exec_flitReceive, exec_replayTimeout, exec_alarmPulseToggle, exec_alarmBreakDetected, exec_identHbmMapWrite,
    exec_identCisternWrite, exec_cisternChangeDone⟩

end Sys2Proof.Machine
end

section
/-! PROOFS. Clock settings and PLLs (spec/03), and Ferryman's task sets with the tasks on caps, policies and the log (spec/20). -/

namespace Sys2Proof.Machine

/-! Clock settings (R106, R110, R120) -/

section
variable {d d1 : Dev} {n : Nat} {v : Word} (hn : n < 96) (hcommit : getBits v 63 1 = 1)
  (hok : settingOk n (getBits v 24 7) (getBits v 0 24) (getBits v 32 4) = true) (hidle : d.on (Fld.CLK_ISL_STATUS_BUSY n) = false)
  (hstate : d.get (Fld.PWR_ISL_STATE n) ≠ 3)
  (hd1 : d1 = (d.setReg (Reg.CLK_ISL_TARGET n) (BitVec.ofNat 64
    (packSetting (getBits v 24 7) (getBits v 0 24) (getBits v 32 4) (getBits v 36 1)))).put (Fld.CLK_ISL_STATUS_LOCK_FAIL n) 0)
include hn hcommit hok hidle hstate hd1

/-- The same divider and reference, from a locked PLL: the setting is glided to. -/
theorem Dev.clkWrite_glide (hdiv : getBits v 32 4 = (d.inUse n).2.2) (href : getBits v 36 1 = d.get (Fld.CLK_ISL_STATUS_REF_IN_USE n))
    (hsafe : (d1.isl n).onSafe = false) (hlocked : d.on (Fld.CLK_ISL_STATUS_LOCKED n) = true) :
    d.clkWrite n v 8 0 = (d1.setIsl n { d1.isl n with
      target := packSetting (getBits v 24 7) (getBits v 0 24) (getBits v 32 4) (getBits v 36 1), change := 1, fails := 0 }).put
        (Fld.CLK_ISL_STATUS_BUSY n) 1 := by
  subst hd1
  simp only [Dev.clkWrite, woBits_whole, uncoveredBits_whole, Nat.or_zero, not_le.mpr hn, hcommit, hok, hidle, hstate, hsafe, hlocked,
    decide_eq_true hdiv, decide_eq_true href, decide_true, Bool.not_true, Bool.not_false, Bool.or_self, Bool.and_self,
    Bool.false_eq_true, ↓reduceIte]

/-- Another divider or reference: the island runs on the safe clock until the PLL has locked. -/
theorem Dev.clkWrite_hop
    (hother : getBits v 32 4 ≠ (d.inUse n).2.2 ∨ getBits v 36 1 ≠ d.get (Fld.CLK_ISL_STATUS_REF_IN_USE n)) :
    d.clkWrite n v 8 0 = ((((d1.setIsl n { d1.isl n with
      target := packSetting (getBits v 24 7) (getBits v 0 24) (getBits v 32 4) (getBits v 36 1), change := 2, fails := 0, onSafe := true }).put
        (Fld.CLK_ISL_STATUS_BUSY n) 1).put (Fld.CLK_ISL_STATUS_LOCKED n) 0).put
        (Fld.CLK_ISL_STATUS_REF_IN_USE n) (getBits v 36 1)).syncPath n := by
  subst hd1
  have hnoglide : (decide (getBits v 32 4 = (d.inUse n).2.2) && decide (getBits v 36 1 = d.get (Fld.CLK_ISL_STATUS_REF_IN_USE n))) = false := by
    rcases hother with h | h <;> simp [h]
  simp only [Dev.clkWrite, woBits_whole, uncoveredBits_whole, Nat.or_zero, not_le.mpr hn, hcommit, hok, hidle, hstate, hnoglide,
    decide_true, Bool.not_true, Bool.or_self, Bool.false_and, Bool.false_eq_true, ↓reduceIte]

end

/-- A change that waits for its lock, on a running island. -/
theorem Dev.pllLocked_waits {d : Dev} {n : Nat} (hchange : (d.isl n).change = 2) (hunlocked : d.on (Fld.CLK_ISL_STATUS_LOCKED n) = false)
    (href : d.refValid (d.get (Fld.CLK_ISL_STATUS_REF_IN_USE n)) = true)
    (hruns : (d.put (Fld.CLK_ISL_STATUS_LOCKED n) 1).get (Fld.PWR_ISL_STATE n) < 2) :
    d.pllLocked n = d.put (Fld.CLK_ISL_STATUS_LOCKED n) 1 := by
  have hnotStopped : ¬ (n < 96 ∧ ((d.put (Fld.CLK_ISL_STATUS_LOCKED n) 1).get (Fld.PWR_ISL_STATE n) = 2
      ∨ (d.put (Fld.CLK_ISL_STATUS_LOCKED n) 1).get (Fld.PWR_ISL_STATE n) = 3)) := by omega
  simp only [Dev.pllLocked, hunlocked, hchange, href, hnotStopped, OfNat.ofNat_ne_zero, OfNat.ofNat_ne_one, Nat.reduceEqDiff, decide_false,
    Bool.not_true, Bool.and_false, Bool.or_self, Bool.false_eq_true, ↓reduceIte]

theorem Dev.muxDone_takes {d : Dev} {n : Nat} (hchange : (d.isl n).change = 2 ∨ (d.isl n).change = 6)
    (hlocked : d.on (Fld.CLK_ISL_STATUS_LOCKED n) = true) (hsafe : (d.isl n).onSafe = true) (hkill : d.cause.kill = false)
    (hbrake : d.on Fld.PWR_STATUS_BRAKE = false) : d.muxDone n = d.clockEffect n := by
  simp only [Dev.muxDone, hlocked, hsafe, hkill, hbrake, Bool.not_true, Bool.and_false, Bool.or_self, Bool.false_eq_true, Bool.or_eq_true,
    decide_eq_true_eq, hchange, ↓reduceIte]

theorem Dev.lockLost_running {d : Dev} {n : Nat} (hlocked : d.on (Fld.CLK_ISL_STATUS_LOCKED n) = true) (hkill : d.cause.kill = false)
    (hchange : (d.isl n).change = 0) :
    d.lockLost n = ((((d.setIsl n { d.isl n with change := 3, fails := 0, onSafe := true }).put (Fld.CLK_ISL_STATUS_LOCKED n) 0).put
      (Fld.CLK_ISL_STATUS_LOCK_LOST n) 1).put (Fld.CLK_ISL_STATUS_BUSY n) 1).syncPath n := by
  simp only [Dev.lockLost, hlocked, hkill, hchange, zero_ne_one, OfNat.zero_ne_ofNat, decide_false, Bool.not_true, Bool.or_self,
    Bool.false_eq_true, ↓reduceIte]

/-- R128: the third relock that fails is the last. -/
theorem Dev.relockFail_third {d : Dev} {n : Nat} (hunlocked : d.on (Fld.CLK_ISL_STATUS_LOCKED n) = false) (hchange : 2 ≤ (d.isl n).change)
    (hfails : (d.isl n).fails = 2) :
    d.relockFail n = (((d.setIsl n { d.isl n with change := 0, fails := 0 }).put (Fld.CLK_ISL_STATUS_LOCK_FAIL n) 1).put
      (Fld.CLK_ISL_STATUS_BUSY n) 0).classified (if n < 96 then 0x060E else 0x060F) n 0xFF 0 := by
  have h0 : (d.isl n).change ≠ 0 := by omega
  have h1 : (d.isl n).change ≠ 1 := by omega
  simp only [Dev.relockFail, hunlocked, h0, h1, hfails, Nat.reduceAdd, lt_self_iff_false, decide_false, Bool.or_self, Bool.false_eq_true,
    ↓reduceIte]

theorem exec_clkCommit_glide (s : State) (n : Nat) (v : Word) (c : ClkIsl) (s1 : Dev)
    (hn : n < 96) (hcommit : getBits v 63 1 = 1) (hsettingOk : settingOk n (getBits v 24 7) (getBits v 0 24) (getBits v 32 4) = true)
    (hstatusBusy : s.dev.on (Fld.CLK_ISL_STATUS_BUSY n) = false) (hislState : s.dev.get (Fld.PWR_ISL_STATE n) ≠ 3)
    (hs1 : s1 = (s.dev.setReg (Reg.CLK_ISL_TARGET n) (BitVec.ofNat 64 (packSetting (getBits v 24 7) (getBits v 0 24) (getBits v 32 4) (getBits v 36 1)))).put
      (Fld.CLK_ISL_STATUS_LOCK_FAIL n) 0)
    (hc : c = s1.isl n) (hdiv : getBits v 32 4 = (s.dev.inUse n).2.2) (href : getBits v 36 1 = s.dev.get (Fld.CLK_ISL_STATUS_REF_IN_USE n))
    (honSafe : c.onSafe = false) (hstatusLocked : s.dev.on (Fld.CLK_ISL_STATUS_LOCKED n) = true) :
    exec (.clkCommit n v) s = s.done
      ((s1.setIsl n { c with target := packSetting (getBits v 24 7) (getBits v 0 24) (getBits v 32 4) (getBits v 36 1), change := 1, fails := 0 }).put
        (Fld.CLK_ISL_STATUS_BUSY n) 1) := by
  show execClkCommit n v s = _
  subst hc
  refine State.dv_done ((if_pos (by omega)).trans ?_)
  exact Dev.clkWrite_glide hn hcommit hsettingOk hstatusBusy hislState hs1 hdiv href honSafe hstatusLocked

theorem exec_clkCommit_hop (s : State) (n : Nat) (v : Word) (c : ClkIsl) (s1 s2 : Dev)
    (hn : n < 96) (hcommit : getBits v 63 1 = 1) (hsettingOk : settingOk n (getBits v 24 7) (getBits v 0 24) (getBits v 32 4) = true)
    (hstatusBusy : s.dev.on (Fld.CLK_ISL_STATUS_BUSY n) = false) (hislState : s.dev.get (Fld.PWR_ISL_STATE n) ≠ 3)
    (hs1 : s1 = (s.dev.setReg (Reg.CLK_ISL_TARGET n) (BitVec.ofNat 64 (packSetting (getBits v 24 7) (getBits v 0 24) (getBits v 32 4) (getBits v 36 1)))).put
      (Fld.CLK_ISL_STATUS_LOCK_FAIL n) 0)
    (hc : c = s1.isl n) (hother : (getBits v 32 4 ≠ (s.dev.inUse n).2.2 ∨ getBits v 36 1 ≠ s.dev.get (Fld.CLK_ISL_STATUS_REF_IN_USE n)))
    (hs2 : s2 = s1.setIsl n { c with
      target := packSetting (getBits v 24 7) (getBits v 0 24) (getBits v 32 4) (getBits v 36 1), change := 2, fails := 0, onSafe := true }) :
    exec (.clkCommit n v) s = s.done
      ((((s2.put (Fld.CLK_ISL_STATUS_BUSY n) 1).put (Fld.CLK_ISL_STATUS_LOCKED n) 0).put (Fld.CLK_ISL_STATUS_REF_IN_USE n)
        (getBits v 36 1)).syncPath n) := by
  show execClkCommit n v s = _
  subst hc hs2
  refine State.dv_done ((if_pos (by omega)).trans ?_)
  exact Dev.clkWrite_hop hn hcommit hsettingOk hstatusBusy hislState hs1 hother

theorem exec_pllLocked (s : State) (n : Nat)
    (hn : n < 96) (hchange : (s.dev.isl n).change = 2) (hstatusLocked : s.dev.on (Fld.CLK_ISL_STATUS_LOCKED n) = false)
    (href : s.dev.refValid (s.dev.get (Fld.CLK_ISL_STATUS_REF_IN_USE n)) = true)
    (hruns : (s.dev.put (Fld.CLK_ISL_STATUS_LOCKED n) 1).get (Fld.PWR_ISL_STATE n) < 2) :
    exec (.pllLocked n) s = s.done (s.dev.put (Fld.CLK_ISL_STATUS_LOCKED n) 1) := by
  show execPllLocked n s = _
  exact State.dv_done ((if_pos (by omega)).trans (Dev.pllLocked_waits hchange hstatusLocked href hruns))

theorem exec_muxMoveDone (s : State) (n : Nat)
    (hn : n < 116) (hchange : ((s.dev.isl n).change = 2 ∨ (s.dev.isl n).change = 6))
    (hstatusLocked : s.dev.on (Fld.CLK_ISL_STATUS_LOCKED n) = true) (hsafe : (s.dev.isl n).onSafe = true) (hkill : s.dev.cause.kill = false)
    (hstatusBrake : s.dev.on Fld.PWR_STATUS_BRAKE = false) :
    exec (.muxMoveDone n) s = s.done (s.dev.clockEffect n) := by
  show execMuxMoveDone n s = _
  exact State.dv_done ((if_pos hn).trans (Dev.muxDone_takes hchange hstatusLocked hsafe hkill hstatusBrake))

theorem exec_glideDone (s : State) (n : Nat)
    (hn : n < 96) (hchange : (s.dev.isl n).change = 1) (hstatusBrake : s.dev.on Fld.PWR_STATUS_BRAKE = false) :
    exec (.glideDone n) s = s.done (s.dev.clockEffect n) := by
  show execGlideDone n s = _
  refine State.dv_done ((if_pos hn).trans ?_)
  simp only [Dev.glideDone, hchange, hstatusBrake, decide_true, Bool.not_false, Bool.and_self, ↓reduceIte]

theorem exec_pllLockLost (s : State) (n : Nat)
    (hn : n < 116) (hstatusLocked : s.dev.on (Fld.CLK_ISL_STATUS_LOCKED n) = true) (hkill : s.dev.cause.kill = false)
    (hchange : (s.dev.isl n).change = 0) :
    exec (.pllLockLost n) s = s.done
      (((((s.dev.setIsl n { s.dev.isl n with change := 3, fails := 0, onSafe := true }).put (Fld.CLK_ISL_STATUS_LOCKED n) 0).put
        (Fld.CLK_ISL_STATUS_LOCK_LOST n) 1).put (Fld.CLK_ISL_STATUS_BUSY n) 1).syncPath n) := by
  show execPllLockLost n s = _
  exact State.dv_done ((if_pos hn).trans (Dev.lockLost_running hstatusLocked hkill hchange))

theorem exec_relockFail_third (s : State) (n : Nat)
    (hn : n < 116) (hstatusLocked : s.dev.on (Fld.CLK_ISL_STATUS_LOCKED n) = false) (hchange : 2 ≤ (s.dev.isl n).change)
    (hfails : (s.dev.isl n).fails = 2) :
    exec (.relockFail n) s = s.done
      ((((s.dev.setIsl n { s.dev.isl n with change := 0, fails := 0 }).put (Fld.CLK_ISL_STATUS_LOCK_FAIL n) 1).put
        (Fld.CLK_ISL_STATUS_BUSY n) 0).classified (if n < 96 then 0x060E else 0x060F) n 0xFF 0) := by
  show execRelockFail n s = _
  exact State.dv_done ((if_pos hn).trans (Dev.relockFail_third hstatusLocked hchange hfails))

/-- Settles O29: each command takes the one branch its hypotheses leave open. -/
theorem clockChanges : Obligations.ClockChanges := by
  unfold Obligations.ClockChanges
  exact ⟨exec_clkCommit_glide, exec_clkCommit_hop, exec_pllLocked, exec_muxMoveDone, exec_glideDone, exec_pllLockLost,
    exec_relockFail_third⟩

/-! Task sets (R704) and the tasks on caps, policies and the log (R709 to R711, R718, R720, R738, R774, R801) -/

theorem Dev.task_accepted {d : Dev} {m op : Nat} (h : d.accepted m op = true) (f : Dev → Dev) : d.task m op true f = f d := by
  simp only [Dev.task, h, Bool.and_self, ↓reduceIte]

/-- A task's command acts once the task is accepted. -/
theorem State.task_done {s : State} {m op : Nat} {f : Dev → Dev} {d : Dev} (h : s.dev.accepted m op = true) (hf : f s.dev = d) :
    (s.dv fun d => d.task m op true f) = s.done d :=
  State.dv_done ((Dev.task_accepted h f).trans hf)

/-- GO of a task its master may issue, with no task in the way. -/
theorem Dev.taskGo_accepts {d d1 d2 : Dev} {m : Nat} {host bmc : Bool} (hd1 : d1 = d.speech m) (hidle : d1.taskBusy m = false)
    (hhelm : d1.on (Fld.TASK_STATE_HELM_DOWN m) = false) (htag : d1.get (Fld.TASK_TAG_TAG m) ≠ d1.get (Fld.TASK_STATE_DONE_TAG m))
    (hd2 : d2 = (d1.put (Fld.TASK_STATE_STATE m) 1).put (Fld.TASK_STATE_REPEATED m) 0)
    (hrights : taskRights (d2.taskOp m) = some (host, bmc)) (hmay : (if m = 0 then host else bmc) = true)
    (hargs : d2.argsGood m (d2.taskOp m) = true) (hrecovery : d2.slip.recovery = false) (hfree : d2.taskBusy (1 - m) = false)
    (hop : d2.taskOp m ≠ 0x30) : d.taskGo m = d2.setProg m 1 := by
  subst hd1
  simp only [Dev.taskGo, hidle, hhelm, htag, ← hd2, hrights, hmay, hargs, hrecovery, hfree, hop, decide_false, Bool.not_true, Bool.and_false,
    Bool.false_and, Bool.or_self, Bool.false_eq_true, ↓reduceIte]

theorem exec_taskGo (s : State) (m : Nat) (host bmc : Bool) (d1 d2 : Dev)
    (hm : m < 2) (hd1 : d1 = s.dev.speech m) (htaskBusy : d1.taskBusy m = false) (hhelmDown : d1.on (Fld.TASK_STATE_HELM_DOWN m) = false)
    (htagTag : d1.get (Fld.TASK_TAG_TAG m) ≠ d1.get (Fld.TASK_STATE_DONE_TAG m))
    (hd2 : d2 = (d1.put (Fld.TASK_STATE_STATE m) 1).put (Fld.TASK_STATE_REPEATED m) 0)
    (htaskRights : taskRights (d2.taskOp m) = some (host, bmc)) (hmay : (if m = 0 then host else bmc) = true)
    (hargsGood : d2.argsGood m (d2.taskOp m) = true) (hrecovery : d2.slip.recovery = false) (htaskBusy2 : d2.taskBusy (1 - m) = false)
    (htaskOp : d2.taskOp m ≠ 0x30) :
    exec (.taskGo m) s = s.done (d2.setProg m 1) := by
  show execTaskGo m s = _
  exact State.dv_done ((if_pos hm).trans (Dev.taskGo_accepts hd1 htaskBusy hhelmDown htagTag hd2 htaskRights hmay hargsGood hrecovery htaskBusy2 htaskOp))

theorem exec_heartbeat (s : State) (m : Nat)
    (haccepted : s.dev.accepted m 0x01 = true) :
    exec (.heartbeat m) s = s.done (s.dev.taskDone m 0 0 [s.dev.tide]) := by
  show execHeartbeat m s = _
  exact State.task_done haccepted rfl

theorem exec_powerCap (s : State) (m : Nat) (d1 : Dev)
    (haccepted : s.dev.accepted m 0x10 = true)
    (hd1 : d1 = ((s.dev.put (if m = 0 then Fld.PWR_CAPS_HOST_W else Fld.PWR_CAPS_BMC_W) (s.dev.argF m 0 0 16)).setBrakeSource (3 + m)
      (s.dev.argF m 0 16 1 = 1)).updateCap) :
    exec (.powerCap m) s = s.done (d1.taskDone m 0 0
      [pack [(0, 16, d1.get Fld.PWR_STATUS_CAP_W), (16, 16, d1.get Fld.PWR_STATUS_POWER_W), (32, 6, d1.get Fld.PWR_STATUS_LEVEL)]]) := by
  show execPowerCap m s = _
  subst hd1
  exact State.task_done haccepted rfl

theorem exec_thermalPolicy (s : State) (m : Nat)
    (haccepted : s.dev.accepted m 0x11 = true) :
    exec (.thermalPolicy m) s = s.done
      ({ s.dev with power := { s.dev.power with thermBrake := s.dev.arg m 0, curve := s.dev.capEntries m } }.taskFlash m 2) := by
  show execThermalPolicy m s = _
  exact State.task_done haccepted rfl

theorem exec_autonomyPolicy (s : State) (m : Nat)
    (haccepted : s.dev.accepted m 0x12 = true) :
    exec (.autonomyPolicy m) s = s.done
      (((s.dev.helmPut Fld.TASK_HELM_SILENCE_S (s.dev.argF m 0 0 10)).setFerry { s.dev.ferry with
        restartEn := s.dev.argF m 0 16 1 = 1, tempCh := s.dev.argF m 0 24 5, autoTable := s.dev.capEntries m }).taskFlash m 1) := by
  show execAutonomyPolicy m s = _
  exact State.task_done haccepted rfl

theorem exec_staggerPlan (s : State) (m : Nat)
    (haccepted : s.dev.accepted m 0x80 = true) :
    exec (.staggerPlan m) s = s.done ((s.dev.setSlip { s.dev.slip with
      plan := [s.dev.argF m 0 0 16, s.dev.argF m 0 16 16, s.dev.argF m 0 32 8, s.dev.argF m 0 40 4, s.dev.argF m 0 48 8] }).taskFlash m 3) := by
  show execStaggerPlan m s = _
  exact State.task_done haccepted rfl

theorem exec_logRead (s : State) (m : Nat) (rs : List LogRec)
    (haccepted : s.dev.accepted m 0x40 = true) (hvolatile : s.dev.argF m 0 32 1 = 0)
    (hrs : rs = (s.dev.log.recs.reverse.filter (fun r => !before r.seq (s.dev.argF m 0 0 32) 32)).take 2) :
    exec (.logRead m) s = s.done (s.dev.taskDone m 0 rs.length (rs.flatMap LogRec.words)) := by
  show execLogRead m s = _
  subst hrs
  refine State.task_done haccepted ?_
  simp only [hvolatile, zero_ne_one, ↓reduceIte]

theorem exec_logClear (s : State) (m : Nat)
    (haccepted : s.dev.accepted m 0x41 = true) (hlogCursor : before (s.dev.arg m 0) (s.dev.get (Fld.TASK_LOG_CURSOR m)) 32 = false)
    (hnewestSeq : after (s.dev.arg m 0) (s.dev.get (Fld.TASK_LOG_NEWEST_SEQ m) + 1) 32 = false) :
    exec (.logClear m) s = s.done ((s.dev.put (Fld.TASK_LOG_CURSOR m) (s.dev.arg m 0)).taskDone m 0 0 []) := by
  show execLogClear m s = _
  refine State.task_done haccepted ?_
  simp only [hlogCursor, hnewestSeq, Bool.or_self, Bool.false_eq_true, ↓reduceIte] <;> rfl

/-- Settles O32: an accepted task does what its row states. -/
theorem policyTasks : Obligations.PolicyTasks := by
  unfold Obligations.PolicyTasks
  exact ⟨exec_taskGo, exec_heartbeat, exec_powerCap, exec_thermalPolicy, exec_autonomyPolicy, exec_staggerPlan, exec_logRead, exec_logClear⟩

end Sys2Proof.Machine
end

section
/-! PROOFS. CAN FD, the Gauge, partners and firmware (spec sections 20, 21, 23) -/

namespace Sys2Proof.Machine

/-- An accepted task has not started its work. -/
theorem Dev.prog_of_accepted {d : Dev} {m op : Nat} (h : d.accepted m op = true) : d.prog m = 1 := by
  simp only [Dev.accepted, Bool.and_eq_true, decide_eq_true_eq] at h
  exact h.2

/-- The command of one form of an accepted task acts where the arguments name the form. -/
theorem State.taskSel_done {s : State} {m op : Nat} {sel : Dev → Bool} {f : Dev → Dev} {d : Dev} (h : s.dev.accepted m op = true)
    (hsel : sel s.dev = true) (hf : f s.dev = d) : (s.dv fun d => d.task m op (sel d) f) = s.done d :=
  State.dv_done (by simp only [Dev.task, h, hsel, Bool.and_self, ↓reduceIte, hf])

/-- A good frame that a filter accepts enters a FIFO with room. -/
theorem Dev.canReceive_good {d d1 : Dev} {word : Nat} {data : List Byte} (hen : d.can.enabled = true) (hrec : d.get (Fld.TASK_CAN_REC 0) ≤ 127)
    (hd1 : d1 = d.canErrors (d.get (Fld.TASK_CAN_TEC 0)) (d.get (Fld.TASK_CAN_REC 0) - 1)) (hacc : d1.can.accepts (word % 2 ^ 30) = true)
    (hroom : d1.can.fifo.length < 64) :
    d.canReceive word data true = d1.setCan { d1.can with
      fifo := d1.can.fifo ++ [⟨pack [(0, 32, word), (32, 7, data.length), (39, 1, if 48 < data.length then 1 else 0)], data.take 48, d1.tide⟩] } := by
  subst hd1
  simp only [Dev.canReceive, hen, not_lt.mpr hrec, hacc, not_le.mpr hroom, Bool.not_true, Bool.false_eq_true, ↓reduceIte]

/-- A settled, unclipped word of the visit in progress enters the FIFO and updates its channel. -/
theorem Dev.gaugeStep_settled {d d1 d2 : Dev} {v ch osr w : Nat} (hover : d.gaugeOver = false) (hcur : d.gauge.cur = ch + 1)
    (hpos : 4 ≤ d.gauge.pos) (hosr : osr = d.get (Fld.GAU_CFG_OSR ch))
    (hd1 : d1 = (d.at (d.gauge.lastAt + 5120 * 2 ^ osr)).put Fld.GAU_STATUS_RUNNING 1)
    (hd2 : d2 = d1.setGauge { d1.gauge with pos := d.gauge.pos + 1, lastAt := d1.tide })
    (hw : w = gaugeWord false false ch (d.get (Fld.GAU_CFG_GAIN ch)) osr v) :
    d.gaugeStep v false = (d2.gaugePush ch w).gaugeAccount ch w false := by
  subst hw hd2 hd1 hosr
  simp only [Dev.gaugeStep, hover, hcur, not_lt.mpr hpos, Nat.add_sub_cancel, Nat.succ_ne_zero, Bool.false_and, Bool.false_eq_true, decide_false,
    ↓reduceIte]

theorem exec_canSend (s : State) (m : Nat) (d1 : Dev)
    (haccepted : s.dev.accepted m 0x60 = true) (hroom : s.dev.can.txq.length < 32)
    (hd1 : d1 = (s.dev.setCan { s.dev.can with txq := s.dev.can.txq ++
      [⟨s.dev.arg m 0, ((List.range 6).flatMap (fun i => leBytes 8 (s.dev.arg m (1 + i)))).take (s.dev.argF m 0 32 7), s.dev.tide⟩] }).canQueued) :
    exec (.canSend m) s = s.done (d1.taskDone m 0 0 [s.dev.can.txq.length + 1]) := by
  show execCanSend m s = _
  subst hd1
  refine State.task_done haccepted ?_
  simp only [not_le.mpr hroom, decide_false, Bool.false_eq_true, ↓reduceIte]
  simp [Dev.taskOk, Dev.canQueued, Dev.canPut, Dev.setCan]

theorem exec_canFilterSet (s : State) (m : Nat)
    (haccepted : s.dev.accepted m 0x61 = true) (hargF : s.dev.argF m 0 0 2 = 0) :
    exec (.canFilterSet m) s = s.done ((s.dev.setCan { s.dev.can with
      filters := tput (fun _ => none) s.dev.can.filters (s.dev.argF m 0 4 4) (some (s.dev.arg m 1, s.dev.arg m 2)) }).taskDone m 0 0 []) := by
  show execCanFilterSet m s = _
  refine State.taskSel_done haccepted (by simp [hargF]) ?_
  simp [Dev.taskOk]

theorem exec_canFilterClear (s : State) (m : Nat)
    (haccepted : s.dev.accepted m 0x61 = true) (hargF : s.dev.argF m 0 0 2 = 1) :
    exec (.canFilterClear m) s = s.done ((s.dev.setCan { s.dev.can with filters := tdel (s.dev.argF m 0 4 4) s.dev.can.filters }).taskDone m 0 0 []) := by
  show execCanFilterClear m s = _
  refine State.taskSel_done haccepted (by simp [hargF]) ?_
  simp [Dev.taskOk]

theorem exec_canFilterRead (s : State) (m : Nat) (f : CanF) (t : List CanF)
    (haccepted : s.dev.accepted m 0x61 = true) (hargF : s.dev.argF m 0 0 2 = 2) (hcan : s.dev.can.fifo = f :: t) :
    exec (.canFilterRead m) s = s.done ((s.dev.setCan { s.dev.can with fifo := t }).taskDone m 0 1
      ([f.word, f.tide] ++ (List.range 6).map (fun i => ofLe ((f.data.drop (8 * i)).take 8)))) := by
  show execCanFilterRead m s = _
  refine State.taskSel_done haccepted (by simp [hargF]) ?_
  simp [hcan]

theorem exec_canFilterConfig (s : State) (m : Nat)
    (haccepted : s.dev.accepted m 0x61 = true) (hargF : s.dev.argF m 0 0 2 = 3) :
    exec (.canFilterConfig m) s = s.done ((s.dev.setCan { s.dev.can with
      enabled := s.dev.argF m 1 0 1 = 1, nominal := s.dev.argF m 1 1 2, dataRate := s.dev.argF m 1 3 2 }).taskFlash m 4) := by
  show execCanFilterConfig m s = _
  refine State.taskSel_done haccepted (by simp [hargF]) ?_
  simp

theorem exec_canTxAttemptDone (s : State) (f : CanF) (t : List CanF)
    (hcan : s.dev.can.txq = f :: t) (hcanOpen : s.dev.canOpen = true) (hcanLone : s.dev.on (Fld.TASK_CAN_LONE 0) = false) :
    exec (.canTxAttemptDone 0) s = s.done (((s.dev.canEmit f).canTec 0).canSent) := by
  show execCanTxAttemptDone 0 s = _
  refine State.dv_done ?_
  simp [Dev.canAttempt, hcan, hcanOpen, hcanLone]

theorem exec_canLoneProbeTimer (s : State) (f : CanF) (t : List CanF) (d1 d2 : Dev)
    (hcan : s.dev.can.txq = f :: t) (hcanOpen : s.dev.canOpen = true) (hcanLone : s.dev.on (Fld.TASK_CAN_LONE 0) = true)
    (hd1 : d1 = ((s.dev.at s.dev.can.probeAt).canEmit f).canTec 0) (hd2 : d2 = d1.canSent.canPut Fld.TASK_CAN_LONE 0) :
    exec (.canLoneProbeTimer 0) s = s.done
      ((d2.setCan { d2.can with loneAt := 0, probeAt := 0, dropped := 0 }).logAdd 2 0x0031 0xFF ((d1.tide + 1 - d1.can.loneAt) / 1000000)
        d1.can.dropped) := by
  show execCanLoneProbeTimer 0 s = _
  subst hd1 hd2
  refine State.dv_done ?_
  simp [Dev.canProbe, hcan, hcanOpen, hcanLone]

theorem exec_canFrameReceived (s : State) (word : Nat) (data : List Byte) (d1 : Dev)
    (hen : s.dev.can.enabled = true) (hrec : s.dev.get (Fld.TASK_CAN_REC 0) ≤ 127)
    (hd1 : d1 = s.dev.canErrors (s.dev.get (Fld.TASK_CAN_TEC 0)) (s.dev.get (Fld.TASK_CAN_REC 0) - 1))
    (haccepts : d1.can.accepts (word % 2 ^ 30) = true) (hroom : d1.can.fifo.length < 64) :
    exec (.canFrameReceived word data true) s = s.done (d1.setCan { d1.can with fifo := d1.can.fifo ++
      [⟨pack [(0, 32, word), (32, 7, data.length), (39, 1, if 48 < data.length then 1 else 0)], data.take 48, d1.tide⟩] }) := by
  show execCanFrameReceived word data true s = _
  exact State.dv_done (Dev.canReceive_good hen hrec hd1 haccepts hroom)

theorem exec_canBusOffRecovered (s : State)
    (hcanFault : s.dev.get (Fld.TASK_CAN_FAULT 0) = 2) :
    exec .canBusOffRecovered s = s.done
      (((s.dev.canPut Fld.TASK_CAN_FAULT 0).canPut Fld.TASK_CAN_TEC 0).canPut Fld.TASK_CAN_REC 0) := by
  show execCanBusOffRecovered s = _
  refine State.dv_done ?_
  simp [hcanFault]

theorem exec_gaugeWord (s : State) (v ch osr w : Nat) (d1 d2 : Dev)
    (hover : s.dev.gaugeOver = false) (hcur : s.dev.gauge.cur = ch + 1) (hpos : 4 ≤ s.dev.gauge.pos)
    (hosr : osr = s.dev.get (Fld.GAU_CFG_OSR ch)) (hd1 : d1 = (s.dev.at (s.dev.gauge.lastAt + 5120 * 2 ^ osr)).put Fld.GAU_STATUS_RUNNING 1)
    (hd2 : d2 = d1.setGauge { d1.gauge with pos := s.dev.gauge.pos + 1, lastAt := d1.tide })
    (hw : w = gaugeWord false false ch (s.dev.get (Fld.GAU_CFG_GAIN ch)) osr v) :
    exec (.gaugeWord v false) s = s.done ((d2.gaugePush ch w).gaugeAccount ch w false) := by
  show execGaugeWord v false s = _
  exact State.dv_done (Dev.gaugeStep_settled hover hcur hpos hosr hd1 hd2 hw)

theorem exec_gaugeConfigChannel (s : State) (m : Nat)
    (haccepted : s.dev.accepted m 0x70 = true) (hargF : s.dev.argF m 0 0 3 = 0) :
    exec (.gaugeConfigChannel m) s = s.done ((s.dev.setGauge { s.dev.gauge with
      want := tput (fun _ => none) s.dev.gauge.want (s.dev.argF m 0 8 5) (some (packW
        [(0, 1, s.dev.argF m 0 16 1), (1, 3, s.dev.argF m 0 17 3), (4, 5, s.dev.argF m 0 20 5), (16, 8, s.dev.argF m 0 32 8)])) }).taskDone m 0 0 []) := by
  show execGaugeConfigChannel m s = _
  refine State.taskSel_done haccepted (by simp [hargF]) ?_
  simp [Dev.taskOk]

theorem exec_gaugeConfigThreshold (s : State) (m : Nat)
    (haccepted : s.dev.accepted m 0x70 = true) (hargF : s.dev.argF m 0 0 3 = 1) :
    exec (.gaugeConfigThreshold m) s = s.done ((s.dev.setGauge { s.dev.gauge with
      wantT := tput (fun _ => none) s.dev.gauge.wantT (s.dev.argF m 0 8 5) (some (packW
        [(0, 1, s.dev.argF m 0 16 1), (1, 1, s.dev.argF m 0 17 1), (4, 4, s.dev.argF m 0 20 4)], BitVec.ofNat 64 (s.dev.arg m 1))) }).taskDone m 0 0 []) := by
  show execGaugeConfigThreshold m s = _
  refine State.taskSel_done haccepted (by simp [hargF]) ?_
  simp [Dev.taskOk]

theorem exec_gaugeReadFifo (s : State) (m n : Nat) (d1 : Dev)
    (haccepted : s.dev.accepted m 0x70 = true) (hargF : s.dev.argF m 0 0 3 = 2) (hn : n = s.dev.argF m 0 8 4)
    (hd1 : d1 = (s.dev.setGauge { s.dev.gauge with fifo := s.dev.gauge.fifo.drop n }).gaugeLevel) :
    exec (.gaugeReadFifo m) s = s.done (d1.taskDone m 0 (s.dev.gauge.fifo.take n).length (d1.gauge.fifo.length ::
      (List.range 7).map (fun i => (s.dev.gauge.fifo.take n).getD (2 * i) 0 + (s.dev.gauge.fifo.take n).getD (2 * i + 1) 0 * 2 ^ 32))) := by
  show execGaugeReadFifo m s = _
  subst hn hd1
  refine State.taskSel_done haccepted (by simp [hargF]) ?_
  simp

theorem exec_gaugeClear (s : State) (m : Nat)
    (haccepted : s.dev.accepted m 0x70 = true) (hargF : s.dev.argF m 0 0 3 = 3) (hargF2 : s.dev.argF m 0 13 1 = 0)
    (hargF3 : s.dev.argF m 0 16 1 = 1) (hargF4 : s.dev.argF m 0 17 1 = 0) :
    exec (.gaugeClear m) s = s.done ((s.dev.gaugeClearStats (s.dev.argF m 0 8 5)).taskDone m 0 0 []) := by
  show execGaugeClear m s = _
  refine State.taskSel_done haccepted (by simp [hargF]) ?_
  simp [Dev.taskOk, hargF2, hargF3, hargF4]

theorem exec_gaugeReadStats (s : State) (m ch : Nat)
    (haccepted : s.dev.accepted m 0x70 = true) (hargF : s.dev.argF m 0 0 3 = 4) (hch : ch = s.dev.argF m 0 8 5) :
    exec (.gaugeReadStats m) s = s.done (s.dev.taskDone m 0 0 [(s.dev.reg (Reg.GAU_LAST ch)).toNat, (s.dev.reg (Reg.GAU_LAST_TIDE ch)).toNat,
      (s.dev.reg (Reg.GAU_MINMAX ch)).toNat, (s.dev.reg (Reg.GAU_MEAN ch)).toNat, s.dev.get (Fld.GAU_CFG_CLIPS ch)]) := by
  show execGaugeReadStats m s = _
  subst hch
  refine State.taskSel_done haccepted (by simp [hargF]) ?_
  simp [Dev.taskOk]

/-- Settles O33: each task and event is its function of the controller or of the Gauge. -/
theorem canAndGauge : Obligations.CanAndGauge := by
  unfold Obligations.CanAndGauge
  exact ⟨exec_canSend, exec_canFilterSet, exec_canFilterClear, exec_canFilterRead, exec_canFilterConfig, exec_canTxAttemptDone,
    exec_canLoneProbeTimer, exec_canFrameReceived, exec_canBusOffRecovered, exec_gaugeWord, exec_gaugeConfigChannel,
    exec_gaugeConfigThreshold, exec_gaugeReadFifo, exec_gaugeClear, exec_gaugeReadStats⟩

theorem exec_apPgRise (s : State) (n : Nat)
    (hn : n < 4) (hen : (s.dev.port n).pwren = true) (hpg : (s.dev.port n).pg = false) (hstarter : s.dev.starter n = 2) :
    ∃ d : Dev, d = s.dev.setPort n { s.dev.port n with pg := true, pgAt := s.dev.tide }
      ∧ exec (.apPgRise n) s = s.done ((d.setFerry { d.ferry with accGood := d.ferry.accGood ||| 2 ^ n }).afterPort 2) := by
  refine ⟨_, rfl, ?_⟩
  show execApPgRise n s = _
  refine State.dv_done ?_
  simp [Dev.pgRise, hn, hen, hpg, hstarter]

theorem exec_apPgTimeout (s : State) (n : Nat)
    (hn : n < 4) (hport : (s.dev.port n).pg = false) (hstarter : s.dev.starter n = 1) :
    exec (.apPgTimeout n) s = s.done
      ((((((s.dev.at ((s.dev.port n).pgAt + 1000000000)).portPower n false).setStarter n 0).partnerStart n 1).afterPort 1).accCheck) := by
  show execApPgTimeout n s = _
  refine State.dv_done ?_
  simp [Dev.pgTimeout, hn, hport, hstarter]

theorem exec_apPerstReleaseTimer (s : State) (n : Nat)
    (hn : n < 4) (hstarter : s.dev.starter n = 1) (hport : (s.dev.port n).pwren = true) (hport2 : (s.dev.port n).perst = true)
    (hport3 : (s.dev.port n).pg = true) :
    exec (.apPerstReleaseTimer n) s = s.done (((s.dev.at ((s.dev.port n).pgAt + 100000000)).perstRelease n).setStarter n 0) := by
  show execApPerstReleaseTimer n s = _
  refine State.dv_done ?_
  simp [Dev.perstTimer, hn, hstarter, hport, hport2, hport3]

theorem exec_staggerGapTimer (s : State) (w : Nat)
    (hgapAt : s.dev.gapAt w ≠ 0) :
    exec (.staggerGapTimer w) s = s.done (((s.dev.at (s.dev.gapAt w - 1 + s.dev.gapNs w)).setGap w 0).gapNext w) := by
  show execStaggerGapTimer w s = _
  refine State.dv_done ?_
  simp [Dev.gapTimer, hgapAt]

theorem exec_accelPowerOn (s : State) (m : Nat) (d1 : Dev)
    (haccepted : s.dev.accepted m 0x20 = true) (hargF : s.dev.argF m 0 4 1 = 1) (hportsFree : s.dev.portsFree m = true)
    (hd1 : d1 = (s.dev.powerTask m).setProg m 2) :
    exec (.accelPowerOn m) s = s.done
      ((d1.setFerry { d1.ferry with accGood := 0, accBad := 0, accSet := s.dev.argF m 0 0 4 }).accNext (bitsSet 4 (s.dev.argF m 0 0 4))) := by
  show execAccelPowerOn m s = _
  subst hd1
  refine State.taskSel_done haccepted (by simp [hargF, hportsFree]) ?_
  simp

theorem exec_accelPowerOff (s : State) (m : Nat)
    (haccepted : s.dev.accepted m 0x20 = true) (hargF : s.dev.argF m 0 4 1 = 0) (hportsFree : s.dev.portsFree m = true) :
    exec (.accelPowerOff m) s = s.done
      (((bitsSet 4 (s.dev.argF m 0 0 4)).foldl (fun d n => d.portPower n false) (s.dev.powerTask m)).taskDone m 0 0 []) := by
  show execAccelPowerOff m s = _
  refine State.taskSel_done haccepted (by simp [hargF, hportsFree]) ?_
  simp [Dev.taskOk]

theorem exec_accelResetPerst (s : State) (m : Nat) (ps : List Nat)
    (haccepted : s.dev.accepted m 0x21 = true) (hargF : s.dev.argF m 0 4 2 = 0) (hportsFree : s.dev.portsFree m = true)
    (hps : ps = (bitsSet 4 (s.dev.argF m 0 0 4)).filter (fun n => (s.dev.port n).pwren)) (hps2 : ps ≠ []) :
    exec (.accelResetPerst m) s = s.done
      ((ps.foldl (fun d n =>
        let e := (d.perstAssert n).setStarter n (4 + m)
        e.setPort n { e.port n with trainAt := e.tide }) (s.dev.powerTask m)).setProg m ((ps.map (fun n => 2 ^ n)).sum * 16 + 2)) := by
  show execAccelResetPerst m s = _
  subst hps
  refine State.taskSel_done haccepted (by simp [hargF, hportsFree]) ?_
  simp [hps2]

theorem exec_accelResetSbr (s : State) (m : Nat) (ps : List Nat)
    (haccepted : s.dev.accepted m 0x21 = true) (hargF : s.dev.argF m 0 4 2 = 1) (hportsFree : s.dev.portsFree m = true)
    (hps : ps = (bitsSet 4 (s.dev.argF m 0 0 4)).filter (fun n => (s.dev.port n).pwren)) (hps2 : ps ≠ []) :
    exec (.accelResetSbr m) s = s.done ((ps.foldl (fun d n => d.portSbr n) (s.dev.powerTask m)).taskDone m 0 0
      [((ps.filter (fun n => s.dev.on (pEn n))).map (fun n => 2 ^ n)).sum]) := by
  show execAccelResetSbr m s = _
  subst hps
  refine State.taskSel_done haccepted (by simp [hargF, hportsFree]) ?_
  simp [Dev.taskOk, hps2]

theorem exec_drivePowerOn (s : State) (m : Nat) (d1 : Dev)
    (haccepted : s.dev.accepted m 0x22 = true) (hargF : s.dev.argF m 0 8 1 = 1) (hargF2 : s.dev.argF m 0 0 8 ≠ 0)
    (hd1 : d1 = (s.dev.powerTask m).setProg m 2) :
    exec (.drivePowerOn m) s = s.done
      ((d1.setFerry { d1.ferry with drvSet := s.dev.argF m 0 0 8, drvQueue := drivePairs (s.dev.argF m 0 0 8) }).taskDrives) := by
  show execDrivePowerOn m s = _
  subst hd1
  refine State.taskSel_done haccepted (by simp [hargF]) ?_
  simp [hargF2]

theorem exec_drivePowerOff (s : State) (m : Nat)
    (haccepted : s.dev.accepted m 0x22 = true) (hargF : s.dev.argF m 0 8 1 = 0) (hargF2 : s.dev.argF m 0 0 8 ≠ 0) :
    exec (.drivePowerOff m) s = s.done
      ((((bitsSet 8 (s.dev.argF m 0 0 8)).foldl (fun d k => d.portPower (4 + k) false) (s.dev.powerTask m)).logAdd 2 0x0021 0xFF
        (s.dev.argF m 0 0 8) 0).taskDone m 0 0 []) := by
  show execDrivePowerOff m s = _
  refine State.taskSel_done haccepted (by simp [hargF]) ?_
  simp [Dev.taskOk, hargF2]

/-- Settles O34: each event and task is its function of the ports and drives it names. -/
theorem partnerCommands : Obligations.PartnerCommands := by
  unfold Obligations.PartnerCommands
  exact ⟨exec_apPgRise, exec_apPgTimeout, exec_apPerstReleaseTimer, exec_staggerGapTimer, exec_accelPowerOn, exec_accelPowerOff,
    exec_accelResetPerst, exec_accelResetSbr, exec_drivePowerOn, exec_drivePowerOff⟩

/-- Data of the BMC that continues what it staged is taken whole. -/
theorem Dev.stageData_bmc {d d1 : Dev} {bs : List Byte} (howner : d.ferry.stageOwner = 2) (hoff : d.argF 1 1 0 26 = d.ferry.stageBytes.length)
    (hfits : d.ferry.stageBytes.length + d.argF 1 1 32 6 ≤ d.ferry.stageLen)
    (hbs : bs = ((List.range 6).flatMap (fun i => leBytes 8 (d.arg 1 (2 + i)))).take (d.argF 1 1 32 6))
    (hd1 : d1 = d.setFerry { d.ferry with stageGot := putBytes (fun _ => 0) [] 0 bs, stageLeft := 0, stageBad := false }) :
    d.stageData 1 = d1.taskFlash 1 8 := by
  subst hd1 hbs
  simp [Dev.stageData, Dev.stageProgram, Dev.stageCount, howner, hoff, not_lt.mpr hfits, Dev.setFerry]

theorem exec_fwStageBegin (s : State) (m : Nat)
    (haccepted : s.dev.accepted m 0x30 = true) (hargF : s.dev.argF m 0 0 2 = 0) (hstageHeld : s.dev.stageHeld = false) :
    exec (.fwStageBegin m) s = s.done ((s.dev.stageBegin (m + 1) (s.dev.arg m 1)).taskFlash m 7) := by
  show execFwStageBegin m s = _
  refine State.taskSel_done haccepted (by simp [hargF]) ?_
  simp [hstageHeld]

theorem exec_fwStageData (s : State) (bs : List Byte) (d1 : Dev)
    (haccepted : s.dev.accepted 1 0x30 = true) (hstage : s.dev.argF 1 0 0 2 = 1) (howner : s.dev.ferry.stageOwner = 2)
    (hoff : s.dev.argF 1 1 0 26 = s.dev.ferry.stageBytes.length)
    (hfits : s.dev.ferry.stageBytes.length + s.dev.argF 1 1 32 6 ≤ s.dev.ferry.stageLen)
    (hbs : bs = ((List.range 6).flatMap (fun i => leBytes 8 (s.dev.arg 1 (2 + i)))).take (s.dev.argF 1 1 32 6))
    (hd1 : d1 = s.dev.setFerry { s.dev.ferry with stageGot := putBytes (fun _ => 0) [] 0 bs, stageLeft := 0, stageBad := false }) :
    exec (.fwStageData 1) s = s.done (d1.taskFlash 1 8) := by
  show execFwStageData 1 s = _
  refine State.dv_done ?_
  simp only [Dev.prog_of_accepted haccepted, Dev.task, haccepted, hstage, Dev.stageData_bmc howner hoff hfits hbs hd1, decide_true, decide_false,
    Nat.reduceEqDiff, Bool.and_false, Bool.false_and, Bool.and_self, Bool.false_eq_true, ↓reduceIte]

theorem exec_fwStageEnd (s : State) (m : Nat)
    (haccepted : s.dev.accepted m 0x30 = true) (hstage : s.dev.argF m 0 0 2 = 2) (howner : s.dev.ferry.stageOwner = m + 1) :
    exec (.fwStageEnd m) s = s.done (match s.dev.stageEnd with
      | (some (v, a), d1) => d1.taskDone m 0 0 [v, a]
      | (none, d1) => d1.taskDone m 7 0 []) := by
  show execFwStageEnd m s = _
  refine State.dv_done ?_
  simp only [Dev.task, haccepted, hstage, howner, decide_true, Bool.and_self, ne_eq, not_true_eq_false, ↓reduceIte]
  rcases s.dev.stageEnd with ⟨_ | ⟨v, a⟩, d1⟩ <;> rfl

theorem exec_fwStageCancel (s : State) (m : Nat)
    (haccepted : s.dev.accepted m 0x30 = true) (hargF : s.dev.argF m 0 0 2 = 3) (hferry : s.dev.ferry.stageOwner = m + 1) :
    exec (.fwStageCancel m) s = s.done (((s.dev.setFw s.dev.stageSlot FwSlot.init).stageRelease).taskDone m 0 0 []) := by
  show execFwStageCancel m s = _
  refine State.taskSel_done haccepted (by simp [hargF]) ?_
  simp [Dev.taskOk, hferry]

theorem exec_fwActivateNextReset (s : State) (m : Nat)
    (haccepted : s.dev.accepted m 0x31 = true) (harg : s.dev.arg m 0 = 0) (hfw : (s.dev.fw s.dev.stageSlot).staged = true) :
    exec (.fwActivateNextReset m) s = s.done ((s.dev.activate 0).leaveRecovery.taskDone m 0 0 []) := by
  show execFwActivateNextReset m s = _
  refine State.dv_done ?_
  simp [Dev.task, Dev.taskOk, haccepted, harg, hfw]

theorem exec_fwActivateHelmNow (s : State) (m : Nat)
    (haccepted : s.dev.accepted m 0x31 = true) (harg : s.dev.arg m 0 = 1) :
    exec (.fwActivateHelmNow m) s = s.done
      (if s.dev.helmNowCause = 0 then (s.dev.setProg m 2).helmNow (m + 1) else s.dev.taskDone m s.dev.helmNowCause 0 []) := by
  show execFwActivateHelmNow m s = _
  refine State.dv_done ?_
  simp [Dev.task, Dev.taskFail, haccepted, harg]

theorem exec_fwActivateConfirm (s : State) (m : Nat) (d1 d2 : Dev)
    (haccepted : s.dev.accepted m 0x31 = true) (harg : s.dev.arg m 0 = 2) (htrial : s.dev.trial = true)
    (hd1 : d1 = s.dev.helmPut Fld.TASK_HELM_TRIAL 0) (htlhs : d1.tlhs.minSvn < (d1.fw d1.bootSlot).svn) (htlhs2 : d1.tlhs.advances < 63)
    (hd2 : d2 = ({ d1 with tlhs := { d1.tlhs with minSvn := (d1.fw d1.bootSlot).svn, advances := d1.tlhs.advances + 1 } }.put Fld.TLH_STATUS_MIN_SVN
      (d1.fw d1.bootSlot).svn).logAdd 2 0x0504 0xFF (d1.fw d1.bootSlot).svn (d1.tlhs.advances + 1)) :
    exec (.fwActivateConfirm m) s = s.done ((d2.logAdd 1 0x0012 0xFF d2.bootSlot 0).taskDone m 0 0 []) := by
  show execFwActivateConfirm m s = _
  subst hd1 hd2
  refine State.dv_done ?_
  simp [Dev.task, Dev.taskOk, haccepted, harg, htrial, htlhs, htlhs2]

theorem exec_fwActivateRevert (s : State) (m : Nat)
    (haccepted : s.dev.accepted m 0x31 = true) (harg : s.dev.arg m 0 = 4) (hfw : (s.dev.fw (1 - s.dev.bootSlot)).valid = true)
    (htlhs : s.dev.tlhs.minSvn ≤ (s.dev.fw (1 - s.dev.bootSlot)).svn) :
    exec (.fwActivateRevert m) s = s.done ((((s.dev.helmPut Fld.TASK_HELM_BOOT_SLOT (1 - s.dev.bootSlot)).helmPut Fld.TASK_HELM_TRIAL 0).logAdd
      4 0x0013 0xFF (1 - s.dev.bootSlot) 3).leaveRecovery.taskDone m 0 0 []) := by
  show execFwActivateRevert m s = _
  refine State.dv_done ?_
  simp [Dev.task, Dev.taskFail, Dev.taskOk, haccepted, harg, hfw, htlhs]

theorem exec_fwStatus (s : State) (m : Nat)
    (haccepted : s.dev.accepted m 0x32 = true) :
    exec (.fwStatus m) s = s.done (s.dev.taskDone m 0 0
      [pack [(0, 1, s.dev.ferry.running), (1, 1, s.dev.bootSlot), (2, 1, bnat s.dev.trial), (3, 1, bnat (s.dev.fw s.dev.stageSlot).staged),
          (4, 2, s.dev.ferry.stageOwner)],
        s.dev.ferry.slotA.version, s.dev.ferry.slotB.version, s.dev.ferry.stageBytes.length, getBits (s.dev.reg Reg.IDENT_FW_ABI) 0 32]) := by
  show execFwStatus m s = _
  refine State.task_done haccepted ?_
  simp [Dev.taskOk]

theorem exec_spiFlashOperationDone (s : State) (m cs : Nat)
    (hm : m < 2) (hwaits : s.dev.flashOf m ≠ 0) (hstores : s.dev.flashOf m < 7) (hbusy : s.dev.taskBusy m = true)
    (hhelm : s.dev.on (Fld.TASK_STATE_HELM_DOWN m) = false) :
    exec (.spiFlashOperationDone m true cs) s = s.done ((s.dev.storeKeep (min (s.dev.flashOf m) 5)).taskDone m 0 0 []) := by
  show execSpiFlashOperationDone m true cs s = _
  refine State.dv_done ?_
  simp [Dev.flashDone, Dev.taskOk, hm, hwaits, hstores, hbusy, hhelm]

/-- Settles O35: each task is its function of the staging slot, and the flash ends what waited for it. -/
theorem firmwareTasks : Obligations.FirmwareTasks := by
  unfold Obligations.FirmwareTasks
  exact ⟨exec_fwStageBegin, exec_fwStageData, exec_fwStageEnd, exec_fwStageCancel, exec_fwActivateNextReset, exec_fwActivateHelmNow,
    exec_fwActivateConfirm, exec_fwActivateRevert, exec_fwStatus, exec_spiFlashOperationDone⟩

end Sys2Proof.Machine
end

section
/-! PROOFS. The helm, resets and the Slipway (spec sections 20, 23) -/

namespace Sys2Proof.Machine

/-- The autonomous helm restarts a contained port at the end of its wait where the ports' sequence is free. -/
theorem Dev.autoRestart_starts {e d d1 : Dev} {p since n : Nat} (hsince : since = tget (fun _ => 0) e.ferry.contained6 p)
    (hn : n = tget (fun _ => 0) e.ferry.restarts p) (hauto : e.on (Fld.TASK_HELM_AUTONOMOUS 0) = true) (hen : e.ferry.restartEn = true)
    (hwaits : since ≠ 0) (hfew : n < 3) (hstarter : e.starter p = 0) (hcontained : e.get (pState p) = 4)
    (hd : d = e.at (since - 1 + 10000000000))
    (hd1 : d1 = (d.setFerry { d.ferry with contained6 := tdel p d.ferry.contained6, restarts := tput (fun _ => 0) d.ferry.restarts p (n + 1) }).logAdd
      3 0x0005 0xFF p (n + 1))
    (hgap : d1.gapAt 4 = 0) (hfree : ∀ q ∈ List.range 4, d1.starter q ≠ 3) :
    e.autoRestart p = (d1.setSlip { d1.slip with accelGap := d1.slip.plan.getD 0 250 }).autoPort [p] := by
  have hany : (List.range 4).any (fun q => d1.starter q = 3) = false :=
    List.any_eq_false.mpr fun q hq => by simp only [decide_eq_true_eq, hfree q hq, not_false_eq_true]
  subst hd
  simp only [Dev.autoRestart, ← hsince, ← hn, hauto, hen, hwaits, not_le.mpr hfew, hstarter, hcontained, ← hd1, hgap, hany, ne_eq, not_true_eq_false,
    decide_false, Bool.not_true, Bool.or_self, Bool.false_eq_true, ↓reduceIte]

/-- A chunk that continues the image PLDM stages is kept. -/
theorem Dev.pldmData_continues {d : Dev} {off total : Nat} {data : List Byte} (hoff : 0 < off) (htotal : total ≤ 0x2000000) (hdata : data.length ≤ 1024)
    (howner : d.ferry.stageOwner = 3) (hgot : d.ferry.stageBytes.length = off) (hmore : off + data.length < total) (s : State) (hs : s.dev = d) :
    execPldmRequestFirmwareData off total data s =
      s.done ((d.setFerry { d.ferry with stageBytes := d.ferry.stageBytes ++ data, stageTide := d.tide }).mctpAnswer 0 3 (bytes8 [0])) := by
  refine State.dv_done ?_
  rw [hs]
  simp only [howner, hgot, hoff.ne', not_lt.mpr htotal, not_lt.mpr hdata, not_lt.mpr hmore.le, hmore.ne, decide_false, ne_eq, not_true_eq_false,
    Bool.false_and, Bool.or_self, Bool.false_eq_true, ↓reduceIte]

theorem exec_autonomyEnter (s : State) (d d1 : Dev) (cap : Nat)
    (hhelmAutonomous : s.dev.on (Fld.TASK_HELM_AUTONOMOUS 0) = false) (hhelmDown : s.dev.on (Fld.TASK_STATE_HELM_DOWN 0) = false)
    (hd : d = s.dev.at s.dev.silenceEnd) (hcap : cap = curveCap d.ferry.autoTable (d.chanTemp d.ferry.tempCh))
    (hd1 : d1 = (((d.helmPut Fld.TASK_HELM_AUTONOMOUS 1).put Fld.IDENT_TRAY_HELM_AUTONOMOUS 1).put Fld.PWR_CAPS_AUTO_W cap).setFerry
      { d.ferry with autoSince := d.tide + 1, restarts := [] }) :
    exec .autonomyEnter s = s.done (d1.logAdd 3 0x0002 0xFF cap
      (pack [(0, 32, (d.tide - d.ferry.lastGo0) / 1000000000), (32, 32, (d.tide - d.ferry.lastGo1) / 1000000000)])).updateCap := by
  show execAutonomyEnter s = _
  subst hd hcap hd1
  refine State.dv_done ?_
  simp [Dev.autonomy, hhelmAutonomous, hhelmDown]

theorem exec_autoRestart (s : State) (p since n : Nat) (d d1 : Dev)
    (hp : p < 4) (hsince : since = tget (fun _ => 0) s.dev.ferry.contained6 p) (hn : n = tget (fun _ => 0) s.dev.ferry.restarts p)
    (hauto : s.dev.on (Fld.TASK_HELM_AUTONOMOUS 0) = true) (hen : s.dev.ferry.restartEn = true) (hwaits : since ≠ 0) (hfew : n < 3)
    (hstarter : s.dev.starter p = 0) (hcontained : s.dev.get (pState p) = 4) (hd : d = s.dev.at (since - 1 + 10000000000))
    (hd1 : d1 = (d.setFerry { d.ferry with
      contained6 := tdel p d.ferry.contained6, restarts := tput (fun _ => 0) d.ferry.restarts p (n + 1) }).logAdd 3 0x0005 0xFF p (n + 1))
    (hgap : d1.gapAt 4 = 0) (hfree : (∀ q ∈ List.range 4, d1.starter q ≠ 3)) :
    exec (.autoRestart p) s = s.done ((d1.setSlip { d1.slip with accelGap := d1.slip.plan.getD 0 250 }).autoPort [p]) := by
  show execAutoRestart p s = _
  exact State.dv_done ((if_pos hp).trans
    (Dev.autoRestart_starts hsince hn hauto hen hwaits hfew hstarter hcontained hd hd1 hgap hfree))

theorem exec_helmLockstepMismatch (s : State)
    (hhelmDown : s.dev.on (Fld.TASK_STATE_HELM_DOWN 0) = false) :
    exec .helmLockstepMismatch s = s.done
      (((s.dev.logAdd 5 0x0001 0xFF 1 (s.dev.fw s.dev.ferry.running).version).classified 0x0617 0 0xFF 0).helmDown 1) := by
  show execHelmLockstepMismatch s = _
  refine State.dv_done ?_
  simp [Dev.lockstep, hhelmDown]

theorem exec_helmWatchdog (s : State) (d : Dev)
    (hhelmDown : s.dev.on (Fld.TASK_STATE_HELM_DOWN 0) = false)
    (hd : d = s.dev.logAdd 5 0x0001 0xFF 2 (s.dev.fw s.dev.ferry.running).version) (htrial : d.trial = true) :
    exec .helmWatchdog s = s.done ((d.rollback 1).helmDown 2) := by
  show execHelmWatchdog s = _
  subst hd
  refine State.dv_done ?_
  simp [Dev.watchdog, hhelmDown, htrial]

theorem exec_helmRestartDone (s : State) (d1 : Dev)
    (hferry : s.dev.ferry.helmWhy = 1)
    (hd1 : d1 = ((s.dev.helmPut Fld.TASK_STATE_HELM_DOWN 0).setFerry { s.dev.ferry with helmWhy := 0, helmTask := 0 }).endSessions (fun _ => true)) :
    exec (.helmRestartDone true) s = s.done ((d1.helmEnds 0).helmEnds 1) := by
  show execHelmRestartDone true s = _
  subst hd1
  refine State.dv_done ?_
  simp [Dev.helmBack, hferry]

theorem exec_mctpControlMessage (s : State) (binding eid : Nat)
    (hbinding : binding < 2) (h0 : 0 < eid) (heid : eid < 255) :
    exec (.mctpControlMessage binding 1 eid) s = s.done
      ((s.dev.setFerry { s.dev.ferry with eid := tput (fun _ => 0) s.dev.ferry.eid binding eid }).mctpAnswer binding 0 (bytes8 [1, 0, 0, eid, 0])) := by
  show execMctpControlMessage binding 1 eid s = _
  refine State.dv_done ?_
  simp only [not_le.mpr hbinding, h0.ne', not_le.mpr heid, or_self, ↓reduceIte]

theorem exec_pldmSensorRead (s : State) (binding ch : Nat) (n : Int)
    (hbinding : binding < 2) (hch : ch ≤ 0x1D) (hgaugeN : s.dev.gaugeN ch = some n) (hcfgEn : s.dev.on (Fld.GAU_CFG_EN ch) = true)
    (hage : s.dev.gaugeAge ch ≤ 1000000000) :
    exec (.pldmSensorRead binding (0x100 + ch) false) s
      = s.done (s.dev.mctpAnswer binding 2 (bytes8 [0, 0] ++ leBytes 4 (toField 32 n))) := by
  show execPldmSensorRead binding (0x100 + ch) false s = _
  have hlow : ¬ 0x100 + ch < 0x100 := by omega
  have hhigh : ¬ 0x11D < 0x100 + ch := by omega
  refine State.dv_done ?_
  simp only [not_le.mpr hbinding, hlow, hhigh, Nat.add_sub_cancel_left, hgaugeN, hcfgEn, hage, decide_true, Bool.and_self, or_self,
    Bool.false_eq_true, ↓reduceIte]

theorem exec_pldmRequestFirmwareData (s : State) (off total : Nat) (data : List Byte)
    (h0 : 0 < off) (htotal : total ≤ 0x2000000) (hdata : data.length ≤ 1024) (howner : s.dev.ferry.stageOwner = 3)
    (hgot : s.dev.ferry.stageBytes.length = off) (hmore : off + data.length < total) :
    exec (.pldmRequestFirmwareData off total data) s = s.done
      ((s.dev.setFerry { s.dev.ferry with stageBytes := s.dev.ferry.stageBytes ++ data, stageTide := s.dev.tide }).mctpAnswer 0 3 (bytes8 [0])) := by
  show execPldmRequestFirmwareData off total data s = _
  exact Dev.pldmData_continues h0 htotal hdata howner hgot hmore s rfl

theorem exec_pldmActivateFirmware (s : State)
    (hferry : s.dev.ferry.stageOwner = 3) (hfw : (s.dev.fw s.dev.stageSlot).staged = true)
    (hhelmDown : s.dev.on (Fld.TASK_STATE_HELM_DOWN 0) = false) :
    exec (.pldmActivateFirmware false) s = s.done ((s.dev.activate 0).leaveRecovery.mctpAnswer 0 3 (bytes8 [0])) := by
  show execPldmActivateFirmware false s = _
  refine State.dv_done ?_
  simp [hferry, hfw, hhelmDown]

theorem exec_tapBypass (s : State) (tdi : List Bool) :
    exec (.tapBypass tdi) s = s.done
      ({ s.dev with tap := { s.dev.tap with ir := 0, bypass := (false :: tdi).getLastD false, driving := false } }.emit .tap [0]
        (tapBits (false :: tdi).dropLast)) := rfl

theorem exec_tapIdcode (s : State) :
    exec .tapIdcode s
      = s.done ({ s.dev with tap := { s.dev.tap with ir := 1, driving := false } }.emit .tap [1, 0x05020E3D]) := rfl

theorem exec_samplePreload (s : State) (levels preload : List Bool) :
    exec (.samplePreload levels preload) s = s.done
      ({ s.dev with tap := { s.dev.tap with ir := 2, cells := preload, driving := false } }.emit .tap [2] (tapBits levels)) := rfl

theorem exec_extest (s : State) (levels preload : List Bool)
    (hanyPwren : s.dev.anyPwren = false) :
    exec (.extest levels preload) s = s.done
      ({ s.dev with tap := { s.dev.tap with ir := 3, cells := preload, driving := true } }.emit .tap [3] (tapBits levels)) := by
  show execExtest levels preload s = _
  refine State.dv_done ?_
  simp [hanyPwren]

/-- Settles O36: each event and message is its function of the helm, of the staging slot or of the pins. -/
theorem helmAndManagement : Obligations.HelmAndManagement := by
  unfold Obligations.HelmAndManagement
  exact ⟨exec_autonomyEnter, exec_autoRestart, exec_helmLockstepMismatch, exec_helmWatchdog, exec_helmRestartDone, exec_mctpControlMessage,
    exec_pldmSensorRead, exec_pldmRequestFirmwareData, exec_pldmActivateFirmware, exec_tapBypass, exec_tapIdcode, exec_samplePreload,
    exec_extest⟩

/-- A VF's reset is complete once its copies and scrubs have left. -/
theorem Dev.flrDone_function {e d : Dev} {f : Nat} (hf : f ≠ 0) (hsilent : e.host.flr.contains (f, true) = true)
    (hd : d = (e.copiesLeave (fun b => b = f)).scrubsEnd (fun b => b = f)) :
    e.flrDone f = { d.showFlr f 0 with host := { d.host with flr := d.host.flr.filter (fun e => e.1 ≠ f) } } := by
  subst hd
  simp only [Dev.flrDone, hsilent, hf, Bool.not_true, Bool.false_eq_true, ↓reduceIte]

theorem exec_hotReset (s : State)
    (hperst : s.dev.host.perstHigh = true) (hlink : (s.dev.host.link = 1 ∨ s.dev.host.link = 2 ∨ s.dev.host.link = 3)) :
    exec .hotReset s = s.done
      ((((s.dev.flrBegin 0).put Fld.LND_HOST_EVENTS_HOT_RESET 1).put Fld.IDENT_BOOT_LAST_RESET 2).allReset 3 |>.functionsClear |>.hostLinkLost 4) := by
  show execHotReset s = _
  have hup : (s.dev.host.perstHigh && (s.dev.host.link = 1 || s.dev.host.link = 2 || s.dev.host.link = 3)) = true := by
    simpa only [hperst, Bool.true_and, Bool.or_eq_true, decide_eq_true_eq, or_assoc] using hlink
  exact State.dv_done (if_pos hup)

theorem exec_pfFlr (s : State)
    (hinFlr : s.dev.inFlr 0 = false) (hslip : s.dev.slip.slack = false) :
    exec .pfFlr s = s.done
      ((((s.dev.flrBegin 0).put Fld.LND_HOST_EVENTS_PF_FLR 1).put Fld.IDENT_BOOT_LAST_RESET 3).allReset 3 |>.functionsClear) := by
  show execPfFlr s = _
  refine State.dv_done ?_
  simp [Dev.pfFlr, hinFlr, hslip]

theorem exec_vfFlr (s : State) (b : Nat) (s1 s2 s3 : Dev)
    (h1 : 1 ≤ b) (hb : b ≤ 128) (hfuncOn : s.dev.funcOn b = true) (hinFlr : s.dev.inFlr b = false)
    (hs1 : s1 = ((((s.dev.flrBegin b).berthRingsReset b).stoBerths (fun x => x = b)).revokeAll b).xctEnd (fun o => o = b) 3)
    (hs2 : s2 = (s1.pansHeld b).foldl (fun d p => d.panKill p) s1)
    (hs3 : s3 = ((s2.keysZeroize (fun k => k.owner = b) 2 b).xctZeroOwner b).put (Fld.TOLL_ROOT_VALID b) 0) :
    exec (.vfFlr b) s = s.done ((({ s3 with
      toll := { s3.toll with cache := s3.toll.cache.filter (fun c => c.ctx ≠ b) }
      host := { s3.host with ide := s3.host.ide.map (fun e => if e.2.covers b then (e.1, { e.2 with excl := b :: e.2.excl }) else e) } } : Dev).vfClear
        b).countOld b) := by
  show execVfFlr b s = _
  subst hs1 hs2 hs3
  refine State.dv_done ?_
  simp [isTenant, Dev.vfFlr, h1, hb, hfuncOn, hinFlr]

theorem exec_flrSilencePoint (s : State) (f : Nat) :
    exec (.flrSilencePoint f) s = s.done { s.dev with
      host := { s.dev.host with flr := s.dev.host.flr.map (fun e => if e.1 = f then (f, true) else e) } } := rfl

theorem exec_flrCompletionPoint (s : State) (f : Nat) (d : Dev)
    (hf : f ≠ 0) (hsilent : s.dev.host.flr.contains (f, true) = true)
    (hd : d = (s.dev.copiesLeave (fun b => b = f)).scrubsEnd (fun b => b = f)) :
    exec (.flrCompletionPoint f) s
      = s.done { d.showFlr f 0 with host := { d.host with flr := d.host.flr.filter (fun e => e.1 ≠ f) } } := by
  show execFlrCompletionPoint f s = _
  exact State.dv_done (Dev.flrDone_function hf hsilent hd)

theorem exec_slackWaterReset (s : State)
    (hhost : s.dev.host.dropTimer ≠ 0) (hhost2 : s.dev.host.perstHigh = true) :
    exec .slackWaterReset s = s.done (s.dev.at (s.dev.host.dropTimer - 1 + 2000000)).slackWater := by
  show execSlackWaterReset s = _
  refine State.dv_done ?_
  simp [hhost, hhost2]

theorem exec_slackWaterComplete (s : State) (s1 s2 : Dev)
    (hslip : s.dev.slip.slack = true) (hyp : ((s.dev.copiesLeave (fun _ => true)).scrubsEnd (fun _ => true)).teardownDone = some s1)
    (hs2 : s2 = { s1 with slip := { s1.slip with slack := false, slackWaits := true } }.logAdd 4 0x0205 0xFF 2 s1.slip.slackCrossings)
    (hlinkUp : s2.linkUp = true) :
    exec .slackWaterComplete s
      = s.done { s2.put Fld.LND_HOST_LINK_DEVICE_READY 1 with slip := { s2.slip with slackWaits := false } } := by
  show execSlackWaterComplete s = _
  subst hs2
  refine State.dv_done ?_
  simp [Dev.slackDone, hslip, hyp, hlinkUp]

theorem exec_vfEnableClear (s : State) (enable : Bool) (n : Nat) (d : Dev)
    (hd : d = (s.dev.putCfg 0 0x170 0 1 (if enable then 1 else 0)).putCfg 0 0x178 0 16 (min n 128)) :
    exec (.vfEnableClear enable n) s = s.done ((berths.filter (fun b => s.dev.funcOn b && !d.funcOn b)).foldl (fun s b => s.vfGone b) d) := by
  show execVfEnableClear enable n s = _
  subst hd
  rfl

/-- Settles O37: each reset is its function of the host port, the functions and the berths. -/
theorem resetCommands : Obligations.ResetCommands := by
  unfold Obligations.ResetCommands
  exact ⟨exec_hotReset, exec_pfFlr, exec_vfFlr, exec_flrSilencePoint, exec_flrCompletionPoint, exec_slackWaterReset,
    exec_slackWaterComplete, exec_vfEnableClear⟩

/-- Main power believed at station 3 starts the tiles. -/
theorem Dev.mainBelieved_starts {e d : Dev} (hstandby : e.slip.standby = true) (htrip : e.power.thermTrip = false)
    (hd : d = e.setSlip { e.slip with mainPg := true, believed := true }) (hon : d.slip.hardOff = false) (hvault : d.vltState ≠ 4)
    (hstation : d.get Fld.IDENT_BOOT_STATION = 3) (hruns : d.slipRuns = true) (hready : d.mainReady = true) :
    e.mainBelieved = d.vltSync.station 4 := by
  have hpowered : (!e.slip.standby || e.power.thermTrip) = false := by simp only [hstandby, htrip, Bool.not_true, Bool.or_self]
  simp only [Dev.mainBelieved, hpowered, ← hd, hon, hvault, hstation, hruns, hready, decide_true, Bool.and_self, Bool.false_eq_true, ↓reduceIte]

/-- CELL_LOW_N that falls with main power believed is followed. -/
theorem Dev.cellFalls_powered {d : Dev} {pgHigh : Bool} (hstandby : d.slip.standby = true) (hon : d.slip.hardOff = false)
    (hhigh : d.slip.cellLowHigh = true) (hbelieved : d.slip.believed = true) :
    d.cellFalls pgHigh = (d.setSlip { d.slip with cellLowHigh := false, mainPg := true }).vltSync := by
  simp [Dev.cellFalls, Dev.setSlip, hstandby, hon, hhigh, hbelieved]

theorem exec_standbyPowerRise (s : State)
    (hslip : s.dev.slip.standby = false) :
    exec .standbyPowerRise s = s.done ({ s.dev with slip := { s.dev.slip with mainPg := false, believed := false } } : Dev).coldStart := by
  show execStandbyPowerRise s = _
  refine State.dv_done ?_
  simp [hslip]

theorem exec_standbyPowerFall (s : State) (d : Dev)
    (hd : d = s.dev.partnersOff.tilesDown) :
    exec .standbyPowerFall s = s.done (d.setSlip { d.slip with standby := false, gaps := [], starts := [] }) := by
  show execStandbyPowerFall s = _
  subst hd
  rfl

theorem exec_slipwayStationComplete (s : State) (index : Nat)
    (hbootStation : s.dev.get Fld.IDENT_BOOT_STATION = 8) (hslipRuns : s.dev.slipRuns = true) :
    exec (.slipwayStationComplete true index) s = s.done ((s.dev.zeroMem 0 0x4000000000).station 9) := by
  show execSlipwayStationComplete true index s = _
  refine State.dv_done ?_
  simp [Dev.stationDone, hbootStation, hslipRuns]

theorem exec_slipwayStationComplete_failed (s : State) (index : Nat)
    (hbootStation : s.dev.get Fld.IDENT_BOOT_STATION = 7) (hslipRuns : s.dev.slipRuns = true) :
    exec (.slipwayStationComplete false index) s = s.done (s.dev.slipHalt 2 index) := by
  show execSlipwayStationComplete false index s = _
  refine State.dv_done ?_
  simp [Dev.stationDone, haltCause, hbootStation, hslipRuns]

theorem exec_crystallizerGroupExit (s : State) (g : Nat) (d : Dev)
    (hbootStation : s.dev.get Fld.IDENT_BOOT_STATION = 10) (hslipRuns : s.dev.slipRuns = true) (hslip : s.dev.slip.cryGroups ≠ 0)
    (hg : g = 4 - s.dev.slip.cryGroups) (hd : d = s.dev.at (s.dev.slip.stationStart + g * s.dev.slip.cryGap * 1000000)) :
    exec .crystallizerGroupExit s = s.done
      (((List.range 8).foldl (fun s i => s.exitIsland (64 + 8 * g + i)) d).setSlip { d.slip with cryGroups := d.slip.cryGroups - 1 }) := by
  show execCrystallizerGroupExit s = _
  subst hg hd
  refine State.dv_done ?_
  simp [Dev.groupExit, hbootStation, hslipRuns, hslip]

theorem exec_slipwayImageVerified (s : State) (a b : List Byte) (ra rb : Bool) (d : Dev) (i : Nat) (r : Nat → Bool × List Byte)
    (hbootStation : s.dev.get Fld.IDENT_BOOT_STATION = 2) (hslipRuns : s.dev.slipRuns = true) (hd : d = s.dev.trialStart)
    (hi : i = d.bootSlot) (hr : r = (fun j => if j = 0 then (ra, d.slotBytes 0 a) else (rb, d.slotBytes 1 b))) :
    exec (.slipwayImageVerified ra a rb b) s = s.done
      (if d.imageCause (r i).1 (r i).2 = 0 then d.imageTake (r i).2
      else if d.imageCause (r (1 - i)).1 (r (1 - i)).2 = 0 then
        (((d.helmPut Fld.TASK_HELM_BOOT_SLOT (1 - i)).helmPut Fld.TASK_HELM_TRIAL 0).logAdd 4 0x0203 0xFF i
          (d.imageCause (r i).1 (r i).2)).imageTake (r (1 - i)).2
      else (d.setSlip { d.slip with recovery := true }).logAdd 5 0x0204 0xFF 0 0) := by
  show execSlipwayImageVerified ra a rb b s = _
  subst hd hi hr
  refine State.dv_done ?_
  simp [Dev.imageVerified, hbootStation, hslipRuns]

theorem exec_perstAssert (s : State) (ns : Nat) (d : Dev)
    (h1000 : 1000 ≤ ns) (hd : d = { s.dev with host := { s.dev.host with perstHigh := false } }) (hslip : s.dev.slip.standby = true)
    (hslip2 : s.dev.slip.recovery = false) (hslip3 : s.dev.slip.hardOff = false) (hbootStation : d.get Fld.IDENT_BOOT_STATION = 11) :
    exec (.perstAssert ns) s = s.done d.fundamental := by
  show execPerstAssert ns s = _
  subst hd
  refine State.dv_done ?_
  simp [Dev.perst, h1000, hslip, hslip2, hslip3, hbootStation]

theorem exec_perstDeassert (s : State) (d : Dev)
    (hhost : s.dev.host.perstHigh = false) (hd : d = { s.dev with host := { s.dev.host with perstHigh := true, link := 4 } })
    (hcfgBits : d.cfgBits 0 0x44 15 1 = 0) :
    exec .perstDeassert s = s.done d := by
  show execPerstDeassert s = _
  subst hd
  refine State.dv_done ?_
  simp [hhost, hcfgBits]

theorem exec_mainPowerBelieved (s : State) (d : Dev)
    (hstandby : s.dev.slip.standby = true) (htrip : s.dev.power.thermTrip = false)
    (hd : d = s.dev.setSlip { s.dev.slip with mainPg := true, believed := true }) (hon : d.slip.hardOff = false) (hvault : d.vltState ≠ 4)
    (hstation : d.get Fld.IDENT_BOOT_STATION = 3) (hruns : d.slipRuns = true) (hready : d.mainReady = true) :
    exec .mainPowerBelieved s = s.done (d.vltSync.station 4) := by
  show execMainPowerBelieved s = _
  exact State.dv_done (Dev.mainBelieved_starts hstandby htrip hd hon hvault hstation hruns hready)

theorem exec_mainPgFall (s : State) (d : Dev)
    (hd : d = s.dev.setSlip { s.dev.slip with mainPg := false, believed := false, pgSince := s.dev.tide }) (hvltState : d.vltState = 2)
    (hslip : s.dev.slip.believed = true) :
    exec (.mainPgFall false) s = s.done (d.put Fld.VLT_STATUS_MAIN_OK 0) := by
  show execMainPgFall false s = _
  subst hd
  refine State.dv_done ?_
  simp [Dev.mainFall, hvltState, hslip]

theorem exec_mainPgLowTimer (s : State) (d : Dev)
    (hslip : s.dev.slip.mainPg = false) (hslip2 : s.dev.slip.standby = true) (hslip3 : s.dev.slip.hardOff = false)
    (hslip4 : s.dev.slip.recovery = false) (hd : d = s.dev.at (s.dev.slip.pgSince + 50000)) (hvltState : d.vltState = 2) :
    exec .mainPgLowTimer s = s.done d.drainBegin := by
  show execMainPgLowTimer s = _
  subst hd
  refine State.dv_done ?_
  simp [Dev.mainLow, hslip, hslip2, hslip3, hslip4, hvltState]

theorem exec_cellLowFall (s : State) (pgHigh : Bool)
    (hstandby : s.dev.slip.standby = true) (hon : s.dev.slip.hardOff = false) (hhigh : s.dev.slip.cellLowHigh = true)
    (hbelieved : s.dev.slip.believed = true) :
    exec (.cellLowFall pgHigh) s = s.done (s.dev.setSlip { s.dev.slip with cellLowHigh := false, mainPg := true }).vltSync := by
  show execCellLowFall pgHigh s = _
  exact State.dv_done (Dev.cellFalls_powered hstandby hon hhigh hbelieved)

theorem exec_cellLowRise (s : State) :
    exec .cellLowRise s = s.done (s.dev.setSlip { s.dev.slip with cellLowHigh := true }).vltSync := rfl

theorem exec_thermalTrip (s : State) (index : Nat) (d : Dev)
    (hpower : s.dev.power.thermTrip = false) (hslip : s.dev.slip.standby = true) (hvltState : s.dev.vltState ≠ 3)
    (hd : d = ({ s.dev with power := { s.dev.power with thermTrip := true } }.emit .pin [5, 0]).kill.partnersOff) :
    exec (.thermalTrip index) s = s.done ((d.put Fld.PWR_STATUS_TRIPPED 1).logAdd 5 0x0302 0xFF index 0).vltSync := by
  show execThermalTrip index s = _
  subst hd
  refine State.dv_done ?_
  simp [Dev.trip, hpower, hslip, hvltState]

/-- Settles O38: each event is its function of the Slipway, of the vault and of the partners. -/
theorem slipwayAndPowerEvents : Obligations.SlipwayAndPowerEvents := by
  unfold Obligations.SlipwayAndPowerEvents
  exact ⟨exec_standbyPowerRise, exec_standbyPowerFall, exec_slipwayStationComplete, exec_slipwayStationComplete_failed,
    exec_crystallizerGroupExit, exec_slipwayImageVerified, exec_perstAssert, exec_perstDeassert, exec_mainPowerBelieved, exec_mainPgFall,
    exec_mainPgLowTimer, exec_cellLowFall, exec_cellLowRise, exec_thermalTrip⟩

end Sys2Proof.Machine
end

section
/-! PROOFS. The Tide Vault (spec section 24) -/

namespace Sys2Proof.Machine

/-- A vault task's command acts once the task of its action is accepted. -/
theorem State.vaultTask_done {s : State} {m action : Nat} {f : Dev → Dev} {d : Dev} (h : s.dev.accepted m 0x50 = true)
    (hact : s.dev.argF m 0 0 3 = action) (hf : f s.dev = d) : (s.dv fun d => d.vaultTask m action f) = s.done d :=
  State.taskSel_done (sel := fun d => decide (d.argF m 0 0 3 = action)) h (decide_eq_true hact) hf

/-- A unit read back is decrypted and taken. -/
theorem Dev.restoreRead_good {d : Dev} {k : Nat} {data : List Byte} (hphase : d.vlt.rphase ≠ 0) (hstate : d.vltState = 5)
    (hdrive : d.vltDrives.getD (d.vlt.runit % max 1 d.vltDrives.length) 8 = k) :
    d.restoreRead k true data = (d.setVlt { d.vlt with
      runit := d.vlt.runit + 1
      rgot := d.vlt.rgot ++ d.vltCrypt (Machine.wf d.vlt.rhead 1 0 64) (d.vlt.runit * vltUnitSize) false data }).restoreStep := by
  simp only [Dev.restoreRead, hphase, hstate, hdrive, ne_eq, not_true_eq_false, decide_false, Bool.or_self, Bool.not_true, Bool.false_eq_true, ↓reduceIte]

/-- The seal leaves the vault pending, and it resumes with main power believed. -/
theorem Dev.vltSealed_good {d d1 d2 d3 : Dev} {k : Nat} (hphase : d.vlt.phase = 3)
    (hd1 : d1 = ((d.vltLast 1 0).put Fld.VLT_SEQ_SEQ d.vlt.seq).put Fld.VLT_STATUS_PENDING 1)
    (hd2 : d2 = (d1.put Fld.VLT_STATUS_STATE 4).setVlt { d1.vlt with phase := 4 })
    (hd3 : d3 = (d2.storeKeep 5).logAdd 2 0x0403 0xFF d.vlt.seq ((d.tide - d.vlt.start) / 1000))
    (hmain : d3.slip.mainPg = true) (hbelieved : d3.slip.believed = true) : d.vltSealed k true = d3.vltResume := by
  subst hd2 hd1
  simp only [Dev.vltSealed, hphase, ← hd3, hmain, hbelieved, ne_eq, not_true_eq_false, Bool.not_true, Bool.false_eq_true, ↓reduceIte]

theorem exec_vaultSet (s : State) (m set slot limit lba : Nat) (d : Dev)
    (haccepted : s.dev.accepted m 0x50 = true) (hact : s.dev.argF m 0 0 3 = 0) (hset : set = s.dev.argF m 1 0 8)
    (hslot : slot = s.dev.argF m 1 16 16) (hlimit : limit = s.dev.argF m 1 32 14) (hlba : lba = s.dev.argF m 2 0 36)
    (hsetCause : s.dev.setCause set slot limit lba = 0)
    (hd : d = ((((s.dev.put Fld.VLT_STATUS_DRIVE_SET set).put Fld.VLT_AREA_SLOT_MIB slot).put Fld.VLT_USED_LIMIT_MIB limit).put
      Fld.VLT_AREA_VAULT_LBA lba).put Fld.VLT_STATUS_CFG_OK 1) :
    exec (.vaultSet m) s = s.done (((d.setVlt { d.vlt with ids := (bitsSet 8 set).map (fun k => d.reg (Reg.STO_DRV_ID k)) }).vltSync).taskFlash m 5) := by
  show execVaultSet m s = _
  subst hset hslot hlimit hlba
  refine State.vaultTask_done haccepted hact ?_
  simp only [hsetCause, ne_eq, not_true_eq_false, ↓reduceIte, hd]

theorem exec_vaultArm (s : State) (m : Nat) (heads : List (List Byte)) (d : Dev)
    (haccepted : s.dev.accepted m 0x50 = true) (hact : s.dev.argF m 0 0 3 = 1) (hpending : s.dev.on Fld.VLT_STATUS_PENDING = false)
    (hvltState : s.dev.vltState < 3)
    (hd : d = (match s.dev.bestSlot heads with
      | some (slot, h) => ((s.dev.put Fld.VLT_STATUS_NEXT_SLOT (1 - slot)).put Fld.VLT_SEQ_SEQ (Machine.wf h 1 0 64)).setVlt
          { s.dev.vlt with nextSeq := Machine.wf h 1 0 64 + 1 }
      | none => ((s.dev.put Fld.VLT_STATUS_NEXT_SLOT 0).put Fld.VLT_SEQ_SEQ 0).setVlt { s.dev.vlt with nextSeq := 1 })) :
    exec (.vaultArm m heads) s = s.done (((d.setVlt { d.vlt with armed := true }).vltSync).taskDone m 0 0 [d.vlt.nextSeq]) := by
  show execVaultArm m heads s = _
  refine State.vaultTask_done haccepted hact ?_
  simp only [hpending, not_le.mpr hvltState, Bool.false_eq_true, ↓reduceIte, Dev.taskOk, hd] <;> rfl

theorem exec_vaultDisarm (s : State) (m : Nat)
    (haccepted : s.dev.accepted m 0x50 = true) (hact : s.dev.argF m 0 0 3 = 2) :
    exec (.vaultDisarm m) s = s.done (((s.dev.setVlt { s.dev.vlt with armed := false }).vltSync).taskDone m 0 0 []) := by
  show execVaultDisarm m s = _
  exact State.vaultTask_done haccepted hact rfl

theorem exec_vaultDiscard (s : State) (m : Nat)
    (haccepted : s.dev.accepted m 0x50 = true) (hact : s.dev.argF m 0 0 3 = 4) (hpending : s.dev.on Fld.VLT_STATUS_PENDING = true) :
    exec (.vaultDiscard m) s = s.done
      ((((s.dev.put Fld.VLT_STATUS_PENDING 0).logAdd 3 0x0408 0xFF (s.dev.get Fld.VLT_SEQ_SEQ) 0).vltSync).taskFlash m 6) := by
  show execVaultDiscard m s = _
  refine State.vaultTask_done haccepted hact ?_
  simp only [hpending, ↓reduceIte]

theorem exec_vaultStatus (s : State) (m : Nat)
    (haccepted : s.dev.accepted m 0x51 = true) :
    exec (.vaultStatus m) s = s.done (s.dev.taskDone m 0 0 [(s.dev.reg Reg.VLT_STATUS).toNat, (s.dev.reg Reg.VLT_SEQ).toNat,
      (s.dev.reg Reg.VLT_USED).toNat, (s.dev.reg Reg.VLT_LAST).toNat, (s.dev.reg Reg.VLT_AREA).toNat]) := by
  show execVaultStatus m s = _
  exact State.task_done haccepted rfl

theorem exec_vaultRestore (s : State) (m : Nat) (heads : List (List Byte)) (d : Dev)
    (haccepted : s.dev.accepted m 0x50 = true) (hact : s.dev.argF m 0 0 3 = 3)
    (hall : (∀ b, b < 128 → s.dev.get (Fld.BPLAN_CTRL_STATE (b + 1)) = 0)) (hpending : s.dev.on Fld.VLT_STATUS_PENDING = true)
    (hvltState : s.dev.vltState < 3) (hvltDrivesOk : s.dev.vltDrivesOk = true) (hd : d = (s.dev.setProg m 2).put Fld.VLT_STATUS_STATE 5) :
    exec (.vaultRestore m heads) s = s.done (match s.dev.bestSlot heads with
      | none => s.dev.taskDone m 5 7 []
      | some (slot, h) => (d.setVlt { d.vlt with
          rphase := 1, rslot := slot, rhead := h, runit := 8 * Machine.wf h 4 32 32, rgot := [], rtable := [], rext := []
          rkey := s.dev.argF m 1 0 32, roff := s.dev.argF m 2 0 41 }).restoreStep) := by
  show execVaultRestore m heads s = _
  have hempty : (List.range 128).any (fun b => s.dev.get (Fld.BPLAN_CTRL_STATE (b + 1)) ≠ 0) = false :=
    List.any_eq_false.mpr fun b hb => by simp [hall b (List.mem_range.mp hb)]
  refine State.vaultTask_done haccepted hact ?_
  simp only [hempty, hpending, not_le.mpr hvltState, hvltDrivesOk, Bool.not_true, decide_false, Bool.or_self, Bool.false_eq_true, ↓reduceIte, hd,
    Dev.taskFail] <;> rfl

theorem exec_vaultWriteComplete (s : State) (k p : Nat)
    (hp : p = s.dev.vltDrives.findIdx (· = k)) (hphase : s.dev.vlt.phase = 1) (hout : s.dev.vlt.out.any (fun o => o.1 = p) = true) :
    exec (.vaultWriteComplete k true) s = s.done (s.dev.setVlt { s.dev.vlt with out := s.dev.vlt.out.filter (fun o => o.1 ≠ p) }).vltIssue := by
  show execVaultWriteComplete k true s = _
  subst hp
  refine State.dv_done ?_
  simp only [Dev.vltWritten, hphase, hout, ne_eq, not_true_eq_false, decide_false, Bool.not_true, Bool.or_self, Bool.false_eq_true, ↓reduceIte]

theorem exec_vaultFlushComplete (s : State) (k : Nat)
    (hphase : s.dev.vlt.phase = 2) :
    exec (.vaultFlushComplete k true) s = s.done ((List.range s.dev.vltDrives.length).foldl (fun d p =>
      d.vltCmd (d.vltDrives.getD p 0) (2 ^ 31 + 1) 1 (s.dev.vltSlotLba (s.dev.get Fld.VLT_STATUS_NEXT_SLOT)) 1 1 (d.vltHeader p))
      (s.dev.setVlt { s.dev.vlt with phase := 3 })) := by
  show execVaultFlushComplete k true s = _
  refine State.dv_done ?_
  simp only [Dev.vltFlushed, hphase, ne_eq, not_true_eq_false, Bool.not_true, Bool.false_eq_true, ↓reduceIte]

theorem exec_vaultSealComplete (s : State) (k : Nat) (d1 d2 d3 : Dev)
    (hphase : s.dev.vlt.phase = 3) (hd1 : d1 = ((s.dev.vltLast 1 0).put Fld.VLT_SEQ_SEQ s.dev.vlt.seq).put Fld.VLT_STATUS_PENDING 1)
    (hd2 : d2 = (d1.put Fld.VLT_STATUS_STATE 4).setVlt { d1.vlt with phase := 4 })
    (hd3 : d3 = (d2.storeKeep 5).logAdd 2 0x0403 0xFF s.dev.vlt.seq ((s.dev.tide - s.dev.vlt.start) / 1000)) (hmain : d3.slip.mainPg = true)
    (hbelieved : d3.slip.believed = true) :
    exec (.vaultSealComplete k true) s = s.done d3.vltResume := by
  show execVaultSealComplete k true s = _
  exact State.dv_done (Dev.vltSealed_good hphase hd1 hd2 hd3 hmain hbelieved)

theorem exec_restoreReadComplete (s : State) (k : Nat) (data : List Byte)
    (hphase : s.dev.vlt.rphase ≠ 0) (hstate : s.dev.vltState = 5)
    (hdrive : s.dev.vltDrives.getD (s.dev.vlt.runit % max 1 s.dev.vltDrives.length) 8 = k) :
    exec (.restoreReadComplete k true data) s = s.done (s.dev.setVlt { s.dev.vlt with
      runit := s.dev.vlt.runit + 1
      rgot := s.dev.vlt.rgot ++ s.dev.vltCrypt (Machine.wf s.dev.vlt.rhead 1 0 64) (s.dev.vlt.runit * vltUnitSize) false data }).restoreStep := by
  show execRestoreReadComplete k true data s = _
  exact State.dv_done (Dev.restoreRead_good hphase hstate hdrive)

/-- Settles O39: each task and event is its function of the vault. -/
theorem vaultCommands : Obligations.VaultCommands := by
  unfold Obligations.VaultCommands
  exact ⟨exec_vaultSet, exec_vaultArm, exec_vaultDisarm, exec_vaultDiscard, exec_vaultStatus, exec_vaultRestore, exec_vaultWriteComplete,
    exec_vaultFlushComplete, exec_vaultSealComplete, exec_restoreReadComplete⟩

end Sys2Proof.Machine
end

section
/-! PROOFS. The host port (spec section 8) -/

namespace Sys2Proof.Machine

/-- A link that is up, in L1 or in L2 ready is neither down nor lost. -/
theorem Dev.link_live {d : Dev} (h : d.host.link = 1 ∨ d.host.link = 2 ∨ d.host.link = 3) :
    (decide (d.host.link = 1) || decide (d.host.link = 2) || decide (d.host.link = 3)) = true ∧
      (decide (d.host.link = 0) || decide (d.host.link = 4)) = false := by
  rcases h with h | h | h <;> rw [h] <;> decide

/-- A rate of Table 8.4 and a width a port can take pass the training's checks. -/
theorem linkRate_good {speed width : Nat} (h1 : 1 ≤ speed) (h6 : speed ≤ 6) (hw : [1, 4, 8, 16].contains width = true) :
    speed ≠ 0 ∧ ¬ 6 < speed ∧ (!([1, 4, 8, 16].contains width)) = false :=
  ⟨by omega, by omega, by rw [hw]; rfl⟩

/-- A failure of an IDE stream makes it Insecure and ends what it covers. -/
theorem State.ideCheckFail_secure {s : State} {i : Nat} {d : Dev} (hi : i < 8) (hsecure : (s.dev.ideStream i).state = 1)
    (hd : d = (((s.dev.setIde i { s.dev.ideStream i with state := 2 }).put Fld.LND_HOST_EVENTS_IDE_INSECURE 1).sat
      Fld.LND_HOST_COUNTS_IDE_FAIL).aerUncor 0 28) :
    execIdeCheckFail i s = s.done ((d.outst.filter (fun o => o.link = 0 && (s.dev.ideStream i).covers o.func)).foldl
      (fun d o => d.abandoned o .insecure) d) := by
  subst hd
  refine State.dv_done ?_
  simp only [not_le.mpr hi, hsecure, ne_eq, not_true_eq_false, decide_false, Bool.or_self, Bool.false_eq_true, ↓reduceIte]

theorem exec_hostConfigRequest (s : State) (f dw be tag o : Nat) (v : BitVec 32) (sec : Bool)
    (ho : o = dw / 4 * 4 % 4096) (hlinkUp : s.dev.linkUp = true) (hideWrong : s.dev.ideWrong f sec = false)
    (hcfgRetry : s.dev.cfgRetry f = false) (hfuncOn : s.dev.funcOn f = true) :
    exec (.hostConfigRequest f dw false be v tag sec) s = s.done (s.dev.hostCpl f tag 0 false (leBytes 4 (s.dev.cfgValue f o).toNat))
      ∧ exec (.hostConfigRequest f dw true be v tag sec) s = s.done ((s.dev.cfgWrite f o be v).hostCpl f tag 0 false []) := by
  subst ho
  constructor
  · show execHostConfigRequest f dw false be v tag sec s = _
    refine State.dv_done ?_
    simp only [hlinkUp, hideWrong, hcfgRetry, hfuncOn, Bool.not_true, Bool.false_eq_true, ↓reduceIte]
  · show execHostConfigRequest f dw true be v tag sec s = _
    refine State.dv_done ?_
    simp only [hlinkUp, hideWrong, hcfgRetry, hfuncOn, Bool.not_true, Bool.false_eq_true, ↓reduceIte]

theorem exec_hostBar0Access_write (s : State) (f off size tag : Nat) (v : Word) (sec : Bool) (out : List Nat)
    (hoff : off + size ≤ bar0Size f) (hbarAligned : barAligned off size = true) (hmemGate : s.dev.memGate f true size tag sec = none)
    (hbar0Served : s.dev.bar0Served f off = true) :
    exec (.hostBar0Access f off true size v tag false sec out) s = s.done (s.dev.barWrite f off v size out) := by
  show execHostBar0Access f off true size v tag false sec out s = _
  refine State.dv_done ?_
  simp only [not_lt.mpr hoff, hbarAligned, hmemGate, hbar0Served, Bool.not_true, Bool.or_self, Bool.false_eq_true, ↓reduceIte]

theorem exec_hostBar0Access_read (s : State) (f off size tag : Nat) (v : Word) (sec : Bool) (out : List Nat)
    (hoff : off + size ≤ bar0Size f) (hbarAligned : barAligned off size = true) (hmemGate : s.dev.memGate f false size tag sec = none)
    (hbar0Served : s.dev.bar0Served f off = true) :
    exec (.hostBar0Access f off false size v tag false sec out) s
      = s.done ((s.dev.barRead f off size).2.hostCpl f tag 0 false (s.dev.barRead f off size).1) := by
  show execHostBar0Access f off false size v tag false sec out s = _
  refine State.dv_done ?_
  simp only [not_lt.mpr hoff, hbarAligned, hmemGate, hbar0Served, Bool.not_true, Bool.false_eq_true, ↓reduceIte]

theorem exec_hostBar2Request_write (s : State) (f off len tag : Nat) (sec ep : Bool) (data : List Byte) (d : Dev)
    (hoff : off + data.length ≤ bar2Size f) (hmemGate : s.dev.memGate f true data.length tag sec = none)
    (hd : d = (if ep then s.dev.poisonRx f else s.dev)) (hstopped : d.stopped = false) :
    exec (.hostBar2Request f off true len tag ep sec data) s = s.done (Dev.bar2Write f ep (piecesOf off data.length) data d) := by
  show execHostBar2Request f off true len tag ep sec data s = _
  subst hd
  refine State.dv_done ?_
  simp only [not_lt.mpr hoff, hmemGate, hstopped, Bool.false_eq_true, ↓reduceIte]

theorem exec_hostBar2Request_read (s : State) (f off len tag : Nat) (sec ep : Bool) (data : List Byte)
    (hoff : off + len ≤ bar2Size f) (hmemGate : s.dev.memGate f false len tag sec = none) (hstopped : s.dev.stopped = false) :
    exec (.hostBar2Request f off false len tag ep sec data) s = s.done (Dev.bar2Read f tag (piecesOf off len) s.dev) := by
  show execHostBar2Request f off false len tag ep sec data s = _
  refine State.dv_done ?_
  simp only [not_lt.mpr hoff, hmemGate, hstopped, Bool.false_eq_true, ↓reduceIte]

theorem exec_hostUnsupportedRequest (s : State) (kind f tag : Nat) (sec : Bool)
    (hlinkUp : s.dev.linkUp = true) (hkind : kind < 3) :
    exec (.hostUnsupportedRequest kind f tag sec) s = s.done (s.dev.hostUr f tag true) := by
  show execHostUnsupportedRequest kind f tag sec s = _
  refine State.dv_done ?_
  simp only [hlinkUp, (hkind.ne : kind ≠ 3), Bool.not_true, Bool.false_eq_true, ↓reduceIte]

theorem exec_hostMalformedTlp (s : State) (f : Nat)
    (hlink : (s.dev.host.link = 1 ∨ s.dev.host.link = 2 ∨ s.dev.host.link = 3)) :
    exec (.hostMalformedTlp 0 f) s = s.done (s.dev.aerUncor 0 18) ∧ exec (.hostMalformedTlp 5 f) s = s.done (s.dev.aerCor 0 0) := by
  have hlive := (Dev.link_live hlink).2
  constructor
  · show execHostMalformedTlp 0 f s = _
    refine State.dv_done ?_
    simp only [hlive, Bool.false_eq_true, ↓reduceIte]
  · show execHostMalformedTlp 5 f s = _
    refine State.dv_done ?_
    simp only [hlive, Bool.false_eq_true, ↓reduceIte]

theorem exec_hostCompletionReceived (s : State) (tag status : Nat) (sec : Bool) (data : List Byte) (o : Outst)
    (hlinkUp : s.dev.linkUp = true) (hout : s.dev.hostOutst tag = some o) (hideWrong : s.dev.ideWrong o.func sec = false) :
    exec (.hostCompletionReceived tag status false sec data) s = s.done (s.dev.completed o status false (data.take o.len)) := by
  show execHostCompletionReceived tag status false sec data s = _
  refine State.dv_done ?_
  simp only [hlinkUp, hout, hideWrong, Bool.not_true, Bool.false_eq_true, ↓reduceIte]

theorem exec_hostCplTimeout (s : State) (tag : Nat) (o : Outst)
    (hout : s.dev.hostOutst tag = some o) :
    exec (.hostCplTimeout tag) s = s.done (((s.dev.sat Fld.LND_HOST_COUNTS_CPL_TIMEOUT).aerAdvisory o.func 14).abandoned o .timeout) := by
  show execHostCplTimeout tag s = _
  refine State.dv_done ?_
  simp only [hout]

theorem exec_unexpectedCompletion (s : State) (tag : Nat)
    (hlinkUp : s.dev.linkUp = true) (hnone : s.dev.hostOutst tag = none) :
    exec (.unexpectedCompletion tag) s = s.done ((s.dev.put Fld.LND_HOST_EVENTS_UNEXPECTED_CPL 1).aerAdvisory 0 16) := by
  show execUnexpectedCompletion tag s = _
  refine State.dv_done ?_
  simp only [hlinkUp, hnone, Option.isSome_none, Bool.not_true, Bool.or_self, Bool.false_eq_true, ↓reduceIte, Dev.unexpected]

theorem exec_msixUnmask (s : State) (v : Nat)
    (hfuncOn : s.dev.funcOn 0 = true) (hv : v < vectorsOf 0) :
    exec (.msixUnmask 0 v) s = s.done ((s.dev.put (Fld.MSIX_PF_DATA_MASK v) 0).msixRelease 0 v) := by
  show execMsixUnmask 0 v s = _
  refine State.dv_done ?_
  simp only [hfuncOn, hv, decide_true, Bool.and_self, ↓reduceIte]

theorem exec_msixEnableSet (s : State) (f : Nat)
    (hfuncOn : s.dev.funcOn f = true) :
    exec (.msixEnableSet f) s = s.done ((s.dev.putCfg f 0x50 31 1 1).msixReleaseAll f) := by
  show execMsixEnableSet f s = _
  exact State.dv_done (if_pos hfuncOn)

theorem exec_busMasterEnableChange (s : State) (f : Nat)
    (hfuncOn : s.dev.funcOn f = true) :
    exec (.busMasterEnableChange f true) s = s.done ((s.dev.putCfg f 4 2 1 1).msixReleaseAll f)
      ∧ exec (.busMasterEnableChange f false) s = s.done (s.dev.putCfg f 4 2 1 0) := by
  constructor
  · show execBusMasterEnableChange f true s = _
    exact State.dv_done (if_pos hfuncOn)
  · show execBusMasterEnableChange f false s = _
    exact State.dv_done (if_pos hfuncOn)

theorem exec_d3hotEntry (s : State) :
    exec .d3hotEntry s = s.done (s.dev.putCfg 0 0x44 0 2 3) := rfl

theorem exec_d0Return (s : State) (d : Dev)
    (hd3hot : s.dev.d3hot = true) (hd : d = s.dev.putCfg 0 0x44 0 2 0) :
    exec .d0Return s = s.done (s.dev.host.held.foldl Dev.hostSend { d with host := { d.host with held := [] } }) := by
  show execD0Return s = _
  subst hd
  exact State.dv_done (if_pos hd3hot)

theorem exec_l1IdleTimer (s : State)
    (hlink : s.dev.host.link = 1) (haspm : s.dev.cfgBits 0 0x70 1 1 = 1) (hidleUs : s.dev.on Fld.LND_HOST_ASPM_L1_IDLE_US = true)
    (hhostIdle : s.dev.hostIdle = true) :
    exec (.l1IdleTimer true) s = s.done { s.dev.put Fld.LND_HOST_LINK_IN_L1 1 with host := { s.dev.host with link := 2 } } := by
  show execL1IdleTimer true s = _
  refine State.dv_done ?_
  simp only [hlink, haspm, hidleUs, hhostIdle, decide_true, Bool.and_self, ↓reduceIte]

theorem exec_ltrIdleTimer (s : State)
    (hltrOn : s.dev.ltrOn = true) (hactive : s.dev.host.ltrActive = true) (hhostIdle : s.dev.hostIdle = true)
    (hhostRingBusy : s.dev.hostRingBusy = false) (hd3hot : s.dev.d3hot = false) (hlink : (s.dev.host.link = 1 ∨ s.dev.host.link = 2)) :
    exec .ltrIdleTimer s = s.done (({ s.dev.put Fld.LND_HOST_LINK_IN_L1 0 with host := { s.dev.host with link := 1 } } : Dev).sendLtr false) := by
  show execLtrIdleTimer s = _
  have hon : (decide (s.dev.host.link = 1) || decide (s.dev.host.link = 2)) = true := by
    simpa only [Bool.or_eq_true, decide_eq_true_eq] using hlink
  refine State.dv_done ?_
  simp only [hltrOn, hactive, hhostIdle, hhostRingBusy, hd3hot, hon, Bool.not_false, Bool.and_self, ↓reduceIte]

theorem exec_ideCheckFail (s : State) (i : Nat) (d : Dev)
    (hi : i < 8) (hideStream : (s.dev.ideStream i).state = 1)
    (hd : d = (((s.dev.setIde i { s.dev.ideStream i with state := 2 }).put Fld.LND_HOST_EVENTS_IDE_INSECURE 1).sat Fld.LND_HOST_COUNTS_IDE_FAIL).aerUncor
      0 28) :
    exec (.ideCheckFail i) s = s.done ((d.outst.filter (fun o => o.link = 0 && (s.dev.ideStream i).covers o.func)).foldl
      (fun d o => d.abandoned o .insecure) d) := by
  show execIdeCheckFail i s = _
  exact State.ideCheckFail_secure hi hideStream hd

theorem exec_hostLinkDown (s : State) (d : Dev)
    (hlink : (s.dev.host.link = 1 ∨ s.dev.host.link = 2 ∨ s.dev.host.link = 3)) (hd : d = s.dev.hostLinkLost 4)
    (hperst : d.host.perstHigh = true) (hstation : d.get Fld.IDENT_BOOT_STATION = 11) (hslack : d.slip.slack = false) :
    exec .hostLinkDown s = s.done { d with host := { d.host with dropTimer := d.tide + 1 } } := by
  show execHostLinkDown s = _
  subst hd
  refine State.dv_done ?_
  simp only [(Dev.link_live hlink).1, hperst, hstation, hslack, decide_true, Bool.not_false, Bool.and_self, ↓reduceIte]

theorem exec_hostLinkUp (s : State) (speed width : Nat) (flit : Bool) (d : Dev)
    (hmayTrain : s.dev.mayTrain = true) (hlinkUp : s.dev.linkUp = false) (hdrop : s.dev.host.dropTimer = 0) (h1 : 1 ≤ speed)
    (hspeed : speed ≤ 6) (hwidth : [1, 4, 8, 16].contains width = true) (hd : d = (s.dev.hostTrained speed width flit).hostFlush)
    (hwaits : d.slip.slackWaits = false) (hready : d.host.cfgReady = true) (hslack : d.slip.slack = false) (hinFlr : d.inFlr 0 = false) :
    exec (.hostLinkUp speed width flit) s = s.done (d.emit .hostMsg [5]) := by
  show execHostLinkUp speed width flit s = _
  obtain ⟨hs0, hs6, hw⟩ := linkRate_good h1 hspeed hwidth
  subst hd
  refine State.dv_done ?_
  simp only [hmayTrain, hlinkUp, hdrop, hs0, hs6, hw, hwaits, hready, hslack, hinFlr, ne_eq, not_true_eq_false, decide_false, Bool.not_true, Bool.not_false,
    Bool.or_self, Bool.and_self, Bool.false_eq_true, ↓reduceIte]

theorem exec_shortDropReturn (s : State) (n speed width : Nat) (flit : Bool) (d : Dev)
    (hdrop : s.dev.host.dropTimer ≠ 0) (hperst : s.dev.host.perstHigh = true) (htide : s.dev.tide ≤ s.dev.host.dropTimer - 1 + 2000000)
    (h1 : 1 ≤ speed) (hspeed : speed ≤ 6) (hwidth : [1, 4, 8, 16].contains width = true)
    (hd : d = (s.dev.hostTrained speed width flit).put Fld.LND_HOST_EVENTS_SHORT_DROP 1) :
    exec (.shortDropReturn n speed width flit) s = s.done ((d.host.unacked.reverse ++ d.resendList n [] d.sent).reverse.foldl Dev.hostSend
      { d with host := { d.host with unacked := [] } }) := by
  show execShortDropReturn n speed width flit s = _
  obtain ⟨hs0, hs6, hw⟩ := linkRate_good h1 hspeed hwidth
  subst hd
  refine State.dv_done ?_
  simp only [hdrop, hperst, not_lt.mpr htide, hs0, hs6, hw, decide_false, Bool.not_true, Bool.or_self, Bool.false_eq_true, ↓reduceIte]

/-- Settles O40: each request and event is its function of the host port, once its gates are passed. -/
theorem hostPortCommands : Obligations.HostPortCommands := by
  unfold Obligations.HostPortCommands
  exact ⟨exec_hostConfigRequest, exec_hostBar0Access_write, exec_hostBar0Access_read, exec_hostBar2Request_write, exec_hostBar2Request_read,
    exec_hostUnsupportedRequest, exec_hostMalformedTlp, exec_hostCompletionReceived, exec_hostCplTimeout, exec_unexpectedCompletion,
    exec_msixUnmask, exec_msixEnableSet, exec_busMasterEnableChange, exec_d3hotEntry, exec_d0Return, exec_l1IdleTimer, exec_ltrIdleTimer,
    exec_ideCheckFail, exec_hostLinkDown, exec_hostLinkUp, exec_shortDropReturn⟩

end Sys2Proof.Machine
end

section
/-! PROOFS. Downstream ports (spec section 9) -/

namespace Sys2Proof.Machine

@[simp] theorem Dev.port_setPort_same (d : Dev) (p : Nat) (h : PortH) : (d.setPort p h).port p = h := tget_tput_same _ _ _ _

/-- The one BAR of a drive, 16 KiB at function 0, as a list of numbers. -/
theorem barList_drive : barList 4 [0, 0, 14, 0] = [⟨0, 0, 14, 0⟩] := rfl

/-- The one BAR of a drive fits below 4 GiB. -/
theorem barAssign_drive : barAssign (2 ^ 32) [⟨0, 0, 14, 0⟩] 0 = ([(⟨0, 0, 14, 0⟩, 0)], false) := by decide

/-- A drive whose BAR is of 16 KiB becomes ready. -/
theorem Dev.portEnumerate_drive {e d d1 : Dev} {k mps : Nat} (htrained : e.get (pState (4 + k)) = 2)
    (hd : d = e.at ((e.port (4 + k)).upAt + 100000000))
    (hd1 : d1 = d.setPort (4 + k) { d.port (4 + k) with mps := max 128 (min 512 mps), owned := [] }) :
    e.portEnumerate (4 + k) 0x010802 1 [0, 0, 14, 0] false true mps [] =
      (((d1.put (pFuncs (4 + k)) 1).put (pState (4 + k)) 3).setPresent (4 + k) 1).drvInit k := by
  have haccel : ¬ 4 + k < 4 := by omega
  subst hd hd1
  simp [Dev.portEnumerate, htrained, haccel, barList_drive, barInsert, barAssign_drive, -Nat.reducePow]

/-- A secondary bus reset of a powered, enabled port retrains it. -/
theorem Dev.portSbr_retrains {e d : Dev} {p : Nat} (hpowered : e.portPowered p = true) (hen : e.on (pEn p) = true) (hstate : e.get (pState p) ≠ 5)
    (hd : d = (((e.put (pState p) 5).setPresent p 0).portWorkEnds p).portLinkDown p) :
    e.portSbr p = ((d.put (pDpcCause p) 0).setPort p { d.port p with trainAt := d.tide + 2001000 }).emit .portLink [p, 0] := by
  subst hd
  simp only [Dev.portSbr, hpowered, hen, hstate, decide_false, Bool.not_true, Bool.or_self, Bool.false_eq_true, ↓reduceIte]

/-- A configuration read leaves a ready port that has no other in flight. -/
theorem Dev.apCfgWrite_read {e w d : Dev} {n f dw be : Nat} {v : Word} (hw : w = e.writeReg (Reg.LND_AP_CFG_ADDR n) (setBits v 63 1 1) 8 0)
    (hf : f = w.get (Fld.LND_AP_CFG_ADDR_FUNC n)) (hdw : dw = w.get (Fld.LND_AP_CFG_ADDR_DWORD n)) (hbe : be = w.get (Fld.LND_AP_CFG_ADDR_BE n))
    (hread : w.on (Fld.LND_AP_CFG_ADDR_WRITE n) = false) (hready : w.get (pState n) = 3) (hfree : w.on (Fld.LND_AP_CFG_DATA_BUSY n) = false)
    (hd : d = (w.put (Fld.LND_AP_CFG_DATA_BUSY n) 1).emit .cfgReq [n, f, dw, 0, be, 0, w.nextTag]) :
    e.apCfgWrite n (setBits v 63 1 1) 8 0 =
      { d with outst := d.outst ++ [Outst.mk w.nextTag (1 + n) f (4 * dw) 4 (.cfg n)], nextTag := w.nextTag + 1 } := by
  subst hf hdw hbe hd
  simp only [Dev.apCfgWrite, ← hw, woBits_setBits_same v 63 (le_refl 64), hread, hready, hfree, one_ne_zero, ne_eq, not_true_eq_false, decide_false,
    Bool.or_self, Bool.false_and, Bool.false_eq_true, ↓reduceIte]

/-- A write of an accelerator that the Toll lets through lands in memory. -/
theorem Dev.upstream_write {e d : Dev} {n rid addr len tag a : Nat} {data : List Byte} {leaf : Word} (hup : e.on (pLinkUp n) = true)
    (hsecure : e.apInsecure n = false) (hbus : rid / 256 = 1 + n) (hdevice : rid / 8 % 32 = 0) (hfunc : e.get (pFuncs n) / 2 ^ (rid % 8) % 2 ≠ 0)
    (hsome : 0 < data.length) (hpage : addr % 4096 + data.length ≤ 4096)
    (hxlate : e.xlate (129 + n) addr 1 data.length { accel := 15 } = (.ok a leaf, d)) (hdest : d.destOf (129 + n) a leaf = .mem a) :
    e.upstream n rid 0 addr len tag 0 data = d.writeMem a data := by
  simp [Dev.upstream, Dev.portPoison, Dev.upPiece, hup, hsecure, hbus, hdevice, Nat.mod_two_not_eq_zero.mp hfunc, List.ne_nil_of_length_pos hsome,
    not_lt.mpr hpage, hxlate, hdest]

/-- A drive's read of the buffer of its command is answered from it. -/
theorem Dev.driveUpstream_read {d : Dev} {k cid off len tag : Nat} {c : StoCmd} (hcmd : d.stoCmd k cid = some c) (hop : c.op = 1)
    (hissued : c.issued = true) (hdead : c.dead = false) (hfits : off + len ≤ c.n * 4096) :
    d.driveUpstream k cid off len tag false false [] = d.emit .dpCpl [k, tag, 0] ((c.pay.drop off).take len) := by
  simp [Dev.driveUpstream, Dev.portPoison, hcmd, hop, hissued, hdead, not_lt.mpr hfits]

theorem exec_portLinkUp (s : State) (p speed width : Nat) (d : Dev)
    (hp : p < 12) (hstate : (s.dev.get (pState p) = 1 ∨ s.dev.get (pState p) = 5)) (hd : d = s.dev.at (s.dev.port p).trainAt) :
    exec (.portLinkUp p speed width) s = s.done
      ((((((d.put (pLinkUp p) 1).put (pSpeed p) speed).put (pWidth p) width).put (pState p) 2).put (pPresent p) 1).setPort p
        { d.port p with upAt := d.tide }) := by
  show execPortLinkUp p speed width s = _
  subst hd
  refine State.dv_done ?_
  rcases hstate with h | h <;> simp [hp, h]

theorem exec_portTrainTimeout (s : State) (p : Nat) (detected : Bool)
    (hp : p < 12) (hstate : (s.dev.get (pState p) = 1 ∨ s.dev.get (pState p) = 5)) :
    exec (.portTrainTimeout p detected) s = s.done
      (((s.dev.at ((s.dev.port p).trainAt + 100000000)).put (pState p) (if detected then 6 else 0)).put (pPresent p) (if detected then 1 else 0)) := by
  show execPortTrainTimeout p detected s = _
  refine State.dv_done ?_
  rcases hstate with h | h <;> simp [hp, h]

theorem exec_portEnumerate (s : State) (k mps : Nat) (d d1 : Dev)
    (hk : k < 8) (htrained : s.dev.get (pState (4 + k)) = 2) (hd : d = s.dev.at ((s.dev.port (4 + k)).upAt + 100000000))
    (hd1 : d1 = d.setPort (4 + k) { d.port (4 + k) with mps := max 128 (min 512 mps), owned := [] }) :
    exec (.portEnumerate (4 + k) 0x010802 1 [0, 0, 14, 0] false true mps []) s = s.done
      ((((d1.put (pFuncs (4 + k)) 1).put (pState (4 + k)) 3).setPresent (4 + k) 1).drvInit k) := by
  show execPortEnumerate (4 + k) 0x010802 1 [0, 0, 14, 0] false true mps [] s = _
  exact State.dv_done ((if_pos (show 4 + k < 12 by omega)).trans (Dev.portEnumerate_drive htrained hd hd1))

theorem exec_enumRrsTimeout (s : State) (p : Nat)
    (hp : p < 12) (htrained : s.dev.get (pState p) = 2) :
    exec (.enumRrsTimeout p) s = s.done
      (((s.dev.at ((s.dev.port p).upAt + 1000000000)).put (pState p) 6).put (pPresent p) 1) := by
  show execEnumRrsTimeout p s = _
  refine State.dv_done ?_
  simp only [hp, htrained, decide_true, Bool.and_self, ↓reduceIte]

theorem exec_portSbr (s : State) (p : Nat) (d : Dev)
    (hp : p < 12) (hpowered : s.dev.portPowered p = true) (hen : s.dev.on (pEn p) = true) (hstate : s.dev.get (pState p) ≠ 5)
    (hd : d = (((s.dev.put (pState p) 5).setPresent p 0).portWorkEnds p).portLinkDown p) :
    exec (.portSbr p) s = s.done
      (((d.put (pDpcCause p) 0).setPort p { d.port p with trainAt := d.tide + 2001000 }).emit .portLink [p, 0]) := by
  show execPortSbr p s = _
  exact State.dv_done ((if_pos hp).trans (Dev.portSbr_retrains hpowered hen hstate hd))

theorem exec_dpcRelease (s : State) (p : Nat)
    (hp : p < 12) (hcontained : s.dev.get (pState p) = 4) (hpowered : s.dev.portPowered p = true) (hen : s.dev.on (pEn p) = true) :
    exec (.dpcRelease p) s = s.done
      (((((s.dev.put (pState p) 1).put (pDpcCause p) 0).portLinkDown p).setPort p { s.dev.port p with trainAt := s.dev.tide }).emit .portLink [p, 2]) := by
  show execDpcRelease p s = _
  refine State.dv_done ((if_pos hp).trans ?_)
  simp only [Dev.dpcRelease, Dev.portTrain, hcontained, hpowered, hen, decide_true, Bool.and_self, Bool.not_true, Bool.false_eq_true, ↓reduceIte]

theorem exec_portEnWrite (s : State) (p : Nat) (en : Bool)
    (hp : p < 12) :
    exec (.portEnWrite p en) s = s.done (s.dev.portCtrlWrite p (setBits (s.dev.reg (portCtrl p)) 0 1 (if en then 1 else 0)) 8 0) := by
  show execPortEnWrite p en s = _
  exact State.dv_done (if_pos hp)

theorem exec_portReceiverDetect (s : State) (p : Nat) (present : Bool)
    (hp : p < 12) (hstate : (s.dev.get (pState p) = 4 ∨ s.dev.get (pState p) = 0)) :
    exec (.portReceiverDetect p present) s = s.done (s.dev.put (pPresent p) (if present then 1 else 0)) := by
  show execPortReceiverDetect p present s = _
  refine State.dv_done ?_
  rcases hstate with h | h <;> simp [hp, h]

theorem exec_apCfgGo (s : State) (n f dw be : Nat) (v : Word) (w d : Dev)
    (hn : n < 4) (hw : w = s.dev.writeReg (Reg.LND_AP_CFG_ADDR n) (setBits v 63 1 1) 8 0) (hf : f = w.get (Fld.LND_AP_CFG_ADDR_FUNC n))
    (hdw : dw = w.get (Fld.LND_AP_CFG_ADDR_DWORD n)) (hbe : be = w.get (Fld.LND_AP_CFG_ADDR_BE n))
    (hread : w.on (Fld.LND_AP_CFG_ADDR_WRITE n) = false) (hready : w.get (pState n) = 3) (hfree : w.on (Fld.LND_AP_CFG_DATA_BUSY n) = false)
    (hd : d = (w.put (Fld.LND_AP_CFG_DATA_BUSY n) 1).emit .cfgReq [n, f, dw, 0, be, 0, w.nextTag]) :
    exec (.apCfgGo n v) s = s.done { d with outst := d.outst ++ [Outst.mk w.nextTag (1 + n) f (4 * dw) 4 (.cfg n)], nextTag := w.nextTag + 1 } := by
  show execApCfgGo n v s = _
  exact State.dv_done ((if_pos hn).trans (Dev.apCfgWrite_read hw hf hdw hbe hread hready hfree hd))

theorem exec_apCfgComplete (s : State) (n status : Nat) (data : List Byte) (o : Outst)
    (hout : s.dev.outst.find? (fun o => o.link = 1 + n && o.purpose = Purpose.cfg n) = some o) (hstatus : status < 2) :
    exec (.apCfgComplete n status data) s = s.done (s.dev.completed o status false data) := by
  show execApCfgComplete n status data s = _
  refine State.dv_done ?_
  simp only [hout, hstatus.ne, ↓reduceIte]

theorem exec_accelUpstreamRequest (s : State) (n rid addr len tag a : Nat) (data : List Byte) (leaf : Word) (d : Dev)
    (hn : n < 4) (hup : s.dev.on (pLinkUp n) = true) (hsecure : s.dev.apInsecure n = false) (hbus : rid / 256 = 1 + n)
    (hdevice : rid / 8 % 32 = 0) (hfunc : s.dev.get (pFuncs n) / 2 ^ (rid % 8) % 2 ≠ 0) (hsome : 0 < data.length)
    (hpage : addr % 4096 + data.length ≤ 4096) (hxlate : s.dev.xlate (129 + n) addr 1 data.length { accel := 15 } = (.ok a leaf, d))
    (hdest : d.destOf (129 + n) a leaf = .mem a) :
    exec (.accelUpstreamRequest n rid 0 addr len tag 0 data) s = s.done (d.writeMem a data) := by
  show execAccelUpstreamRequest n rid 0 addr len tag 0 data s = _
  exact State.dv_done ((if_pos hn).trans (Dev.upstream_write hup hsecure hbus hdevice hfunc hsome hpage hxlate hdest))

theorem exec_downstreamCompletion (s : State) (p tag status : Nat) (data : List Byte) (o : Outst)
    (hp : p < 12) (hup : s.dev.on (pLinkUp p) = true) (hout : s.dev.outst.find? (fun o => o.link = portLink p && o.tag = tag) = some o) :
    exec (.downstreamCompletion p tag status false data) s = s.done (s.dev.completed o status false data) := by
  show execDownstreamCompletion p tag status false data s = _
  refine State.dv_done ((if_pos hp).trans ?_)
  simp only [Dev.portCompletion, Dev.portPoison, hup, hout, Bool.not_true, Bool.false_eq_true, ↓reduceIte]

theorem exec_downstreamCplTimeout (s : State) (p tag : Nat) (o : Outst)
    (hp : p < 12) (hout : s.dev.outst.find? (fun o => o.link = portLink p && o.tag = tag) = some o) :
    exec (.downstreamCplTimeout p tag) s = s.done (((s.dev.put (pErr p 4) 1).sat (pCount p 0)).abandoned o .timeout) := by
  show execDownstreamCplTimeout p tag s = _
  refine State.dv_done ((if_pos hp).trans ?_)
  simp only [Dev.portTimeout, hout]

theorem exec_partnerErrorMessage (s : State) (p src : Nat)
    (hp : p < 12) (hup : s.dev.on (pLinkUp p) = true) :
    exec (.partnerErrorMessage p 2 src) s = s.done
      (((((s.dev.put (pErr p 2) 1).put ⟨portErr p, 16, 16⟩ src).classified 0x0613 (portSource p) 0xFF src)).contain p 1)
      ∧ exec (.partnerErrorMessage p 0 src) s = s.done ((s.dev.put (pErr p 0) 1).put ⟨portErr p, 16, 16⟩ src) := by
  constructor
  · show execPartnerErrorMessage p 2 src s = _
    refine State.dv_done ((if_pos hp).trans ?_)
    simp only [Dev.partnerError, hup, Bool.not_true, Bool.false_eq_true, ↓reduceIte, min_self]
  · show execPartnerErrorMessage p 0 src s = _
    refine State.dv_done ((if_pos hp).trans ?_)
    simp only [Dev.partnerError, hup, Bool.not_true, Bool.false_eq_true, ↓reduceIte, zero_le, inf_of_le_left]

theorem exec_surpriseDown_creditStall (s : State) (p : Nat)
    (hp : p < 12) (hup : s.dev.on (pLinkUp p) = true) :
    exec (.surpriseDown p) s = s.done (s.dev.contain p 3) ∧ exec (.creditStallTimeout p) s = s.done (s.dev.contain p 5) := by
  constructor
  · show execSurpriseDown p s = _
    refine State.dv_done ?_
    simp only [hp, hup, decide_true, Bool.and_self, ↓reduceIte]
  · show execCreditStallTimeout p s = _
    refine State.dv_done ?_
    simp only [hp, hup, decide_true, Bool.and_self, ↓reduceIte]

theorem exec_apPgFall (s : State) (n : Nat) (d : Dev)
    (hn : n < 4) (hpg : (s.dev.port n).pg = true) (hen : (s.dev.port n).pwren = true)
    (hd : d = s.dev.setPort n { s.dev.port n with pg := false }) :
    exec (.apPgFall n) s = s.done (d.contain n 6) := by
  show execApPgFall n s = _
  subst hd
  refine State.dv_done ?_
  simp only [hn, hpg, decide_true, Bool.and_self, Dev.port_setPort_same, hen, ↓reduceIte]

theorem exec_driveUpstreamRequest (s : State) (k cid off len tag : Nat) (c : StoCmd)
    (hk : k < 8) (hcmd : s.dev.stoCmd k cid = some c) (hop : c.op = 1) (hissued : c.issued = true) (hdead : c.dead = false)
    (hfits : off + len ≤ c.n * 4096) :
    exec (.driveUpstreamRequest k cid off len tag false false []) s = s.done (s.dev.emit .dpCpl [k, tag, 0] ((c.pay.drop off).take len)) := by
  show execDriveUpstreamRequest k cid off len tag false false [] s = _
  exact State.dv_done ((if_pos hk).trans (Dev.driveUpstream_read hcmd hop hissued hdead hfits))

theorem exec_provingReadComplete (s : State) (tag status : Nat) (ep : Bool) (o : Outst) (t : TKey)
    (hout : s.dev.outst.find? (fun o => o.tag = tag) = some o) (hpurpose : o.purpose = .prove t) :
    exec (.provingReadComplete tag status ep) s = s.done (s.dev.completed o status ep []) := by
  show execProvingReadComplete tag status ep s = _
  refine State.dv_done ?_
  simp only [hout, hpurpose]

/-- Settles O41: each event is its function of the port, once its state admits it. -/
theorem portCommands : Obligations.PortCommands := by
  unfold Obligations.PortCommands
  exact ⟨exec_portLinkUp, exec_portTrainTimeout, exec_portEnumerate, exec_enumRrsTimeout, exec_portSbr, exec_dpcRelease, exec_portEnWrite,
    exec_portReceiverDetect, exec_apCfgGo, exec_apCfgComplete, exec_accelUpstreamRequest, exec_downstreamCompletion,
    exec_downstreamCplTimeout, exec_partnerErrorMessage, exec_surpriseDown_creditStall, exec_apPgFall, exec_driveUpstreamRequest,
    exec_provingReadComplete⟩

end Sys2Proof.Machine
end

section
/-! PROOFS. Key slots, SPDM and IDE keys (spec section 25) -/

namespace Sys2Proof.Machine

/-- A good key fills an empty slot. -/
theorem Dev.keyLoad_good {w : Dev} {reg : Bool} {h owner kind : Nat} {data key : List Byte} (hkey : key = (if kind = 1 then data.take 64 else data.take 32))
    (hok : w.on Fld.TLH_STATUS_ZERO_FAIL = false) (hopen : w.on Fld.TLH_CTRL_SESSION_ONLY = false) (hh : h < 16384)
    (hempty : (w.keySlot h).key = []) (hgood : loadCause owner kind key = 0) :
    w.keyLoad reg h owner kind data =
      (0, ((w.setKeySlot h ⟨owner, kind, key, w.keyId key⟩).keysChanged).logAdd 1 0x0506 0xFF (h + owner * 2 ^ 24) (w.keyId key)) := by
  simp only [Dev.keyLoad, hok, hopen, ← hkey, not_le.mpr hh, hempty, hgood, List.isEmpty_nil, Bool.and_false, Bool.not_true, ne_eq, not_true_eq_false,
    Bool.false_eq_true, ↓reduceIte]

/-- With SESSION_ONLY the register path loads nothing. -/
theorem Dev.keyLoad_session_only {w : Dev} {h owner kind : Nat} {data : List Byte} (hok : w.on Fld.TLH_STATUS_ZERO_FAIL = false)
    (honly : w.on Fld.TLH_CTRL_SESSION_ONLY = true) : w.keyLoad true h owner kind data = (5, w) := by
  simp only [Dev.keyLoad, hok, honly, Bool.and_self, Bool.false_eq_true, ↓reduceIte]

/-- A secured session of the PCIe VDM binding reaches the key slots by message. -/
theorem Dev.keyMsg_secured {d : Dev} {sess : Nat} (h : d.secured 0 sess = true) (op : Nat) (f : Dev → Dev) : d.keyMsg 0 sess op f = f d := by
  simp only [Dev.keyMsg, h, decide_true, Bool.and_self, ↓reduceIte]

/-- Another binding is refused. -/
theorem Dev.keyMsg_refused {d : Dev} {binding : Nat} (h : binding ≠ 0) (sess op : Nat) (f : Dev → Dev) :
    d.keyMsg binding sess op f = d.keyAnswer binding sess op 5 [] 0 := by
  simp only [Dev.keyMsg, h, decide_false, Bool.false_and, Bool.false_eq_true, ↓reduceIte]

/-- A write of the slot command register with GO set runs its OP. -/
theorem woBits_go (v : Word) : woBits (setBits v 63 1 1) 8 0 63 1 = 1 := woBits_setBits_same v 63 (le_refl 64)

theorem exec_tlhSlotLoad (s : State) (v : Word) (h owner kind : Nat) (key : List Byte) (w d : Dev)
    (hw : w = s.dev.writeReg Reg.TLH_SLOT_CMD (setBits (setBits v 25 2 1) 63 1 1) 8 0) (hop : w.get Fld.TLH_SLOT_CMD_OP = 1)
    (hh : h = w.get Fld.TLH_SLOT_CMD_HANDLE) (howner : owner = w.get Fld.TLH_SLOT_CMD_OWNER) (hkind : kind = w.get Fld.TLH_SLOT_CMD_KIND)
    (hkey : key = (if kind = 1 then w.keyData.take 64 else w.keyData.take 32)) (hok : w.on Fld.TLH_STATUS_ZERO_FAIL = false)
    (hopen : w.on Fld.TLH_CTRL_SESSION_ONLY = false) (hlow : h < 16384) (hempty : (w.keySlot h).key = [])
    (hgood : loadCause owner kind key = 0)
    (hd : d = ((w.setKeySlot h ⟨owner, kind, key, w.keyId key⟩).keysChanged).logAdd 1 0x0506 0xFF (h + owner * 2 ^ 24) (w.keyId key)) :
    exec (.tlhSlotLoad v) s
      = s.done (((d.put Fld.TLH_SLOT_KEYID_KEY_ID (d.keySlot h).id).put Fld.TLH_SLOT_STATUS_RESULT 0).keyDataClear) := by
  show execTlhSlotLoad v s = _
  have hload := Dev.keyLoad_good (reg := true) hkey hok hopen hlow hempty hgood
  rw [← hd] at hload
  subst howner hkind hh
  refine State.dv_done ?_
  simp only [Dev.tlhCmdWrite, woBits_go, ← hw, hop, hload, one_ne_zero, ↓reduceIte]

theorem exec_tlhSlotLoad_session_only (s : State) (v : Word) (w : Dev)
    (hw : w = s.dev.writeReg Reg.TLH_SLOT_CMD (setBits (setBits v 25 2 1) 63 1 1) 8 0) (hop : w.get Fld.TLH_SLOT_CMD_OP = 1)
    (hok : w.on Fld.TLH_STATUS_ZERO_FAIL = false) (honly : w.on Fld.TLH_CTRL_SESSION_ONLY = true) :
    exec (.tlhSlotLoad v) s = s.done ((w.put Fld.TLH_SLOT_STATUS_RESULT 5).keyDataClear) := by
  show execTlhSlotLoad v s = _
  refine State.dv_done ?_
  simp only [Dev.tlhCmdWrite, woBits_go, ← hw, hop, Dev.keyLoad_session_only hok honly, one_ne_zero, OfNat.ofNat_ne_zero, ↓reduceIte]

theorem exec_tlhSlotZeroize (s : State) (v : Word) (w d : Dev) (h : Nat)
    (hw : w = s.dev.writeReg Reg.TLH_SLOT_CMD (setBits (setBits v 25 2 2) 63 1 1) 8 0) (hop : w.get Fld.TLH_SLOT_CMD_OP = 2)
    (hh : h = w.get Fld.TLH_SLOT_CMD_HANDLE) (hfull : (w.keySlot h).key ≠ []) (hd : d = (w.setKeySlot h TlhKey.init).keysChanged) :
    exec (.tlhSlotZeroize v true) s = s.done ((d.put Fld.TLH_SLOT_STATUS_RESULT 0).keyDataClear)
      ∧ exec (.tlhSlotZeroize v false) s = s.done (((d.zeroFail h).put Fld.TLH_SLOT_STATUS_RESULT 6).keyDataClear) := by
  have hloaded := List.isEmpty_eq_false_iff.mpr hfull
  subst hh hd
  constructor
  · show execTlhSlotZeroize v true s = _
    refine State.dv_done ?_
    simp only [Dev.tlhCmdWrite, woBits_go, ← hw, hop, hloaded, Dev.keyZero, one_ne_zero, Bool.false_eq_true, ↓reduceIte]
  · show execTlhSlotZeroize v false s = _
    refine State.dv_done ?_
    simp only [Dev.tlhCmdWrite, woBits_go, ← hw, hop, hloaded, Dev.keyZero, one_ne_zero, Bool.false_eq_true, ↓reduceIte]

theorem exec_tlhSlotQuery (s : State) (v : Word) (w : Dev) (k : TlhKey)
    (hw : w = s.dev.writeReg Reg.TLH_SLOT_CMD (setBits (setBits v 25 2 3) 63 1 1) 8 0) (hop : w.get Fld.TLH_SLOT_CMD_OP = 3)
    (hk : k = w.keySlot (w.get Fld.TLH_SLOT_CMD_HANDLE)) (hfull : k.key ≠ []) :
    exec (.tlhSlotQuery v) s = s.done ((((((w.put Fld.TLH_SLOT_STATUS_Q_LOADED 1).put Fld.TLH_SLOT_STATUS_Q_KIND k.kind).put
      Fld.TLH_SLOT_STATUS_Q_OWNER k.owner).put Fld.TLH_SLOT_KEYID_KEY_ID k.id).put Fld.TLH_SLOT_STATUS_RESULT 0).keyDataClear) := by
  show execTlhSlotQuery v s = _
  have hloaded := List.isEmpty_eq_false_iff.mpr hfull
  subst hk
  refine State.dv_done ?_
  simp only [Dev.tlhCmdWrite, woBits_go, ← hw, hop, hloaded, one_ne_zero, Bool.false_eq_true, ↓reduceIte]

theorem exec_sessionOnlySet (s : State) (d : Dev)
    (hd : d = s.dev.writeReg Reg.TLH_CTRL 1 8 0) :
    exec .sessionOnlySet s = s.done (d.put Fld.TLH_STATUS_SESSION_ONLY (d.get Fld.TLH_CTRL_SESSION_ONLY)) := by
  show execSessionOnlySet s = _
  subst hd
  exact State.dv_done rfl

theorem exec_keyMsgLoad (s : State) (sess handle owner kind : Nat) (key : List Byte) (d : Dev)
    (hsecured : s.dev.secured 0 sess = true) (hload : s.dev.keyLoad false handle owner (kind % 2) key = (0, d)) :
    exec (.keyMsgLoad 0 sess handle owner kind key) s = s.done (d.keyAnswer 0 sess 1 0 [] (d.keySlot handle).id) := by
  show execKeyMsgLoad 0 sess handle owner kind key s = _
  refine State.dv_done ((Dev.keyMsg_secured hsecured _ _).trans ?_)
  simp only [hload, ↓reduceIte]

theorem exec_keyMsgZeroize (s : State) (sess handle : Nat)
    (hsecured : s.dev.secured 0 sess = true) (hhandle : handle < 16384) (hfull : (s.dev.keySlot handle).key ≠ []) :
    exec (.keyMsgZeroize 0 sess handle true) s
      = s.done (((s.dev.setKeySlot handle TlhKey.init).keysChanged).keyAnswer 0 sess 2 0 [] 0) := by
  show execKeyMsgZeroize 0 sess handle true s = _
  refine State.dv_done ((Dev.keyMsg_secured hsecured _ _).trans ?_)
  simp only [not_le.mpr hhandle, List.isEmpty_eq_false_iff.mpr hfull, Dev.keyZero, Bool.false_eq_true, ↓reduceIte]

theorem exec_keyMsgQuery (s : State) (sess handle : Nat) (k : TlhKey)
    (hsecured : s.dev.secured 0 sess = true) (hhandle : handle < 16384) (hk : k = s.dev.keySlot handle) (hfull : k.key ≠ []) :
    exec (.keyMsgQuery 0 sess handle) s = s.done (s.dev.keyAnswer 0 sess 3 0 [1, BitVec.ofNat 8 k.owner, BitVec.ofNat 8 k.kind] k.id) := by
  show execKeyMsgQuery 0 sess handle s = _
  subst hk
  refine State.dv_done ((Dev.keyMsg_secured hsecured _ _).trans ?_)
  simp only [not_le.mpr hhandle, List.isEmpty_eq_false_iff.mpr hfull, Bool.false_eq_true, ↓reduceIte]

theorem exec_keyMsg_refused (s : State) (binding sess handle : Nat) (clean : Bool)
    (hbinding : binding ≠ 0) :
    exec (.keyMsgZeroize binding sess handle clean) s = s.done (s.dev.keyAnswer binding sess 2 5 [] 0)
      ∧ exec (.keyMsgQuery binding sess handle) s = s.done (s.dev.keyAnswer binding sess 3 5 [] 0) := by
  constructor
  · show execKeyMsgZeroize binding sess handle clean s = _
    exact State.dv_done (Dev.keyMsg_refused hbinding _ _ _)
  · show execKeyMsgQuery binding sess handle s = _
    exact State.dv_done (Dev.keyMsg_refused hbinding _ _ _)

/-- Settles O42: the register path and the message path meet in what a load, a zeroize and a query do to a slot. -/
theorem keySlots : Obligations.KeySlots := by
  unfold Obligations.KeySlots
  exact ⟨exec_tlhSlotLoad, exec_tlhSlotLoad_session_only, exec_tlhSlotZeroize, exec_tlhSlotQuery, exec_sessionOnlySet, exec_keyMsgLoad,
    exec_keyMsgZeroize, exec_keyMsgQuery, exec_keyMsg_refused⟩

/-- A negotiated connection, in the open or in a secured session, answers its request. -/
theorem Dev.spdmOpen_open {d : Dev} {b sess : Nat} (hconn : d.conn b = 3) (hopen : sess = 0 ∨ d.secured b sess = true) (f : Dev → Dev) :
    d.spdmOpen b sess f = f d := by
  rcases hopen with h | h <;> simp [Dev.spdmOpen, hconn, h]

/-- A healthy random generator gives a request its record. -/
theorem Dev.drbg_good {d : Dev} (h : d.on Fld.TLH_STATUS_DRBG_FAIL = false) (b sess : Nat) (f : List Byte → Dev → Dev) :
    d.drbg b sess f = f (Config.record 3 d.free) d.tick := by
  simp only [Dev.drbg, h, Bool.false_eq_true, ↓reduceIte]

/-- A secured session of the PCIe VDM binding reaches the host port's IDE streams. -/
theorem Dev.ideKm_secured {d : Dev} {sess : Nat} (h : d.secured 0 sess = true) (f : Dev → Dev) : d.ideKm 0 sess f = f d := by
  simp only [Dev.ideKm, h, decide_true, Bool.and_self, ↓reduceIte]

/-- The versions 1.1 and 1.2 as GET_VERSION answers them. -/
theorem spdmVersions : ([0, 2] ++ leBytes 2 0x1100 ++ leBytes 2 0x1200 : List Byte) = [0, 2, 0, 0x11, 0, 0x12] := by decide

/-- The responder's capabilities. -/
theorem spdmCapabilities : ([0, 17, 0, 0] ++ leBytes 4 0x462F6 : List Byte) = [0, 17, 0, 0, 0xF6, 0x62, 4, 0] := by decide

theorem exec_getVersion (s : State) (b : Nat) :
    exec (.getVersion b) s = s.done ((s.dev.setConn b 1).spdm b 0 0x04 0 0 [0, 2, 0, 0x11, 0, 0x12]) := by
  show execGetVersion b s = _
  exact State.dv_done (congrArg (Dev.spdm _ b 0 0x04 0 0) spdmVersions)

theorem exec_getCapabilities (s : State) (b : Nat)
    (hconn : s.dev.conn b ≠ 0) :
    exec (.getCapabilities b) s = s.done ((s.dev.setConn b 2).spdm b 0 0x61 0 0 [0, 17, 0, 0, 0xF6, 0x62, 4, 0]) := by
  show execGetCapabilities b s = _
  refine State.dv_done ((if_neg hconn).trans ?_)
  exact congrArg (Dev.spdm _ b 0 0x61 0 0) spdmCapabilities

theorem exec_negotiateAlgorithms (s : State) (b dhe aead : Nat)
    (h2 : 2 ≤ s.dev.conn b) :
    exec (.negotiateAlgorithms b 0x80 2 dhe aead) s = s.done ((s.dev.setConn b 3).spdm b 0 0x63 0 0
      (leBytes 4 4 ++ leBytes 4 0x80 ++ leBytes 4 2 ++ leBytes 2 (dhe &&& 0x10) ++ leBytes 2 (aead &&& 2))) := by
  show execNegotiateAlgorithms b 0x80 2 dhe aead s = _
  refine State.dv_done ((if_neg (not_lt.mpr h2)).trans ?_)
  simp

theorem exec_getDigests (s : State) (b sess : Nat)
    (hconn : s.dev.conn b = 3) (hopen : (sess = 0 ∨ s.dev.secured b sess = true)) :
    exec (.getDigests b sess) s = s.done (s.dev.spdm b sess 0x01 0 1 (Config.sha384 s.dev.certChain)) := by
  show execGetDigests b sess s = _
  exact State.dv_done (Dev.spdmOpen_open hconn hopen _)

theorem exec_getCertificate (s : State) (b sess off len : Nat) (c part : List Byte)
    (hconn : s.dev.conn b = 3) (hopen : (sess = 0 ∨ s.dev.secured b sess = true)) (hc : c = s.dev.certChain)
    (hpart : part = (c.drop off).take len) :
    exec (.getCertificate b sess 0 off len) s = s.done (if c.length ≤ off then s.dev.spdmErr b sess 1
      else s.dev.spdm b sess 0x02 0 0 (leBytes 2 part.length ++ leBytes 2 (c.length - off - part.length) ++ part)) := by
  show execGetCertificate b sess 0 off len s = _
  subst hpart hc
  refine State.dv_done ((Dev.spdmOpen_open hconn hopen _).trans ?_)
  simp

theorem exec_challenge (s : State) (b : Nat) (nonce r body : List Byte) (d : Dev)
    (hconn : s.dev.conn b = 3) (hhealthy : s.dev.on Fld.TLH_STATUS_DRBG_FAIL = false) (hd : d = s.dev.tick)
    (hr : r = Config.record 3 s.dev.free)
    (hbody : body = Config.sha384 d.certChain ++ r ++ Config.sha384 ((List.range 6).flatMap (fun i => d.measureBlock (i + 1)))) :
    exec (.challenge b 0 nonce) s = s.done (d.spdm b 0 0x03 0 1 (body ++ Config.ecdsaSign (nonce ++ body))) := by
  show execChallenge b 0 nonce s = _
  subst hbody hr hd
  refine State.dv_done ((Dev.spdmOpen_open hconn (Or.inl rfl) _).trans ?_)
  simp only [ne_eq, not_true_eq_false, ↓reduceIte, Dev.drbg_good hhealthy]

theorem exec_getMeasurements (s : State) (b sess op : Nat) (nonce body : List Byte)
    (hconn : s.dev.conn b = 3) (hopen : (sess = 0 ∨ s.dev.secured b sess = true)) (h1 : 1 ≤ op) (hop : op ≤ 6)
    (hbody : body = s.dev.measureBlock op) :
    exec (.getMeasurements b sess op false nonce) s = s.done (s.dev.spdm b sess 0x60 0 0 ([1] ++ leBytes 3 body.length ++ body)) := by
  show execGetMeasurements b sess op false nonce s = _
  have hnotAll : op ≠ 0xFF := by omega
  have hsome : op ≠ 0 := by omega
  subst hbody
  refine State.dv_done ((Dev.spdmOpen_open hconn hopen _).trans ?_)
  simp [hnotAll, hsome, not_lt.mpr hop]

theorem exec_keyExchange (s : State) (b id : Nat) (r : List Byte) (d d1 : Dev)
    (hconn : s.dev.conn b = 3) (hroom : s.dev.tlhs.sess.length < 4) (hhealthy : s.dev.on Fld.TLH_STATUS_DRBG_FAIL = false)
    (hd : d = s.dev.tick) (hr : r = Config.record 3 s.dev.free) (hid : id = d.tlhs.nextSess % 0xFFFF + 1)
    (hd1 : d1 = { d with tlhs := { d.tlhs with nextSess := d.tlhs.nextSess + 1 } }) :
    exec (.keyExchange b) s = s.done ((d1.setSess (d.tlhs.sess ++ [SpdmSess.mk id b false 0])).spdm b id 0x64 0 0 (r ++ Config.ecdsaSign r)) := by
  show execKeyExchange b s = _
  subst hd1 hid hr hd
  refine State.dv_done ((Dev.spdmOpen_open hconn (Or.inl rfl) _).trans ?_)
  simp only [not_le.mpr hroom, Dev.drbg_good hhealthy, ↓reduceIte]

theorem exec_keyExchange_full (s : State) (b : Nat)
    (hconn : s.dev.conn b = 3) (h4 : 4 ≤ s.dev.tlhs.sess.length) :
    exec (.keyExchange b) s = s.done (s.dev.spdmErr b 0 3) := by
  show execKeyExchange b s = _
  exact State.dv_done ((Dev.spdmOpen_open hconn (Or.inl rfl) _).trans (if_pos h4))

theorem exec_finish (s : State) (b sess : Nat)
    (hstarted : s.dev.tlhs.sess.any (fun e => e.id = sess && e.binding = b && !e.up) = true) :
    exec (.finish b sess true) s
      = s.done ((s.dev.setSess (s.dev.tlhs.sess.map (fun e => if e.id = sess then { e with up := true } else e))).spdm b sess 0x65 0 0 []) := by
  show execFinish b sess true s = _
  refine State.dv_done ?_
  simp only [hstarted, Bool.not_true, Bool.false_eq_true, ↓reduceIte]

theorem exec_session_messages (s : State) (b sess op : Nat)
    (hsecured : s.dev.secured b sess = true) :
    exec (.spdmHeartbeat b sess) s = s.done (s.dev.spdm b sess 0x68 0 0 [])
      ∧ exec (.keyUpdate b sess 3) s
        = s.done ((s.dev.setSess s.dev.tlhs.sess).spdm b sess 0x69 3 0 [])
      ∧ exec (.endSession b sess) s = s.done ((s.dev.setSess (s.dev.tlhs.sess.filter (fun e => e.id ≠ sess))).spdm b sess 0x6C 0 0 [])
      ∧ (1 ≤ op → op < 3 → exec (.keyUpdate b sess op) s = s.done ((s.dev.setSess (s.dev.tlhs.sess.map
          (fun e => if e.id = sess then { e with updates := e.updates + 1 } else e))).spdm b sess 0x69 op 0 [])) := by
  refine ⟨?_, ?_, ?_, fun h1 h3 => ?_⟩
  · show execSpdmHeartbeat b sess s = _
    exact State.dv_done (if_pos hsecured)
  · show execKeyUpdate b sess 3 s = _
    refine State.dv_done ?_
    simp [hsecured]
  · show execEndSession b sess s = _
    exact State.dv_done (if_pos hsecured)
  · show execKeyUpdate b sess op s = _
    have hgood : ¬ (op = 0 ∨ 3 < op) := by omega
    refine State.dv_done ?_
    simp [hsecured, hgood, h3.ne]

theorem exec_ideKmQuery (s : State) (sess : Nat)
    (hsecured : s.dev.secured 0 sess = true) :
    exec (.ideKmQuery 0 sess) s
      = s.done (s.dev.emit .mctp [0, 3, sess, 1] ((List.range 8).map (fun i => BitVec.ofNat 8 (s.dev.ideStream i).state))) := by
  show execIdeKmQuery 0 sess s = _
  exact State.dv_done (Dev.ideKm_secured hsecured _)

theorem exec_keyProg (s : State) (sess i set dir sub : Nat) (key : List Byte)
    (hsecured : s.dev.secured 0 sess = true) (hi : i < 8) (hset : set < 2) (hdir : dir < 2) (hsub : sub < 3) (hkey : key.length = 32) :
    exec (.keyProg 0 sess i set dir sub key) s = s.done ((s.dev.setIde i { s.dev.ideStream i with
      keys := tput (fun _ => []) (s.dev.ideStream i).keys (set * 6 + dir * 3 + sub) key }).emit .mctp [0, 3, sess, 3, 0] []) := by
  show execKeyProg 0 sess i set dir sub key s = _
  refine State.dv_done ((Dev.ideKm_secured hsecured _).trans ?_)
  simp [not_le.mpr hi, not_le.mpr hset, not_le.mpr hdir, not_le.mpr hsub, hkey, ideKey]

theorem exec_kSetGo (s : State) (sess i set : Nat)
    (hsecured : s.dev.secured 0 sess = true) (hi : i < 8) (hset : set < 2) (hfull : (s.dev.ideStream i).full set = true)
    (hsecure : (s.dev.ideStream i).state ≠ 2) :
    exec (.kSetGo 0 sess i set) s
      = s.done ((s.dev.setIde i { s.dev.ideStream i with state := 1, setInUse := set }).emit .mctp [0, 3, sess, 6, set] []) := by
  show execKSetGo 0 sess i set s = _
  refine State.dv_done ((Dev.ideKm_secured hsecured _).trans ?_)
  simp only [hi, hset, hfull, hsecure, decide_true, Bool.and_self, ↓reduceIte]

theorem exec_kSetStop (s : State) (sess i set : Nat)
    (hsecured : s.dev.secured 0 sess = true) (hi : i < 8) (hset : set < 2) (hinUse : (s.dev.ideStream i).setInUse = set)
    (hsecure : (s.dev.ideStream i).state = 1) :
    exec (.kSetStop 0 sess i set) s = s.done ((s.dev.setIde i { s.dev.ideStream i with
      keys := tdrop (fun k => k / 6 = set) (s.dev.ideStream i).keys, state := 0 }).emit .mctp [0, 3, sess, 6, set] []) := by
  show execKSetStop 0 sess i set s = _
  refine State.dv_done ((Dev.ideKm_secured hsecured _).trans ?_)
  simp only [hi, hset, hinUse, hsecure, decide_true, Bool.and_self, ↓reduceIte]

theorem exec_apIdeSetup (s : State) (n : Nat) (cert : List Byte) (d : Dev)
    (hn : n < 4) (hideState : s.dev.get (Fld.TLH_AP_IDE_STATE n) = 1) (hhealthy : s.dev.on Fld.TLH_STATUS_DRBG_FAIL = false)
    (hd : d = (List.range 6).foldl (fun d w => d.setReg (Reg.TLH_AP_CERT n w) (BitVec.ofNat 64 (ofLe (((Config.sha384 cert).drop (8 * w)).take 8))))
      s.dev) :
    exec (.apIdeSetup n cert) s = s.done (({ d.tick with tlhs := { d.tlhs with
      apKeys := tput (fun _ => []) d.tlhs.apKeys n (Config.record 3 d.free) } } : Dev).put (Fld.TLH_AP_IDE_STATE n) 2) := by
  show execApIdeSetup n cert s = _
  subst hd
  refine State.dv_done ?_
  simp only [not_le.mpr hn, hideState, hhealthy, ne_eq, not_true_eq_false, decide_false, Bool.or_self, Bool.false_eq_true, ↓reduceIte]

theorem exec_apIdeSetupTimeout (s : State) (n step : Nat)
    (hn : n < 4) (hideState : s.dev.get (Fld.TLH_AP_IDE_STATE n) = 1) :
    exec (.apIdeSetupTimeout n step) s = s.done ((((s.dev.put (Fld.TLH_AP_IDE_STATE n) 3).put (Fld.TLH_AP_IDE_AP_FAIL n) 1).logAdd 3 0x0505 0xFF
      n step).classified 0x0615 n 0xFF step) := by
  show execApIdeSetupTimeout n step s = _
  refine State.dv_done ?_
  simp only [hn, hideState, decide_true, Bool.and_self, ↓reduceIte, Dev.apIdeFail]

theorem exec_apIdeIntegrityFail (s : State) (n : Nat)
    (hn : n < 4) (hideState : s.dev.get (Fld.TLH_AP_IDE_STATE n) = 2) :
    exec (.apIdeIntegrityFail n) s = s.done (((((s.dev.put (Fld.TLH_AP_IDE_STATE n) 4).put (Fld.TLH_AP_IDE_AP_FAIL n) 1).logAdd 3 0x0505 0xFF
      n 4).classified 0x0615 n 0xFF 4).portWorkEnds n) := by
  show execApIdeIntegrityFail n s = _
  refine State.dv_done ?_
  simp only [hn, hideState, decide_true, Bool.and_self, ↓reduceIte, Dev.apIdeFail]

theorem exec_drbgHealthFail (s : State) (test : Nat) :
    exec (.drbgHealthFail test) s = s.done ((s.dev.put Fld.TLH_STATUS_DRBG_FAIL 1).logAdd 5 0x0502 0xFF test 0) := rfl

/-- Settles O43: each message is its function of the connection, the session or the stream it names. -/
theorem spdmAndIde : Obligations.SpdmAndIde := by
  unfold Obligations.SpdmAndIde
  exact ⟨exec_getVersion, exec_getCapabilities, exec_negotiateAlgorithms, exec_getDigests, exec_getCertificate, exec_challenge,
    exec_getMeasurements, exec_keyExchange, exec_keyExchange_full, exec_finish, exec_session_messages, exec_ideKmQuery, exec_keyProg,
    exec_kSetGo, exec_kSetStop, exec_apIdeSetup, exec_apIdeSetupTimeout, exec_apIdeIntegrityFail, exec_drbgHealthFail⟩

end Sys2Proof.Machine
end

section
/-! PROOFS. Pans and what a Raker does through control space (spec section 15) -/

namespace Sys2Proof.Machine

/-- An image gathered whole into an empty Pan is loaded. -/
theorem Dev.loadResume_good {d : Dev} {t : Ticket} (hbad : t.bad = false) (hidle : d.panState (Machine.wf t.words 4 32 8) = 0)
    (hok : Machine.imageOk (t.bytesAt 0 (Machine.wf t.words 4 0 22)) panWindow controlSpace false = true) :
    d.loadResume t = d.loadImage t (Machine.wf t.words 4 32 8) (t.bytesAt 0 (Machine.wf t.words 4 0 22)) := by
  simp only [Dev.loadResume, hbad, hidle, hok, ne_eq, not_true_eq_false, Bool.not_true, Bool.false_eq_true, ↓reduceIte]

/-- LOAD of an image whose bytes are all gathered at once. -/
theorem Dev.loadStart_gathered {e d : Dev} {t t1 : Ticket} {p n : Nat} (hn : n = Machine.wf t.words 4 0 22) (hp : p = Machine.wf t.words 4 32 8)
    (hzero : bodyZero t.words [(2, 2 ^ 32 - 1), (3, 2 ^ 41 - 1), (4, 2 ^ 22 - 1 + (2 ^ 40 - 2 ^ 32))] = true) (hlow : 64 ≤ n) (hhigh : n ≤ 2097152)
    (hright : t.right 9 1 ≠ 0) (hholder : e.holder p = t.key.b) (hidle : e.panState p = 0)
    (hgather : e.gatherPieces (.loc t.key.b) t (Machine.wf t.words 2 0 32) 6 0
      (e.keyedPieces (Machine.wf t.words 2 0 32) (Machine.wf t.words 3 0 41) n) 0 = (.ok (), d, t1))
    (hleft : t1.left = 0) (hbad : t1.bad = false) (hwords : t1.words = t.words) (hidle1 : d.panState p = 0)
    (hok : Machine.imageOk (t1.bytesAt 0 n) panWindow controlSpace false = true) : e.loadStart t = d.loadImage t1 p (t1.bytesAt 0 n) := by
  have hload : d.loadResume t1 = d.loadImage t1 p (t1.bytesAt 0 n) := by
    subst hn hp
    rw [← hwords] at hidle1 hok ⊢
    exact Dev.loadResume_good hbad hidle1 hok
  have hsize : ¬ (n < 64 ∨ 2097152 < n) := by omega
  simp only [Dev.loadStart, hzero, ← hn, hsize, hright, ← hp, Dev.holds, hholder, hidle, hgather, hleft, hload, ne_eq, not_true_eq_false,
    decide_false, decide_true, Bool.not_true, Bool.or_self, Bool.false_eq_true, lt_self_iff_false, ↓reduceIte]

/-- A loaded Pan whose islands run starts the Rakers its image names. -/
theorem Dev.loadStarted_starts {e d1 : Dev} {p id : Nat} {k : TKey} (hload : (e.pan p).loading = some k) (hawake : e.get (Fld.PWR_ISL_STATE (p / 4)) < 2)
    (hid : id = e.get (Fld.PAN_STATE_RUN_ID p))
    (hd1 : d1 = (List.range 4).foldl (fun d i => if bitsOf (e.pan p).rakers i 1 = 1 then d.setRk p i { RakerS.init with
        started := true, live := true, pc := (e.pan p).entry
        g := ([(2, i), (3, p), (4, id)].filter (fun x => x.2 ≠ 0)).map (fun x => (x.1, BitVec.ofNat 64 x.2)) } else d)
      (e.setPan p { e.pan p with loading := none })) :
    e.loadStarted p =
      ((d1.put (Fld.PAN_STATE_STATE p) (if e.on (Fld.PAN_STATE_STOP_PEND p) then 3 else 2)).workOff k).finishKey k 0 0 id := by
  subst hd1 hid
  simp only [Dev.loadStarted, hload, not_le.mpr hawake, ↓reduceIte]

/-- STOP of an idle Pan ends OK. -/
theorem Dev.stopStart_idle {e : Dev} {t : Ticket} (hzero : bodyZero t.words [(2, 2 ^ 9 - 1)] = true) (hright : t.right 9 1 ≠ 0)
    (hholder : e.holder (Machine.wf t.words 2 0 8) = t.key.b) (hidle : e.panState (Machine.wf t.words 2 0 8) = 0) :
    e.stopStart t = e.finish t 0 0 0 := by
  simp only [Dev.stopStart, hzero, hright, Dev.holds, hholder, hidle, decide_true, Bool.not_true, Bool.false_eq_true, ↓reduceIte]

/-- WATCH of a run that has ended gives its end. -/
theorem Dev.watchStart_ended {e : Dev} {t : Ticket} {p id : Nat} (hp : p = Machine.wf t.words 2 0 8) (hid : id = Machine.wf t.words 2 32 32)
    (hzero : bodyZero t.words [(2, 2 ^ 8 - 1 + (2 ^ 64 - 2 ^ 32))] = true) (hholder : e.holder p = t.key.b) (hsome : id ≠ 0)
    (hrun : e.get (Fld.PAN_STATE_RUN_ID p) = id) (hended : e.panState p = 0 ∨ e.panState p = 4) :
    e.watchStart t = e.finish t (e.get (Fld.PAN_END_STATUS p)) (e.get (Fld.PAN_END_DETAIL p)) (e.reg (Reg.PAN_END_RESULT p)).toNat := by
  have hover : (decide (e.panState p = 0) || decide (e.panState p = 4)) = true := by
    simpa only [Bool.or_eq_true, decide_eq_true_eq] using hended
  simp only [Dev.watchStart, hzero, ← hp, ← hid, Dev.holds, hholder, hsome, hrun, hover, ne_eq, not_true_eq_false, decide_true, decide_false,
    Bool.not_true, Bool.or_self, Bool.false_eq_true, ↓reduceIte]

/-- DELIVER without a question puts its entry into the Raker's inbox and ends OK. -/
theorem Dev.deliverStart_enters {d : Dev} {t : Ticket} {p i : Nat} {q : RakerS} {e : List Word} (hp : p = Machine.wf t.words 2 0 8)
    (hi : i = Machine.wf t.words 2 8 2) (hask : Machine.wf t.words 2 10 1 = 0) (hzero : zeroOutside (wordAt t.words 2) [(0, 11)] = true)
    (hholder : d.holder p = t.key.b) (hruns : d.panState p = 2 ∨ d.panState p = 3) (hq : q = d.rk p i) (hstarted : q.started = true)
    (hexited : q.exited = false) (hroom : q.inbox.length < 16)
    (he : e = [packW [(0, 32, pack [(0, 16, t.key.slot), (16, 6, t.key.r), (22, 8, t.key.gen), (31, 1, 0)]), (32, 32, Machine.wf t.words 0 32 32)],
      BitVec.ofNat 64 d.tide] ++ (t.words.drop 3).take 5 ++ [packW [(0, 32, t.seq)]]) :
    d.deliverStart t = (d.setRk p i { q with inbox := q.inbox ++ [(t.key, e)] }).finish t 0 0 0 := by
  have hrun : (decide (d.panState p = 2) || decide (d.panState p = 3)) = true := by
    simpa only [Bool.or_eq_true, decide_eq_true_eq] using hruns
  subst he
  simp only [Dev.deliverStart, hzero, ← hp, ← hi, Dev.holds, hholder, hrun, ← hq, hstarted, hexited, not_le.mpr hroom, hask, decide_true,
    Bool.not_true, Bool.or_self, Bool.false_eq_true, ↓reduceIte]

/-- A live Raker's write of control space does what the offset says. -/
theorem Dev.ctlCommand_done {d e : Dev} {p i off : Nat} {v : Word} (hlive : (d.rk p i).live = true) (hruns : d.stopped = false)
    (hw : d.ctlWrite p i off v = .done e) : d.ctlCommand p i off v = e := by
  simp only [Dev.ctlCommand, hlive, hruns, hw, Bool.not_true, Bool.or_self, Bool.false_eq_true, ↓reduceIte]

/-- The Barrow takes a descriptor within its ranges while it has room. -/
theorem Dev.barrowGo_queues {s : Dev} {p i : Nat} {d : Nat → Word} (hd : d = tget (fun _ => (0 : Word)) (s.rk p i).desc)
    (hz0 : zeroOutside (d 0) [(0, 48)] = true) (hz1 : zeroOutside (d 1) [(0, 48)] = true) (hz2 : zeroOutside (d 2) [(0, 31)] = true)
    (hz3 : zeroOutside (d 3) [(0, 4)] = true) (hlow : 1 ≤ getBits (d 2) 0 31) (hhigh : getBits (d 2) 0 31 ≤ 2 ^ 30)
    (hroom : (s.pan p).barrow.length < 32) :
    s.barrowGo p i = .done (s.setPan p { s.pan p with
      barrow := (s.pan p).barrow ++ [⟨getBits (d 0) 0 48, getBits (d 1) 0 48, getBits (d 2) 0 31, getBits (d 3) 0 4⟩] }) := by
  subst hd
  simp only [Dev.barrowGo, hz0, hz1, hz2, hz3, hlow, hhigh, not_le.mpr hroom, and_self, decide_true, Bool.and_self, Bool.not_true,
    Bool.false_eq_true, ↓reduceIte]

/-- A good command enters an empty queue of a Crystallizer nobody waits for. -/
theorem Dev.cryGo_first {s d : Dev} {p i : Nat} {ws : List Word} {q : PanS}
    (hws : ws = (List.range 8).map (fun k => tget (fun _ => (0 : Word)) (s.rk p i).cmd k)) (hcheck : cryCheck ws = true)
    (hroom : s.cryHeld (p / 8) < 64) (hstall : tget (fun _ => []) s.cryStall (p / 8) = []) (hq : q = s.pan p) (hempty : q.cry = [])
    (hd : d = { s with cryStall := tput (fun _ => []) s.cryStall (p / 8) [] }) :
    s.cryGo p i = .done (((d.setPan p { q with cry := [⟨q.cseq, ws, 0, 0, 0, 0, s.tide + 1⟩], cseq := (q.cseq + 1) % 2 ^ 32 }).countCry
      (p / 8)).wakeIsland (64 + p / 8)) := by
  subst hd hq
  simp only [Dev.cryGo, ← hws, hcheck, not_le.mpr hroom, hstall, hempty, List.isEmpty_nil, List.erase_nil, List.nil_append, Bool.not_true,
    Bool.false_and, decide_false, Bool.or_self, Bool.false_eq_true, ↓reduceIte]

/-- A Pan's scrub ends: its memory is zero, its Rakers are as at reset, and what waited for the stop ends OK. -/
theorem Dev.scrubDone_ends {e d1 d2 d3 : Dev} {p : Nat} (hscrubs : e.panState p = 4) (hempty : (e.pan p).cry = [])
    (hd1 : d1 = ((e.zeroMem (panSram p) 0x200000).zeroMem (panFeed p) 0x80000).setPan p PanS.init)
    (hd2 : d2 = ((List.range 4).foldl (fun d i => d.setRk p i RakerS.init) d1).put (Fld.PAN_STATE_STATE p) 0)
    (hd3 : d3 = (e.pan p).stops.foldl (fun d k => (d.workOff k).finishKey k 0 0 0) d2) (hfree : d3.holder p = 0) : e.scrubDone p = d3 := by
  subst hd2 hd1
  simp only [Dev.scrubDone, hscrubs, hempty, ← hd3, hfree, List.isEmpty_nil, ne_eq, not_true_eq_false, decide_false, Bool.not_true, Bool.or_self,
    Bool.false_and, Bool.false_eq_true, ↓reduceIte]

theorem exec_panLoad (s : State) (b r slot p n : Nat) (t t1 : Ticket) (d : Dev)
    (hReady : s.dev.Ready b r slot 5 1 t) (hn : n = Machine.wf t.words 4 0 22) (hp : p = Machine.wf t.words 4 32 8)
    (hbodyZero : bodyZero t.words [(2, 2 ^ 32 - 1), (3, 2 ^ 41 - 1), (4, 2 ^ 22 - 1 + (2 ^ 40 - 2 ^ 32))] = true) (h64 : 64 ≤ n)
    (hn2 : n ≤ 2097152) (hright : t.right 9 1 ≠ 0) (hholder : (s.dev.begin t).holder p = t.key.b) (hidle : (s.dev.begin t).panState p = 0)
    (hgather : (s.dev.begin t).gatherPieces (.loc t.key.b) t.begun (Machine.wf t.words 2 0 32) 6 0
      ((s.dev.begin t).keyedPieces (Machine.wf t.words 2 0 32) (Machine.wf t.words 3 0 41) n) 0 = (.ok (), d, t1))
    (hleft : t1.left = 0) (hbad : t1.bad = false) (hwords : t1.words = t.words) (hidle1 : d.panState p = 0)
    (hok : imageOk (t1.bytesAt 0 n) panWindow controlSpace false = true) :
    exec (.panLoad b r slot) s = s.done (d.loadImage t1 p (t1.bytesAt 0 n)) := by
  show execPanLoad b r slot s = _
  exact State.serve_done hReady (Dev.loadStart_gathered (t := t.begun) hn hp hbodyZero h64 hn2 hright hholder hidle hgather hleft hbad hwords
    hidle1 hok)

theorem exec_panLoadStarted (s : State) (p id : Nat) (k : TKey) (d1 : Dev)
    (hpan : (s.dev.pan p).loading = some k) (hislState : s.dev.get (Fld.PWR_ISL_STATE (p / 4)) < 2)
    (hid : id = s.dev.get (Fld.PAN_STATE_RUN_ID p))
    (hd1 : d1 = (List.range 4).foldl (fun d i => if bitsOf (s.dev.pan p).rakers i 1 = 1 then d.setRk p i { RakerS.init with
        started := true, live := true, pc := (s.dev.pan p).entry,
        g := ([(2, i), (3, p), (4, id)].filter (fun x => x.2 ≠ 0)).map (fun x => (x.1, BitVec.ofNat 64 x.2)) } else d)
      (s.dev.setPan p { s.dev.pan p with loading := none })) :
    exec (.panLoadStarted p) s = s.done (((d1.put (Fld.PAN_STATE_STATE p) (if s.dev.on (Fld.PAN_STATE_STOP_PEND p) then 3 else 2)).workOff k).finishKey
      k 0 0 id) := by
  show execPanLoadStarted p s = _
  exact State.dv_done (Dev.loadStarted_starts hpan hislState hid hd1)

theorem exec_panStop (s : State) (b r slot p : Nat) (t : Ticket)
    (hReady : s.dev.Ready b r slot 5 2 t) (hp : p = Machine.wf t.words 2 0 8) (hbodyZero : bodyZero t.words [(2, 2 ^ 9 - 1)] = true)
    (hright : t.right 9 1 ≠ 0) (hholder : (s.dev.begin t).holder p = t.key.b) (hidle : (s.dev.begin t).panState p = 0) :
    exec (.panStop b r slot) s = s.done ((s.dev.begin t).finish t.begun 0 0 0) := by
  show execPanStop b r slot s = _
  subst hp
  exact State.serve_done hReady (Dev.stopStart_idle (t := t.begun) hbodyZero hright hholder hidle)

theorem exec_watch (s : State) (b r slot p id : Nat) (t : Ticket) (d : Dev)
    (hReady : s.dev.Ready b r slot 5 3 t) (hd : d = s.dev.begin t) (hp : p = Machine.wf t.words 2 0 8)
    (hid : id = Machine.wf t.words 2 32 32) (hbodyZero : bodyZero t.words [(2, 2 ^ 8 - 1 + (2 ^ 64 - 2 ^ 32))] = true)
    (hholder : d.holder p = t.key.b) (hid2 : id ≠ 0) (hrunId : d.get (Fld.PAN_STATE_RUN_ID p) = id)
    (hpanState : (d.panState p = 0 ∨ d.panState p = 4)) :
    exec (.watch b r slot) s = s.done (d.finish t.begun (d.get (Fld.PAN_END_STATUS p)) (d.get (Fld.PAN_END_DETAIL p))
      (d.reg (Reg.PAN_END_RESULT p)).toNat) := by
  show execWatch b r slot s = _
  subst hd
  exact State.serve_done hReady (Dev.watchStart_ended (t := t.begun) hp hid hbodyZero hholder hid2 hrunId hpanState)

theorem exec_deliver (s : State) (b r slot p i : Nat) (t : Ticket) (d : Dev) (q : RakerS) (e : List Word)
    (hReady : s.dev.Ready b r slot 5 0x10 t) (hd : d = s.dev.begin t) (hp : p = Machine.wf t.words 2 0 8)
    (hi : i = Machine.wf t.words 2 8 2) (hbits : Machine.wf t.words 2 10 1 = 0)
    (hzeroOutside : zeroOutside (wordAt t.words 2) [(0, 11)] = true) (hholder : d.holder p = t.key.b)
    (hpanState : (d.panState p = 2 ∨ d.panState p = 3)) (hq : q = d.rk p i) (hstarted : q.started = true) (hexited : q.exited = false)
    (hinbox : q.inbox.length < 16)
    (he : e = [packW [(0, 32, pack [(0, 16, t.key.slot), (16, 6, t.key.r), (22, 8, t.key.gen), (31, 1, 0)]), (32, 32, Machine.wf t.words 0 32 32)],
      BitVec.ofNat 64 d.tide] ++ (t.words.drop 3).take 5 ++ [packW [(0, 32, t.seq)]]) :
    exec (.deliver b r slot) s = s.done ((d.setRk p i { q with inbox := q.inbox ++ [(t.key, e)] }).finish t.begun 0 0 0) := by
  show execDeliver b r slot s = _
  subst hd
  exact State.serve_done hReady (Dev.deliverStart_enters (t := t.begun) hp hi hbits hzeroOutside hholder hpanState hq hstarted hexited hinbox he)

theorem exec_rakerExit (s : State) (p i : Nat) (v : Word)
    (hlive : (s.dev.rk p i).live = true) (hstopped : s.dev.stopped = false) :
    exec (.rakerExit p i v) s = s.done ((s.dev.setRk p i { s.dev.rk p i with live := false, exited := true, exitVal := v }).checkRun p) := by
  show execRakerExit p i v s = _
  exact State.dv_done (Dev.ctlCommand_done hlive hstopped rfl)

theorem exec_inboxNext (s : State) (p i : Nat)
    (hlive : (s.dev.rk p i).live = true) (hstopped : s.dev.stopped = false) :
    exec (.inboxNext p i) s = s.done (s.dev.setRk p i { s.dev.rk p i with inbox := (s.dev.rk p i).inbox.tail }) := by
  show execInboxNext p i s = _
  exact State.dv_done (Dev.ctlCommand_done hlive hstopped rfl)

theorem exec_answerGo (s : State) (p i : Nat) (v : Word)
    (hlive : (s.dev.rk p i).live = true) (hstopped : s.dev.stopped = false) (hgo : v.getLsbD 63 = true) :
    exec (.answerGo p i v) s
      = s.done (s.dev.answer p (getBits v 0 32) (getBits v 32 8) (getBits v 40 16) (s.dev.rk p i).answer.toNat) := by
  show execAnswerGo p i v s = _
  refine State.dv_done (Dev.ctlCommand_done hlive hstopped ?_)
  simp [Dev.ctlWrite, hgo]

theorem exec_tallyWrite (s : State) (p i t : Nat) (v : Word)
    (hlive : (s.dev.rk p i).live = true) (hstopped : s.dev.stopped = false) (ht : t < 16) :
    exec (.tallyWrite p i t v) s = s.done (s.dev.setPan p { s.dev.pan p with tally := tput (fun _ => 0) (s.dev.pan p).tally t v }) := by
  show execTallyWrite p i t v s = _
  have hlow : 0x100100 ≤ 0x100100 + 8 * t ∧ 0x100100 + 8 * t < 0x100180 := by omega
  refine State.dv_done (Dev.ctlCommand_done hlive hstopped ?_)
  rw [Nat.mod_eq_of_lt ht]
  simp only [Dev.ctlWrite, hlow, Nat.add_sub_cancel_left]
  repeat rw [if_neg (by omega)]
  simp

theorem exec_barrowGo (s : State) (p i : Nat) (d : Nat → Word)
    (hlive : (s.dev.rk p i).live = true) (hstopped : s.dev.stopped = false) (hd : d = tget (fun _ => (0 : Word)) (s.dev.rk p i).desc)
    (hzeroOutside : zeroOutside (d 0) [(0, 48)] = true) (hzeroOutside2 : zeroOutside (d 1) [(0, 48)] = true)
    (hzeroOutside3 : zeroOutside (d 2) [(0, 31)] = true) (hzeroOutside4 : zeroOutside (d 3) [(0, 4)] = true) (h1 : 1 ≤ getBits (d 2) 0 31)
    (hbits : getBits (d 2) 0 31 ≤ 2 ^ 30) (hroom : (s.dev.pan p).barrow.length < 32) :
    exec (.barrowGo p i) s = s.done (s.dev.setPan p { s.dev.pan p with
      barrow := (s.dev.pan p).barrow ++ [⟨getBits (d 0) 0 48, getBits (d 1) 0 48, getBits (d 2) 0 31, getBits (d 3) 0 4⟩] }) := by
  show execBarrowGo p i s = _
  exact State.dv_done (Dev.ctlCommand_done hlive hstopped
    (Dev.barrowGo_queues hd hzeroOutside hzeroOutside2 hzeroOutside3 hzeroOutside4 h1 hbits hroom))

theorem exec_barrowDescriptorDone (s : State) (p : Nat) (out : List Nat) (q : BarrowD) (qs : List BarrowD) (d d1 : Dev)
    (hqueue : (s.dev.pan p).barrow = q :: qs) (hstopped : s.dev.stopped = false)
    (hrun : s.dev.barrowRun p (pieces2 (2 * (q.len / 4096) + 4) q.src q.dst q.len) out = (none, d))
    (hd1 : d1 = d.setPan p { d.pan p with barrow := qs }) :
    exec (.barrowDescriptorDone p out) s = s.done (d1.countTally p q.tally false) := by
  show execBarrowDescriptorDone p out s = _
  subst hd1
  refine State.dv_done ?_
  simp only [Dev.barrowDone, hqueue, hstopped, hrun, Bool.false_eq_true, ↓reduceIte]

theorem exec_barrowDescriptorDone_failed (s : State) (p : Nat) (out : List Nat) (q : BarrowD) (qs : List BarrowD) (d d1 : Dev) (c k va : Nat)
    (hqueue : (s.dev.pan p).barrow = q :: qs) (hstopped : s.dev.stopped = false)
    (hrun : s.dev.barrowRun p (pieces2 (2 * (q.len / 4096) + 4) q.src q.dst q.len) out = (some (c, k, va), d))
    (hd1 : d1 = d.setPan p { d.pan p with barrow := qs }) :
    exec (.barrowDescriptorDone p out) s = s.done ((d1.setPan p { d1.pan p with
      barrowErr := packW [(0, 8, c), (8, 4, k), (12, 4, q.tally), (16, 48, va)] }).countTally p q.tally true) := by
  show execBarrowDescriptorDone p out s = _
  subst hd1
  refine State.dv_done ?_
  simp only [Dev.barrowDone, hqueue, hstopped, hrun, Bool.false_eq_true, ↓reduceIte]

theorem exec_cryGo (s : State) (p i : Nat) (ws : List Word) (q : PanS) (d : Dev)
    (hlive : (s.dev.rk p i).live = true) (hstopped : s.dev.stopped = false)
    (hws : ws = (List.range 8).map (fun k => tget (fun _ => (0 : Word)) (s.dev.rk p i).cmd k)) (hcryCheck : cryCheck ws = true)
    (hcryHeld : s.dev.cryHeld (p / 8) < 64) (hstall : tget (fun _ => []) s.dev.cryStall (p / 8) = []) (hq : q = s.dev.pan p)
    (hcry : q.cry = []) (hd : d = { s.dev with cryStall := tput (fun _ => []) s.dev.cryStall (p / 8) [] }) :
    exec (.cryGo p i) s = s.done (((d.setPan p { q with cry := [⟨q.cseq, ws, 0, 0, 0, 0, s.dev.tide + 1⟩], cseq := (q.cseq + 1) % 2 ^ 32 }).countCry
      (p / 8)).wakeIsland (64 + p / 8)) := by
  show execCryGo p i s = _
  exact State.dv_done (Dev.ctlCommand_done hlive hstopped (Dev.cryGo_first hws hcryCheck hcryHeld hstall hq hcry hd))

theorem exec_panStopAtExpiry (s : State) (p b : Nat)
    (hp : p < 256) (hstopPend : s.dev.on (Fld.PAN_STATE_STOP_PEND p) = true) (hb : b = s.dev.holder p) (hb2 : b ≠ 0) :
    exec (.panStopAtExpiry p) s = s.done (((s.dev.at (s.dev.pan p).stopAt).forceStop p).sat (Fld.CNT_LIMITS_FORCED_STOPS b)) := by
  show execPanStopAtExpiry p s = _
  subst hb
  refine State.dvIf_done (decide_eq_true hp) ?_
  simp only [hstopPend, hb2, ↓reduceIte]

theorem exec_panScrubDone (s : State) (p : Nat) (d1 d2 d3 : Dev)
    (hp : p < 256) (hpanState : s.dev.panState p = 4) (hempty : (s.dev.pan p).cry = [])
    (hd1 : d1 = ((s.dev.zeroMem (panSram p) 0x200000).zeroMem (panFeed p) 0x80000).setPan p PanS.init)
    (hd2 : d2 = ((List.range 4).foldl (fun d i => d.setRk p i RakerS.init) d1).put (Fld.PAN_STATE_STATE p) 0)
    (hd3 : d3 = (s.dev.pan p).stops.foldl (fun d k => (d.workOff k).finishKey k 0 0 0) d2) (hfree : d3.holder p = 0) :
    exec (.panScrubDone p) s = s.done d3 := by
  show execPanScrubDone p s = _
  exact State.dvIf_done (decide_eq_true hp) (Dev.scrubDone_ends hpanState hempty hd1 hd2 hd3 hfree)

/-- Settles O44: each ticket, control-space write and timer is its function of the Pan. -/
theorem panCommands : Obligations.PanCommands := by
  unfold Obligations.PanCommands
  exact ⟨exec_panLoad, exec_panLoadStarted, exec_panStop, exec_watch, exec_deliver, exec_rakerExit, exec_inboxNext, exec_answerGo,
    exec_tallyWrite, exec_barrowGo, exec_barrowDescriptorDone, exec_barrowDescriptorDone_failed, exec_cryGo, exec_panStopAtExpiry,
    exec_panScrubDone⟩

end Sys2Proof.Machine
end

section
/-! PROOFS. MACs, pause and frames (spec sections 1, 10) -/

namespace Sys2Proof.Machine

theorem wharfThere_of {m j p : Nat} (hm : m < 2) (hj : j < 4) (hp : p < 8) : wharfThere m j p = true := decide_eq_true ⟨hm, hj, hp⟩

/-- A MAC that is up sends the frame of a tenant's FRAME_TX and ends its ticket. -/
theorem Dev.transmit_ticket {e d d1 : Dev} {m j len : Nat} {f : TxFrame} {k : TKey} (hup : e.macUp m j = true) (hnext : e.nextTx m j = some f)
    (hsource : f.source = .ticket k len) (hb : k.b ≠ 0)
    (hd : d = { e with txq := e.txq.erase f }.setWhf m { e.whf m with
      lastSource := tput (fun _ => 0) (e.whf m).lastSource (8 * j + f.prio) 3 })
    (hd1 : d1 = ((d.emit .frame [4 * m + j] f.data).sat (Fld.WHF_MAC_FRAMES_TX_FRAMES m j)).wrap (Fld.CNT_NET_TX_BYTES k.b) f.data.length) :
    e.transmit m j = (d1.workOff k).finishKey k 0 0 len := by
  subst hd1 hd
  simp only [Dev.transmit, hup, hnext, hsource, Dev.txBerth, hb, TxSource.kind, Bool.not_true, Bool.false_eq_true, ↓reduceIte]

/-- A MAC that is up and takes PFC follows a pause of a priority; a pause of a priority not yet paused is noted with its time. -/
theorem Dev.pauseReceived_taken {d : Dev} {m j p : Nat} (hup : d.macUp m j = true) (hpfc : d.on (macBit (Fld.WHF_MAC_CTRL_PFC_EN m j) p) = true) :
    d.pauseReceived m j p true = d.pauseEnds m j p ∧
      ∀ w : WharfS, d.on (macBit (Fld.WHF_MAC_STATUS_STORM m j) p) = false → tget (fun _ => 0) (d.whf m).pausedAt (8 * j + p) = 0 →
        w = { d.whf m with
          lastPause := tput (fun _ => 0) (d.whf m).lastPause (8 * j + p) (d.tide + 1)
          pausedAt := tput (fun _ => 0) (d.whf m).pausedAt (8 * j + p) (d.tide + 1) } →
        d.pauseReceived m j p false = (d.setWhf m w).put (macBit (Fld.WHF_MAC_STATUS_PAUSED m j) p) 1 := by
  constructor
  · simp only [Dev.pauseReceived, hup, hpfc, Bool.not_true, Bool.or_self, Bool.false_eq_true, ↓reduceIte]
  · intro w hstorm hfresh hw
    subst hw
    simp only [Dev.pauseReceived, hup, hpfc, hstorm, hfresh, decide_true, Bool.not_false, Bool.and_self, Bool.not_true, Bool.or_self,
      Bool.false_eq_true, ↓reduceIte]

/-- The watchdog declares a storm of a priority paused for its whole time. -/
theorem Dev.pauseStorm_declared {e d : Dev} {m j p t : Nat} (ht : t = tget (fun _ => 0) (e.whf m).pausedAt (8 * j + p)) (hsince : t ≠ 0)
    (hpaused : e.on (macBit (Fld.WHF_MAC_STATUS_PAUSED m j) p) = true)
    (hd : d = (e.at (t - 1 + e.get (Fld.WHF_MAC_CTRL_PFC_WD_MS m j) * 1000000)).pauseEnds m j p) :
    e.pauseStorm m j p = (((d.put (macBit (Fld.WHF_MAC_STATUS_STORM m j) p) 1).put (macBit (Fld.WHF_MAC_STATUS_STORM_SEEN m j) p) 1).txFlush m j
      (fun f => decide (f.prio = p)) 0x0506).classified 0x0611 (4 * m + j) 0xFF p := by
  subst hd
  simp only [Dev.pauseStorm, ← ht, hsince, hpaused, decide_false, Bool.not_true, Bool.or_self, Bool.false_eq_true, ↓reduceIte]

/-- The MODE of a port in use is kept and the refusal shown. -/
theorem Dev.whfPortWrite_mode_kept {e d d1 : Dev} {m : Nat} {v : Word} (hd : d = e.writeReg (Reg.WHF_PORT_CTRL m) v 8 0)
    (hen : e.on (Fld.WHF_PORT_CTRL_PORT_EN m) = true) (hmode : d.get (Fld.WHF_PORT_CTRL_MODE m) ≠ e.get (Fld.WHF_PORT_CTRL_MODE m))
    (hd1 : d1 = (d.put (Fld.WHF_PORT_CTRL_MODE m) (e.get (Fld.WHF_PORT_CTRL_MODE m))).put (Fld.WHF_PORT_CTRL_MODE_REFUSED m) 1)
    (hen1 : d1.on (Fld.WHF_PORT_CTRL_PORT_EN m) = true) : e.whfPortWrite m v 8 0 = d1.syncPresent m := by
  simp only [Dev.whfPortWrite, ← hd, hen, ne_eq, hmode, not_false_eq_true, decide_true, Bool.and_self, ↓reduceIte, ← hd1, hen1]

/-- A frame that passes the receive checks and finds its action is taken in, and the action runs. -/
theorem Dev.frameReceive_taken {e d : Dev} {m j p : Nat} {data : List Byte} {a : Word} {f : FrameS} (hm : m < 2) (hj : j < 4)
    (hup : e.macUp m j = true) (hlong : 60 ≤ data.length) (hmax : data.length + 4 ≤ e.get (Fld.WHF_MAC_CTRL_MAX_FRAME m j))
    (hd : d = e.sat (Fld.WHF_MAC_FRAMES_RX_FRAMES m j)) (hp : p = d.framePrio m j data) (hroom : d.poolHeld m p + data.length ≤ 2097152)
    (hecn : d.poolHeld m p ≤ d.get (Fld.WHF_RXPOOL_ECN_KIB m) * 1024) (hfound : d.lookup m (frameKey data (4 * m + j)) = (a, false))
    (hf : f = ⟨d.nextFrame, m, j, p, data, d.tide, d.get (Fld.MNF_CTRL_EPOCH m), frameKey data (4 * m + j), a, 0, []⟩) :
    e.frameReceive m j data true true 0 =
      (({ d with frames := d.frames ++ [f], nextFrame := d.nextFrame + 1 } : Dev).syncPool m p).runAction f false := by
  have hrunt : ¬ data.length + 4 < 64 := by omega
  subst hf hp hd
  simp only [Dev.frameReceive, hm, hj, hup, hrunt, not_lt.mpr hmax, not_lt.mpr hroom, not_lt.mpr hecn, hfound, decide_true, decide_false, Bool.and_self,
    Bool.not_true, Bool.false_and, lt_self_iff_false, Bool.false_eq_true, ↓reduceIte]

/-- A frame of a berth's ring fills the FRAME_RX that waits there, or is dropped where none waits. -/
theorem Dev.placeFrame_berth {d : Dev} {f : FrameS} {b : Nat} (hb : b = getBits f.action 8 8) (hsome : b ≠ 0) (hfresh : d.ringStale f = false) :
    (∀ t, (d.wrap (Fld.CNT_NET_RX_BYTES b) f.data.length).waitingRx b (getBits f.action 16 6) = some t →
        d.placeFrame f = (d.wrap (Fld.CNT_NET_RX_BYTES b) f.data.length).fillRx f t) ∧
      ((d.wrap (Fld.CNT_NET_RX_BYTES b) f.data.length).waitingRx b (getBits f.action 16 6) = none →
        d.placeFrame f = (d.wrap (Fld.CNT_NET_RX_BYTES b) f.data.length).dropFrame f .noRxBuffer) := by
  constructor
  · intro t ht
    simp only [Dev.placeFrame, ← hb, hsome, hfresh, ht, Bool.false_eq_true, ↓reduceIte]
  · intro ht
    simp only [Dev.placeFrame, ← hb, hsome, hfresh, ht, Bool.false_eq_true, ↓reduceIte]

/-- A verdict within the actions becomes the frame's action and runs. -/
theorem Dev.deckhandRun_verdict {d : Dev} {m slot : Nat} {f : FrameS} {img img1 : DhImage} {a : Word} (hhead : d.deckHead m = some (f, slot, img))
    (hrun : deckRun d f (deckFuel img.budget) ⟨img, [], { RakerS.init with pc := img.entry }⟩ = (.verdict a, img1)) (hkind : getBits a 0 4 < 4) :
    d.deckhandRun m = ((d.tick.sat (Fld.MNF_DH_RUNS m slot)).keepImage f slot img1).runAction { f with action := a } true := by
  simp only [Dev.deckhandRun, hhead, hrun, not_le.mpr hkind, ↓reduceIte]

/-- A frame of berth 0 whose bytes are all gathered is offered to its MAC. -/
theorem Dev.frameTxQueue_berth0 {d : Dev} {t : Ticket} {k : TKey} {n m j : Nat} (hn : n = Machine.wf t.words 4 0 14) (hj : j = Machine.wf t.words 4 14 2)
    (hm : m = Machine.wf t.words 4 16 1) (hbad : t.bad = false) (hk : t.key = k) (hb : k.b = 0) :
    d.frameTxQueue t = (((d.rateGate 0 0 n (t.ceiling 0)).setTicket { t with left := 0 }).workOn k).offer
      ⟨m, j, ((d.rateGate 0 0 n (t.ceiling 0)).setTicket { t with left := 0 }).framePrio m j (t.bytesAt 0 n), .ticket k n, t.bytesAt 0 n⟩ := by
  subst hn hj hm hk
  simp only [Dev.frameTxQueue, hbad, hb, ne_eq, not_true_eq_false, decide_false, Bool.false_and, Bool.false_eq_true, ↓reduceIte]

/-- FRAME_TX whose bytes are all gathered at once is queued. -/
theorem Dev.frameTxStart_gathered {e d : Dev} {t t1 : Ticket} {n m j key : Nat}
    (hzero : bodyZero t.words [(2, 2 ^ 32 - 1), (3, 2 ^ 41 - 1), (4, 2 ^ 17 - 1)] = true) (hright : t.right 6 1 ≠ 0)
    (hn : n = Machine.wf t.words 4 0 14) (hj : j = Machine.wf t.words 4 14 2) (hm : m = Machine.wf t.words 4 16 1)
    (hkey : key = Machine.wf t.words 2 0 32) (hlow : 60 ≤ n) (hhigh : n ≤ e.get (Fld.WHF_MAC_CTRL_MAX_FRAME m j) - 4) (hmac : e.macThere m j = true)
    (hgather : e.gatherPieces (.loc t.key.b) t key 5 m (e.keyedPieces key (Machine.wf t.words 3 0 41) n) 0 = (.ok (), d, t1)) (hleft : t1.left = 0) :
    e.frameTxStart t = d.frameTxQueue t1 := by
  subst hkey
  simp only [Dev.frameTxStart, hzero, hright, ← hn, ← hj, ← hm, not_lt.mpr hlow, not_lt.mpr hhigh, hmac, hgather, hleft, decide_false, Bool.not_true,
    Bool.or_self, Bool.false_eq_true, lt_self_iff_false, ↓reduceIte]

/-- A well-formed FRAME_RX waits. -/
theorem Dev.frameRxStart_waits {d : Dev} {t : Ticket} (hzero : bodyZero t.words [(2, 2 ^ 32 - 1), (3, 2 ^ 41 - 1), (4, 2 ^ 14 - 1)] = true)
    (hright : t.right 6 1 ≠ 0) (hlow : 64 ≤ Machine.wf t.words 4 0 14) (hhigh : Machine.wf t.words 4 0 14 ≤ 9216) : d.frameRxStart t = d := by
  simp only [Dev.frameRxStart, hzero, hright, not_lt.mpr hlow, not_lt.mpr hhigh, decide_false, Bool.not_true, Bool.or_self, Bool.false_eq_true,
    ↓reduceIte]

theorem exec_macLinkUp (s : State) (m j : Nat)
    (hm : m < 2) (hj : j < 4) (hportEn : s.dev.on (Fld.WHF_PORT_CTRL_PORT_EN m) = true) (hmacThere : s.dev.macThere m j = true)
    (hmacEn : s.dev.on (Fld.WHF_MAC_CTRL_MAC_EN m j) = true) :
    exec (.macLinkUp m j) s = s.done ((s.dev.put (Fld.WHF_MAC_STATUS_LINK_UP m j) 1).syncEth m) := by
  show execMacLinkUp m j s = _
  refine State.dvIf_done (wharfThere_of hm hj (by decide)) ?_
  simp only [Dev.macGains, hportEn, hmacThere, hmacEn, Bool.and_self, ↓reduceIte]

theorem exec_macLinkDown (s : State) (m j : Nat) (d : Dev)
    (hm : m < 2) (hj : j < 4) (hmacUp : s.dev.macUp m j = true)
    (hd : d = ((s.dev.put (Fld.WHF_MAC_STATUS_LINK_UP m j) 0).sat (Fld.WHF_MAC_STATUS_LINK_DOWNS m j)).put (Fld.WHF_MAC_STATUS_PAUSED m j) 0) :
    exec (.macLinkDown m j) s = s.done (((d.setWhf m { d.whf m with
      pausedAt := tdrop (fun k => decide (k / 8 = j)) (d.whf m).pausedAt }).txFlush m j (fun _ => true) 0x0505).syncEth m) := by
  show execMacLinkDown m j s = _
  subst hd
  refine State.dvIf_done (wharfThere_of hm hj (by decide)) ?_
  simp only [Dev.macDown, hmacUp, Bool.not_true, Bool.false_eq_true, ↓reduceIte]

theorem exec_frameTransmit (s : State) (m j len : Nat) (f : TxFrame) (k : TKey) (d d1 : Dev)
    (hm : m < 2) (hj : j < 4) (hmacUp : s.dev.macUp m j = true) (hnextTx : s.dev.nextTx m j = some f) (hsource : f.source = .ticket k len)
    (hb : k.b ≠ 0)
    (hd : d = { s.dev with txq := s.dev.txq.erase f }.setWhf m { s.dev.whf m with
      lastSource := tput (fun _ => 0) (s.dev.whf m).lastSource (8 * j + f.prio) 3 })
    (hd1 : d1 = ((d.emit .frame [4 * m + j] f.data).sat (Fld.WHF_MAC_FRAMES_TX_FRAMES m j)).wrap (Fld.CNT_NET_TX_BYTES k.b) f.data.length) :
    exec (.frameTransmit m j) s = s.done ((d1.workOff k).finishKey k 0 0 len) := by
  show execFrameTransmit m j s = _
  exact State.dvIf_done (wharfThere_of hm hj (by decide)) (Dev.transmit_ticket hmacUp hnextTx hsource hb hd hd1)

theorem exec_pfcXoffRefresh (s : State) (m p : Nat)
    (hm : m < 2) (hp : p < 8) (hxoffKib : s.dev.get (Fld.WHF_RXPOOL_XOFF_KIB m) * 1024 < s.dev.poolHeld m p) :
    exec (.pfcXoffRefresh m p) s = s.done (s.dev.sendPfc m p 1) := by
  show execPfcXoffRefresh m p s = _
  exact State.dvIf_done (wharfThere_of hm (by decide) hp) (if_pos hxoffKib)

theorem exec_pfcPauseReceived (s : State) (m j p : Nat)
    (hm : m < 2) (hj : j < 4) (hp : p < 8) (hmacUp : s.dev.macUp m j = true)
    (hpfcEn : s.dev.on (macBit (Fld.WHF_MAC_CTRL_PFC_EN m j) p) = true) :
    exec (.pfcPauseReceived m j p true) s = s.done (s.dev.pauseEnds m j p)
      ∧ (∀ (w : WharfS), s.dev.on (macBit (Fld.WHF_MAC_STATUS_STORM m j) p) = false →
        tget (fun _ => 0) (s.dev.whf m).pausedAt (8 * j + p) = 0 →
        w = { s.dev.whf m with
          lastPause := tput (fun _ => 0) (s.dev.whf m).lastPause (8 * j + p) (s.dev.tide + 1),
          pausedAt := tput (fun _ => 0) (s.dev.whf m).pausedAt (8 * j + p) (s.dev.tide + 1) } →
        exec (.pfcPauseReceived m j p false) s = s.done ((s.dev.setWhf m w).put (macBit (Fld.WHF_MAC_STATUS_PAUSED m j) p) 1)) := by
  obtain ⟨hresume, hpause⟩ := Dev.pauseReceived_taken (p := p) hmacUp hpfcEn
  refine ⟨?_, fun w hstorm hfresh hw => ?_⟩
  · show execPfcPauseReceived m j p true s = _
    exact State.dvIf_done (wharfThere_of hm hj hp) hresume
  · show execPfcPauseReceived m j p false s = _
    exact State.dvIf_done (wharfThere_of hm hj hp) (hpause w hstorm hfresh hw)

theorem exec_macPauseQuantaExpiry (s : State) (m j p : Nat)
    (hm : m < 2) (hj : j < 4) (hp : p < 8) :
    exec (.macPauseQuantaExpiry m j p) s = s.done ((s.dev.put (macBit (Fld.WHF_MAC_STATUS_PAUSED m j) p) 0).setWhf m { s.dev.whf m with
      pausedAt := tput (fun _ => 0) (s.dev.whf m).pausedAt (8 * j + p) 0 }) := by
  show execMacPauseQuantaExpiry m j p s = _
  exact State.dvIf_done (wharfThere_of hm hj hp) rfl

theorem exec_pfcWatchdogExpiry (s : State) (m j p t : Nat) (d : Dev)
    (hm : m < 2) (hj : j < 4) (hp : p < 8) (ht : t = tget (fun _ => 0) (s.dev.whf m).pausedAt (8 * j + p)) (hsince : t ≠ 0)
    (hstatusPaused : s.dev.on (macBit (Fld.WHF_MAC_STATUS_PAUSED m j) p) = true)
    (hd : d = (s.dev.at (t - 1 + s.dev.get (Fld.WHF_MAC_CTRL_PFC_WD_MS m j) * 1000000)).pauseEnds m j p) :
    exec (.pfcWatchdogExpiry m j p) s = s.done ((((d.put (macBit (Fld.WHF_MAC_STATUS_STORM m j) p) 1).put
      (macBit (Fld.WHF_MAC_STATUS_STORM_SEEN m j) p) 1).txFlush m j (fun f => decide (f.prio = p)) 0x0506).classified 0x0611 (4 * m + j) 0xFF p) := by
  show execPfcWatchdogExpiry m j p s = _
  exact State.dvIf_done (wharfThere_of hm hj hp) (Dev.pauseStorm_declared ht hsince hstatusPaused hd)

theorem exec_pfcWatchdogEnd (s : State) (m j p t : Nat)
    (hm : m < 2) (hj : j < 4) (hp : p < 8) (ht : t = tget (fun _ => 0) (s.dev.whf m).lastPause (8 * j + p))
    (hstatusStorm : s.dev.on (macBit (Fld.WHF_MAC_STATUS_STORM m j) p) = true) :
    exec (.pfcWatchdogEnd m j p) s
      = s.done ((s.dev.at (t - 1 + s.dev.get (Fld.WHF_MAC_CTRL_PFC_WD_MS m j) * 1000000)).put (macBit (Fld.WHF_MAC_STATUS_STORM m j) p) 0) := by
  show execPfcWatchdogEnd m j p s = _
  subst ht
  refine State.dvIf_done (wharfThere_of hm hj hp) ?_
  simp only [Dev.stormEnds, hstatusStorm, Bool.not_true, Bool.false_eq_true, ↓reduceIte]

theorem exec_whfPortCtrlWrite (s : State) (m : Nat) (v : Word) (d d1 : Dev)
    (hm : m < 2) (hd : d = s.dev.writeReg (Reg.WHF_PORT_CTRL m) v 8 0) (hportEn : s.dev.on (Fld.WHF_PORT_CTRL_PORT_EN m) = true)
    (hctrlMode : d.get (Fld.WHF_PORT_CTRL_MODE m) ≠ s.dev.get (Fld.WHF_PORT_CTRL_MODE m))
    (hd1 : d1 = (d.put (Fld.WHF_PORT_CTRL_MODE m) (s.dev.get (Fld.WHF_PORT_CTRL_MODE m))).put (Fld.WHF_PORT_CTRL_MODE_REFUSED m) 1)
    (hportEn2 : d1.on (Fld.WHF_PORT_CTRL_PORT_EN m) = true) :
    exec (.whfPortCtrlWrite m v) s = s.done (d1.syncPresent m) := by
  show execWhfPortCtrlWrite m v s = _
  exact State.dvIf_done (wharfThere_of hm (by decide) (by decide)) (Dev.whfPortWrite_mode_kept hd hportEn hctrlMode hd1 hportEn2)

theorem exec_frameReceive (s : State) (m j p : Nat) (data : List Byte) (a : Word) (f : FrameS) (d : Dev)
    (hm : m < 2) (hj : j < 4) (hmacUp : s.dev.macUp m j = true) (h60 : 60 ≤ data.length)
    (hmaxFrame : data.length + 4 ≤ s.dev.get (Fld.WHF_MAC_CTRL_MAX_FRAME m j)) (hd : d = s.dev.sat (Fld.WHF_MAC_FRAMES_RX_FRAMES m j))
    (hp : p = d.framePrio m j data) (hpoolHeld : d.poolHeld m p + data.length ≤ 2097152)
    (hecnKib : d.poolHeld m p ≤ d.get (Fld.WHF_RXPOOL_ECN_KIB m) * 1024) (hlookup : d.lookup m (frameKey data (4 * m + j)) = (a, false))
    (hf : f = ⟨d.nextFrame, m, j, p, data, d.tide, d.get (Fld.MNF_CTRL_EPOCH m), frameKey data (4 * m + j), a, 0, []⟩) :
    exec (.frameReceive m j data true true 0) s
      = s.done ((({ d with frames := d.frames ++ [f], nextFrame := d.nextFrame + 1 } : Dev).syncPool m p).runAction f false) := by
  show execFrameReceive m j data true true 0 s = _
  exact State.dv_done (Dev.frameReceive_taken hm hj hmacUp h60 hmaxFrame hd hp hpoolHeld hecnKib hlookup hf)

theorem exec_frameReceive_damaged (s : State) (m j : Nat) (data : List Byte) (fcs : Bool) (target : Nat)
    (hm : m < 2) (hj : j < 4) (hmacUp : s.dev.macUp m j = true) :
    exec (.frameReceive m j data fcs false target) s = s.done (s.dev.sat (Fld.WHF_MAC_ERRS_FEC_UNCORR m j))
      ∧ (data.length < 60 → exec (.frameReceive m j data fcs true target) s = s.done (s.dev.sat (Fld.WHF_MAC_ERRS_RUNT m j))) := by
  constructor
  · show execFrameReceive m j data fcs false target s = _
    refine State.dv_done ?_
    simp only [Dev.frameReceive, hm, hj, hmacUp, decide_true, Bool.and_self, Bool.not_true, Bool.not_false, Bool.false_eq_true, ↓reduceIte]
  · intro hshort
    have hrunt : data.length + 4 < 64 := by omega
    show execFrameReceive m j data fcs true target s = _
    refine State.dv_done ?_
    simp only [Dev.frameReceive, hm, hj, hmacUp, hrunt, decide_true, Bool.and_self, Bool.not_true, Bool.false_eq_true, ↓reduceIte]

theorem exec_frameResidenceTimeout (s : State) (n : Nat) (f : FrameS)
    (hframe : s.dev.frames.find? (fun f => f.id = n) = some f) :
    exec (.frameResidenceTimeout n) s
      = s.done (((s.dev.at (f.arrived + 100000)).sat (DropKind.fld f.m .residence)).frameGone f) := by
  show execFrameResidenceTimeout n s = _
  refine State.dv_done ?_
  simp only [hframe, Dev.dropFrame, Dev.countDrop]

theorem exec_framePlace (s : State) (n b : Nat) (f : FrameS) (t : Ticket)
    (hframeAt : s.dev.frameAt n 0 = some f) (hb : b = getBits f.action 8 8) (hb2 : b ≠ 0) (hringStale : s.dev.ringStale f = false) :
    ((s.dev.wrap (Fld.CNT_NET_RX_BYTES b) f.data.length).waitingRx b (getBits f.action 16 6) = some t →
      exec (.framePlace n) s = s.done ((s.dev.wrap (Fld.CNT_NET_RX_BYTES b) f.data.length).fillRx f t))
    ∧ ((s.dev.wrap (Fld.CNT_NET_RX_BYTES b) f.data.length).waitingRx b (getBits f.action 16 6) = none →
      exec (.framePlace n) s = s.done ((s.dev.wrap (Fld.CNT_NET_RX_BYTES b) f.data.length).dropFrame f .noRxBuffer)) := by
  have hplace : execFramePlace n s = s.done (s.dev.placeFrame f) := State.dv_done (by simp only [hframeAt])
  obtain ⟨hfill, hdrop⟩ := Dev.placeFrame_berth hb hb2 hringStale
  refine ⟨fun ht => ?_, fun ht => ?_⟩
  · exact hplace.trans (congrArg s.done (hfill t ht))
  · exact hplace.trans (congrArg s.done (hdrop ht))

theorem exec_deckhandRun (s : State) (m slot : Nat) (f : FrameS) (img img1 : DhImage) (a : Word)
    (hm : m < 2) (hdeckHead : s.dev.deckHead m = some (f, slot, img))
    (hdeckRun : deckRun s.dev f (deckFuel img.budget) ⟨img, [], { RakerS.init with pc := img.entry }⟩ = (.verdict a, img1))
    (hbits : getBits a 0 4 < 4) :
    exec (.deckhandRun m) s
      = s.done (((s.dev.tick.sat (Fld.MNF_DH_RUNS m slot)).keepImage f slot img1).runAction { f with action := a } true) := by
  show execDeckhandRun m s = _
  exact State.dvIf_done (wharfThere_of hm (by decide) (by decide)) (Dev.deckhandRun_verdict hdeckHead hdeckRun hbits)

theorem exec_deckhandBudgetExpiry (s : State) (m slot : Nat) (f : FrameS) (img : DhImage)
    (hm : m < 2) (hdeckHead : s.dev.deckHead m = some (f, slot, img)) :
    exec (.deckhandBudgetExpiry m) s
      = s.done (((s.dev.sat (Fld.MNF_DH_RUNS m slot)).sat (Fld.MNF_DH_FAILS f.m slot)).dropFrame f .dhFail) := by
  show execDeckhandBudgetExpiry m s = _
  refine State.dvIf_done (wharfThere_of hm (by decide) (by decide)) ?_
  simp only [Dev.deckhandBudget, hdeckHead, Dev.deckFailed]

theorem exec_frameTx (s : State) (b r slot n m j key : Nat) (t t1 : Ticket) (d : Dev)
    (hReady : s.dev.Ready b r slot 2 0x10 t) (hbodyZero : bodyZero t.words [(2, 2 ^ 32 - 1), (3, 2 ^ 41 - 1), (4, 2 ^ 17 - 1)] = true)
    (hright : t.right 6 1 ≠ 0) (hn : n = Machine.wf t.words 4 0 14) (hj : j = Machine.wf t.words 4 14 2)
    (hm : m = Machine.wf t.words 4 16 1) (hkey : key = Machine.wf t.words 2 0 32) (h60 : 60 ≤ n)
    (hmaxFrame : n ≤ (s.dev.begin t).get (Fld.WHF_MAC_CTRL_MAX_FRAME m j) - 4) (hbegin : (s.dev.begin t).macThere m j = true)
    (hbegin2 : (s.dev.begin t).gatherPieces (.loc t.key.b) t.begun key 5 m ((s.dev.begin t).keyedPieces key (Machine.wf t.words 3 0 41) n) 0 = (.ok (), d, t1))
    (hleft : t1.left = 0) (hbad : t1.bad = false) (hwords : t1.words = t.words) (hkey2 : t1.key = t.key) (hkey3 : t.key.b = 0) :
    exec (.frameTx b r slot) s = s.done ((((d.rateGate 0 0 n (t1.ceiling 0)).setTicket { t1 with left := 0 }).workOn t.key).offer
      ⟨m, j, ((d.rateGate 0 0 n (t1.ceiling 0)).setTicket { t1 with left := 0 }).framePrio m j (t1.bytesAt 0 n), .ticket t.key n, t1.bytesAt 0 n⟩) := by
  show execFrameTx b r slot s = _
  have hqueue := Dev.frameTxQueue_berth0 (d := d) (hwords ▸ hn) (hwords ▸ hj) (hwords ▸ hm) hbad hkey2 hkey3
  exact State.serve_done hReady
    ((Dev.frameTxStart_gathered (t := t.begun) hbodyZero hright hn hj hm hkey h60 hmaxFrame hbegin hbegin2 hleft).trans hqueue)

theorem exec_frameRx (s : State) (b r slot : Nat) (t : Ticket)
    (hReady : s.dev.Ready b r slot 2 0x11 t) (hbodyZero : bodyZero t.words [(2, 2 ^ 32 - 1), (3, 2 ^ 41 - 1), (4, 2 ^ 14 - 1)] = true)
    (hright : t.right 6 1 ≠ 0) (h64 : 64 ≤ Machine.wf t.words 4 0 14) (hbits : Machine.wf t.words 4 0 14 ≤ 9216) :
    exec (.frameRx b r slot) s = s.done (s.dev.begin t) := by
  show execFrameRx b r slot s = _
  exact State.serve_done hReady (Dev.frameRxStart_waits (t := t.begun) hbodyZero hright h64 hbits)

/-- Settles O45: each event and ticket is its function of the MAC, the pool or the frame. -/
theorem macsPauseAndFrames : Obligations.MacsPauseAndFrames := by
  unfold Obligations.MacsPauseAndFrames
  exact ⟨exec_macLinkUp, exec_macLinkDown, exec_frameTransmit, exec_pfcXoffRefresh, exec_pfcPauseReceived, exec_macPauseQuantaExpiry,
    exec_pfcWatchdogExpiry, exec_pfcWatchdogEnd, exec_whfPortCtrlWrite, exec_frameReceive, exec_frameReceive_damaged,
    exec_frameResidenceTimeout, exec_framePlace, exec_deckhandRun, exec_deckhandBudgetExpiry, exec_frameTx, exec_frameRx⟩

end Sys2Proof.Machine
end

section
/-! PROOFS. The life of a crossing (spec section 11) -/

namespace Sys2Proof.Machine

/-- A management ticket of a crossing's owner, in a state it names, does its work. -/
theorem Dev.xctManage_passes {d : Dev} {t : Ticket} {x : Nat} {right : Bool} {states : List Nat} (hsome : d.xst x ≠ 0)
    (howner : d.xowner x = t.key.b) (hright : right = false ∨ t.right 7 1 ≠ 0) (hstate : states.contains (d.xst x) = true) (detail : Nat)
    (f : Dev → Dev) : d.xctManage t x right states detail f = f d := by
  have hgate : (right && decide (t.right 7 1 = 0)) = false := by
    rcases hright with h | h
    · rw [h, Bool.false_and]
    · rw [decide_eq_false h, Bool.and_false]
  simp only [Dev.xctManage, hsome, howner, hgate, hstate, ne_eq, not_true_eq_false, Bool.not_true, Bool.false_eq_true, ↓reduceIte]

/-- OPEN takes the index the search gives where every check and quota admits it. -/
theorem Dev.xctOpen_takes {d d1 : Dev} {t : Ticket} {x : Nat} (hzero : bodyZero t.words [] = true) (hnode : d.on Fld.IDENT_NODE_NODE_VALID = true)
    (hen : d.on Fld.XCT_CTRL_ENABLE = true) (hright : t.right 7 1 ≠ 0)
    (hquota : t.key.b = 0 ∨ d.get (Fld.USAGE_CROSSINGS_USED t.key.b) + 1 ≤ getBits (t.planWord 0x10) 32 17)
    (hroom : d.get Fld.XCT_USED_ALLOCATED < 65536) (hpick : d.xctPick 65536 d.xctLast = some x)
    (hd1 : d1 = ({ d with xctLast := x + 1 }.setReg (Reg.XCT_XING x) (packW [(0, 3, 1), (8, 8, t.key.b)])).setReg (Reg.XCT_XING_CC x) 0) :
    d.xctOpen t = ((d1.setXg x Xing.init).xctCount t.key.b true).finish t 0 0 x := by
  have hfits : (decide (t.key.b ≠ 0) && decide (getBits (t.planWord 0x10) 32 17 < d.get (Fld.USAGE_CROSSINGS_USED t.key.b) + 1)) = false := by
    rcases hquota with h | h
    · simp only [h, ne_eq, not_true_eq_false, decide_false, Bool.false_and]
    · simp only [not_lt.mpr h, decide_false, Bool.and_false]
  subst hd1
  simp only [Dev.xctOpen, hzero, hnode, hen, hright, hfits, not_le.mpr hroom, hpick, Bool.not_true, Bool.or_self, Bool.false_eq_true, ↓reduceIte]

/-- BIND's record, gathered whole and good, makes the crossing READY. -/
theorem Dev.xctBindGo_good {d d1 d2 : Dev} {t : Ticket} {x ip r0 : Nat} {ws : List Word} {mac : Word} {g : Xing} (hx : x = Machine.wf t.words 2 0 16)
    (hbad : t.bad = false) (hright : t.right 7 1 ≠ 0) (hstate : d.xst x = 1) (howner : d.xowner x = t.key.b) (hws : ws = toWords 8 (t.bytesAt 0 64))
    (hrecord : d.recordBad x ws = false) (hmac : d.srcMacAt t.key.b (Machine.wf ws 0 32 3) = some mac)
    (hip : d.srcIpAt t.key.b (Machine.wf ws 0 35 3) = some ip) (hmapped : Machine.wf ws 0 29 1 ≠ 0 ∨ isMapped ip = true)
    (hg : g = { Xing.init with
      record := ws, srcMac := mac, srcIp := ip, slot0 := (d.xg x).slot0, slot1 := (d.xg x).slot1,
      pktMax := if d.get (Fld.WHF_MAC_CTRL_MAX_FRAME (Machine.wf ws 0 38 1) (Machine.wf ws 0 39 2)) = 9216 then 8192 else 4096,
      nextPsn := Machine.wf ws 5 0 32, lastAck := Machine.wf ws 5 0 32, exp := Machine.wf ws 5 32 32,
      lastFlush := subMod (Machine.wf ws 5 32 32) 1 32, depart := d.tide * 1000, incAt := d.tide })
    (hd1 : d1 = (((d.setXg x g).put (Fld.XCT_XING_SEALED x) (Machine.wf ws 0 28 1)).put (Fld.XCT_XING_REMOTE_NODE x) (Machine.wf ws 0 0 12)).put
      (Fld.XCT_XING_REMOTE_XING x) (Machine.wf ws 0 12 16))
    (hr0 : r0 = (if Machine.wf ws 6 16 16 = 0 then d1.get Fld.XCT_CC_R_INIT else Machine.wf ws 6 16 16))
    (hd2 : d2 = (d1.setRate x r0).xingState x 2 0 0) : d.xctBindGo t = d2.finish t 0 0 0 := by
  have hplain : (decide (Machine.wf ws 0 29 1 = 0) && !isMapped ip) = false := by
    rcases hmapped with h | h <;> simp [h]
  subst hd2 hr0 hd1 hg hws hx
  simp only [Dev.xctBindGo]
  refine (Dev.xctManage_passes (states := [1]) (by omega) howner (Or.inr hright) (by rw [hstate]; rfl) _ _).trans ?_
  simp only [hbad, hrecord, hmac, hip, hplain, Bool.false_eq_true, ↓reduceIte]

/-- BIND whose record is gathered at once goes on to the record. -/
theorem Dev.xctBind_gathered {e d : Dev} {t t1 : Ticket} {x key : Nat} (hx : x = Machine.wf t.words 2 0 16) (hkey : key = Machine.wf t.words 3 0 32)
    (hzero : bodyZero t.words [(2, 2 ^ 16 - 1), (3, 2 ^ 32 - 1), (4, 2 ^ 41 - 1)] = true) (hstate : e.xst x = 1) (howner : e.xowner x = t.key.b)
    (hright : t.right 7 1 ≠ 0)
    (hgather : e.gatherPieces (.loc t.key.b) t key 5 0 (e.keyedPieces key (Machine.wf t.words 4 0 41) 64) 0 = (.ok (), d, t1))
    (hleft : t1.left = 0) : e.xctBind t = d.xctBindGo t1 := by
  subst hx hkey
  simp only [Dev.xctBind, hzero, Bool.not_true, Bool.false_eq_true, ↓reduceIte]
  refine (Dev.xctManage_passes (by omega) howner (Or.inr hright) (by rw [hstate]; rfl) _ _).trans ?_
  simp only [hgather, hleft, lt_self_iff_false, ↓reduceIte]

/-- KEY fills slot 0 of a crossing that holds no key. -/
theorem Dev.xctKey_first {d : Dev} {t : Ticket} {x : Nat} {k : List Byte} (hx : x = Machine.wf t.words 2 0 16)
    (hzero : bodyZero t.words [(2, 2 ^ 24 - 1), (3, 2 ^ 24 - 1), (4, 2 ^ 64 - 1)] = true) (hstate : d.xst x = 1 ∨ d.xst x = 2)
    (howner : d.xowner x = t.key.b) (hright : t.right 7 1 ≠ 0) (h0 : (d.xg x).slot0 = none) (h1 : (d.xg x).slot1 = none)
    (hkey : d.crossingKey t.key.b (Machine.wf t.words 3 0 24) = some k) (hsalts : Machine.wf t.words 4 0 32 ≠ Machine.wf t.words 4 32 32) :
    d.xctKey t = (((d.setXg x { d.xg x with
      slot0 := some ⟨k, Machine.wf t.words 2 16 8, Machine.wf t.words 4 0 32, Machine.wf t.words 4 32 32, 0, 0⟩ }).put
      (Fld.XCT_XING_TX_SLOT x) 0).syncSlots x).finish t 0 0 0 := by
  subst hx
  simp only [Dev.xctKey, hzero, Bool.not_true, Bool.false_eq_true, ↓reduceIte]
  refine (Dev.xctManage_passes (by omega) howner (Or.inr hright) (by rcases hstate with h | h <;> rw [h] <;> rfl) _ _).trans ?_
  simp [hkey, h0, h1, hsalts, Xing.slot, Xing.setSlot]

/-- SWITCH sends under the key of the other slot. -/
theorem Dev.xctSwitch_other {d : Dev} {t : Ticket} {x i : Nat} {k : XKey} (hx : x = Machine.wf t.words 2 0 16)
    (hzero : bodyZero t.words [(2, 2 ^ 16 - 1)] = true) (hstate : d.xst x = 2 ∨ d.xst x = 3) (howner : d.xowner x = t.key.b)
    (hright : t.right 7 1 ≠ 0) (hi : i = 1 - d.get (Fld.XCT_XING_TX_SLOT x)) (hslot : (d.xg x).slot i = some k) :
    d.xctSwitch t = ((d.put (Fld.XCT_XING_TX_SLOT x) i).syncSlots x).finish t 0 0 k.epoch := by
  subst hx hi
  simp only [Dev.xctSwitch, hzero, Bool.not_true, Bool.false_eq_true, ↓reduceIte]
  refine (Dev.xctManage_passes (by omega) howner (Or.inr hright) (by rcases hstate with h | h <;> rw [h] <;> rfl) _ _).trans ?_
  simp only [hslot]

/-- RETIRE of the epoch in the other slot empties it and waits. -/
theorem Dev.xctRetire_empties {d : Dev} {t : Ticket} {x i : Nat} {k : XKey} (hx : x = Machine.wf t.words 2 0 16)
    (hzero : bodyZero t.words [(2, 2 ^ 24 - 1)] = true) (hstate : d.xst x = 2 ∨ d.xst x = 3) (howner : d.xowner x = t.key.b)
    (hright : t.right 7 1 ≠ 0) (hi : i = 1 - d.get (Fld.XCT_XING_TX_SLOT x)) (hslot : (d.xg x).slot i = some k)
    (hepoch : k.epoch = Machine.wf t.words 2 16 8) :
    d.xctRetire t = (d.setXg x { (d.xg x).setSlot i none with retireTk := some t.key }).syncSlots x := by
  subst hx hi
  simp only [Dev.xctRetire, hzero, Bool.not_true, Bool.false_eq_true, ↓reduceIte]
  refine (Dev.xctManage_passes (by omega) howner (Or.inr hright) (by rcases hstate with h | h <;> rw [h] <;> rfl) _ _).trans ?_
  simp only [hslot, hepoch, ne_eq, not_true_eq_false, ↓reduceIte]

/-- CLOSE drains a READY crossing; with ABANDON it ends what is left and sends CLOSING at once. -/
theorem Dev.xctClose_drains {d d1 : Dev} {t : Ticket} {x : Nat} (hx : x = Machine.wf t.words 2 0 16)
    (hzero : bodyZero t.words [(2, 2 ^ 17 - 1)] = true) (hstate : d.xst x = 2) (howner : d.xowner x = t.key.b) (hright : t.right 7 1 ≠ 0)
    (hd1 : d1 = (d.setXg x { d.xg x with closeTk := some t.key }).xingState x 3 0 0) :
    d.xctClose t = if Machine.wf t.words 2 16 1 = 1 then ((d1.xctOps x).foldl (fun d u => d.fail u 2 0) d1).xctClosing x 1 1 false else d1 := by
  subst hx hd1
  simp only [Dev.xctClose, hzero, Bool.not_true, Bool.false_eq_true, ↓reduceIte]
  exact Dev.xctManage_passes (by omega) howner (Or.inr hright) (by rw [hstate]; rfl) _ _

/-- No copy of CLOSING is left to send. -/
theorem Dev.nextCopy_none {d : Dev} {x : Nat} (h : (d.xg x).copies = 0) : d.nextCopy x = d := by
  simp only [Dev.nextCopy, h, ↓reduceIte]

/-- RELEASE of an unbound or closed crossing frees it. -/
theorem Dev.xctRelease_frees {d : Dev} {t : Ticket} {x : Nat} (hx : x = Machine.wf t.words 2 0 16)
    (hzero : bodyZero t.words [(2, 2 ^ 16 - 1)] = true) (hstate : d.xst x = 1 ∨ d.xst x = 4) (howner : d.xowner x = t.key.b)
    (hright : t.right 7 1 ≠ 0) (hcopies : (d.xg x).copies = 0) : d.xctRelease t = (d.xctFree x).finish t 0 0 0 := by
  have hsome : d.xst x ≠ 0 := by omega
  subst hx
  simp only [Dev.xctRelease, hzero, Bool.not_true, Bool.false_eq_true, ↓reduceIte]
  refine (Dev.xctManage_passes hsome howner (Or.inr hright) (by rcases hstate with h | h <;> rw [h] <;> rfl) _ _).trans ?_
  simp only [Dev.nextCopy_none hcopies, hsome, ↓reduceIte]

/-- QUERY of an allocated crossing of its owner shows word 0. -/
theorem Dev.xctQuery_shows {d : Dev} {t : Ticket} {x : Nat} (hx : x = Machine.wf t.words 2 0 16)
    (hzero : bodyZero t.words [(2, 2 ^ 16 - 1)] = true) (hlow : 1 ≤ d.xst x) (hhigh : d.xst x ≤ 4) (howner : d.xowner x = t.key.b) :
    d.xctQuery t = d.finish t 0 0 (d.reg (Reg.XCT_XING x)).toNat := by
  have hstate : [1, 2, 3, 4].contains (d.xst x) = true := by
    simp only [List.contains_cons, List.contains_nil, Bool.or_false, Bool.or_eq_true, beq_iff_eq]
    omega
  subst hx
  simp only [Dev.xctQuery, hzero, Bool.not_true, Bool.false_eq_true, ↓reduceIte]
  exact Dev.xctManage_passes (by omega) howner (Or.inl rfl) hstate _ _

/-- A copy of CLOSING that is not the last leaves, and the next is due 10 us later. -/
theorem Dev.nextCopy_more {e d : Dev} {x : Nat} {g : Xing} (hg : g = e.xg x) (hmore : 1 < g.copies)
    (hd : d = (e.at g.copyAt).closingCopy x g.reason) :
    e.nextCopy x = d.setXg x { d.xg x with copies := g.copies - 1, copyAt := g.copyAt + 10000 } := by
  have h0 : g.copies ≠ 0 := by omega
  subst hd
  simp only [Dev.nextCopy, ← hg, h0, hmore.ne', ↓reduceIte]

/-- With no crossing allocated XCT_CTRL is written; with one allocated UDP_PORT is locked. -/
theorem Dev.xctCtrlWrite_locked (d : Dev) (v : Word) :
    (d.on Fld.XCT_USED_ALLOCATED = false → d.xctCtrlWrite v 8 0 = d.writeReg Reg.XCT_CTRL v 8 0) ∧
      (d.on Fld.XCT_USED_ALLOCATED = true → d.get Fld.XCT_CTRL_UDP_PORT ≠ (d.writeReg Reg.XCT_CTRL v 8 0).get Fld.XCT_CTRL_UDP_PORT →
        d.xctCtrlWrite v 8 0 = d.put Fld.XCT_CTRL_CTRL_REFUSED 1) := by
  constructor
  · intro hnone
    simp only [Dev.xctCtrlWrite, hnone, Bool.and_false, Bool.false_eq_true, ↓reduceIte]
  · intro hused hport
    simp only [Dev.xctCtrlWrite, hused, ne_eq, hport, not_false_eq_true, decide_true, Bool.true_or, Bool.and_self, ↓reduceIte]

theorem exec_xctOpen (s : State) (b r slot x : Nat) (t : Ticket) (d d1 : Dev)
    (hReady : s.dev.Ready b r slot 3 1 t) (hd : d = s.dev.begin t) (hbodyZero : bodyZero t.words [] = true)
    (hnodeValid : d.on Fld.IDENT_NODE_NODE_VALID = true) (hctrlEnable : d.on Fld.XCT_CTRL_ENABLE = true) (hright : t.right 7 1 ≠ 0)
    (hcrossingsUsed : (t.key.b = 0 ∨ d.get (Fld.USAGE_CROSSINGS_USED t.key.b) + 1 ≤ getBits (t.planWord 0x10) 32 17))
    (husedAllocated : d.get Fld.XCT_USED_ALLOCATED < 65536) (hxctPick : d.xctPick 65536 d.xctLast = some x)
    (hd1 : d1 = ({ d with xctLast := x + 1 }.setReg (Reg.XCT_XING x) (packW [(0, 3, 1), (8, 8, t.key.b)])).setReg (Reg.XCT_XING_CC x) 0) :
    exec (.xctOpen b r slot) s = s.done (((d1.setXg x Xing.init).xctCount t.key.b true).finish t.begun 0 0 x) := by
  show execXctOpen b r slot s = _
  subst hd
  exact State.serve_done hReady (Dev.xctOpen_takes (t := t.begun) hbodyZero hnodeValid hctrlEnable hright hcrossingsUsed husedAllocated hxctPick hd1)

theorem exec_xctBind (s : State) (b r slot x key ip r0 : Nat) (t t1 : Ticket) (d d1 d2 : Dev) (ws : List Word) (mac : Word) (g : Xing)
    (hReady : s.dev.Ready b r slot 3 2 t) (hx : x = Machine.wf t.words 2 0 16) (hkey : key = Machine.wf t.words 3 0 32)
    (hbodyZero : bodyZero t.words [(2, 2 ^ 16 - 1), (3, 2 ^ 32 - 1), (4, 2 ^ 41 - 1)] = true) (hbegin : (s.dev.begin t).xst x = 1)
    (hbegin2 : (s.dev.begin t).xowner x = t.key.b) (hright : t.right 7 1 ≠ 0)
    (hbegin3 : (s.dev.begin t).gatherPieces (.loc t.key.b) t.begun key 5 0 ((s.dev.begin t).keyedPieces key (Machine.wf t.words 4 0 41) 64) 0 = (.ok (), d, t1))
    (hleft : t1.left = 0) (hbad : t1.bad = false) (hwords : t1.words = t.words) (hkey2 : t1.key = t.key) (hplan : t1.plan = t.plan)
    (hxst : d.xst x = 1) (hxowner : d.xowner x = t.key.b) (hws : ws = toWords 8 (t1.bytesAt 0 64)) (hrecordBad : d.recordBad x ws = false)
    (hsrcMacAt : d.srcMacAt t.key.b (Machine.wf ws 0 32 3) = some mac) (hsrcIpAt : d.srcIpAt t.key.b (Machine.wf ws 0 35 3) = some ip)
    (hmapped : (Machine.wf ws 0 29 1 ≠ 0 ∨ isMapped ip = true))
    (hg : g = { Xing.init with
      record := ws, srcMac := mac, srcIp := ip, slot0 := (d.xg x).slot0, slot1 := (d.xg x).slot1,
      pktMax := if d.get (Fld.WHF_MAC_CTRL_MAX_FRAME (Machine.wf ws 0 38 1) (Machine.wf ws 0 39 2)) = 9216 then 8192 else 4096,
      nextPsn := Machine.wf ws 5 0 32, lastAck := Machine.wf ws 5 0 32, exp := Machine.wf ws 5 32 32,
      lastFlush := subMod (Machine.wf ws 5 32 32) 1 32, depart := d.tide * 1000, incAt := d.tide })
    (hd1 : d1 = (((d.setXg x g).put (Fld.XCT_XING_SEALED x) (Machine.wf ws 0 28 1)).put (Fld.XCT_XING_REMOTE_NODE x) (Machine.wf ws 0 0 12)).put
      (Fld.XCT_XING_REMOTE_XING x) (Machine.wf ws 0 12 16))
    (hr0 : r0 = (if Machine.wf ws 6 16 16 = 0 then d1.get Fld.XCT_CC_R_INIT else Machine.wf ws 6 16 16))
    (hd2 : d2 = (d1.setRate x r0).xingState x 2 0 0) :
    exec (.xctBind b r slot) s = s.done (d2.finish t1 0 0 0) := by
  show execXctBind b r slot s = _
  have hright1 : t1.right 7 1 ≠ 0 := by simpa only [Ticket.right, Ticket.planWord, hkey2, hplan] using hright
  rw [← hkey2] at hxowner hsrcMacAt hsrcIpAt
  exact State.serve_done hReady ((Dev.xctBind_gathered (t := t.begun) hx hkey hbodyZero hbegin hbegin2 hright hbegin3 hleft).trans
    (Dev.xctBindGo_good (hwords ▸ hx) hbad hright1 hxst hxowner hws hrecordBad hsrcMacAt hsrcIpAt hmapped hg hd1 hr0 hd2))

theorem exec_xctKey (s : State) (b r slot x : Nat) (t : Ticket) (d : Dev) (k : List Byte)
    (hReady : s.dev.Ready b r slot 3 3 t) (hd : d = s.dev.begin t) (hx : x = Machine.wf t.words 2 0 16)
    (hbodyZero : bodyZero t.words [(2, 2 ^ 24 - 1), (3, 2 ^ 24 - 1), (4, 2 ^ 64 - 1)] = true) (hxst : (d.xst x = 1 ∨ d.xst x = 2))
    (hxowner : d.xowner x = t.key.b) (hright : t.right 7 1 ≠ 0) (hxg : (d.xg x).slot0 = none) (hxg2 : (d.xg x).slot1 = none)
    (hcrossingKey : d.crossingKey t.key.b (Machine.wf t.words 3 0 24) = some k)
    (hbits : Machine.wf t.words 4 0 32 ≠ Machine.wf t.words 4 32 32) :
    exec (.xctKey b r slot) s = s.done ((((d.setXg x { d.xg x with
      slot0 := some ⟨k, Machine.wf t.words 2 16 8, Machine.wf t.words 4 0 32, Machine.wf t.words 4 32 32, 0, 0⟩ }).put
      (Fld.XCT_XING_TX_SLOT x) 0).syncSlots x).finish t.begun 0 0 0) := by
  show execXctKey b r slot s = _
  subst hd
  exact State.serve_done hReady (Dev.xctKey_first (t := t.begun) hx hbodyZero hxst hxowner hright hxg hxg2 hcrossingKey hbits)

theorem exec_xctSwitch (s : State) (b r slot x i : Nat) (t : Ticket) (d : Dev) (k : XKey)
    (hReady : s.dev.Ready b r slot 3 4 t) (hd : d = s.dev.begin t) (hx : x = Machine.wf t.words 2 0 16)
    (hbodyZero : bodyZero t.words [(2, 2 ^ 16 - 1)] = true) (hxst : (d.xst x = 2 ∨ d.xst x = 3)) (hxowner : d.xowner x = t.key.b)
    (hright : t.right 7 1 ≠ 0) (hi : i = 1 - d.get (Fld.XCT_XING_TX_SLOT x)) (hxg : (d.xg x).slot i = some k) :
    exec (.xctSwitch b r slot) s = s.done (((d.put (Fld.XCT_XING_TX_SLOT x) i).syncSlots x).finish t.begun 0 0 k.epoch) := by
  show execXctSwitch b r slot s = _
  subst hd
  exact State.serve_done hReady (Dev.xctSwitch_other (t := t.begun) hx hbodyZero hxst hxowner hright hi hxg)

theorem exec_xctRetire (s : State) (b r slot x i : Nat) (t : Ticket) (d : Dev) (k : XKey)
    (hReady : s.dev.Ready b r slot 3 5 t) (hd : d = s.dev.begin t) (hx : x = Machine.wf t.words 2 0 16)
    (hbodyZero : bodyZero t.words [(2, 2 ^ 24 - 1)] = true) (hxst : (d.xst x = 2 ∨ d.xst x = 3)) (hxowner : d.xowner x = t.key.b)
    (hright : t.right 7 1 ≠ 0) (hi : i = 1 - d.get (Fld.XCT_XING_TX_SLOT x)) (hxg : (d.xg x).slot i = some k)
    (hepoch : k.epoch = Machine.wf t.words 2 16 8) :
    exec (.xctRetire b r slot) s = s.done ((d.setXg x { (d.xg x).setSlot i none with retireTk := some t.key }).syncSlots x) := by
  show execXctRetire b r slot s = _
  subst hd
  exact State.serve_done hReady (Dev.xctRetire_empties (t := t.begun) hx hbodyZero hxst hxowner hright hi hxg hepoch)

theorem exec_retireQuiesced (s : State) (x : Nat) (k : TKey)
    (hx : x < 65536) (hxg : (s.dev.xg x).retireTk = some k) (hxctStill : s.dev.xctStill x = true) :
    exec (.retireQuiesced x) s = s.done ((s.dev.setXg x { s.dev.xg x with retireTk := none }).finishKey k 0 0 0) := by
  show execRetireQuiesced x s = _
  refine State.dvIf_done (decide_eq_true hx) ?_
  simp only [Dev.retireDone, hxg, hxctStill, ↓reduceIte]

theorem exec_xctClose (s : State) (b r slot x : Nat) (t : Ticket) (d d1 : Dev)
    (hReady : s.dev.Ready b r slot 3 6 t) (hd : d = s.dev.begin t) (hx : x = Machine.wf t.words 2 0 16)
    (hbodyZero : bodyZero t.words [(2, 2 ^ 17 - 1)] = true) (hxst : d.xst x = 2) (hxowner : d.xowner x = t.key.b) (hright : t.right 7 1 ≠ 0)
    (hd1 : d1 = (d.setXg x { d.xg x with closeTk := some t.key }).xingState x 3 0 0) :
    (Machine.wf t.words 2 16 1 = 0 → exec (.xctClose b r slot) s = s.done d1)
    ∧ (Machine.wf t.words 2 16 1 = 1 →
      exec (.xctClose b r slot) s = s.done (((d1.xctOps x).foldl (fun d u => d.fail u 2 0) d1).xctClosing x 1 1 false)) := by
  subst hd
  have hclose := State.serve_done hReady (Dev.xctClose_drains (t := t.begun) hx hbodyZero hxst hxowner hright hd1)
  refine ⟨fun h => ?_, fun h => ?_⟩
  · exact hclose.trans (congrArg s.done (if_neg (by rw [Ticket.begun_words, h]; decide)))
  · exact hclose.trans (congrArg s.done (if_pos h))

theorem exec_closeDrained (s : State) (x : Nat)
    (hx : x < 65536) (hxst : s.dev.xst x = 3) (hxctOps : s.dev.xctOps x = []) :
    exec (.closeDrained x) s = s.done (s.dev.xctClosing x 1 1 false) := by
  show execCloseDrained x s = _
  refine State.dvIf_done (decide_eq_true hx) ?_
  simp only [Dev.closeDrained, hxst, hxctOps, List.isEmpty_nil, decide_true, Bool.and_self, ↓reduceIte]

theorem exec_xctRelease (s : State) (b r slot x : Nat) (t : Ticket) (d : Dev)
    (hReady : s.dev.Ready b r slot 3 7 t) (hd : d = s.dev.begin t) (hx : x = Machine.wf t.words 2 0 16)
    (hbodyZero : bodyZero t.words [(2, 2 ^ 16 - 1)] = true) (hxst : (d.xst x = 1 ∨ d.xst x = 4)) (hxowner : d.xowner x = t.key.b)
    (hright : t.right 7 1 ≠ 0) (hxg : (d.xg x).copies = 0) :
    exec (.xctRelease b r slot) s = s.done ((d.xctFree x).finish t.begun 0 0 0) := by
  show execXctRelease b r slot s = _
  subst hd
  exact State.serve_done hReady (Dev.xctRelease_frees (t := t.begun) hx hbodyZero hxst hxowner hright hxg)

theorem exec_xctQuery (s : State) (b r slot x : Nat) (t : Ticket) (d : Dev)
    (hReady : s.dev.Ready b r slot 3 8 t) (hd : d = s.dev.begin t) (hx : x = Machine.wf t.words 2 0 16)
    (hbodyZero : bodyZero t.words [(2, 2 ^ 16 - 1)] = true) (h1 : 1 ≤ d.xst x) (hxst : d.xst x ≤ 4) (hxowner : d.xowner x = t.key.b) :
    exec (.xctQuery b r slot) s = s.done (d.finish t.begun 0 0 (d.reg (Reg.XCT_XING x)).toNat) := by
  show execXctQuery b r slot s = _
  subst hd
  exact State.serve_done hReady (Dev.xctQuery_shows (t := t.begun) hx hbodyZero h1 hxst hxowner)

theorem exec_closingCopyTimer (s : State) (x : Nat) (g : Xing) (d : Dev)
    (hx : x < 65536) (hg : g = s.dev.xg x) (h1 : 1 < g.copies) (hd : d = (s.dev.at g.copyAt).closingCopy x g.reason) :
    exec (.closingCopyTimer x) s = s.done (d.setXg x { d.xg x with copies := g.copies - 1, copyAt := g.copyAt + 10000 }) := by
  show execClosingCopyTimer x s = _
  exact State.dvIf_done (decide_eq_true hx) (Dev.nextCopy_more hg h1 hd)

theorem exec_rateIncreaseTimer (s : State) (x t : Nat) (d : Dev)
    (hx : x < 65536) (hxst : (s.dev.xst x = 2 ∨ s.dev.xst x = 3)) (ht : t = (s.dev.xg x).incAt + 1000 * s.dev.get Fld.XCT_CC_AI_US)
    (hd : d = s.dev.at t) :
    exec (.rateIncreaseTimer x) s
      = s.done ((d.setXg x { d.xg x with incAt := t }).setRate x (d.get (Fld.XCT_XING_CC_RATE x) + d.get Fld.XCT_CC_AI)) := by
  show execRateIncreaseTimer x s = _
  have hopen : (decide (s.dev.xst x = 2) || decide (s.dev.xst x = 3)) = true := by
    simpa only [Bool.or_eq_true, decide_eq_true_eq] using hxst
  subst hd ht
  refine State.dvIf_done (decide_eq_true hx) ?_
  simp only [hopen, ↓reduceIte]

theorem exec_xctCtrlWrite (s : State) (v : Word) :
    (s.dev.on Fld.XCT_USED_ALLOCATED = false → exec (.xctCtrlWrite v) s = s.done (s.dev.writeReg Reg.XCT_CTRL v 8 0))
    ∧ (s.dev.on Fld.XCT_USED_ALLOCATED = true → s.dev.get Fld.XCT_CTRL_UDP_PORT ≠ (s.dev.writeReg Reg.XCT_CTRL v 8 0).get Fld.XCT_CTRL_UDP_PORT →
      exec (.xctCtrlWrite v) s = s.done (s.dev.put Fld.XCT_CTRL_CTRL_REFUSED 1)) := by
  obtain ⟨hfree, hlocked⟩ := Dev.xctCtrlWrite_locked s.dev v
  refine ⟨fun h => ?_, fun h hport => ?_⟩
  · show execXctCtrlWrite v s = _
    exact State.dv_done (hfree h)
  · show execXctCtrlWrite v s = _
    exact State.dv_done (hlocked h hport)

/-- Settles O47: each ticket and timer is its function of the crossing, once its checks pass. -/
theorem crossingLifecycle : Obligations.CrossingLifecycle := by
  unfold Obligations.CrossingLifecycle
  exact ⟨exec_xctOpen, exec_xctBind, exec_xctKey, exec_xctSwitch, exec_xctRetire, exec_retireQuiesced, exec_xctClose, exec_closeDrained,
    exec_xctRelease, exec_xctQuery, exec_closingCopyTimer, exec_rateIncreaseTimer, exec_xctCtrlWrite⟩

end Sys2Proof.Machine
end

section
/-! PROOFS. Packets of a crossing and storage tickets (spec sections 11, 12, 13) -/

namespace Sys2Proof.Machine

/-- A packet that passes the checks of Table 11.5a counts and is served by its TYPE. -/
theorem Dev.xctTake_served {e d d1 : Dev} {n ty b : Nat} {f : Dev → XRx → Dev} {fr : FrameS} {p : List Byte} {r : XRx} {g : Xing}
    (hframe : e.frameAt n 2 = some fr) (hty : xctType fr.data = some ty) (hd : d = e.frameGone fr) (hen : d.on Fld.XCT_CTRL_ENABLE = true)
    (houter : d.xctOuter fr.data = .ok p) (hinner : d.xctInner fr.data p = .ok (r, g)) (hb : b = d.xowner r.x) (hsome : b ≠ 0)
    (hd1 : d1 = (d.setXg r.x { g with rxCe := if r.ce then (g.rxCe + 1) % 2 ^ 32 else g.rxCe }).wrap (Fld.CNT_NET_RX_BYTES b) fr.data.length) :
    e.xctTake n ty f = f d1 r := by
  subst hd1 hb
  simp only [Dev.xctTake, hframe, hty, ← hd, hen, houter, hinner, hsome, ne_eq, not_true_eq_false, decide_false, Bool.false_and, Bool.not_true,
    Bool.false_eq_true, ↓reduceIte]

/-- A packet that fails a check is counted, and nothing else follows. -/
theorem Dev.xctTake_dropped {e d : Dev} {n ty : Nat} {f : Dev → XRx → Dev} {fr : FrameS} {c : XDrop} {p : List Byte}
    (hframe : e.frameAt n 2 = some fr) (hty : xctType fr.data = some ty) (hd : d = e.frameGone fr) (hen : d.on Fld.XCT_CTRL_ENABLE = true)
    (hbad : d.xctOuter fr.data = .error c ∨ (d.xctOuter fr.data = .ok p ∧ d.xctInner fr.data p = .error c)) :
    e.xctTake n ty f = d.xctDrop c := by
  rcases hbad with houter | ⟨houter, hinner⟩
  · simp only [Dev.xctTake, hframe, hty, ← hd, hen, houter, ne_eq, not_true_eq_false, decide_false, Bool.false_and, Bool.not_true,
      Bool.false_eq_true, ↓reduceIte]
  · simp only [Dev.xctTake, hframe, hty, ← hd, hen, houter, hinner, ne_eq, not_true_eq_false, decide_false, Bool.false_and, Bool.not_true,
      Bool.false_eq_true, ↓reduceIte]

/-- The command of each TYPE of Table 11.5 takes the frame and serves it by that TYPE's function. -/
theorem exec_packet_takes {s : State} {n ty : Nat} {c : Instr} {f : Dev → XRx → Dev}
    (h : (ty, c, f) ∈ [(1, Instr.xctPutPacket n, Dev.xctSequenced), (2, Instr.xctPostPacket n, Dev.xctSequenced),
      (3, Instr.xctGetReqPacket n, Dev.xctSequenced), (4, Instr.xctGetRespPacket n, fun d p => (d.xctGetResp p).ceAck p),
      (5, Instr.xctFaddPacket n, Dev.xctSequenced), (6, Instr.xctCswapPacket n, Dev.xctSequenced),
      (7, Instr.xctAtomicRespPacket n, fun d p => (d.xctResp p [5, 6] (fbe p.ext 0 8)).ceAck p),
      (8, Instr.xctFlushReqPacket n, Dev.xctSequenced), (9, Instr.xctFlushRespPacket n, fun d p => (d.xctResp p [8] 0).ceAck p),
      (0xA, Instr.xctAckPacket n, fun d p => (d.xctAcked p).ceAck p), (0xB, Instr.xctSackPacket n, fun d p => (d.xctAcked p).ceAck p),
      (0xC, Instr.xctNakPacket n, fun d p => (d.xctNaked p).ceAck p),
      (0xD, Instr.xctClosingPacket n, fun d p => d.xingError p.x 2 (fbe p.ext 0 1))]) :
    exec c s = s.dv fun d => d.xctTake n ty f := by
  simp only [List.mem_cons, List.not_mem_nil, or_false, Prod.mk.injEq] at h
  rcases h with ⟨rfl, rfl, rfl⟩ | ⟨rfl, rfl, rfl⟩ | ⟨rfl, rfl, rfl⟩ | ⟨rfl, rfl, rfl⟩ | ⟨rfl, rfl, rfl⟩ | ⟨rfl, rfl, rfl⟩ | ⟨rfl, rfl, rfl⟩ |
    ⟨rfl, rfl, rfl⟩ | ⟨rfl, rfl, rfl⟩ | ⟨rfl, rfl, rfl⟩ | ⟨rfl, rfl, rfl⟩ | ⟨rfl, rfl, rfl⟩ | ⟨rfl, rfl, rfl⟩ <;> rfl

/-- The window passes one packet received in order. -/
theorem slideWindow_one (n e : Nat) : slideWindow (n + 2) e 1 = ((e + 1) % 2 ^ 32, 0) := by
  simp [slideWindow]

/-- A PUT next in order is placed, and E moves past it. -/
theorem Dev.xctSequenced_put {d d1 : Dev} {p : XRx} (hty : p.h.ty = 1) (hnext : p.h.psn = (d.xg p.x).exp) (hrcv : (d.xg p.x).rcv = 0)
    (hd1 : d1 = (d.setXg p.x { d.xg p.x with rcv := 1 }).xctPut p) (hrcv1 : (d1.xg p.x).rcv = 1) (hexp1 : (d1.xg p.x).exp = (d.xg p.x).exp) :
    d.xctSequenced p = ((d1.setXg p.x { d1.xg p.x with exp := ((d.xg p.x).exp + 1) % 2 ^ 32, rcv := 0 }).asmSettle p.x).xctArrived p false := by
  have hslide : slideWindow 1024 (d1.xg p.x).exp (d1.xg p.x).rcv = (((d.xg p.x).exp + 1) % 2 ^ 32, 0) := by
    rw [hrcv1, hexp1]
    exact slideWindow_one 1022 _
  have hbit : bitsOf (d.xg p.x).rcv 0 1 ≠ 1 := by rw [hrcv]; decide
  have hone : (d.xg p.x).rcv + 2 ^ 0 = 1 := by rw [hrcv]; rfl
  have hput : (d.setXg p.x { d.xg p.x with rcv := (d.xg p.x).rcv + 2 ^ 0 }).xctPut p = d1 := by rw [hone, hd1]
  have hgap : (if (d.xg p.x).rcv = 0 then decide (0 < 0) else decide ((d.xg p.x).rcv.log2 + 1 < 0)) = false := by rw [if_pos hrcv]; rfl
  dsimp only at hput
  simp only [Dev.xctSequenced, hnext, subMod_self, Nat.ofNat_pos, hbit, hgap, hty, hput, hslide, ↓reduceIte]

/-- The one fenced request that E has passed leaves the queue, and its operation runs. -/
theorem Dev.fencedRun_one {e d : Dev} {x psn ty : Nat} {ext : List Byte} (hone : (e.xg x).fenced = [(psn, ty, ext)])
    (hpassed : after (e.xg x).exp psn 32 = true) (hatoms : (e.xg x).atoms = []) (hstate : e.xst x = 2 ∨ e.xst x = 3)
    (hd : d = e.setXg x { e.xg x with fenced := [] }) :
    e.fencedRun x = if ty = 3 then d.xctGetRun x psn ext else if ty = 8 then d.xctFlushRun x psn ext else d.xctAtomicRun x psn ty ext := by
  have hruns : (!(e.xg x).atoms.isEmpty || (decide (e.xst x ≠ 2) && decide (e.xst x ≠ 3))) = false := by
    rw [hatoms]
    rcases hstate with h | h <;> rw [h] <;> decide
  subst hd
  simp only [Dev.fencedRun, hone, List.filter_cons, hpassed, List.filter_nil, List.foldl_cons, List.foldl_nil,
    hruns, Bool.false_eq_true, ↓reduceIte, List.erase_cons_head]
  split
  · rfl
  · rfl
  · next h3 h8 => rw [if_neg h3, if_neg h8]

theorem exec_packet_served (s : State) (n ty b : Nat) (c : Instr) (f : Dev → XRx → Dev) (fr : FrameS) (p : List Byte) (r : XRx) (g : Xing) (d d1 : Dev)
    (hrow : (ty, c, f) ∈ [(1, Instr.xctPutPacket n, Dev.xctSequenced), (2, Instr.xctPostPacket n, Dev.xctSequenced),
      (3, Instr.xctGetReqPacket n, Dev.xctSequenced), (4, Instr.xctGetRespPacket n, fun d p => (d.xctGetResp p).ceAck p),
      (5, Instr.xctFaddPacket n, Dev.xctSequenced), (6, Instr.xctCswapPacket n, Dev.xctSequenced),
      (7, Instr.xctAtomicRespPacket n, fun d p => (d.xctResp p [5, 6] (fbe p.ext 0 8)).ceAck p),
      (8, Instr.xctFlushReqPacket n, Dev.xctSequenced), (9, Instr.xctFlushRespPacket n, fun d p => (d.xctResp p [8] 0).ceAck p),
      (0xA, Instr.xctAckPacket n, fun d p => (d.xctAcked p).ceAck p), (0xB, Instr.xctSackPacket n, fun d p => (d.xctAcked p).ceAck p),
      (0xC, Instr.xctNakPacket n, fun d p => (d.xctNaked p).ceAck p),
      (0xD, Instr.xctClosingPacket n, fun d p => d.xingError p.x 2 (fbe p.ext 0 1))])
    (hframeAt : s.dev.frameAt n 2 = some fr) (hxctType : xctType fr.data = some ty) (hd : d = s.dev.frameGone fr)
    (hctrlEnable : d.on Fld.XCT_CTRL_ENABLE = true) (hxctOuter : d.xctOuter fr.data = .ok p) (hxctInner : d.xctInner fr.data p = .ok (r, g))
    (hb : b = d.xowner r.x) (hb2 : b ≠ 0)
    (hd1 : d1 = (d.setXg r.x { g with rxCe := if r.ce then (g.rxCe + 1) % 2 ^ 32 else g.rxCe }).wrap (Fld.CNT_NET_RX_BYTES b) fr.data.length) :
    exec c s = s.done (f d1 r) := by
  exact (exec_packet_takes hrow).trans (State.dv_done (Dev.xctTake_served hframeAt hxctType hd hctrlEnable hxctOuter hxctInner hb hb2 hd1))

theorem exec_packet_dropped (s : State) (n : Nat) (fr : FrameS) (e : XDrop) (p : List Byte) (d : Dev)
    (hframeAt : s.dev.frameAt n 2 = some fr) (hxctType : xctType fr.data = some 1) (hd : d = s.dev.frameGone fr)
    (hctrlEnable : d.on Fld.XCT_CTRL_ENABLE = true)
    (hxctOuter : (d.xctOuter fr.data = .error e ∨ (d.xctOuter fr.data = .ok p ∧ d.xctInner fr.data p = .error e))) :
    exec (.xctPutPacket n) s = s.done (d.xctDrop e) := by
  show execXctPutPacket n s = _
  exact State.dv_done (Dev.xctTake_dropped hframeAt hxctType hd hctrlEnable hxctOuter)

theorem xctSequenced_in_order (d : Dev) (p : XRx) (d1 : Dev)
    (hh : p.h.ty = 1) (hh2 : p.h.psn = (d.xg p.x).exp) (hxg : (d.xg p.x).rcv = 0) (_ : (d.xg p.x).exp < 2 ^ 32)
    (hd1 : d1 = (d.setXg p.x { d.xg p.x with rcv := 1 }).xctPut p) (hxg3 : (d1.xg p.x).rcv = 1) (hxg4 : (d1.xg p.x).exp = (d.xg p.x).exp) :
    d.xctSequenced p = ((d1.setXg p.x { d1.xg p.x with exp := ((d.xg p.x).exp + 1) % 2 ^ 32, rcv := 0 }).asmSettle p.x).xctArrived p false :=
  Dev.xctSequenced_put hh hh2 hxg hd1 hxg3 hxg4

theorem exec_fencedExecute (s : State) (x psn ty : Nat) (ext : List Byte) (d : Dev)
    (hx : x < 65536) (hxg : (s.dev.xg x).fenced = [(psn, ty, ext)]) (hafter : after (s.dev.xg x).exp psn 32 = true)
    (hxg2 : (s.dev.xg x).atoms = []) (hxst : (s.dev.xst x = 2 ∨ s.dev.xst x = 3)) (hd : d = s.dev.setXg x { s.dev.xg x with fenced := [] }) :
    (ty = 3 → exec (.fencedExecute x) s = s.done (d.xctGetRun x psn ext))
    ∧ (ty = 8 → exec (.fencedExecute x) s = s.done (d.xctFlushRun x psn ext))
    ∧ ((ty = 5 ∨ ty = 6) → exec (.fencedExecute x) s = s.done (d.xctAtomicRun x psn ty ext)) := by
  have hrun := Dev.fencedRun_one hxg hafter hxg2 hxst hd
  have hexec : exec (.fencedExecute x) s = s.done (s.dev.fencedRun x) := by
    show execFencedExecute x s = _
    exact State.dvIf_done (decide_eq_true hx) rfl
  refine ⟨fun h => ?_, fun h => ?_, fun h => ?_⟩
  · rw [hexec, hrun, if_pos h]
  · rw [hexec, hrun, if_neg (by omega), if_pos h]
  · rw [hexec, hrun, if_neg (by omega), if_neg (by omega)]

/-- Settles O49: a packet is taken by its TYPE, and a fenced request by its operation. -/
theorem crossingPackets : Obligations.CrossingPackets := by
  unfold Obligations.CrossingPackets
  exact ⟨exec_packet_served, exec_packet_dropped, xctSequenced_in_order, exec_fencedExecute⟩

/-- A storage ticket that R486 lets through goes on. -/
theorem Dev.stoOpen_passes {d : Dev} {t : Ticket} {write inRange : Bool} (h : d.StoOpen t write inRange) (f : Dev → Dev) :
    d.stoOpen t write inRange f = f d := by
  obtain ⟨hright, hin, hvol, hen, hslot⟩ := h
  have hgrant : (decide (t.key.b = 0) || (List.range 16).any (fun i =>
      let e := t.planWord (0x80 + 8 * i)
      decide (getBits e 12 1 = 1) && decide (getBits e 0 12 = Machine.wf t.words 2 0 12) && (!write || decide (getBits e 13 1 = 1)))) = true := by
    rw [Bool.or_eq_true, decide_eq_true_eq, List.any_eq_true]
    refine hslot.imp_right fun ⟨i, hi, hvalid, hsame, hmay⟩ => ⟨i, List.mem_range.mpr hi, ?_⟩
    cases write with
    | false => simp [hvalid, hsame]
    | true => simp [hvalid, hsame, hmay rfl]
  simp only [Dev.stoOpen, hright, hgrant, hin, hvol, hen, ne_eq, not_true_eq_false, decide_false, Bool.not_true, Bool.or_self, Bool.false_eq_true,
    ↓reduceIte]

/-- The Evaporator's tickets are served where it is free. -/
theorem State.evapServe_done {s : State} {b r slot op : Nat} {t : Ticket} {f : Dev → Ticket → Dev} {d : Dev} (hready : s.dev.Ready b r slot 4 op t)
    (hfree : s.dev.evapBusy t = false) (h : f (s.dev.begin t) t.begun = d) : (s.dv fun d => d.evapServe b r slot op f) = s.done d := by
  refine State.dv_done (Eq.trans ?_ ((Dev.serve_ready hready f).trans h))
  simp only [Dev.evapServe, hready.1, hfree, Bool.false_eq_true, ↓reduceIte]

/-- READ with a destination whose key passes becomes commands for the pieces of its range. -/
theorem Dev.stoRead_issues {d : Dev} {t t1 : Ticket} {n : Nat} (hn : n = Machine.wf t.words 6 0 19)
    (hzero : bodyZero t.words [(2, 0x10FFF), (3, 2 ^ 36 - 1), (4, 2 ^ 32 - 1), (5, 2 ^ 41 - 1), (6, 2 ^ 19 - 1)] = true)
    (hopen : d.StoOpen t false (d.stoRange t))
    (hkey : ∃ e, d.keyCheck (.loc t.key.b) (Machine.wf t.words 4 0 32) (Machine.wf t.words 5 0 41) (n * 4096) 1 = .ok e)
    (ht1 : t1 = { t with aux := [1], result := n * 4096 }) :
    d.stoRead t = (d.setTicket t1).stoIssueAll t1 2 (d.stoSplit (Machine.wf t.words 2 0 12) n (Machine.wf t.words 3 0 36) n) := by
  obtain ⟨e, he⟩ := hkey
  subst ht1 hn
  simp only [Dev.stoRead, hzero, Bool.not_true, Bool.false_eq_true, ↓reduceIte, Dev.stoOpen_passes hopen, he]

theorem Dev.stoWrite_reads_source {d : Dev} {t : Ticket} {n : Nat} (hn : n = Machine.wf t.words 6 0 19)
    (hzero : bodyZero t.words [(2, 0x20FFF), (3, 2 ^ 36 - 1), (4, 2 ^ 32 - 1), (5, 2 ^ 41 - 1), (6, 2 ^ 19 - 1)] = true)
    (hopen : d.StoOpen t true (d.stoRange t)) :
    d.stoWrite t = (d.setTicket { t with aux := [0], result := n * 4096 }).stoWriteRun t.key
      (d.stoSplit (Machine.wf t.words 2 0 12) n (Machine.wf t.words 3 0 36) n) := by
  subst hn
  simp only [Dev.stoWrite, hzero, Bool.not_true, Bool.false_eq_true, ↓reduceIte, Dev.stoOpen_passes hopen]

theorem Dev.stoSync_flushes {d : Dev} {t t1 : Ticket} {v : Nat} (hv : v = Machine.wf t.words 2 0 12)
    (hzero : bodyZero t.words [(2, 0xFFF)] = true) (hopen : d.StoOpen t false true) (hlocal : d.volRemote v = false)
    (ht1 : t1 = { t with aux := [1] }) :
    d.stoSync t = (d.setTicket t1).stoIssueAll t1 0 ((d.volSet v).map (fun u => ⟨0, 0, u, 0⟩)) := by
  subst ht1 hv
  simp only [Dev.stoSync, hzero, Bool.not_true, Bool.false_eq_true, ↓reduceIte, Dev.stoOpen_passes hopen, hlocal]

theorem Dev.stoDealloc_issues {d : Dev} {t t1 : Ticket} {n : Nat} (hn : n = Machine.wf t.words 6 0 19)
    (hzero : bodyZero t.words [(2, 0xFFF), (3, 2 ^ 36 - 1), (6, 2 ^ 19 - 1)] = true) (hopen : d.StoOpen t true (d.stoRange t))
    (ht1 : t1 = { t with aux := [1] }) :
    d.stoDealloc t = (d.setTicket t1).stoIssueAll t1 9 (d.stoSplit (Machine.wf t.words 2 0 12) n (Machine.wf t.words 3 0 36) n) := by
  subst ht1 hn
  simp only [Dev.stoDealloc, hzero, Bool.not_true, Bool.false_eq_true, ↓reduceIte, Dev.stoOpen_passes hopen]

/-- READ_EXPAND reads into its staging mooring. -/
theorem Dev.stoExpand_issues {d d1 : Dev} {t t1 : Ticket} {n : Nat} (hn : n = Machine.wf t.words 6 0 19) (hbody : packBody t.words 16 = true)
    (hopen : d.StoOpen t false (d.packRange t))
    (hkey : ∃ e, d.keyCheck (.loc t.key.b) (Machine.wf t.words 4 0 32) (Machine.wf t.words 5 0 41) (Machine.wf t.words 6 32 31) 1 = .ok e)
    (hstage : d.stageCheck t = (none, d1)) (ht1 : t1 = { t with aux := [1] }) :
    d.stoExpand t = (d1.setTicket t1).stoIssueAll t1 2 (d1.stoSplit (Machine.wf t.words 2 0 12) n (Machine.wf t.words 3 0 36) n) := by
  obtain ⟨e, he⟩ := hkey
  subst ht1 hn
  simp only [Dev.stoExpand, hbody, Bool.not_true, Bool.false_eq_true, ↓reduceIte, Dev.stoOpen_passes hopen, he, hstage]

/-- WRITE_PACK gathers its source for the Evaporator. -/
theorem Dev.stoPack_gathers {d d1 d2 : Dev} {t t1 : Ticket} {key : Nat} (hkey : key = Machine.wf t.words 4 0 32) (hbody : packBody t.words 17 = true)
    (hopen : d.StoOpen t true (d.packRange t)) (hstage : d.stageCheck t = (none, d1))
    (hgather : d1.gatherPieces (.loc t.key.b) { t with aux := [2] } key 5 (d1.evapWharf t)
      (d1.keyedPieces key (Machine.wf t.words 5 0 41) (Machine.wf t.words 6 32 31)) 0 = (.ok (), d2, t1)) : d.stoPack t = d2.setTicket t1 := by
  subst hkey
  simp only [Dev.stoPack, hbody, Bool.not_true, Bool.false_eq_true, ↓reduceIte, Dev.stoOpen_passes hopen, hstage, hgather]

/-- The Evaporator's end goes to the ticket's own kind. -/
theorem Dev.evaporated_ends {d : Dev} {b r slot : Nat} {t : Ticket} (hat : d.ticketAt b r slot = some t) (hstarted : t.started = true)
    (hsvc : Machine.wf t.words 0 8 4 = 4) (haux : t.aux.getD 0 0 = 2) :
    (Machine.wf t.words 0 0 8 = 5 → d.evaporated b r slot = d.expandDone t) ∧
      (Machine.wf t.words 0 0 8 = 6 → d.evaporated b r slot = d.packDone t) := by
  constructor <;> intro hop <;>
    simp only [Dev.evaporated, hat, hstarted, hsvc, haux, hop, ne_eq, not_true_eq_false, decide_false, Bool.not_true, Bool.or_self,
      Bool.false_eq_true, ↓reduceIte]

theorem exec_storageRead (s : State) (b r slot n : Nat) (t t1 : Ticket) (d : Dev)
    (hReady : s.dev.Ready b r slot 4 1 t) (hd : d = s.dev.begin t) (hn : n = Machine.wf t.words 6 0 19)
    (hbodyZero : bodyZero t.words [(2, 0x10FFF), (3, 2 ^ 36 - 1), (4, 2 ^ 32 - 1), (5, 2 ^ 41 - 1), (6, 2 ^ 19 - 1)] = true)
    (hStoOpen : d.StoOpen t.begun false (d.stoRange t.begun))
    (hkey : (∃ e, d.keyCheck (.loc t.key.b) (Machine.wf t.words 4 0 32) (Machine.wf t.words 5 0 41) (n * 4096) 1 = .ok e))
    (ht1 : t1 = { t.begun with aux := [1], result := n * 4096 }) :
    exec (.storageRead b r slot) s
      = s.done ((d.setTicket t1).stoIssueAll t1 2 (d.stoSplit (Machine.wf t.words 2 0 12) n (Machine.wf t.words 3 0 36) n)) := by
  show execStorageRead b r slot s = _
  subst hd
  exact State.serve_done hReady (Dev.stoRead_issues (t := t.begun) hn hbodyZero hStoOpen hkey ht1)

theorem exec_storageWrite (s : State) (b r slot n : Nat) (t : Ticket) (d : Dev)
    (hReady : s.dev.Ready b r slot 4 2 t) (hd : d = s.dev.begin t) (hn : n = Machine.wf t.words 6 0 19)
    (hbodyZero : bodyZero t.words [(2, 0x20FFF), (3, 2 ^ 36 - 1), (4, 2 ^ 32 - 1), (5, 2 ^ 41 - 1), (6, 2 ^ 19 - 1)] = true)
    (hStoOpen : d.StoOpen t.begun true (d.stoRange t.begun)) :
    exec (.storageWrite b r slot) s = s.done ((d.setTicket { t.begun with aux := [0], result := n * 4096 }).stoWriteRun t.key
      (d.stoSplit (Machine.wf t.words 2 0 12) n (Machine.wf t.words 3 0 36) n)) := by
  show execStorageWrite b r slot s = _
  subst hd
  exact State.serve_done hReady (Dev.stoWrite_reads_source (t := t.begun) hn hbodyZero hStoOpen)

theorem exec_sync (s : State) (b r slot v : Nat) (t t1 : Ticket) (d : Dev)
    (hReady : s.dev.Ready b r slot 4 3 t) (hd : d = s.dev.begin t) (hv : v = Machine.wf t.words 2 0 12)
    (hbodyZero : bodyZero t.words [(2, 0xFFF)] = true) (hStoOpen : d.StoOpen t.begun false true) (hvolRemote : d.volRemote v = false)
    (ht1 : t1 = { t.begun with aux := [1] }) :
    exec (.sync b r slot) s = s.done ((d.setTicket t1).stoIssueAll t1 0 ((d.volSet v).map (fun u => ⟨0, 0, u, 0⟩))) := by
  show execSync b r slot s = _
  subst hd
  exact State.serve_done hReady (Dev.stoSync_flushes (t := t.begun) hv hbodyZero hStoOpen hvolRemote ht1)

theorem exec_deallocate (s : State) (b r slot n : Nat) (t t1 : Ticket) (d : Dev)
    (hReady : s.dev.Ready b r slot 4 4 t) (hd : d = s.dev.begin t) (hn : n = Machine.wf t.words 6 0 19)
    (hbodyZero : bodyZero t.words [(2, 0xFFF), (3, 2 ^ 36 - 1), (6, 2 ^ 19 - 1)] = true)
    (hStoOpen : d.StoOpen t.begun true (d.stoRange t.begun)) (ht1 : t1 = { t.begun with aux := [1] }) :
    exec (.deallocate b r slot) s
      = s.done ((d.setTicket t1).stoIssueAll t1 9 (d.stoSplit (Machine.wf t.words 2 0 12) n (Machine.wf t.words 3 0 36) n)) := by
  show execDeallocate b r slot s = _
  subst hd
  exact State.serve_done hReady (Dev.stoDealloc_issues (t := t.begun) hn hbodyZero hStoOpen ht1)

theorem exec_readExpand (s : State) (b r slot n : Nat) (t t1 : Ticket) (d d1 : Dev)
    (hReady : s.dev.Ready b r slot 4 5 t) (hevapBusy : s.dev.evapBusy t = false) (hd : d = s.dev.begin t)
    (hn : n = Machine.wf t.words 6 0 19) (hpackBody : packBody t.words 16 = true) (hStoOpen : d.StoOpen t.begun false (d.packRange t.begun))
    (hkey : (∃ e, d.keyCheck (.loc t.key.b) (Machine.wf t.words 4 0 32) (Machine.wf t.words 5 0 41) (Machine.wf t.words 6 32 31) 1 = .ok e))
    (hstageCheck : d.stageCheck t.begun = (none, d1)) (ht1 : t1 = { t.begun with aux := [1] }) :
    exec (.readExpand b r slot) s
      = s.done ((d1.setTicket t1).stoIssueAll t1 2 (d1.stoSplit (Machine.wf t.words 2 0 12) n (Machine.wf t.words 3 0 36) n)) := by
  show execReadExpand b r slot s = _
  subst hd
  exact State.evapServe_done hReady hevapBusy (Dev.stoExpand_issues (t := t.begun) hn hpackBody hStoOpen hkey hstageCheck ht1)

theorem exec_writePack (s : State) (b r slot key : Nat) (t t1 : Ticket) (d d1 d2 : Dev)
    (hReady : s.dev.Ready b r slot 4 6 t) (hevapBusy : s.dev.evapBusy t = false) (hd : d = s.dev.begin t)
    (hkey : key = Machine.wf t.words 4 0 32) (hpackBody : packBody t.words 17 = true)
    (hStoOpen : d.StoOpen t.begun true (d.packRange t.begun)) (hstageCheck : d.stageCheck t.begun = (none, d1))
    (hgatherPieces : d1.gatherPieces (.loc t.key.b) { t.begun with aux := [2] } key 5 (d1.evapWharf t.begun)
      (d1.keyedPieces key (Machine.wf t.words 5 0 41) (Machine.wf t.words 6 32 31)) 0 = (.ok (), d2, t1)) :
    exec (.writePack b r slot) s = s.done (d2.setTicket t1) := by
  show execWritePack b r slot s = _
  subst hd
  exact State.evapServe_done hReady hevapBusy (Dev.stoPack_gathers (t := t.begun) hkey hpackBody hStoOpen hstageCheck hgatherPieces)

theorem exec_evaporatorDone (s : State) (b r slot : Nat) (t : Ticket)
    (hticketAt : s.dev.ticketAt b r slot = some t) (hstarted : t.started = true) (hbits : Machine.wf t.words 0 8 4 = 4)
    (haux : t.aux.getD 0 0 = 2) :
    (Machine.wf t.words 0 0 8 = 5 → exec (.evaporatorDone b r slot) s = s.done (s.dev.expandDone t))
    ∧ (Machine.wf t.words 0 0 8 = 6 → exec (.evaporatorDone b r slot) s = s.done (s.dev.packDone t)) := by
  obtain ⟨hexpand, hpack⟩ := Dev.evaporated_ends hticketAt hstarted hbits haux
  refine ⟨fun h => ?_, fun h => ?_⟩
  · show execEvaporatorDone b r slot s = _
    exact State.dv_done (hexpand h)
  · show execEvaporatorDone b r slot s = _
    exact State.dv_done (hpack h)

/-- Settles O50: a ticket that R486 lets through is its function of the volume and its keys. -/
theorem storageTickets : Obligations.StorageTickets := by
  unfold Obligations.StorageTickets
  exact ⟨exec_storageRead, exec_storageWrite, exec_sync, exec_deallocate, exec_readExpand, exec_writePack, exec_evaporatorDone⟩

end Sys2Proof.Machine
end

section
/-! PROOFS. Drives, volumes and targets (spec section 13) -/

namespace Sys2Proof.Machine

theorem getBits_or_one (w : Word) {lo : Nat} (len : Nat) (h : 0 < lo) : getBits (w ||| 1) lo len = getBits w lo len := by
  apply Nat.eq_of_testBit_eq
  intro i
  have h1 : (1 : Nat).testBit (i + lo) = false :=
    Bool.eq_false_iff.mpr fun h' => absurd (Nat.testBit_one_eq_true_iff_self_eq_zero.mp h') (by omega)
  simp [getBits, bitsOf, Nat.testBit_mod_two_pow, Nat.testBit_div_two_pow, BitVec.toNat_or, h1]

theorem getBits_or_one_low (w : Word) : getBits (w ||| 1) 0 1 = 1 := by
  simp [getBits, bitsOf]

/-- A completion without error ends its command, and a READ's with its data; a media error of a drive is counted and ends it MEDIA. -/
theorem Dev.stoDone_ends {d : Dev} {u cid : Nat} {c : StoCmd} (hcmd : d.stoCmd u cid = some c) (hissued : c.issued = true) (hio : c.op < 256) :
    d.stoDone u cid 0 0 = (if c.op = 2 then d.stoReadDone c else d.stoEnd c none) ∧
      (u < 8 → d.stoDone u cid 2 0x81 = (d.sat (Fld.STO_DRV_COUNTS_MEDIA_ERR u)).stoEnd c (some (9, 0x0801))) := by
  refine ⟨?_, fun hu => ?_⟩
  · simp [Dev.stoDone, hcmd, hissued, not_le.mpr hio]
  · simp [Dev.stoDone, hcmd, hissued, not_le.mpr hio, hu]

/-- The first timeout of a drive's command aborts it. -/
theorem Dev.stoTimeout_aborts {d : Dev} {u cid : Nat} {c : StoCmd} (hcmd : d.stoCmd u cid = some c) (hissued : c.issued = true) (hop : c.op ≠ 0x108)
    (hu : u < 8) (hfirst : c.touts = 0) :
    d.stoTimeout u cid = (((d.at (c.at_ + d.get Fld.STO_CTRL_CMD_TO_MS * 1000000)).sat (Fld.STO_DRV_COUNTS_TIMEOUTS u)).putCmd
      { c with touts := 1, aborting := true }).stoAdmin u 0x108 cid 0 := by
  have hgate : (!c.issued || decide (c.op = 0x108)) = false := by simp [hissued, hop]
  simp only [Dev.stoTimeout, hcmd, hgate, not_le.mpr hu, hfirst, Bool.false_eq_true, ↓reduceIte]

/-- An Abort that does not end resets the controller, which issues its commands again. -/
theorem Dev.abortTimeout_resets {e d : Dev} {k cid : Nat} {c : StoCmd} (hcmd : e.stoCmd k cid = some c) (hop : c.op = 0x108)
    (hd : d = (((e.at (c.at_ + 1000000000)).sat (Fld.STO_DRV_COUNTS_RESETS k)).emit .stoCtl [k, 1])) :
    e.abortTimeout k cid = ((d.setCmds (d.sto.cmds.filter (fun q => !(q.unit = k && q.op = 0x108)))).sto.cmds.filter
      (fun q => q.unit = k && q.issued)).foldl Dev.stoResubmit (d.setCmds (d.sto.cmds.filter (fun q => !(q.unit = k && q.op = 0x108)))) := by
  subst hd
  simp only [Dev.abortTimeout, hcmd, hop, ne_eq, not_true_eq_false, ↓reduceIte]

/-- A volume whose fields admit it is created, with the identities of its drives. -/
theorem Dev.volCtrlWrite_creates {e d d1 : Dev} {v : Nat} {w : Word} (hfree : e.volState v = 0)
    (hd : d = e.writeReg (Reg.STO_VOL_CTRL v) (setBits (w ||| 1) 1 1 0) 8 0) (hok : d.createCause v (getBits w 24 5) = none)
    (hd1 : d1 = { d with sto := { d.sto with
      ids := (d.volSet v).foldl (fun t k => tput (fun _ => 0) t (8 * v + k) (d.reg (Reg.STO_DRV_ID k))) d.sto.ids } }) :
    e.volCtrlWrite v (setBits (w ||| 1) 1 1 0) 8 0 = d1.volPost v (d1.volNow v) (d1.volSource v) := by
  have hcreate : getBits (setBits (w ||| 1) 1 1 0) 0 1 = 1 :=
    (getBits_setBits_apart _ 1 1 0 0 1 (by decide) (by decide)).trans (getBits_or_one_low w)
  have hsu : getBits (setBits (w ||| 1) 1 1 0) 24 5 = getBits w 24 5 :=
    (getBits_setBits_apart _ 1 1 0 24 5 (by decide) (by decide)).trans (getBits_or_one w 5 (by decide))
  have hall : getBits (BitVec.ofNat 64 (2 ^ 64 - 1)) 24 5 = 31 := by decide
  subst hd1
  simp only [Dev.volCtrlWrite, woBits_whole, hfree, ne_eq, not_true_eq_false, ↓reduceIte, hcreate, hsu, hall, ← hd, hok]

/-- A volume that no plan and no ticket names is destroyed. -/
theorem Dev.volCtrlWrite_destroys {e d : Dev} {v : Nat} (hthere : e.volState v ≠ 0)
    (hplans : berths.any (fun b => e.planNames b v || e.stageNames b v) = false)
    (htickets : e.tickets.any (fun t => Machine.wf t.words 0 8 4 = 4 && Machine.wf t.words 2 0 12 = v) = false)
    (hd : d = e.put (Fld.STO_VOL_CTRL_VOL_REFUSED v) (e.get (Fld.STO_VOL_CTRL_VOL_REFUSED v))) :
    e.volCtrlWrite v 2 8 0 = d.volPost v 0 (d.volSource v) := by
  have hkeep : getBits 2 6 1 = 0 := by decide
  have hcreate : getBits 2 0 1 = 0 := by decide
  have hdestroy : getBits 2 1 1 = 1 := by decide
  subst hd
  simp only [Dev.volCtrlWrite, woBits_whole, hthere, hkeep, hcreate, hdestroy, hplans, htickets, ne_eq, not_false_eq_true, decide_true, zero_ne_one,
    Bool.not_true, Bool.or_self, Bool.false_eq_true, ↓reduceIte]

theorem exec_driveCompletion (s : State) (u cid : Nat) (c : StoCmd)
    (hstoCmd : s.dev.stoCmd u cid = some c) (hissued : c.issued = true) (hop : c.op < 256) :
    (c.op = 2 → exec (.driveCompletion u cid 0 0) s = s.done (s.dev.stoReadDone c))
    ∧ (c.op ≠ 2 → exec (.driveCompletion u cid 0 0) s = s.done (s.dev.stoEnd c none))
    ∧ (u < 8 → exec (.driveCompletion u cid 2 0x81) s
      = s.done ((s.dev.sat (Fld.STO_DRV_COUNTS_MEDIA_ERR u)).stoEnd c (some (9, 0x0801)))) := by
  obtain ⟨hok, hmedia⟩ := Dev.stoDone_ends hstoCmd hissued hop
  refine ⟨fun h => ?_, fun h => ?_, fun hu => ?_⟩
  · show execDriveCompletion u cid 0 0 s = _
    exact State.dv_done (hok.trans (if_pos h))
  · show execDriveCompletion u cid 0 0 s = _
    exact State.dv_done (hok.trans (if_neg h))
  · show execDriveCompletion u cid 2 0x81 s = _
    exact State.dv_done (hmedia hu)

theorem exec_driveCmdTimeout (s : State) (u cid : Nat) (c : StoCmd)
    (hstoCmd : s.dev.stoCmd u cid = some c) (hissued : c.issued = true) (hop : c.op ≠ 0x108) (hu : u < 8) (htouts : c.touts = 0) :
    exec (.driveCmdTimeout u cid) s
      = s.done ((((s.dev.at (c.at_ + s.dev.get Fld.STO_CTRL_CMD_TO_MS * 1000000)).sat (Fld.STO_DRV_COUNTS_TIMEOUTS u)).putCmd
        { c with touts := 1, aborting := true }).stoAdmin u 0x108 cid 0) := by
  show execDriveCmdTimeout u cid s = _
  exact State.dv_done (Dev.stoTimeout_aborts hstoCmd hissued hop hu htouts)

theorem exec_abortTimeout (s : State) (k cid : Nat) (c : StoCmd) (d : Dev)
    (hstoCmd : s.dev.stoCmd k cid = some c) (hop : c.op = 0x108)
    (hd : d = (((s.dev.at (c.at_ + 1000000000)).sat (Fld.STO_DRV_COUNTS_RESETS k)).emit .stoCtl [k, 1])) :
    exec (.abortTimeout k cid) s
      = s.done (((d.setCmds (d.sto.cmds.filter (fun q => !(q.unit = k && q.op = 0x108)))).sto.cmds.filter (fun q => q.unit = k && q.issued)).foldl
        Dev.stoResubmit (d.setCmds (d.sto.cmds.filter (fun q => !(q.unit = k && q.op = 0x108))))) := by
  show execAbortTimeout k cid s = _
  exact State.dv_done (Dev.abortTimeout_resets hstoCmd hop hd)

theorem exec_driveIdleTimer (s : State) (k : Nat)
    (hk : k < 8) (hstateState : s.dev.get (Fld.STO_DRV_STATE_STATE k) = 2) (hidleMs : s.dev.get (Fld.STO_DRV_PM_IDLE_MS k) ≠ 0)
    (hdrv : (s.dev.drv k).phase = 0) (hcurPs : s.dev.on (Fld.STO_DRV_PM_CUR_PS k) = false)
    (hsto : s.dev.sto.cmds.any (fun c => c.unit = k) = false) (hvltHolds : s.dev.vltHolds k = false) :
    exec (.driveIdleTimer k) s = s.done ((s.dev.at ((s.dev.drv k).idleFrom + s.dev.get (Fld.STO_DRV_PM_IDLE_MS k) * 1000000)).setPs k
      (s.dev.get (Fld.STO_DRV_PM_NOPS k)) 1) := by
  show execDriveIdleTimer k s = _
  refine State.dv_done ?_
  simp only [hk, hstateState, hidleMs, hdrv, hcurPs, hsto, hvltHolds, ne_eq, not_false_eq_true, decide_true, Bool.not_false, Bool.and_self,
    ↓reduceIte]

theorem exec_stoCtrlEnable (s : State) (v : Word) (d : Dev)
    (hd : d = s.dev.writeReg Reg.STO_CTRL v 8 0) (hctrlEnable : s.dev.on Fld.STO_CTRL_ENABLE = false)
    (hctrlEnable2 : d.on Fld.STO_CTRL_ENABLE = true) :
    exec (.stoCtrlEnable v) s
      = s.done ((List.range 8).foldl (fun d k => if d.get (Fld.STO_DRV_STATE_STATE k) = 2 then d else d.drvInit k) d) := by
  show execStoCtrlEnable v s = _
  refine State.dv_done ?_
  simp only [Dev.stoCtrlWrite, ← hd, hctrlEnable, hctrlEnable2, Bool.not_false, Bool.and_self, ↓reduceIte]

theorem exec_volumeCreate (s : State) (v : Nat) (w : Word) (d d1 : Dev)
    (hv : v < 4096) (hvolState : s.dev.volState v = 0) (hd : d = s.dev.writeReg (Reg.STO_VOL_CTRL v) (setBits (w ||| 1) 1 1 0) 8 0)
    (hcreateCause : d.createCause v (getBits w 24 5) = none)
    (hd1 : d1 = { d with sto := { d.sto with
      ids := (d.volSet v).foldl (fun t k => tput (fun _ => 0) t (8 * v + k) (d.reg (Reg.STO_DRV_ID k))) d.sto.ids } }) :
    exec (.volumeCreate v w) s = s.done (d1.volPost v (d1.volNow v) (d1.volSource v)) := by
  show execVolumeCreate v w s = _
  exact State.dvIf_done (decide_eq_true hv) (Dev.volCtrlWrite_creates hvolState hd hcreateCause hd1)

theorem exec_volumeDestroy (s : State) (v : Nat) (d : Dev)
    (hv : v < 4096) (hvolState : s.dev.volState v ≠ 0) (hberths : berths.any (fun b => s.dev.planNames b v || s.dev.stageNames b v) = false)
    (htickets : s.dev.tickets.any (fun t => Machine.wf t.words 0 8 4 = 4 && Machine.wf t.words 2 0 12 = v) = false)
    (hd : d = s.dev.put (Fld.STO_VOL_CTRL_VOL_REFUSED v) (s.dev.get (Fld.STO_VOL_CTRL_VOL_REFUSED v))) :
    exec (.volumeDestroy v) s = s.done (d.volPost v 0 (d.volSource v)) := by
  show execVolumeDestroy v s = _
  exact State.dvIf_done (decide_eq_true hv) (Dev.volCtrlWrite_destroys hvolState hberths htickets hd)

/-- Settles O51: each event is its function of the command, the drive or the volume. -/
theorem drivesAndVolumes : Obligations.DrivesAndVolumes := by
  unfold Obligations.DrivesAndVolumes
  exact ⟨exec_driveCompletion, exec_driveCmdTimeout, exec_abortTimeout, exec_driveIdleTimer, exec_stoCtrlEnable, exec_volumeCreate,
    exec_volumeDestroy⟩

/-- Enabling a target with a good record begins its connection. -/
theorem Dev.tgtCtrlWrite_enables {e w d : Dev} {t key : Nat} {v : Word} {out : List Nat} {r : List Byte}
    (hoff : e.on (Fld.STO_TGT_CTRL_ENABLE t) = false) (hw : w = e.writeReg (Reg.STO_TGT_CTRL t) v 8 0)
    (hon : w.on (Fld.STO_TGT_CTRL_ENABLE t) = true) (hkey : key = w.get (Fld.STO_TGT_CTRL_REC_KEY t))
    (hread : w.copyImage key 0 (w.keyedPieces key (w.get (Fld.STO_TGT_OFF_REC_OFF t)) 1024) out [] = (some r, d))
    (hgood : recordRefused r = false) :
    e.tgtCtrlWrite t v 8 0 out = ((d.setTgt t { TgtH.init with record := r }).put (Fld.STO_TGT_CTRL_STATE t) 1).tcpSend t [0x201] [] := by
  subst hkey
  simp only [Dev.tgtCtrlWrite, ← hw, hoff, hon, hread, hgood, Bool.not_false, Bool.and_self, Bool.false_eq_true, ↓reduceIte]

/-- Disabling a target ends its connection. -/
theorem Dev.tgtCtrlWrite_disables {e w : Dev} {t : Nat} {v : Word} {out : List Nat} (hon : e.on (Fld.STO_TGT_CTRL_ENABLE t) = true)
    (hw : w = e.writeReg (Reg.STO_TGT_CTRL t) v 8 0) (hoff : w.on (Fld.STO_TGT_CTRL_ENABLE t) = false) :
    e.tgtCtrlWrite t v 8 0 out = w.tgtReset t := by
  simp only [Dev.tgtCtrlWrite, ← hw, hon, hoff, Bool.not_true, Bool.not_false, Bool.and_self, Bool.false_eq_true, ↓reduceIte]

/-- A segment that brings the connection up. -/
theorem Dev.tcpSegment_up {d : Dev} {t cid off n : Nat} {data : List Byte} (ht : t < 64) (hstate : d.get (Fld.STO_TGT_CTRL_STATE t) = 1) :
    d.tcpSegment t 0 1 cid off n data true =
      ((d.put (Fld.STO_TGT_CTRL_STATE t) 2).setTgt t { d.tgt t with kaAt := d.tide }).volSync (0x100 + t) := by
  simp only [Dev.tcpSegment, Dev.tcpOpen, ht, hstate, decide_true, Bool.true_or, Bool.and_self, Bool.not_true, Bool.false_eq_true, ↓reduceIte]

/-- A segment that carries data of a READ. -/
theorem Dev.tcpSegment_data {d : Dev} {t cid off n : Nat} {data : List Byte} {c : StoCmd} (ht : t < 64) (hopen : d.tcpOpen t = true)
    (hcmd : d.stoCmd (8 + t) cid = some c) (hop : c.op = 2) (hfits : off + data.length ≤ c.n * 4096) :
    d.tcpSegment t 0 2 cid off n data true = d.putCmd { c with data := enterBytes c.data off data } := by
  have hgate : (decide (c.op = 2) && decide (off + data.length ≤ c.n * 4096)) = true := by simp [hop, hfits]
  simp only [Dev.tcpSegment, hopen, ht, hcmd, hgate, decide_true, Bool.and_self, Bool.not_true, Bool.false_eq_true, ↓reduceIte]

/-- A digest error ends the connection. -/
theorem Dev.tcpSegment_digest {d : Dev} {t kind cid off n : Nat} {data : List Byte} (ht : t < 64) (hopen : d.tcpOpen t = true) :
    d.tcpSegment t 0 kind cid off n data false = (d.sat (Fld.STO_TGT_COUNTS_DIGEST_ERR t)).tgtReset t := by
  simp only [Dev.tcpSegment, hopen, ht, decide_true, Bool.and_self, Bool.not_true, Bool.not_false, Bool.false_eq_true, ↓reduceIte]

theorem exec_targetEnable (s : State) (t key : Nat) (v : Word) (out : List Nat) (w d : Dev) (r : List Byte)
    (ht : t < 64) (hctrlEnable : s.dev.on (Fld.STO_TGT_CTRL_ENABLE t) = false) (hw : w = s.dev.writeReg (Reg.STO_TGT_CTRL t) (v ||| 1) 8 0)
    (hctrlEnable2 : w.on (Fld.STO_TGT_CTRL_ENABLE t) = true) (hkey : key = w.get (Fld.STO_TGT_CTRL_REC_KEY t))
    (hrecOff : w.copyImage key 0 (w.keyedPieces key (w.get (Fld.STO_TGT_OFF_REC_OFF t)) 1024) out [] = (some r, d))
    (hrecordRefused : recordRefused r = false) :
    exec (.targetEnable t v out) s
      = s.done (((d.setTgt t { TgtH.init with record := r }).put (Fld.STO_TGT_CTRL_STATE t) 1).tcpSend t [0x201] []) := by
  show execTargetEnable t v out s = _
  refine State.dv_done ?_
  rw [Nat.mod_eq_of_lt ht]
  exact Dev.tgtCtrlWrite_enables hctrlEnable hw hctrlEnable2 hkey hrecOff hrecordRefused

theorem exec_targetDisable (s : State) (t : Nat) (v : Word) (w : Dev)
    (ht : t < 64) (hctrlEnable : s.dev.on (Fld.STO_TGT_CTRL_ENABLE t) = true)
    (hw : w = s.dev.writeReg (Reg.STO_TGT_CTRL t) (setBits v 0 1 0) 8 0) (hctrlEnable2 : w.on (Fld.STO_TGT_CTRL_ENABLE t) = false) :
    exec (.targetDisable t v) s = s.done (w.tgtReset t) := by
  show execTargetDisable t v s = _
  refine State.dv_done ?_
  rw [Nat.mod_eq_of_lt ht]
  exact Dev.tgtCtrlWrite_disables hctrlEnable hw hctrlEnable2

theorem exec_nvmeTcpSegment_up (s : State) (t cid off n : Nat) (data : List Byte)
    (ht : t < 64) (hctrlState : s.dev.get (Fld.STO_TGT_CTRL_STATE t) = 1) :
    exec (.nvmeTcpSegment t 0 1 cid off n data true) s
      = s.done (((s.dev.put (Fld.STO_TGT_CTRL_STATE t) 2).setTgt t { s.dev.tgt t with kaAt := s.dev.tide }).volSync (0x100 + t)) := by
  show execNvmeTcpSegment t 0 1 cid off n data true s = _
  exact State.dv_done (Dev.tcpSegment_up ht hctrlState)

theorem exec_nvmeTcpSegment_data (s : State) (t cid off n : Nat) (data : List Byte) (c : StoCmd)
    (ht : t < 64) (htcpOpen : s.dev.tcpOpen t = true) (hstoCmd : s.dev.stoCmd (8 + t) cid = some c) (hop : c.op = 2)
    (hoff : off + data.length ≤ c.n * 4096) :
    exec (.nvmeTcpSegment t 0 2 cid off n data true) s = s.done (s.dev.putCmd { c with data := enterBytes c.data off data }) := by
  show execNvmeTcpSegment t 0 2 cid off n data true s = _
  exact State.dv_done (Dev.tcpSegment_data ht htcpOpen hstoCmd hop hoff)

theorem exec_connection_ends (s : State) (t kind cid off n : Nat) (data : List Byte)
    (ht : t < 64) (htcpOpen : s.dev.tcpOpen t = true) :
    exec (.nvmeTcpSegment t 0 kind cid off n data false) s = s.done ((s.dev.sat (Fld.STO_TGT_COUNTS_DIGEST_ERR t)).tgtReset t)
      ∧ exec (.targetConnectionReset t) s = s.done (s.dev.tgtReset t) := by
  constructor
  · show execNvmeTcpSegment t 0 kind cid off n data false s = _
    exact State.dv_done (Dev.tcpSegment_digest ht htcpOpen)
  · show execTargetConnectionReset t s = _
    refine State.dv_done ?_
    simp only [ht, htcpOpen, decide_true, Bool.and_self, ↓reduceIte]

theorem exec_targetReconnectTimer (s : State) (t : Nat)
    (ht : t < 64) (hctrlEnable : s.dev.on (Fld.STO_TGT_CTRL_ENABLE t) = true) (hctrlState : s.dev.get (Fld.STO_TGT_CTRL_STATE t) = 1) :
    exec (.targetReconnectTimer t) s = s.done ((s.dev.sat (Fld.STO_TGT_COUNTS_RECONNECTS t)).tcpSend t [0x201] []) := by
  show execTargetReconnectTimer t s = _
  refine State.dv_done ?_
  simp only [ht, hctrlEnable, hctrlState, decide_true, Bool.and_self, ↓reduceIte]

theorem exec_keepAliveTimer (s : State) (t : Nat) (d : Dev)
    (ht : t < 64) (hctrlState : s.dev.get (Fld.STO_TGT_CTRL_STATE t) = 2) (hd : d = s.dev.at ((s.dev.tgt t).kaAt + s.dev.katoNs t)) :
    ((d.tgt t).kaOut = true → exec (.keepAliveTimer t) s = s.done (d.tgtReset t))
    ∧ ((d.tgt t).kaOut = false →
      exec (.keepAliveTimer t) s = s.done ((d.setTgt t { d.tgt t with kaOut := true, kaAt := d.tide }).tcpSend t [0x203] [])) := by
  subst hd
  refine ⟨fun h => ?_, fun h => ?_⟩
  · show execKeepAliveTimer t s = _
    refine State.dv_done ?_
    simp only [ht, hctrlState, h, decide_true, Bool.and_self, ↓reduceIte]
  · show execKeepAliveTimer t s = _
    refine State.dv_done ?_
    simp only [ht, hctrlState, h, decide_true, Bool.and_self, Bool.false_eq_true, ↓reduceIte]

theorem exec_tcpRetransmitTimeout (s : State) (t : Nat) (seg : List Byte) (rest : List (List Byte))
    (ht : t < 64) (htcpOpen : s.dev.tcpOpen t = true) (htgt : (s.dev.tgt t).unacked = seg :: rest) :
    exec (.tcpRetransmitTimeout t) s = s.done (((s.dev.pass (s.dev.tgt t).rto).setTgt t { s.dev.tgt t with
      rto := min 60000000000 (2 * (s.dev.tgt t).rto) }).emit .tcp [t, 0x204] seg) := by
  show execTcpRetransmitTimeout t s = _
  refine State.dv_done ?_
  simp only [htgt, ht, htcpOpen, decide_true, Bool.and_self, ↓reduceIte]

/-- Settles O52: each event is its function of the target and its connection. -/
theorem targetConnections : Obligations.TargetConnections := by
  unfold Obligations.TargetConnections
  exact ⟨exec_targetEnable, exec_targetDisable, exec_nvmeTcpSegment_up, exec_nvmeTcpSegment_data, exec_connection_ends,
    exec_targetReconnectTimer, exec_keepAliveTimer, exec_tcpRetransmitTimeout⟩

end Sys2Proof.Machine
end

section
/-! PROOFS. Scalar integer instructions of Adeat (spec section 16) -/

namespace Sys2Proof.Machine

/-- The command c runs, on Raker i of Pan p, an instruction of that major and function, which comes to `ran` on x. -/
def Performs (c : Instr) (s : State) (p i key : Nat) (x : Insn) (ran : Ran) : Prop :=
  ∃ f : Insn → RakerS → Dev → Ran, (exec c s = s.dv fun d => d.insn p i key f) ∧ f x ((s.dev.rk p i).next x) s.dev = ran

/-- An instruction without exception retires with what it comes to. -/
theorem Performs.retires {c : Instr} {s : State} {p i key : Nat} {x : Insn} {d : Dev} {r : RakerS} (h : Performs c s p i key x (none, d, r))
    (hruns : s.dev.Runs p i key x) : exec c s = s.done (d.setRk p i r) := by
  obtain ⟨f, hexec, hf⟩ := h
  exact hexec.trans (State.dv_done (Dev.insn_retires hruns hf))

/-- An instruction with an exception leaves PC at the instruction, and the exception is taken. -/
theorem Performs.traps {c : Instr} {s : State} {p i key : Nat} {x : Insn} {e : Exc} {d : Dev} {r : RakerS}
    (h : Performs c s p i key x (some e, d, r)) (hruns : s.dev.Runs p i key x) :
    exec c s = s.done ((d.setRk p i { r with pc := (s.dev.rk p i).pc }).takeExc p i e) := by
  obtain ⟨f, hexec, hf⟩ := h
  exact hexec.trans (State.dv_done (Dev.insn_traps hruns hf))

/-- The value of a compare. -/
theorem oneIf_decide (P : Prop) [Decidable P] : oneIf (decide P) = if P then 1 else 0 := by
  by_cases h : P <;> simp [oneIf, h]

/-- What an instruction that only writes rd comes to. -/
theorem writes_congr {d : Dev} {r : RakerS} {rd : Nat} {v w : Word} (h : v = w) : ((none, d, r.setG rd v) : Ran) = (none, d, r.setG rd w) := by rw [h]

theorem exec_integer_registers (s : State) (p i : Nat) (x : Insn) (r : RakerS) (a b : Word) (e : Instr × Nat × Word)
    (hr : r = (s.dev.rk p i).next x) (ha : a = r.gr x.ra) (hb : b = r.gr x.rb)
    (he : e ∈ [(.addI p i, 0, a + b), (.subI p i, 1, a - b), (.mulI p i, 2, a * b), (.mulh p i, 3, BitVec.ofInt 64 (a.toInt * b.toInt / 2 ^ 64)),
      (.mulhu p i, 4, BitVec.ofNat 64 (a.toNat * b.toNat / 2 ^ 64)), (.andI p i, 16, a &&& b), (.orI p i, 17, a ||| b), (.xorI p i, 18, a ^^^ b),
      (.andn p i, 19, a &&& ~~~b), (.shl p i, 20, a <<< (b.toNat % 64)), (.shr p i, 21, a >>> (b.toNat % 64)),
      (.sar p i, 22, a.sshiftRight (b.toNat % 64)), (.ror p i, 23, a.rotateRight (b.toNat % 64)),
      (.minI p i, 24, if a.toInt < b.toInt then a else b), (.maxI p i, 25, if a.toInt < b.toInt then b else a),
      (.minu p i, 26, if a.toNat < b.toNat then a else b), (.maxu p i, 27, if a.toNat < b.toNat then b else a),
      (.clz p i, 32, BitVec.ofNat 64 (Machine.clz 64 a.toNat)), (.ctz p i, 33, BitVec.ofNat 64 (Machine.ctz 64 a.toNat)),
      (.popc p i, 34, BitVec.ofNat 64 (Machine.popc 64 a.toNat)), (.bswap p i, 35, BitVec.ofNat 64 (ofBe (leBytes 8 a.toNat))),
      (.sext8 p i, 40, BitVec.ofInt 64 (signed 8 a.toNat)), (.sext16 p i, 41, BitVec.ofInt 64 (signed 16 a.toNat)),
      (.sext32 p i, 42, BitVec.ofInt 64 (signed 32 a.toNat)), (.zext8 p i, 44, BitVec.ofNat 64 (a.toNat % 2 ^ 8)),
      (.zext16 p i, 45, BitVec.ofNat 64 (a.toNat % 2 ^ 16)), (.zext32 p i, 46, BitVec.ofNat 64 (a.toNat % 2 ^ 32))])
    (hRuns : s.dev.Runs p i (128 + e.2.1) x) :
    exec e.1 s = s.done (s.dev.setRk p i (r.setG x.rd e.2.2)) := by
  subst hr ha hb
  have hrow : Performs e.1 s p i (128 + e.2.1) x (none, s.dev, ((s.dev.rk p i).next x).setG x.rd e.2.2) := by
    fin_cases he <;> exact ⟨_, rfl, rfl⟩
  exact hrow.retires hRuns

theorem exec_integer_immediate (s : State) (p i : Nat) (x : Insn) (r : RakerS) (a b : Word) (e : Instr × Nat × Word)
    (hr : r = (s.dev.rk p i).next x) (ha : a = r.gr x.ra) (hb : b = BitVec.ofInt 64 x.value)
    (he : e ∈ [(.addi p i, 2 * 128, a + b), (.andi p i, 3 * 128, a &&& b), (.ori p i, 4 * 128, a ||| b), (.xori p i, 5 * 128, a ^^^ b),
      (.shli p i, 7 * 128, a <<< (b.toNat % 64)), (.shri p i, 7 * 128 + 1, a >>> (b.toNat % 64)),
      (.sari p i, 7 * 128 + 2, a.sshiftRight (b.toNat % 64)), (.rori p i, 7 * 128 + 3, a.rotateRight (b.toNat % 64)),
      (.cseqImm p i, 9 * 128, if a = b then 1 else 0), (.csneImm p i, 9 * 128 + 1, if a ≠ b then 1 else 0),
      (.csltImm p i, 9 * 128 + 2, if a.toInt < b.toInt then 1 else 0), (.csltuImm p i, 9 * 128 + 3, if a.toNat < b.toNat then 1 else 0),
      (.csleImm p i, 9 * 128 + 4, if a.toInt ≤ b.toInt then 1 else 0), (.csleuImm p i, 9 * 128 + 5, if a.toNat ≤ b.toNat then 1 else 0)])
    (hRuns : s.dev.Runs p i e.2.1 x) :
    exec e.1 s = s.done (s.dev.setRk p i (r.setG x.rd e.2.2)) := by
  subst hr ha hb
  have hrow : Performs e.1 s p i e.2.1 x (none, s.dev, ((s.dev.rk p i).next x).setG x.rd e.2.2) := by
    fin_cases he
    iterate 8 exact ⟨_, rfl, rfl⟩
    all_goals exact ⟨_, rfl, writes_congr (oneIf_decide _)⟩
  exact hrow.retires hRuns

theorem exec_compare_registers (s : State) (p i : Nat) (x : Insn) (r : RakerS) (a b : Word) (e : Instr × Nat × Word)
    (hr : r = (s.dev.rk p i).next x) (ha : a = r.gr x.ra) (hb : b = r.gr x.rb)
    (he : e ∈ [(.cseq p i, 0, if a = b then 1 else 0), (.csne p i, 1, if a ≠ b then 1 else 0), (.cslt p i, 2, if a.toInt < b.toInt then 1 else 0),
      (.csltu p i, 3, if a.toNat < b.toNat then 1 else 0), (.csle p i, 4, if a.toInt ≤ b.toInt then 1 else 0),
      (.csleu p i, 5, if a.toNat ≤ b.toNat then 1 else 0)])
    (hRuns : s.dev.Runs p i (8 * 128 + e.2.1) x) :
    exec e.1 s = s.done (s.dev.setRk p i (r.setG x.rd e.2.2)) := by
  subst hr ha hb
  have hrow : Performs e.1 s p i (8 * 128 + e.2.1) x (none, s.dev, ((s.dev.rk p i).next x).setG x.rd e.2.2) := by
    fin_cases he <;> exact ⟨_, rfl, writes_congr (oneIf_decide _)⟩
  exact hrow.retires hRuns

theorem exec_divide (s : State) (p i : Nat) (x : Insn) (r : RakerS) (a b : Word) (e : Instr × Nat × Word)
    (hr : r = (s.dev.rk p i).next x) (ha : a = r.gr x.ra) (hb : b = r.gr x.rb)
    (he : e ∈ [(.divI p i, 5, BitVec.ofInt 64 (a.toInt.tdiv b.toInt)), (.divu p i, 6, BitVec.ofNat 64 (a.toNat / b.toNat)),
      (.rem p i, 7, BitVec.ofInt 64 (a.toInt.tmod b.toInt)), (.remu p i, 8, BitVec.ofNat 64 (a.toNat % b.toNat))])
    (hRuns : s.dev.Runs p i (128 + e.2.1) x) :
    (b ≠ 0 → exec e.1 s = s.done (s.dev.setRk p i (r.setG x.rd e.2.2)))
    ∧ (b = 0 → exec e.1 s = s.done ((s.dev.setRk p i (s.dev.rk p i)).takeExc p i { code := 0x10 })) := by
  subst hr ha hb
  have hrow : (exec e.1 s = s.dv fun d => d.insn p i (128 + e.2.1) (intR e.2.1)) ∧ e.2.1 ∈ [5, 6, 7, 8] ∧
      alu e.2.1 (((s.dev.rk p i).next x).gr x.ra) (((s.dev.rk p i).next x).gr x.rb) =
        if ((s.dev.rk p i).next x).gr x.rb = 0 then none else some e.2.2 := by
    fin_cases he <;> exact ⟨rfl, by simp, rfl⟩
  obtain ⟨hexec, hfn, halu⟩ := hrow
  refine ⟨fun hb => ?_, fun hb => ?_⟩
  · rw [if_neg hb] at halu
    exact hexec.trans (State.dv_done (Dev.insn_retires hRuns (intR_some halu s.dev)))
  · exact hexec.trans (State.dv_done (Dev.insn_intR_divz hRuns hfn hb))

theorem exec_lih (s : State) (p i : Nat) (x : Insn) (r : RakerS)
    (hr : r = (s.dev.rk p i).next x) (hRuns : s.dev.Runs p i (6 * 128) x) :
    exec (.lih p i) s = s.done (s.dev.setRk p i (r.setG x.rd (setBits (r.gr x.rd) 32 32 (BitVec.ofInt 64 x.imm).toNat))) := by
  show execLih p i s = _
  subst hr
  exact State.dv_done (Dev.insn_retires hRuns rfl)

/-- Settles O53: each row is its function of Table 16.3, 16.4 or 16.5, and the instruction retires with rd. -/
theorem scalarIntegers : Obligations.ScalarIntegers := by
  unfold Obligations.ScalarIntegers
  exact ⟨exec_integer_registers, exec_integer_immediate, exec_compare_registers, exec_divide, exec_lih⟩

end Sys2Proof.Machine
end

section
/-! PROOFS. Control, system and memory instructions of Adeat (spec sections 15, 16) -/

namespace Sys2Proof.Machine

/-- An exception that leaves the Raker's registers alone leaves all of it but what the exception records. -/
theorem Performs.traps_unchanged {c : Instr} {s : State} {p i key : Nat} {x : Insn} {e : Exc} {d : Dev}
    (h : Performs c s p i key x (some e, d, (s.dev.rk p i).next x)) (hruns : s.dev.Runs p i key x) :
    exec c s = s.done ((d.setRk p i (s.dev.rk p i)).takeExc p i e) := h.traps hruns

/-- The instruction's own address, with PC past it. -/
theorem Insn.at_next (x : Insn) {r : RakerS} (hpc : r.pc < 2 ^ 48) : x.at_ (r.next x) = r.pc := by
  have hsize : x.size = 8 ∨ x.size = 4 := by
    unfold Insn.size
    split
    · exact Or.inl rfl
    · exact Or.inr rfl
  simp only [Insn.at_, RakerS.next]
  omega

/-- A branch goes from the instruction's own address. -/
theorem Insn.target_next (x : Insn) {r : RakerS} (hpc : r.pc < 2 ^ 48) : x.target (r.next x) = (((r.pc : Int) + x.value) % 2 ^ 48).toNat := by
  rw [Insn.target, Insn.at_next x hpc]

/-- What BZ (`onZero`) and BNZ come to. -/
theorem branch_eq (x : Insn) (r : RakerS) (d : Dev) :
    branch true x r d = (none, d, if r.gr x.rd = 0 then { r with pc := x.target r } else r) ∧
      branch false x r d = (none, d, if r.gr x.rd = 0 then r else { r with pc := x.target r }) := by
  by_cases h : r.gr x.rd = 0 <;> simp [branch, h]

/-- JALR to an aligned address goes there; to another it traps. -/
theorem jalr_eq {x : Insn} {r : RakerS} {t : Nat} (ht : t = getBits (r.gr x.ra) 0 48) (d : Dev) :
    jalr x r d = if t % 4 = 0 then (none, d, { r.setG x.rd (BitVec.ofNat 64 r.pc) with pc := t }) else (some { code := 4, access := 3 }, d, r) := by
  subst ht
  simp only [jalr, ne_eq, ite_not]

/-- YIELD ends the run where a stop is pending. -/
theorem yieldPoint_eq (p i : Nat) (x : Insn) (r : RakerS) (d : Dev) :
    yieldPoint p i x r d = if d.on (Fld.PAN_STATE_STOP_PEND p) then
      (none, (d.setRk p i { r with live := false }).checkRun p, ((d.setRk p i { r with live := false }).checkRun p).rk p i) else (none, d, r) := rfl

/-- Each scalar command of Adeat runs the instruction of its row. -/
theorem ScalarRow.insn {p i key : Nat} {out : List Nat} {c : Instr} (h : ScalarRow p i out key c) (s : State) :
    ∃ f, exec c s = s.dv fun d => d.insn p i key f := by
  unfold ScalarRow at h
  suffices hrow : ∀ e : Nat × Instr, e ∈ _ → ∃ f, exec e.2 s = s.dv fun d => d.insn p i e.1 f from hrow (key, c) h
  intro e he
  fin_cases he <;> exact ⟨_, rfl⟩

/-- R589: an instruction whose guard does not pass only moves the PC. -/
theorem Dev.insn_skipped {d : Dev} {p i : Nat} {x : Insn} (f : Insn → RakerS → Dev → Ran) (hlive : (d.rk p i).live = true) (hruns : d.stopped = false)
    (hfetch : d.fetchInsn p (d.rk p i).pc = some x) (hlegal : x.legal = true) (hmajor : x.major < 0x30) (hguard : x.passes (d.rk p i) = false) :
    d.insn p i x.key f = d.setRk p i ((d.rk p i).next x) := by
  simp only [Dev.insn, hlive, hruns, hfetch, hlegal, hmajor, hguard, RakerS.next, Bool.not_true, Bool.not_false, Bool.or_self, ne_eq, not_true_eq_false,
    decide_true, decide_false, Bool.and_self, Bool.false_eq_true, ↓reduceIte]

theorem length_leBytes (n v : Nat) : (leBytes n v).length = n := by
  induction n generalizing v with
  | zero => rfl
  | succ n ih => exact congrArg Nat.succ (ih (v / 256))

/-- A load that bypasses the cache brings the bytes of device memory. -/
theorem Dev.rkLoad_memory {d e : Dev} {p i a n m : Nat} {r : RakerS} {out : List Nat} (hxlate : d.panXlate p a n 0 2 p = (.mem m, e))
    (hclean : e.poisoned m n = false) : d.rkLoad p i r a n true out = (.ok (e.bytes m n), e, r, out) := by
  simp only [Dev.rkLoad, hxlate, hclean, Bool.not_true, Bool.false_and, Bool.false_eq_true, ↓reduceIte]

/-- A store writes its bytes to device memory. -/
theorem Dev.rkStore_memory {d e : Dev} {p i a m : Nat} {r : RakerS} {bs : List Byte} {out : List Nat}
    (hxlate : d.panXlate p a bs.length 1 2 p = (.mem m, e)) :
    d.rkStore p i r a bs out = (none, e.writeMem m bs, r.writeThrough m bs, out) := by
  simp only [Dev.rkStore, hxlate]

/-- What LD comes to at an aligned address of device memory, past the cache. -/
theorem load_memory {p i w n a m : Nat} {out : List Nat} {x : Insn} {r : RakerS} {d e : Dev} (hw : w = bitsOf x.w 8 3) (hn : n = accessBytes w)
    (ha : a = x.ea r n) (halign : a % n = 0) (hplain : inControl a = false) (hxlate : d.panXlate p a n 0 2 p = (.mem m, e))
    (hnc : bitsOf x.w 7 1 = 1) (hclean : e.poisoned m n = false) :
    load p i out x r d = (none, e, r.setG x.rd
      (if 4 ≤ w then BitVec.ofInt 64 (signed (8 * n) (ofLe (e.bytes m n))) else BitVec.ofNat 64 (ofLe (e.bytes m n)))) := by
  simp only [load, ← hw, ← hn, ← ha, halign, hplain, hnc, Dev.rkLoad_memory hxlate hclean, ne_eq, not_true_eq_false, decide_true,
    Bool.false_eq_true, ↓reduceIte]

/-- What ST comes to at an aligned address of device memory. -/
theorem store_memory {p i n a m : Nat} {out : List Nat} {x : Insn} {r : RakerS} {d e : Dev} (hn : n = accessBytes (bitsOf x.w 8 3))
    (ha : a = x.ea r n) (halign : a % n = 0) (hplain : inControl a = false) (hxlate : d.panXlate p a n 1 2 p = (.mem m, e)) :
    store p i out x r d =
      (none, e.writeMem m (leBytes n (r.gr x.rd).toNat), r.writeThrough m (leBytes n (r.gr x.rd).toNat)) := by
  have hstore := Dev.rkStore_memory (i := i) (r := r) (bs := leBytes n (r.gr x.rd).toNat) (out := out)
    (show d.panXlate p a (leBytes n (r.gr x.rd).toNat).length 1 2 p = (.mem m, e) by rw [length_leBytes, hxlate])
  simp only [store, ← hn, ← ha, halign, hplain, hstore, ne_eq, not_true_eq_false, Bool.false_eq_true, ↓reduceIte]

/-- LD and ST at an address that is no multiple of their size trap. -/
theorem load_store_misaligned {p i n a : Nat} {out : List Nat} {x : Insn} {r : RakerS} (hn : n = accessBytes (bitsOf x.w 8 3)) (ha : a = x.ea r n)
    (halign : a % n ≠ 0) (d : Dev) :
    load p i out x r d = (some { code := 4 }, d, r) ∧ store p i out x r d = (some { code := 4, access := 1 }, d, r) := by
  constructor
  · simp only [load, ← hn, ← ha, ne_eq, halign, not_false_eq_true, ↓reduceIte]
  · simp only [store, ← hn, ← ha, ne_eq, halign, not_false_eq_true, ↓reduceIte]

/-- What AADD, ASWAP and ACAS come to at an aligned address of clean device memory. -/
theorem atomic_memory {p a m : Nat} (fn : Nat) {out : List Nat} {x : Insn} {r : RakerS} {d e : Dev} {old : Word} (ha : a = getBits (r.gr x.ra) 0 48)
    (halign : a % 8 = 0) (hxlate : d.panXlate p a 8 2 2 p = (.mem m, e)) (hclean : e.poisoned m 8 = false)
    (hold : old = BitVec.ofNat 64 (ofLe (e.bytes m 8))) :
    atomic p fn out x r d = (none,
      if fn = 0 then e.writeMem m (leBytes 8 (old + r.gr x.rb).toNat)
      else if fn = 1 then e.writeMem m (leBytes 8 (r.gr x.rb).toNat)
      else if old = r.gr x.rd then e.writeMem m (leBytes 8 (r.gr x.rb).toNat) else e,
      { r with lines := tdel (m / 64) r.lines }.setG x.rd old) := by
  subst hold
  simp only [atomic, ← ha, halign, hxlate, hclean, ne_eq, not_true_eq_false, Bool.false_eq_true, ↓reduceIte]
  split
  · rfl
  · rfl
  · next h0 h1 => rw [if_neg h0, if_neg h1]

theorem exec_branches (s : State) (p i : Nat) (x : Insn) (r : RakerS) (t : Nat)
    (hr : r = (s.dev.rk p i).next x) (ht : t = ((((s.dev.rk p i).pc : Int) + x.value) % 2 ^ 48).toNat) (hpc : (s.dev.rk p i).pc < 2 ^ 48) :
    (s.dev.Runs p i (32 * 128) x → exec (.bz p i) s = s.done (s.dev.setRk p i (if r.gr x.rd = 0 then { r with pc := t } else r)))
    ∧ (s.dev.Runs p i (33 * 128) x → exec (.bnz p i) s = s.done (s.dev.setRk p i (if r.gr x.rd = 0 then r else { r with pc := t })))
    ∧ (s.dev.Runs p i (34 * 128) x →
      exec (.jal p i) s = s.done (s.dev.setRk p i { r.setG x.rd (BitVec.ofNat 64 r.pc) with pc := t })) := by
  subst hr ht
  rw [← Insn.target_next x hpc]
  obtain ⟨hbz, hbnz⟩ := branch_eq x ((s.dev.rk p i).next x) s.dev
  refine ⟨fun hruns => ?_, fun hruns => ?_, fun hruns => ?_⟩
  · exact Performs.retires ⟨_, rfl, hbz⟩ hruns
  · exact Performs.retires ⟨_, rfl, hbnz⟩ hruns
  · exact Performs.retires ⟨_, rfl, rfl⟩ hruns

theorem exec_jalr (s : State) (p i : Nat) (x : Insn) (r : RakerS) (t : Nat)
    (hr : r = (s.dev.rk p i).next x) (ht : t = getBits (r.gr x.ra) 0 48) (hRuns : s.dev.Runs p i (35 * 128) x) :
    (t % 4 = 0 → exec (.jalr p i) s = s.done (s.dev.setRk p i { r.setG x.rd (BitVec.ofNat 64 r.pc) with pc := t }))
    ∧ (t % 4 ≠ 0 → exec (.jalr p i) s = s.done ((s.dev.setRk p i (s.dev.rk p i)).takeExc p i { code := 4, access := 3 })) := by
  subst hr
  have hjalr := jalr_eq ht s.dev
  refine ⟨fun h => ?_, fun h => ?_⟩
  · exact Performs.retires ⟨_, rfl, hjalr.trans (if_pos h)⟩ hRuns
  · exact Performs.traps_unchanged ⟨_, rfl, hjalr.trans (if_neg h)⟩ hRuns

theorem exec_system (s : State) (p i : Nat) (x : Insn) (r : RakerS) (e : Instr × Nat × RakerS)
    (hr : r = (s.dev.rk p i).next x)
    (he : e ∈ [(.nop p i, 1, r), (.fenceS p i, 3, r), (.fenceL p i, 4, { r with lines := [] }), (.fenceSl p i, 5, { r with lines := [] }),
      (.swr p i, 9, r.writeSpecial x.rd (r.gr x.ra)), (.pmovg p i, 10, r.setP x.rd (BitVec.ofNat 16 (r.gr x.ra).toNat)),
      (.gmovp p i, 11, r.setG x.rd (BitVec.ofNat 64 (r.pr x.ra).toNat))])
    (hRuns : s.dev.Runs p i e.2.1 x) :
    exec e.1 s = s.done (s.dev.setRk p i e.2.2) := by
  subst hr
  have hrow : Performs e.1 s p i e.2.1 x (none, s.dev, e.2.2) := by
    fin_cases he <;> exact ⟨_, rfl, rfl⟩
  exact hrow.retires hRuns

theorem exec_srd (s : State) (p i : Nat) (x : Insn) (r : RakerS) (v : Word) (d : Dev)
    (hr : r = (s.dev.rk p i).next x) (hRuns : s.dev.Runs p i 8 x) (hreadSpecial : s.dev.readSpecial r x.ra = (v, d)) :
    exec (.srd p i) s = s.done (d.setRk p i (r.setG x.rd v)) := by
  subst hr
  exact Performs.retires ⟨_, rfl, by simp only [hreadSpecial]⟩ hRuns

theorem exec_yield (s : State) (p i : Nat) (x : Insn) (r : RakerS) (d : Dev)
    (hr : r = (s.dev.rk p i).next x) (hRuns : s.dev.Runs p i 2 x) (hd : d = (s.dev.setRk p i { r with live := false }).checkRun p) :
    (s.dev.on (Fld.PAN_STATE_STOP_PEND p) = false → exec (.yield p i) s = s.done (s.dev.setRk p i r))
    ∧ (s.dev.on (Fld.PAN_STATE_STOP_PEND p) = true → exec (.yield p i) s = s.done (d.setRk p i (d.rk p i))) := by
  subst hr hd
  have hyield := yieldPoint_eq p i x ((s.dev.rk p i).next x) s.dev
  refine ⟨fun h => ?_, fun h => ?_⟩
  · exact Performs.retires ⟨_, rfl, hyield.trans (if_neg (by rw [h]; decide))⟩ hRuns
  · exact Performs.retires ⟨_, rfl, hyield.trans (if_pos h)⟩ hRuns

theorem exec_no_instruction (s : State) (p i : Nat) (x : Insn)
    (hlive : (s.dev.rk p i).live = true) (hstopped : s.dev.stopped = false) :
    (s.dev.fetchInsn p (s.dev.rk p i).pc = some x → x.legal = false →
      exec (.illegalInstruction p i) s = s.done (s.dev.takeExc p i { code := 2 }))
    ∧ (s.dev.fetchInsn p (s.dev.rk p i).pc = none → exec (.fetchFault p i) s = s.done (s.dev.takeExc p i { code := 1, access := 3 })) := by
  refine ⟨fun hfetch hlegal => ?_, fun hfetch => ?_⟩
  · show execIllegalInstruction p i s = _
    refine State.dv_done ?_
    simp only [hlive, hstopped, hfetch, hlegal, Bool.not_true, Bool.or_self, Bool.false_eq_true, ↓reduceIte]
  · show execFetchFault p i s = _
    refine State.dv_done ?_
    simp only [hlive, hstopped, hfetch, Bool.not_true, Bool.or_self, Bool.false_eq_true, ↓reduceIte]

theorem exec_guard_fails (s : State) (p i key : Nat) (out : List Nat) (x : Insn) (c : Instr)
    (hScalarRow : ScalarRow p i out key c) (hlive : (s.dev.rk p i).live = true) (hstopped : s.dev.stopped = false)
    (hfetchInsn : s.dev.fetchInsn p (s.dev.rk p i).pc = some x) (hlegal : x.legal = true) (hkey : x.key = key) (hmajor : x.major < 0x30)
    (hpasses : x.passes (s.dev.rk p i) = false) :
    exec c s = s.done (s.dev.setRk p i ((s.dev.rk p i).next x)) := by
  obtain ⟨f, hexec⟩ := hScalarRow.insn s
  subst hkey
  exact hexec.trans (State.dv_done (Dev.insn_skipped f hlive hstopped hfetchInsn hlegal hmajor hpasses))

theorem exec_ld (s : State) (p i w n a m : Nat) (out : List Nat) (x : Insn) (r : RakerS) (d : Dev)
    (hr : r = (s.dev.rk p i).next x) (hRuns : s.dev.Runs p i (16 * 128) x) (hw : w = bitsOf x.w 8 3) (hn : n = accessBytes w)
    (ha : a = x.ea r n) (ha2 : a % n = 0) (hinControl : inControl a = false) (hpanXlate : s.dev.panXlate p a n 0 2 p = (.mem m, d))
    (hbits : bitsOf x.w 7 1 = 1) (hpoisoned : d.poisoned m n = false) :
    exec (.ld p i out) s = s.done (d.setRk p i (r.setG x.rd
      (if 4 ≤ w then BitVec.ofInt 64 (signed (8 * n) (ofLe (d.bytes m n))) else BitVec.ofNat 64 (ofLe (d.bytes m n))))) := by
  subst hr
  exact Performs.retires ⟨_, rfl, load_memory hw hn ha ha2 hinControl hpanXlate hbits hpoisoned⟩ hRuns

theorem exec_st (s : State) (p i n a m : Nat) (out : List Nat) (x : Insn) (r : RakerS) (d : Dev)
    (hr : r = (s.dev.rk p i).next x) (hRuns : s.dev.Runs p i (17 * 128) x) (hn : n = accessBytes (bitsOf x.w 8 3)) (ha : a = x.ea r n)
    (ha2 : a % n = 0) (hinControl : inControl a = false) (hpanXlate : s.dev.panXlate p a n 1 2 p = (.mem m, d)) :
    exec (.st p i out) s
      = s.done ((d.writeMem m (leBytes n (r.gr x.rd).toNat)).setRk p i (r.writeThrough m (leBytes n (r.gr x.rd).toNat))) := by
  subst hr
  exact Performs.retires ⟨_, rfl, store_memory hn ha ha2 hinControl hpanXlate⟩ hRuns

theorem exec_atomic (s : State) (p i a m : Nat) (out : List Nat) (x : Insn) (r : RakerS) (d : Dev) (old : Word) (e : Instr × Nat × Word)
    (hr : r = (s.dev.rk p i).next x) (ha : a = getBits (r.gr x.ra) 0 48) (ha2 : a % 8 = 0)
    (hpanXlate : s.dev.panXlate p a 8 2 2 p = (.mem m, d)) (hpoisoned : d.poisoned m 8 = false)
    (hold : old = BitVec.ofNat 64 (ofLe (d.bytes m 8))) (he : e ∈ [(.aadd p i out, 0, old + r.gr x.rb), (.aswap p i out, 1, r.gr x.rb)])
    (hRuns : s.dev.Runs p i (18 * 128 + e.2.1) x) :
    exec e.1 s = s.done ((d.writeMem m (leBytes 8 e.2.2.toNat)).setRk p i ({ r with lines := tdel (m / 64) r.lines }.setG x.rd old)) := by
  subst hr
  have hrow : Performs e.1 s p i (18 * 128 + e.2.1) x
      (none, d.writeMem m (leBytes 8 e.2.2.toNat), { (s.dev.rk p i).next x with lines := tdel (m / 64) ((s.dev.rk p i).next x).lines }.setG x.rd old) := by
    fin_cases he <;> exact ⟨_, rfl, atomic_memory _ ha ha2 hpanXlate hpoisoned hold⟩
  exact hrow.retires hRuns

theorem exec_acas (s : State) (p i a m : Nat) (out : List Nat) (x : Insn) (r : RakerS) (d : Dev) (old : Word)
    (hr : r = (s.dev.rk p i).next x) (ha : a = getBits (r.gr x.ra) 0 48) (ha2 : a % 8 = 0)
    (hpanXlate : s.dev.panXlate p a 8 2 2 p = (.mem m, d)) (hpoisoned : d.poisoned m 8 = false)
    (hold : old = BitVec.ofNat 64 (ofLe (d.bytes m 8))) (hRuns : s.dev.Runs p i (18 * 128 + 2) x) :
    exec (.acas p i out) s = s.done ((if old = r.gr x.rd then d.writeMem m (leBytes 8 (r.gr x.rb).toNat) else d).setRk p i
      ({ r with lines := tdel (m / 64) r.lines }.setG x.rd old)) := by
  subst hr
  exact Performs.retires ⟨_, rfl, atomic_memory 2 ha ha2 hpanXlate hpoisoned hold⟩ hRuns

theorem exec_misaligned (s : State) (p i n a : Nat) (out : List Nat) (x : Insn) (r : RakerS)
    (hr : r = (s.dev.rk p i).next x) (hn : n = accessBytes (bitsOf x.w 8 3)) (ha : a = x.ea r n) (ha2 : a % n ≠ 0) :
    (s.dev.Runs p i (16 * 128) x → exec (.ld p i out) s = s.done ((s.dev.setRk p i (s.dev.rk p i)).takeExc p i { code := 4 }))
    ∧ (s.dev.Runs p i (17 * 128) x →
      exec (.st p i out) s = s.done ((s.dev.setRk p i (s.dev.rk p i)).takeExc p i { code := 4, access := 1 })) := by
  subst hr
  obtain ⟨hload, hstore⟩ := load_store_misaligned (p := p) (i := i) (out := out) hn ha ha2 s.dev
  refine ⟨fun hruns => ?_, fun hruns => ?_⟩
  · exact Performs.traps_unchanged ⟨_, rfl, hload⟩ hruns
  · exact Performs.traps_unchanged ⟨_, rfl, hstore⟩ hruns

/-- Settles O54: each instruction comes to what its function gives, and retires or traps. -/
theorem scalarControlAndMemory : Obligations.ScalarControlAndMemory := by
  unfold Obligations.ScalarControlAndMemory
  exact ⟨exec_branches, exec_jalr, exec_system, exec_srd, exec_yield, exec_no_instruction, exec_guard_fails, exec_ld, exec_st, exec_atomic,
    exec_acas, exec_misaligned⟩

end Sys2Proof.Machine
end

section
/-! PROOFS. Scalar floating point and decimal instructions (spec sections 16, 18) -/

namespace Sys2Proof.Machine

/-- A floating-point result goes to rd where its flags do not trap; where they do, the exception leaves rd. -/
theorem floatWrites_eq {g : Insn → RakerS → Nat × Nat} {x : Insn} {r : RakerS} {v : Nat × Nat} (h : g x r = v) (d : Dev) :
    (∀ r1, r.raise v.2 = .ok r1 → floatWrites g x r d = (none, d, r1.setG x.rd (BitVec.ofNat 64 v.1))) ∧
      (∀ k, r.raise v.2 = .error k → floatWrites g x r d = (some k, d, r)) := by
  subst h
  refine ⟨fun r1 hraise => ?_, fun k hraise => ?_⟩
  · simp only [floatWrites, hraise]
  · simp only [floatWrites, hraise]

/-- A value goes to rd; an exception leaves it. -/
theorem writesRd_eq {g : Insn → RakerS → Except Exc Word} {x : Insn} {r : RakerS} {v : Except Exc Word} (h : g x r = v) (d : Dev) :
    (∀ w, v = .ok w → writesRd g x r d = (none, d, r.setG x.rd w)) ∧ (∀ k, v = .error k → writesRd g x r d = (some k, d, r)) := by
  subst h
  refine ⟨fun w hw => ?_, fun k hk => ?_⟩
  · simp only [writesRd, hw]
  · simp only [writesRd, hk]

/-- The command c runs an instruction that only writes rd, with the value or the exception v. -/
def WritesValue (c : Instr) (s : State) (p i key : Nat) (x : Insn) (v : Except Exc Word) : Prop :=
  ∃ g : Insn → RakerS → Except Exc Word, (exec c s = s.dv fun d => d.insn p i key (writesRd g)) ∧ g x ((s.dev.rk p i).next x) = v

theorem WritesValue.exec {c : Instr} {s : State} {p i key : Nat} {x : Insn} {v : Except Exc Word} (h : WritesValue c s p i key x v)
    (hruns : s.dev.Runs p i key x) :
    (∀ w, v = .ok w → Machine.exec c s = s.done (s.dev.setRk p i (((s.dev.rk p i).next x).setG x.rd w))) ∧
      (∀ k, v = .error k → Machine.exec c s = s.done ((s.dev.setRk p i (s.dev.rk p i)).takeExc p i k)) := by
  obtain ⟨g, hexec, hg⟩ := h
  obtain ⟨hok, herror⟩ := writesRd_eq hg s.dev
  refine ⟨fun w hw => ?_, fun k hk => ?_⟩
  · exact Performs.retires ⟨_, hexec, hok w hw⟩ hruns
  · exact Performs.traps_unchanged ⟨_, hexec, herror k hk⟩ hruns

/-- DSHR and DRND of a value that fits. -/
theorem decimalShift_fits {mode : RakerS → Nat} {x : Insn} {r : RakerS} {a q : Int} {ix : Bool} {w : Word} (ha : decimalPair x r = .ok a)
    (hshift : decShift (mode r) a x.rb = (q, ix)) (hw : encP15 q = .ok w) (d : Dev) :
    decimalShift mode x r d = (none, d, { r.setG x.rd w with dflags := r.dflags ||| (if ix then 32 else 0) }) := by
  simp only [decimalShift, ha, hshift, hw]

/-- R612: an invalid digit of the first operand. -/
theorem p15_invalid {r : RakerS} {n k : Nat} (h : decVal 16 (r.gr n).toNat = .error k) :
    r.p15 n 0 = .error { code := 0x16, flane := some k } := by
  simp only [RakerS.p15, h, ddata, Nat.mul_zero, Nat.add_zero]

theorem exec_float (s : State) (p i : Nat) (x : Insn) (r r1 : RakerS) (a b c : Nat) (f : FFmt) (e : Instr × Nat × Nat × Nat)
    (hr : r = (s.dev.rk p i).next x) (ha : a = r.fp x x.ra) (hb : b = r.fp x x.rb) (hc : c = r.fp x x.rd) (hf : f = x.ffmt)
    (he : e ∈ [(.fadd p i, 0, floatOp f 0 r.mode a b), (.fsub p i, 1, floatOp f 1 r.mode a b), (.fmul p i, 2, floatOp f 2 r.mode a b),
      (.fdiv p i, 3, floatOp f 3 r.mode a b), (.fsqrt p i, 4, floatSqrt f r.mode a), (.fmin p i, 5, floatOp f 5 r.mode a b),
      (.fmax p i, 6, floatOp f 6 r.mode a b), (.fma p i, 7, floatFma f r.mode a b c),
      (.fceq p i, 8, if (numTest 0 (decodeF f a) (decodeF f b)).1 then 1 else 0, (numTest 0 (decodeF f a) (decodeF f b)).2),
      (.fclt p i, 9, if (numTest 2 (decodeF f a) (decodeF f b)).1 then 1 else 0, (numTest 2 (decodeF f a) (decodeF f b)).2),
      (.fcle p i, 10, if (numTest 3 (decodeF f a) (decodeF f b)).1 then 1 else 0, (numTest 3 (decodeF f a) (decodeF f b)).2),
      (.fcvt p i, 11, encodeF f r.mode 0 (decodeF (ffmt (x.rb % 8)) (bitsOf (r.gr x.ra).toNat 0 (fmtBits (x.rb % 8))))),
      (.ftoi p i, 12, encodeI 64 true false r.mode 0 (decodeF f a)),
      (.itof p i, 13, encodeF f r.mode 0 (.fin (decide ((r.gr x.ra).toInt < 0)) (r.gr x.ra).toInt.natAbs 1 0)),
      (.fclass p i, 14, floatClass f a, 0)])
    (hRuns : s.dev.Runs p i (24 * 128 + e.2.1) x) :
    (r.raise e.2.2.2 = .ok r1 → exec e.1 s = s.done (s.dev.setRk p i (r1.setG x.rd (BitVec.ofNat 64 e.2.2.1))))
    ∧ (∀ k, r.raise e.2.2.2 = .error k → exec e.1 s = s.done ((s.dev.setRk p i (s.dev.rk p i)).takeExc p i k)) := by
  subst hr ha hb hc hf
  have hrow : ∃ g, (exec e.1 s = s.dv fun d => d.insn p i (24 * 128 + e.2.1) (floatWrites g)) ∧ g x ((s.dev.rk p i).next x) = e.2.2 := by
    fin_cases he <;> exact ⟨_, rfl, rfl⟩
  obtain ⟨g, hexec, hg⟩ := hrow
  obtain ⟨hok, herror⟩ := floatWrites_eq hg s.dev
  refine ⟨fun h => ?_, fun k h => ?_⟩
  · exact Performs.retires ⟨_, hexec, hok r1 h⟩ hRuns
  · exact Performs.traps_unchanged ⟨_, hexec, herror k h⟩ hRuns

theorem exec_decimal_pair (s : State) (p i : Nat) (x : Insn) (r : RakerS) (a b : Int) (e : Instr × Nat × Except Exc Word)
    (hr : r = (s.dev.rk p i).next x) (ha : r.p15 x.ra 0 = .ok a) (hb : r.p15 x.rb 1 = .ok b)
    (he : e ∈ [(.dadd p i, 0, encP15 (a + b)), (.dsub p i, 1, encP15 (a - b)),
      (.dcmp p i, 3, .ok (BitVec.ofInt 64 (if a < b then -1 else if a = b then 0 else 1)))])
    (hRuns : s.dev.Runs p i (40 * 128 + e.2.1) x) :
    (∀ v, e.2.2 = .ok v → exec e.1 s = s.done (s.dev.setRk p i (r.setG x.rd v)))
    ∧ (∀ k, e.2.2 = .error k → exec e.1 s = s.done ((s.dev.setRk p i (s.dev.rk p i)).takeExc p i k)) := by
  subst hr
  have hrow : WritesValue e.1 s p i (40 * 128 + e.2.1) x e.2.2 := by
    fin_cases he <;> refine ⟨_, rfl, ?_⟩ <;> simp only [ha, hb, Bool.false_eq_true, ↓reduceIte]
  exact hrow.exec hRuns

theorem exec_dmuld (s : State) (p i : Nat) (x : Insn) (r : RakerS) (a b : Int) (sg : Nat)
    (hr : r = (s.dev.rk p i).next x) (ha : r.p15 x.ra 0 = .ok a) (hb : r.p15 x.rb 1 = .ok b) (hRuns : s.dev.Runs p i (40 * 128 + 2) x)
    (hsg : sg = (if a * b < 0 then 0xD else 0xC)) :
    exec (.dmuld p i) s = s.done (s.dev.setRk p i
      ((r.setG x.rd (BitVec.ofNat 64 (decDigits 16 ((a * b).natAbs % 10 ^ 15) + sg))).setG (x.rd + 1)
        (BitVec.ofNat 64 (decDigits 16 ((a * b).natAbs / 10 ^ 15) + sg)))) := by
  subst hr hsg
  refine Performs.retires ⟨_, rfl, ?_⟩ hRuns
  simp only [decimalMul, ha, hb]

theorem exec_decimal_one (s : State) (p i : Nat) (x : Insn) (r : RakerS) (a : Int) (e : Instr × Nat × Except Exc Word)
    (hr : r = (s.dev.rk p i).next x) (ha : r.p15 x.ra 0 = .ok a)
    (he : e ∈ [(.dshl p i, 4, encP15 (a * 10 ^ x.rb)), (.dtob p i, 9, .ok (BitVec.ofInt 64 a))])
    (hRuns : s.dev.Runs p i (40 * 128 + e.2.1) x) :
    (∀ v, e.2.2 = .ok v → exec e.1 s = s.done (s.dev.setRk p i (r.setG x.rd v)))
    ∧ (∀ k, e.2.2 = .error k → exec e.1 s = s.done ((s.dev.setRk p i (s.dev.rk p i)).takeExc p i k)) := by
  subst hr
  have hrow : WritesValue e.1 s p i (40 * 128 + e.2.1) x e.2.2 := by
    fin_cases he <;> refine ⟨_, rfl, ?_⟩ <;> simp only [ha]
  exact hrow.exec hRuns

theorem exec_decimal_shift (s : State) (p i : Nat) (x : Insn) (r : RakerS) (a q : Int) (ix : Bool) (w : Word) (e : Instr × Nat × Nat)
    (hr : r = (s.dev.rk p i).next x) (hdecimalPair : decimalPair x r = .ok a) (he : e ∈ [(.dshr p i, 5, 1), (.drnd p i, 6, r.mode)])
    (hdecShift : decShift e.2.2 a x.rb = (q, ix)) (hencP15 : encP15 q = .ok w) (hRuns : s.dev.Runs p i (40 * 128 + e.2.1) x) :
    exec e.1 s = s.done (s.dev.setRk p i { r.setG x.rd w with dflags := r.dflags ||| (if ix then 32 else 0) }) := by
  subst hr
  have hrow : ∃ mode, (exec e.1 s = s.dv fun d => d.insn p i (40 * 128 + e.2.1) (decimalShift mode)) ∧ mode ((s.dev.rk p i).next x) = e.2.2 := by
    fin_cases he <;> exact ⟨_, rfl, rfl⟩
  obtain ⟨mode, hexec, hmode⟩ := hrow
  rw [← hmode] at hdecShift
  exact Performs.retires ⟨_, hexec, decimalShift_fits hdecimalPair hdecShift hencP15 s.dev⟩ hRuns

theorem exec_dadj (s : State) (p i : Nat) (x : Insn) (r : RakerS) (a : Int) (w : Word)
    (hr : r = (s.dev.rk p i).next x) (ha : r.p15 x.ra 0 = .ok a) (hRuns : s.dev.Runs p i (40 * 128 + 7) x) :
    (x.rb = 0 → encP15 a = .ok w → exec (.dadj p i) s = s.done (s.dev.setRk p i (r.setG x.rd w)))
    ∧ (x.rb = 1 → encP15 a.natAbs = .ok w → exec (.dadj p i) s = s.done (s.dev.setRk p i (r.setG x.rd w)))
    ∧ (x.rb = 2 → encP15 (-a) = .ok w → exec (.dadj p i) s = s.done (s.dev.setRk p i (r.setG x.rd w)))
    ∧ (3 ≤ x.rb → encP15 a.natAbs = .ok w → exec (.dadj p i) s = s.done (s.dev.setRk p i (r.setG x.rd (setBits w 0 4 0xF)))) := by
  subst hr
  refine ⟨fun h hw => ?_, fun h hw => ?_, fun h hw => ?_, fun h hw => ?_⟩
  · exact Performs.retires ⟨_, rfl, by simp only [decimalAdj, writesRd, ha, h, hw]⟩ hRuns
  · exact Performs.retires ⟨_, rfl, by simp only [decimalAdj, writesRd, ha, h, hw]⟩ hRuns
  · exact Performs.retires ⟨_, rfl, by simp only [decimalAdj, writesRd, ha, h, hw]⟩ hRuns
  · obtain ⟨n, hn⟩ : ∃ n, x.rb = n + 3 := ⟨x.rb - 3, by omega⟩
    exact Performs.retires ⟨_, rfl, by simp only [decimalAdj, writesRd, ha, hn, hw]⟩ hRuns

theorem exec_dval_btod (s : State) (p i : Nat) (x : Insn) (r : RakerS)
    (hr : r = (s.dev.rk p i).next x) :
    (s.dev.Runs p i (40 * 128 + 8) x → exec (.dval p i) s
      = s.done (s.dev.setRk p i (r.setG x.rd (if (decBad 16 (r.gr x.ra).toNat).isNone then 1 else 0))))
    ∧ (∀ w, s.dev.Runs p i (40 * 128 + 10) x → encP15 (r.gr x.ra).toInt = .ok w →
      exec (.btod p i) s = s.done (s.dev.setRk p i (r.setG x.rd w))) := by
  subst hr
  refine ⟨fun hruns => ?_, fun w hruns hw => ?_⟩
  · exact Performs.retires ⟨_, rfl, congrArg (fun v => (none, s.dev, RakerS.setG _ x.rd v)) (by simp [oneIf])⟩ hruns
  · exact Performs.retires ⟨_, rfl, by simp only [writesRd, hw]⟩ hruns

theorem exec_decimal_invalid (s : State) (p i k : Nat) (x : Insn) (r : RakerS) (e : Instr × Nat)
    (hr : r = (s.dev.rk p i).next x) (hdecVal : decVal 16 (r.gr x.ra).toNat = .error k)
    (he : e ∈ [(.dadd p i, 0), (.dsub p i, 1), (.dmuld p i, 2), (.dcmp p i, 3), (.dshl p i, 4), (.dadj p i, 7), (.dtob p i, 9)])
    (hRuns : s.dev.Runs p i (40 * 128 + e.2) x) :
    exec e.1 s = s.done ((s.dev.setRk p i (s.dev.rk p i)).takeExc p i { code := 0x16, flane := some k }) := by
  subst hr
  have hbad := p15_invalid hdecVal
  have hrow : Performs e.1 s p i (40 * 128 + e.2) x (some { code := 0x16, flane := some k }, s.dev, (s.dev.rk p i).next x) := by
    fin_cases he <;> refine ⟨_, rfl, ?_⟩ <;>
      simp only [decimalSum, decimalMul, decimalCmp, decimalAdj, writesRd, hbad]
  exact hrow.traps_unchanged hRuns

/-- Settles O55: each row is its function of the operands, and its exceptions leave the registers alone. -/
theorem scalarFloatsAndDecimals : Obligations.ScalarFloatsAndDecimals := by
  unfold Obligations.ScalarFloatsAndDecimals
  exact ⟨exec_float, exec_decimal_pair, exec_dmuld, exec_decimal_one, exec_decimal_shift, exec_dadj, exec_dval_btod, exec_decimal_invalid⟩

end Sys2Proof.Machine
end

section
/-! PROOFS. Vector integers, predicates, moves and memory (spec section 17) -/

namespace Sys2Proof.Machine

/-- VEXT and VINS of an active element (R625). -/
theorem vindexed_active {x : Insn} {r : RakerS} (f : Nat → RakerS) (hmask : x.mask r ≠ 0) (hlt : (r.gr x.rb).toNat < 512 / x.elemBits)
    (hactive : isActive (x.mask r) (512 / x.elemBits) (r.gr x.rb).toNat = true) (d : Dev) :
    vindexed x r d f = (none, d, f (r.gr x.rb).toNat) := by
  simp only [vindexed, hmask, not_le.mpr hlt, hactive, ↓reduceIte]

/-- An index past the last element traps VINDEX (R625). -/
theorem vindexed_past {x : Insn} {r : RakerS} (f : Nat → RakerS) (hmask : x.mask r ≠ 0) (hpast : 512 / x.elemBits ≤ (r.gr x.rb).toNat) (d : Dev) :
    vindexed x r d f = (some { code := 0x20, flane := some 0 }, d, r) := by
  simp only [vindexed, hmask, hpast, ↓reduceIte]

/-- The elements a reduction folds. -/
def reduced (signedEl : Bool) (x : Insn) (r : RakerS) (j : Nat) : Int :=
  if signedEl then signed x.elemBits (velem (r.vr x.ra) x.elemBits j) else (velem (r.vr x.ra) x.elemBits j : Int)

/-- A reduction folds the active elements from the first on; with none it has no effect (R626). -/
theorem vreduce_eq (signedEl : Bool) (f : Int → Int → Int) (x : Insn) (r : RakerS) (d : Dev) :
    ((actives (x.mask r) (512 / x.elemBits)).map (reduced signedEl x r) = [] → vreduce signedEl f x r d = (none, d, r)) ∧
      (∀ a l, (actives (x.mask r) (512 / x.elemBits)).map (reduced signedEl x r) = a :: l →
        vreduce signedEl f x r d = (none, d, r.setG x.rd (BitVec.ofInt 64 (l.foldl f a)))) := by
  have heq : vreduce signedEl f x r d = match (actives (x.mask r) (512 / x.elemBits)).map (reduced signedEl x r) with
    | [] => (none, d, r)
    | a :: l => (none, d, r.setG x.rd (BitVec.ofInt 64 (l.foldl f a))) := rfl
  refine ⟨fun h => ?_, fun a l h => ?_⟩
  · rw [heq, h]
  · rw [heq, h]

/-- VLD whose parts all pass their checks and are read (R633). -/
theorem vload_passes {p i : Nat} {out : List Nat} {x : Insn} {r r1 : RakerS} {l : List (Nat × Byte)} {d0 d d1 : Dev}
    (hcheck : d0.checkParts p 0 (slotParts (x.ea r 64) (x.mask r)) out = (none, d))
    (hload : d.loadParts p i (decide (bitsOf x.w 7 1 = 1)) r (slotParts (x.ea r 64) (x.mask r)) out = (.ok l, d1, r1)) :
    vload p i out x r d0 = (none, d1, r1.setV x.rd (putReg (r.vr x.rd) l)) := by
  simp only [vload, hcheck, hload]

/-- VST whose parts all pass their checks (R633). -/
theorem vstore_passes {p i : Nat} {out : List Nat} {x : Insn} {r r1 : RakerS} {d0 d d1 : Dev}
    (hcheck : d0.checkParts p 1 (slotParts (x.ea r 64) (x.mask r)) out = (none, d))
    (hstore : d.storeParts p i (r.vr x.rd) r (slotParts (x.ea r 64) (x.mask r)) out = (d1, r1)) : vstore p i out x r d0 = (none, d1, r1) := by
  simp only [vstore, hcheck, hstore]

/-- What VLDG and VLDG.FF come to where every active element loads (R635, R636). -/
theorem vgather_all {p i : Nat} {out : List Nat} {x : Insn} {r r1 : RakerS} {l : List (Nat × Nat)} {d0 d : Dev}
    (hgather : d0.gather p i x (x.gatherAddr r) r (actives (x.mask r) 16) out [] = (l, none, d, r1)) :
    vgather p i out x r d0 = (none, d, r1.setV x.rd (putSlots (r.vr x.rd) l)) ∧
      (x.mask r ≠ 0 → vgatherFF p i out x r d0 =
        (none, d, (r1.setV x.rd (putSlots (r.vr x.rd) l)).setP (bitsOf x.w 0 3) (BitVec.ofNat 16 (bitsAt (l.map (·.1)))))) := by
  refine ⟨?_, fun hmask => ?_⟩
  · simp only [vgather, hgather, Option.map_none]
  · simp only [vgatherFF, hgather, hmask, ↓reduceIte]

theorem exec_vector_integer (s : State) (p i : Nat) (x : Insn) (r : RakerS) (op : Nat) (c : Instr)
    (hr : r = (s.dev.rk p i).next x)
    (hyp : (op, c) ∈ [(0, .vadd p i), (1, .vsub p i), (2, .vmul p i), (3, .vmulh p i), (4, .vmulhu p i), (5, .vadds p i), (6, .vaddsu p i),
      (7, .vsubs p i), (8, .vsubsu p i), (9, .vmin p i), (10, .vmax p i), (11, .vminu p i), (12, .vmaxu p i), (13, .vand p i), (14, .vor p i),
      (15, .vxor p i), (16, .vandn p i), (17, .vshl p i), (18, .vshr p i), (19, .vsar p i), (20, .vpopc p i), (21, .vabs p i), (22, .vbswap p i)])
    (hRuns : s.dev.Runs p i (0x30 * 128 + op) x) :
    exec c s = s.done (s.dev.setRk p i (r.setV x.rd (vmerge (x.mask r) x.elemBits (r.vr x.rd)
      (fun j => valu op x.elemBits (velem (r.vr x.ra) x.elemBits j) (velem (r.vr x.rb) x.elemBits j))))) := by
  subst hr
  have hexec : exec c s = s.dv fun d => d.insn p i (0x30 * 128 + op) (vint op) := by
    suffices hrow : ∀ e : Nat × Instr, e ∈ _ → exec e.2 s = s.dv fun d => d.insn p i (0x30 * 128 + e.1) (vint e.1) from hrow (op, c) hyp
    intro e he
    fin_cases he <;> rfl
  exact Performs.retires ⟨_, hexec, rfl⟩ hRuns

theorem exec_predicate (s : State) (p i : Nat) (x : Insn) (r : RakerS) (a b : BitVec 16) (e : Instr × Nat × BitVec 16)
    (hr : r = (s.dev.rk p i).next x) (ha : a = r.pr x.ra) (hb : b = r.pr x.rb)
    (he : e ∈ [(.pand p i, 0, a &&& b), (.por p i, 1, a ||| b), (.pxor p i, 2, a ^^^ b), (.pandn p i, 3, a &&& ~~~b), (.pnot p i, 4, ~~~a),
      (.pbelow p i, 5, if a = 0 then 0xFFFF else (a - 1) &&& ~~~a), (.pthru p i, 6, if a = 0 then 0xFFFF else a ^^^ (a - 1)),
      (.pspan p i, 7, if 16 ≤ (r.gr x.rb).toNat - (r.gr x.ra).toNat then 0xFFFF
        else BitVec.ofNat 16 (2 ^ ((r.gr x.rb).toNat - (r.gr x.ra).toNat) - 1))])
    (hRuns : s.dev.Runs p i (0x38 * 128 + e.2.1) x) :
    exec e.1 s = s.done (s.dev.setRk p i (r.setP x.rd (e.2.2 &&& x.mask r))) := by
  subst hr ha hb
  have hrow : Performs e.1 s p i (0x38 * 128 + e.2.1) x
      (none, s.dev, ((s.dev.rk p i).next x).setP x.rd (e.2.2 &&& x.mask ((s.dev.rk p i).next x))) := by
    fin_cases he <;> exact ⟨_, rfl, rfl⟩
  exact hrow.retires hRuns

/-- Settles O56: each row is its function of the active elements or of the two predicates. -/
theorem vectorIntegers : Obligations.VectorIntegers := by
  unfold Obligations.VectorIntegers
  exact ⟨exec_vector_integer, exec_predicate⟩

theorem exec_vector_moves (s : State) (p i E : Nat) (x : Insn) (r : RakerS) (a b : Nat → Nat)
    (hr : r = (s.dev.rk p i).next x) (hE : E = x.elemBits) (ha : a = velem (r.vr x.ra) E) (hb : b = velem (r.vr x.rb) E) :
    (s.dev.Runs p i (0x36 * 128) x → exec (.vmov p i) s
      = s.done (s.dev.setRk p i (r.setV x.rd (vmerge (x.mask r) 32 (r.vr x.rd) (fun j => velem (r.vr x.ra) 32 j)))))
    ∧ (s.dev.Runs p i (0x36 * 128 + 1) x → exec (.vsplat p i) s
      = s.done (s.dev.setRk p i (r.setV x.rd (vmerge (x.mask r) E (r.vr x.rd) (fun _ => (r.gr x.ra).toNat)))))
    ∧ (s.dev.Runs p i (0x36 * 128 + 4) x → exec (.vperm p i) s
      = s.done (s.dev.setRk p i (r.setV x.rd (vmerge (x.mask r) E (r.vr x.rd) (fun j => a (b j % (512 / E))))))) := by
  subst hr hE ha hb
  refine ⟨fun hruns => ?_, fun hruns => ?_, fun hruns => ?_⟩
  · exact Performs.retires ⟨_, rfl, rfl⟩ hruns
  · exact Performs.retires ⟨_, rfl, rfl⟩ hruns
  · exact Performs.retires ⟨_, rfl, rfl⟩ hruns

theorem exec_vector_index (s : State) (p i E k : Nat) (x : Insn) (r : RakerS)
    (hr : r = (s.dev.rk p i).next x) (hE : E = x.elemBits) (hk : k = (r.gr x.rb).toNat) (hmask : x.mask r ≠ 0) :
    (s.dev.Runs p i (0x36 * 128 + 2) x → k < 512 / E → isActive (x.mask r) (512 / E) k = true →
      exec (.vext p i) s = s.done (s.dev.setRk p i (r.setG x.rd (BitVec.ofNat 64 (velem (r.vr x.ra) E k)))))
    ∧ (s.dev.Runs p i (0x36 * 128 + 3) x → k < 512 / E → isActive (x.mask r) (512 / E) k = true →
      exec (.vins p i) s = s.done (s.dev.setRk p i (r.setV x.rd (vmerge (x.mask r) E (r.vr x.rd)
        (fun j => if j = k then (r.gr x.ra).toNat else velem (r.vr x.rd) E j)))))
    ∧ (s.dev.Runs p i (0x36 * 128 + 2) x → 512 / E ≤ k →
      exec (.vext p i) s = s.done ((s.dev.setRk p i (s.dev.rk p i)).takeExc p i { code := 0x20, flane := some 0 })) := by
  subst hr hE hk
  refine ⟨fun hruns hlt hactive => ?_, fun hruns hlt hactive => ?_, fun hruns hpast => ?_⟩
  · exact Performs.retires ⟨_, rfl, vindexed_active _ hmask hlt hactive _⟩ hruns
  · exact Performs.retires ⟨_, rfl, vindexed_active _ hmask hlt hactive _⟩ hruns
  · exact Performs.traps_unchanged ⟨_, rfl, vindexed_past _ hmask hpast _⟩ hruns

theorem exec_reduction (s : State) (p i E : Nat) (x : Insn) (r : RakerS) (a : Int) (l : List Int) (g : Nat → Int) (e : Instr × Nat × Bool × (Int → Int → Int))
    (hr : r = (s.dev.rk p i).next x) (hE : E = x.elemBits)
    (he : e ∈ [(Instr.vradd p i, 5, true, fun (a b : Int) => a + b), (.vrmin p i, 6, true, min), (.vrmax p i, 7, true, max), (.vrminu p i, 8, false, min),
      (.vrmaxu p i, 9, false, max), (.vrand p i, 10, false, fun (a b : Int) => ((a.toNat &&& b.toNat : Nat) : Int)),
      (.vror p i, 11, false, fun (a b : Int) => ((a.toNat ||| b.toNat : Nat) : Int)), (.vrxor p i, 12, false, fun (a b : Int) => ((a.toNat ^^^ b.toNat : Nat) : Int))])
    (hg : g = (fun j => if e.2.2.1 then signed E (velem (r.vr x.ra) E j) else (velem (r.vr x.ra) E j : Int)))
    (hRuns : s.dev.Runs p i (0x36 * 128 + e.2.1) x) :
    ((actives (x.mask r) (512 / E)).map g = [] → exec e.1 s = s.done (s.dev.setRk p i r))
    ∧ ((actives (x.mask r) (512 / E)).map g = a :: l →
      exec e.1 s = s.done (s.dev.setRk p i (r.setG x.rd (BitVec.ofInt 64 (l.foldl e.2.2.2 a))))) := by
  subst hr hE hg
  have hexec : exec e.1 s = s.dv fun d => d.insn p i (0x36 * 128 + e.2.1) (vreduce e.2.2.1 e.2.2.2) := by
    fin_cases he <;> rfl
  obtain ⟨hnone, hsome⟩ := vreduce_eq e.2.2.1 e.2.2.2 x ((s.dev.rk p i).next x) s.dev
  refine ⟨fun h => ?_, fun h => ?_⟩
  · exact Performs.retires ⟨_, hexec, hnone h⟩ hRuns
  · exact Performs.retires ⟨_, hexec, hsome a l h⟩ hRuns

theorem exec_vld (s : State) (p i : Nat) (out : List Nat) (x : Insn) (r r1 : RakerS) (l : List (Nat × Byte)) (d d1 : Dev)
    (hr : r = (s.dev.rk p i).next x) (hRuns : s.dev.Runs p i (0x39 * 128) x)
    (hcheckParts : s.dev.checkParts p 0 (slotParts (x.ea r 64) (x.mask r)) out = (none, d))
    (hloadParts : d.loadParts p i (decide (bitsOf x.w 7 1 = 1)) r (slotParts (x.ea r 64) (x.mask r)) out = (.ok l, d1, r1)) :
    exec (.vld p i out) s = s.done (d1.setRk p i (r1.setV x.rd (putReg (r.vr x.rd) l))) := by
  subst hr
  exact Performs.retires ⟨_, rfl, vload_passes hcheckParts hloadParts⟩ hRuns

theorem exec_vst (s : State) (p i : Nat) (out : List Nat) (x : Insn) (r r1 : RakerS) (d d1 : Dev)
    (hr : r = (s.dev.rk p i).next x) (hRuns : s.dev.Runs p i (0x3A * 128) x)
    (hcheckParts : s.dev.checkParts p 1 (slotParts (x.ea r 64) (x.mask r)) out = (none, d))
    (hstoreParts : d.storeParts p i (r.vr x.rd) r (slotParts (x.ea r 64) (x.mask r)) out = (d1, r1)) :
    exec (.vst p i out) s = s.done (d1.setRk p i r1) := by
  subst hr
  exact Performs.retires ⟨_, rfl, vstore_passes hcheckParts hstoreParts⟩ hRuns

theorem exec_gather (s : State) (p i : Nat) (out : List Nat) (x : Insn) (r r1 : RakerS) (l : List (Nat × Nat)) (d : Dev)
    (hr : r = (s.dev.rk p i).next x) (hgather : s.dev.gather p i x (x.gatherAddr r) r (actives (x.mask r) 16) out [] = (l, none, d, r1)) :
    (s.dev.Runs p i (0x3B * 128) x → exec (.vldg p i out) s = s.done (d.setRk p i (r1.setV x.rd (putSlots (r.vr x.rd) l))))
    ∧ (s.dev.Runs p i (0x3D * 128) x → x.mask r ≠ 0 → exec (.vldgFf p i out) s = s.done (d.setRk p i
      ((r1.setV x.rd (putSlots (r.vr x.rd) l)).setP (bitsOf x.w 0 3) (BitVec.ofNat 16 (bitsAt (l.map (·.1))))))) := by
  subst hr
  obtain ⟨hall, hfirstFault⟩ := vgather_all hgather
  refine ⟨fun hruns => ?_, fun hruns hmask => ?_⟩
  · exact Performs.retires ⟨_, rfl, hall⟩ hruns
  · exact Performs.retires ⟨_, rfl, hfirstFault hmask⟩ hruns

theorem exec_scatter (s : State) (p i : Nat) (out : List Nat) (x : Insn) (r r1 : RakerS) (d : Dev)
    (hr : r = (s.dev.rk p i).next x) (hRuns : s.dev.Runs p i (0x3C * 128) x)
    (hscatter : s.dev.scatter p i x (x.gatherAddr r) (r.vr x.rd) r (actives (x.mask r) 16) out = (none, d, r1)) :
    exec (.vsts p i out) s = s.done (d.setRk p i r1) := by
  subst hr
  exact Performs.retires ⟨_, rfl, hscatter⟩ hRuns

/-- Settles O58: each row is its function of the active elements, and memory moves as the checked parts say. -/
theorem vectorMovesAndMemory : Obligations.VectorMovesAndMemory := by
  unfold Obligations.VectorMovesAndMemory
  exact ⟨exec_vector_moves, exec_vector_index, exec_reduction, exec_vld, exec_vst, exec_gather, exec_scatter⟩

end Sys2Proof.Machine
end
